-- ==== Sys2Proof/Word.lean ====
section
/-! DEFINITION. The word of the register space (R7) and the plain arithmetic of bit fields (R4). -/

namespace Sys2Proof

/-- A register, or a Hatch byte address: 32 bits (R7, R391). -/
abbrev Word := BitVec 32

/-- A byte of the Cellar. -/
abbrev Byte := BitVec 8

end Sys2Proof
end

