-- ==== Sys2Proof/Syntax.lean ====
section
/-! DEFINITION. The commands of the T1310 block: one constructor per row of spec/opcode_table.json.
The table gives a row no fields, so the operands are the ones the row's rule names: which instance
(room, queue, string, PLL) the event concerns, the value written or sent, and, for an event that the
world outside the device decides (a sensor reading, a return frame, a cell flip found by a read), what
the world did. `dt` is the count of device-time ticks that pass before the event (log entry 4).
Every number is typed by its own range, so `WellFormed` only has list lengths left to judge. -/

namespace Sys2Proof

/-- Severity of an error record (R396, Tables 5.8 to 18.8); the codes are those of ERR_FIRST.SEV. -/
inductive Severity where
  | notice | fault | alarm
  deriving DecidableEq, Repr

/-- What a temperature sensor gives in a governor cycle (R298, R299), in 1/16 °C. -/
inductive SensorReading where
  | none
  | value (t : Int)
  deriving DecidableEq, Repr

/-- An AVSBus response (R308): the answer to a voltage write, or to one of the three reads. -/
inductive AvsFrame where
  | writeAck
  | voltage (mV : BitVec 16)
  | currentVcc (tenMilliAmp : BitVec 16)
  | currentSram (tenMilliAmp : BitVec 16)
  | status (vDone : Bool)
  deriving DecidableEq, Repr

/-- Configuration of one block RAM (R87, R89, R91). The frames that hold it give no bit positions
(R51), so it comes with the command (log entry 15). -/
structure BramCfg where
  widthA : BitVec 3 := 0
  widthB : BitVec 3 := 0
  modeA : BitVec 2 := 0
  modeB : BitVec 2 := 0
  oregA : Bool := false
  oregB : Bool := false
  ecc : BitVec 2 := 0
  deriving DecidableEq, Repr

/-- The inputs of one block RAM port on one room clock edge (R87 to R89). -/
structure BramIn where
  en : Bool := false
  we : BitVec 8 := 0
  addr : BitVec 15 := 0
  din : BitVec 72 := 0
  regce : Bool := false
  rstout : Bool := false
  deriving DecidableEq, Repr

/-- The cells that an access finds flipped in the word it reads, and whether it takes effect on the edge, or in the cycle,
of the access before it. -/
structure Upset where
  flips : BitVec 72 := 0
  same : Bool := false
  deriving DecidableEq, Repr

/-- The same of an access to several words, one after another. -/
structure Upsets where
  flips : List (BitVec 72) := []
  same : Bool := false
  deriving DecidableEq, Repr

/-- A quadrant that starts, and whether its repair map passes its check (R162, R322). -/
structure QuadBegin where
  q : Fin 4
  mapOk : Bool := true
  deriving DecidableEq, Repr

/-- The word of an SPI write command, and whether it is performed before the command ends or waits in the buffer (R387). -/
structure SpiWord where
  val : Word
  done : Bool := true
  deriving DecidableEq, Repr

/-- What happens at one arbiter in one arbiter cycle (R172, R173, R181): whether the owner moves a
beat, marks it as its last, lowers its request, or is held up by the resource, and which waiting
requesters lower theirs. -/
structure ArbCycle where
  beat : Bool := false
  last : Bool := false
  drop : Bool := false
  neutral : Bool := false
  lowered : List (Fin 83) := []
  deriving DecidableEq, Repr

/-- Where a posted record comes from (R253, R254): the record buffer of the event core's attachment
at router 31 (`att 0`) or 39 (`att 1`), or the host post buffer. -/
inductive PostSrc where
  | att (i : Fin 2)
  | host
  deriving DecidableEq, Repr

/-- A channel (R240): a string channel 256 s + c, or a direct event pin. -/
inductive ChanId where
  | str (c : BitVec 14)
  | pin (n : BitVec 8)
  deriving DecidableEq, Repr

/-- What the string engine has seen at the end of a training step (Table 12.6). -/
inductive TrainObs where
  | lock
  | phase (errFree : BitVec 16)
  | align (found : Option (Fin 9 × Fin 560))
  | verify (bitErr : Bool)
  | ident
  deriving DecidableEq, Repr

/-- Result of a tamper mesh check (V3, Table 16.10). -/
inductive Mesh where
  | good | open | short
  deriving DecidableEq, Repr

/-- The commands, one per row of the table, in the table's order. -/
inductive Instr where
  /-- VCC_AO_GOOD (R30): VCC_AO becomes good and the device moves from Off into Supply ramp with CAUSE 0x01. -/
  | vccAoGood
  /-- VCC_AO_LOSS (R372): VCC_AO falls below 0.60 V and the device goes to Off. -/
  | vccAoLoss
  /-- RAIL_GOOD (R370): A monitored rail has stayed within its window for 10 µs and becomes good. -/
  | railGood (r : Fin 28)
  /-- RAIL_LEAVES_WINDOW (R373): A monitored rail leaves its window, stops being good and may raise V0 or clear VPP_GOOD. -/
  | railLeavesWindow (r : Fin 28)
  /-- INTERNAL_RESET (R372): A core rail stays below its internal reset threshold for 1 µs and the device acts as if RESET_N were low. -/
  | internalReset (r : Fin 28)
  /-- RESET_N_LOW (R376): RESET_N is held low for 1 µs or more and is taken as a reset into Supply ramp. -/
  | resetNLow
  /-- RESET_N_RISE (R371): RESET_N returns high, allowing the device to leave Supply ramp. -/
  | resetNRise
  /-- HOLD_N_CHANGE (R376): HOLD_N has been stable at a new level for 200 ns and the level is taken for the next governor cycle. -/
  | holdNChange (level : Bool)
  /-- HOLD_N_WAKE_EDGE (R321): A filtered rising edge of HOLD_N in Deep hold wakes the device. -/
  | holdNWakeEdge
  /-- REQ_RUN (R29): GBL_MODE.REQ written with 0x5 requests Run, or a wake from Deep hold. -/
  | reqRun
  /-- REQ_QUIET (R29): GBL_MODE.REQ written with 0x6 requests Quiet. -/
  | reqQuiet
  /-- REQ_HOLD (R29): GBL_MODE.REQ written with 0x7 requests Hold. -/
  | reqHold
  /-- REQ_DEEP_HOLD (R29): GBL_MODE.REQ written with 0x8 requests Deep hold through the sleep handshake. -/
  | reqDeepHold
  /-- REQ_TEST (R29): GBL_MODE.REQ written with 0xA requests Test mode, needing life-cycle Test and debug level 3. -/
  | reqTest
  /-- GOVERNOR_CYCLE (R298): Every 10 µs the governor samples sensors and currents, computes power, sets its level, admits work and evaluates mode transitions. -/
  | governorCycle (dt : Nat) (temps : List (Fin 72 × SensorReading)) (acts : List (Fin 64 × BitVec 16))
  /-- AVS_RESPONSE (R308): An AVSBus response frame arrives and is checked; a status or voltage read may complete the exchange. -/
  | avsResponse (f : AvsFrame) (crcOk : Bool)
  /-- AVS_EXCHANGE_TIMEOUT (R310): A voltage exchange is not complete after TO × 10 µs and fails, setting AVS_FAIL. -/
  | avsExchangeTimeout
  /-- TICKET_WORK_END (R311): The work of a RUNNING ticket ends and the ticket becomes DONE or FAILED. -/
  | ticketWorkEnd (t : Fin 256)
  /-- TICKET_STATE_WRITE (R313): Firmware writes a ticket's STATE to PENDING, FREE or DONE. -/
  | ticketStateWrite (t : Fin 256) (st : BitVec 3)
  /-- QUIESCE_ANSWER (R314): A room answers AGREE, DELAY or REFUSE on its quiesce port. -/
  | quiesceAnswer (n : Fin 64) (ans : BitVec 2) (qpN : BitVec 8)
  /-- QUIESCE_TIMEOUT (R314): No quiesce answer arrives within QP_TO, which counts as no answer. -/
  | quiesceTimeout (n : Fin 64)
  /-- QUIESCE_DELAY_EXPIRY (R319): The n µs of a DELAY(n) answer pass and the governor asks again. -/
  | quiesceDelayExpiry (n : Fin 64)
  /-- QP_DONE (R314): A room pulses QP_DONE to end its user-job ticket. -/
  | qpDone (n : Fin 64)
  /-- PARK_DRAIN_END (R315): The park drain completes or reaches DRAIN_TO, and the room GSR is asserted. -/
  | parkDrainEnd (n : Fin 64) (timedOut : Bool)
  /-- PARK_SAVE_DONE (R315): The keep registers and CUR are saved to the Attic, then the clock stops and the power switch opens. -/
  | parkSaveDone (n : Fin 64)
  /-- ROOM_WAKE_STAGE_DONE (R316): A stage of a room wake completes (supply, clock lock, restore, block RAM reload), leading on to release. -/
  | roomWakeStageDone (n : Fin 64) (saveOk : Bool)
  /-- ROOM_CLASS_WRITE (R316): GOV_ROOM_n.CLASS is written; a change from PARKED to MUST or ELASTIC wakes the room. -/
  | roomClassWrite (n : Fin 64) (cls : BitVec 2)
  /-- SLEEP_PARTICIPANT_ANSWER (R318): A hardened participant (event engine, quadrant, channel or PLL) answers AGREE, DELAY or REFUSE and is stopped on AGREE. -/
  | sleepParticipantAnswer
  /-- SLEEP_RETRY (R320): After a rollback, RETRY ms pass and a new handshake attempt starts. -/
  | sleepRetry
  /-- DEEP_HOLD_WAKE_STAGE (R321): A stage of the wake from Deep hold completes (voltages, PLLs, DRAM, quadrants, event engine, rooms), ending in Run or Hold with CAUSE 0x14. -/
  | deepHoldWakeStage (cycles : Nat) (saveOk : Bool)
  /-- CLOCK_LOCK_WAIT_END (R108): The PLLs, islands and time base report lock, or 200 µs pass; then the IO and CONTROL sections are applied and HEADER starts. -/
  | clockLockWaitEnd
  /-- HEADER_DONE (R111): An image header and its digest table have been read and checked, and the slot is accepted for LOAD or refused. -/
  | headerDone
  /-- FRAME_CHECK (R119): A frame record arrives over a vertical link and is checked for end, order, CRC and guard, then committed. -/
  | frameCheck (n : Fin 64) (disturbed : Fin 3)
  /-- HASH_DONE (R120): The room digests and ROOT have been computed and compared, ending HASH or HASH_AFTER. -/
  | hashDone
  /-- SIGN_DONE (R120): The signature and GCM tag check ends, giving release, RUNNING, a NOTICE or a refusal. -/
  | signDone
  /-- CW_PROGRAM_PAGE (R123): CFG_CW_CTRL operation 0b01 starts programming a page from the buffer, with verify. -/
  | cwProgramPage
  /-- CW_ERASE_BLOCK (R123): CFG_CW_CTRL operation 0b10 starts erasing a 64 KiB Cellar block. -/
  | cwEraseBlock
  /-- CW_RENEW_BLOCK (R126): CFG_CW_CTRL operation 0b11 margin-reads a block and rewrites it through the spare if needed. -/
  | cwRenewBlock
  /-- CW_OP_DONE (R123): A Cellar program, erase or renew ends, setting DONE and RESULT. -/
  | cwOpDone (physOk : Bool) (marginLow : Bool)
  /-- LOAD_SHADOW (R133): ROOM_LOAD_CTRL operation load shadow starts loading the room's shadow plane from ROOM_LOAD_SRC. -/
  | loadShadow (n : Fin 64)
  /-- LOAD_ACTIVE (R134): ROOM_LOAD_CTRL operation load active puts the room into reset and loads its active plane. -/
  | loadActive (n : Fin 64)
  /-- ARM (R138): ROOM_LOAD_CTRL operation arm arms a READY shadow with the current trigger, firing at once for TRIG 0b00. -/
  | arm (n : Fin 64)
  /-- DISARM (R138): ROOM_LOAD_CTRL operation disarm returns an ARMED shadow to READY. -/
  | disarm (n : Fin 64)
  /-- ABORT_LOAD (R152): ROOM_LOAD_CTRL operation abort load ends a load under way with result ABANDONED. -/
  | abortLoad (n : Fin 64)
  /-- DISCARD_SHADOW (R152): ROOM_LOAD_CTRL operation discard shadow empties a READY or INVALID shadow plane. -/
  | discardShadow (n : Fin 64)
  /-- ROOM_LOAD_CHECK_DONE (R132): A room load's digest, root, signature and tag checks complete, making the plane READY or VALID, or refusing it. -/
  | roomLoadCheckDone (n : Fin 64)
  /-- SWAP_TRIGGER_ANGLE (R139): An armed angle trigger sees its unit cross the mark forward and fires the swap. -/
  | swapTriggerAngle (n : Fin 64) (dt : Nat)
  /-- SWAP_DRAIN_DONE (R141): Every outstanding response of the swapping room has arrived, and its GSR is asserted with FIFOs flushed. -/
  | swapDrainDone (n : Fin 64)
  /-- SWAP_DRAIN_TIMEOUT (R146): The drain reaches DRAIN_TO and the swap proceeds with a NOTICE or is abandoned with a FAULT. -/
  | swapDrainTimeout (n : Fin 64)
  /-- SWAP_EXCHANGE (R141): 64 room cycles after the GSR, the plane roles are exchanged and the kind 2 list is applied. -/
  | swapExchange (n : Fin 64) (holdTicks : Nat)
  /-- SCRUB_POSITION (R148): Every 80 ns the scrubber reads one frame of the plane and compares its CRC with the source. -/
  | scrubPosition (n : Fin 64) (upset : BitVec 2048) (disturbed : Fin 3)
  /-- NCH_SEND (R70): A sending port takes a word from the fabric, uses a credit and toggles its request wire. -/
  | nchSend (n : Fin 64) (side j : Fin 4) (data : BitVec 36)
  /-- NCH_WORD_ARRIVE (R70): A word reaches the receiving port and is stored, or is refused with a NACK token. -/
  | nchWordArrive (n : Fin 64) (side j : Fin 4)
  /-- NCH_TAKE (R70): The receiving fabric takes the oldest word and the acknowledge wire toggles. -/
  | nchTake (n : Fin 64) (side j : Fin 4)
  /-- NCH_ACK_ARRIVE (R70): An acknowledge reaches the sender and returns one credit. -/
  | nchAckArrive (n : Fin 64) (side j : Fin 4)
  /-- NCH_NACK (R72): A NACK token reaches the sender, which pulses TX_NACK, gets the credit back and enters the refused state. -/
  | nchNack (n : Fin 64) (side j : Fin 4)
  /-- NCH_LOSS_TOKEN (R73): A loss token reaches the sender, which pulses TX_LOST, recovers all credits and enters the refused state. -/
  | nchLossToken (n : Fin 64) (side j : Fin 4)
  /-- TX_RESYNC (R72): A TX_RESYNC pulse leaves the refused state if PEER_UP for that side reads 1. -/
  | txResync (n : Fin 64) (side j : Fin 4)
  /-- BANK_CROSSING_WORD (R66): A bank word arrives at an unbonded bank's crossing FIFO, or is discarded with an overflow when the FIFO is full. -/
  | bankCrossingWord (b : Fin 18) (toPin : Bool) (word : BitVec 440) (drained : Nat)
  /-- COR_REQUEST_ISSUE (R81): An endpoint issues a corridor request in a free slot when its response buffer has room. -/
  | corRequestIssue (n : Fin 64) (e : Fin 4) (op : BitVec 4) (len : BitVec 4) (dstRtr : Fin 64) (dstPort : BitVec 3) (addr : BitVec 32) (flits : List (BitVec 64))
  /-- COR_REQUEST_ARRIVE (R83): A request packet reaches its destination port and is served, buffered or answered by the border or router. -/
  | corRequestArrive (k : Nat)
  /-- COR_RESPONSE_ARRIVE (R81): A response reaches an endpoint and frees its slot, or is dropped as late or orphan. -/
  | corResponseArrive (k : Nat)
  /-- COR_TIMEOUT (R81): A slot's timer expires, so the endpoint hands a TIMEOUT response to the fabric and quarantines the slot. -/
  | corTimeout (n : Fin 64) (e : Fin 4) (slot : Fin 32)
  /-- COR_QUARANTINE_END (R81): A quarantined slot's extra timeout period ends and the slot becomes free. -/
  | corQuarantineEnd (n : Fin 64) (e : Fin 4) (slot : Fin 32)
  /-- KEEP_HATCH_WRITE (R101): A Hatch write to KEEP_k is applied on a room clock edge and loses to a fabric write on the same edge. -/
  | keepHatchWrite (n k : Fin 64) (v : Word) (fabric : Option Word)
  /-- BRAM_PORT_OP (R89): A block RAM port reads or writes on a room edge, with ECC checking at width 0x6. -/
  | bramPortOp (n : Fin 64) (b : Fin 40) (cfg : BramCfg) (pa pb : BramIn) (upset : Upset)
  /-- LAR_READ (R156): A corridor or hardened READ reads LEN + 1 consecutive Larder words. -/
  | larRead (req : Fin 83) (q : Fin 4) (addr : Word) (len : Fin 16) (upsets : Upsets)
  /-- LAR_WRITE (R156): A corridor or hardened WRITE writes LEN + 1 consecutive Larder words. -/
  | larWrite (req : Fin 83) (q : Fin 4) (addr : Word) (data : List (BitVec 64)) (overG : List Bool)
  /-- LAR_BIT_SET (R156): A BIT_SET sets the bits of its mask in one Larder word atomically. -/
  | larBitSet (req : Fin 83) (att : Fin 4) (addr : Word) (mask : BitVec 64) (upset : BitVec 72)
  /-- LAR_BIT_CLEAR (R156): A BIT_CLEAR clears the bits of its mask in one Larder word atomically. -/
  | larBitClear (req : Fin 83) (att : Fin 4) (addr : Word) (mask : BitVec 64) (upset : BitVec 72)
  /-- LAR_HATCH_READ (R155): A Hatch read of a Larder window returns one half of a word. -/
  | larHatchRead (a : Word) (upset : BitVec 72)
  /-- LAR_HATCH_WRITE (R155): A Hatch write to the Larder data window replaces one half of a word by read-modify-write. -/
  | larHatchWrite (a v : Word) (upset : BitVec 72)
  /-- LAR_HATCH_BIT_SET (R155): A Hatch write to the bit-set alias sets bits in one half of a word. -/
  | larHatchBitSet (a v : Word) (upset : BitVec 72)
  /-- LAR_HATCH_BIT_CLEAR (R155): A Hatch write to the bit-clear alias clears bits in one half of a word. -/
  | larHatchBitClear (a v : Word) (upset : BitVec 72)
  /-- LAR_WRITEBACK (R160): A corrected word is written back once the bank's port G is free. -/
  | larWriteback (wa : BitVec 21)
  /-- QUAD_START (R162): A quadrant's clock starts; it loads its repair map and begins CLEARING. -/
  | quadStart (q : QuadBegin)
  /-- QUAD_CLEAR_DONE (R162): A quadrant finishes zeroing every word and enters UP. -/
  | quadClearDone (q : Fin 4)
  /-- LAR_TEST_PASS (R163): LAR_TEST_CTRL.PASS starts a full transparent test pass from region 0. -/
  | larTestPass
  /-- LAR_TEST_ONE (R163): LAR_TEST_CTRL.ONE tests the single region REGION names. -/
  | larTestOne (region : BitVec 14)
  /-- LAR_TEST_STOP (R166): LAR_TEST_CTRL.STOP ends the pass after the region under test. -/
  | larTestStop
  /-- TEST_PHASE_DONE (R163): A COPY, MARCH or RESTORE phase of a region test ends and the next phase or region begins. -/
  | testPhaseDone (marchFail : Bool)
  /-- ARB_REQUEST (R171): A requester raises a request line at an arbiter and the request is stamped. -/
  | arbRequest (a : Fin 12) (i : Fin 83)
  /-- ARB_DECISION (R172): In each arbiter cycle the arbiter decides who holds the grant in the next cycle. -/
  | arbDecision (a : Fin 12) (c : ArbCycle)
  /-- ARB_AGE_SATURATE (R174): A timed request's age reaches 65,535, is held there and logs a NOTICE of source 0x35. -/
  | arbAgeSaturate (a : Fin 12) (i : Fin 83)
  /-- ARB_WAIT_BOOST (R175): A general request's wait reaches WAIT_LIMIT and the request is boosted. -/
  | arbWaitBoost (a : Fin 12) (i : Fin 83)
  /-- ARB_BURST_EXPIRE (R176): The owner's beat exhausts its burst limit and its request is treated as new. -/
  | arbBurstExpire (a : Fin 12)
  /-- ARB_WATCHDOG_EXPIRY (R181): The no-progress count reaches LIMIT; the grant is freed and the owner is fenced. -/
  | arbWatchdogExpiry (a : Fin 12)
  /-- ARB_FENCE_LIFT (R183): Writing 1 to FENCED lifts a fence from the next decision. -/
  | arbFenceLift (a : Fin 12) (i : Fin 83)
  /-- ARB_FREEZE (R180): ARB_a_CTRL.FREEZE is written, stopping or resuming new grants. -/
  | arbFreeze (a : Fin 12) (on : Bool)
  /-- DRAM_READ (R192): A corridor or hardened READ of whole bursts arrives at a DRAM channel. -/
  | dramRead (n : Fin 4) (req : Fin 83) (addr : Word) (len : Fin 16)
  /-- DRAM_WRITE (R192): A corridor or hardened WRITE of whole bursts arrives at a DRAM channel. -/
  | dramWrite (n : Fin 4) (req : Fin 83) (addr : Word) (data : List (BitVec 64))
  /-- DRAM_HATCH_READ (R193): A Hatch read through a DRAM window reads a burst and returns one half word. -/
  | dramHatchRead (a : Word) (upset : BitVec 144)
  /-- DRAM_HATCH_WRITE (R193): A Hatch write through a DRAM window reads, merges and writes back one burst. -/
  | dramHatchWrite (a v : Word) (upset : BitVec 144)
  /-- DRAM_BURST_ENQUEUE (R195): A granted beat enters the command queue once there is room, possibly putting the channel in in-order mode. -/
  | dramBurstEnqueue (n : Fin 4) (req : Fin 83)
  /-- DRAM_BURST_ISSUE (R195): The controller picks a queued burst and issues READ or WRITE under the ordering rules. -/
  | dramBurstIssue (n : Fin 4) (k : Fin 32)
  /-- DRAM_READ_DATA (R194): Read data return from the device and are checked, corrected or reported uncorrectable. -/
  | dramReadData (n : Fin 4) (upset : BitVec 144)
  /-- DRAM_ECC_WRITEBACK (R194): A corrected burst is written back once no request for its bank is queued. -/
  | dramEccWriteback (n : Fin 4) (b : BitVec 23)
  /-- DRAM_REFRESH (R197): Every REF_INT controller cycles a refresh burst stalls traffic and refreshes all 16 banks. -/
  | dramRefresh (n : Fin 4)
  /-- DRAM_SELF_REFRESH_ENTER (R198): After IDLE_SR × 16 idle cycles the channel issues SRE and enters self-refresh. -/
  | dramSelfRefreshEnter (n : Fin 4)
  /-- DRAM_SELF_REFRESH_EXIT (R198): A request in self-refresh causes SRX, the TXS wait and a refresh burst before service. -/
  | dramSelfRefreshExit (n : Fin 4)
  /-- DRAM_TRAIN (R200): DRC_n_CTRL operation TRAIN starts the training steps. -/
  | dramTrain (n : Fin 4)
  /-- DRAM_OFFLINE (R202): DRC_n_CTRL operation OFFLINE takes an ONLINE channel offline, letting a mirrored partner serve. -/
  | dramOffline (n : Fin 4)
  /-- DRAM_ONLINE (R202): DRC_n_CTRL operation ONLINE returns an OFFLINE channel, through RESYNC in a mirrored pair. -/
  | dramOnline (n : Fin 4)
  /-- DRAM_TRAIN_STEP_DONE (R200): A training step completes, and training moves on, succeeds or fails with a FAULT of source 0x42. -/
  | dramTrainStepDone (n : Fin 4) (ok : Bool) (pin : BitVec 8)
  /-- DRAM_RESYNC_DONE (R202): The copy engine finishes copying every burst and the returning channel becomes ONLINE. -/
  | dramResyncDone (n : Fin 4)
  /-- TIME_BASE_LOCK (R207): The time-base generator locks and device time starts counting. -/
  | timeBaseLock
  /-- TIME_BASE_LOCK_LOSS (R208): The time base loses lock and free-runs, setting TB_UNLOCK_SEEN and logging source 0x74 with detail 106. -/
  | timeBaseLockLoss
  /-- EVT_TIME_LO_READ (R209): A read of EVT_TIME_LO returns bits [31:0] and latches bits [63:32] into EVT_TIME_HI. -/
  | evtTimeLoRead
  /-- ENCODER_EDGE (R211): A filtered A or B transition is counted forward or backward, updating the position and the prediction history. -/
  | encoderEdge (u : Fin 4) (a b : Bool) (dt : Nat)
  /-- ENCODER_Z_EDGE (R213): A filtered rising Z edge while turning forward adopts or refuses the index correction. -/
  | encoderZEdge (u : Fin 4) (dt : Nat)
  /-- ANGLE_STALL (R216): No edge is counted for STALL_TO × 1,024 ticks and the unit declares a stall. -/
  | angleStall (u : Fin 4) (dt : Nat)
  /-- ANGLE_READ (R217): A read of EVT_ANG_u_ANGLE returns P_pred and latches the revolution count into EVT_ANG_u_REV. -/
  | angleRead (u : Fin 4)
  /-- ANGLE_POSITION_WRITE (R217): A write of EVT_ANG_u_ANGLE while EN is 0 sets the position from the pending revolution. -/
  | anglePositionWrite (u : Fin 4) (v : Word)
  /-- ANGLE_UNIT_ENABLE (R217): A change of EVT_ANG_u_CFG.EN clears STALL, ZSYNC and the interval history. -/
  | angleUnitEnable (u : Fin 4) (v : Word)
  /-- QUEUE_WORD0_WRITE (R225): A write of descriptor word 0 changes fields and the queue STATE under Table 10.3. -/
  | queueWord0Write (q : BitVec 14) (v : Word)
  /-- QUEUE_WORD1_WRITE (R224): A write of descriptor word 1 sets TAIL and HEAD, subject to the capacity checks. -/
  | queueWord1Write (q : BitVec 14) (v : Word)
  /-- QUEUE_WORD2_WRITE (R224): A write of descriptor word 2 sets the target, feed, profile and scale outside RUN and FAULT. -/
  | queueWord2Write (q : BitVec 14) (v : Word)
  /-- QUEUE_WORD3_WRITE (R222): A write of descriptor word 3 replaces the counts, adding any count that falls in the same cycle. -/
  | queueWord3Write (q : BitVec 14) (v : Word) (fired late forced : Bool)
  /-- QUEUE_HEAD_FETCH (R226): The engine reads the record at HEAD of a RUN queue with c ≥ 1 and makes it current. -/
  | queueHeadFetch (q : BitVec 14) (upset : BitVec 72)
  /-- INTERNAL_APPEND (R228): The event core writes one posted record into ring slot TAIL % N through port T, or refuses it. -/
  | internalAppend (src : PostSrc)
  /-- APPEND_ACK (R228): An append's Larder write is answered; TAIL advances on OK or the queue faults. -/
  | appendAck (q : BitVec 14)
  /-- STOP_ALL (R236): EVT_CTRL.STOP_ALL sets every RUN queue to STOPPED in one event core cycle. -/
  | stopAll
  /-- ECHO_RING_ENABLE (R236): Setting EVT_ECHO_r_CFG.EN clears the core's HEAD and TAIL copies and writes 0 to the TAIL word. -/
  | echoRingEnable (r : Fin 4) (v : Word)
  /-- PLACEMENT_STEP (R244): In each cycle of a step, the event core admits, forces, defers or makes late the records taking part, within the token limit. -/
  | placementStep (dt : Nat)
  /-- DELIVERY_TAKE (R250): The room fabric takes a delivery word from its event port's delivery FIFO. -/
  | deliveryTake (n : Fin 64) (port : Fin 2)
  /-- PHASE_END (R240): A channel's pull-in or hold duration expires and its phase and charge change. -/
  | phaseEnd (ch : ChanId) (dt : Nat)
  /-- PULSE_END (R240): A PULSE's width expires and the channel goes off. -/
  | pulseEnd (ch : ChanId) (dt : Nat)
  /-- MEAS_TIMEOUT (R243): No telemetry frame arrives for 64 frame periods and MEAS_VALID falls. -/
  | measTimeout (f : Fin 64)
  /-- EVENT_POST (R253): An EVENT packet from a room event port is buffered, answered ACK and queued for append, or its records are refused. -/
  | eventPost (n : Fin 64) (port att : Fin 2) (addr : Word) (recs : List (BitVec 64))
  /-- PLAYER_RUN (R256): EVT_PLY_k_CTRL.RUN written 1 starts a pattern player, clearing or keeping its image. -/
  | playerRun (k : Fin 4) (v : Word)
  /-- PLAYER_STOP (R257): EVT_PLY_k_CTRL.RUN written 0 stops the player after its current append. -/
  | playerStop (k : Fin 4)
  /-- PLAYER_WAIT_END (R256): The angle unit reaches the revolution for the player's lead and the player starts FETCH. -/
  | playerWaitEnd (k : Fin 4)
  /-- PLAYER_FETCH_DONE (R256): A pick record has been read and checked, and the player enters POST or FAULT. -/
  | playerFetchDone (k : Fin 4)
  /-- PLAYER_APPEND (R256): The player appends the next changed channel's SET or CLEAR record and updates its image bit. -/
  | playerAppend (k : Fin 4)
  /-- PLAYER_STALL_RESUME (R257): A STALLED player's full queue falls below capacity and the player appends again. -/
  | playerStallResume (k : Fin 4)
  /-- FORWARD_FRAME (R262): At every multiple of 640 ticks each active string sends a COMMAND, TRAIN or ALL_OFF frame. -/
  | forwardFrame (dt : Nat)
  /-- RETURN_FRAME (R267): A return frame arrives, is checked and updates status or telemetry, or is counted bad. -/
  | returnFrame (s : Fin 64) (frame : BitVec 560) (dt : Nat)
  /-- STRING_TRAIN (R268): STG_s_CTRL operation TRAIN starts link training. -/
  | stringTrain (s : Fin 64)
  /-- TRAIN_STEP_DONE (R269): A training step's frames end, and training moves on, succeeds or fails. -/
  | trainStepDone (s : Fin 64) (o : TrainObs)
  /-- STRING_DISABLE (R273): STG_s_CFG.EN written 0 with all channels off stops the string's frames and sets it DOWN. -/
  | stringDisable (s : Fin 64)
  /-- HB_MIRROR_READ (R281): A host bus read of the mirror window returns the mirrored half word. -/
  | hbMirrorRead (a : BitVec 16)
  /-- HB_MIRROR_WRITE (R283): A host bus write to the mirror updates the mirror and enters the write-through buffer, or is dropped. -/
  | hbMirrorWrite (a : BitVec 16) (v : Word)
  /-- HB_STATUS_READ (R285): A host bus read of the status window returns a status word. -/
  | hbStatusRead (a : BitVec 16)
  /-- HB_STATUS_WRITE (R285): A host bus write to HB_INT_STAT, HB_INT_EN or HB_POST_LAST changes a writable status word. -/
  | hbStatusWrite (a : BitVec 16) (v : Word)
  /-- HB_POST_HALF0 (R284): A host write of half 0 in the post window latches the half and its queue. -/
  | hbPostHalf0 (q : BitVec 14) (v : Word)
  /-- HB_POST_HALF1 (R284): A host write of half 1 completes a record into the post buffer, or is refused. -/
  | hbPostHalf1 (q : BitVec 14) (v : Word)
  /-- HB_UNMAPPED_WRITE (R280): A host write to an unmapped address is discarded, counted and logged with source 0x70. -/
  | hbUnmappedWrite (a : BitVec 16) (v : Word)
  /-- MIRROR_PASS_START (R282): MIR_GAP × 16 ticks after the last pass, a new mirror refresh pass starts. -/
  | mirrorPassStart
  /-- MIRROR_REFRESH_DATA (R282): A refresh read returns and updates mirror words, or fails and sets MIR_FAIL. -/
  | mirrorRefreshData (upsets : List (BitVec 72))
  /-- WRITE_THROUGH_DONE (R283): A buffered mirror write is answered by the Larder and leaves the buffer. -/
  | writeThroughDone (upset : BitVec 72)
  /-- REFLEX_FIRE (R290): An ARMED cell sees its selected inputs active on FILT + 1 edges and enters FIRED, driving FIRE_VAL. -/
  | reflexFire (j : Fin 64) (levels : BitVec 64) (dt : Nat)
  /-- REFLEX_CLEAR (R291): CLEAR returns a FIRED cell to ARMED or DISARMED, or is refused while an input is active. -/
  | reflexClear (j : Fin 64) (levels : BitVec 64)
  /-- REFLEX_ARM (R292): ARM written 1 arms a DISARMED cell. -/
  | reflexArm (j : Fin 64)
  /-- REFLEX_DISARM (R292): ARM written 0 disarms an ARMED cell. -/
  | reflexDisarm (j : Fin 64)
  /-- ISLAND_CLOCK_WRITE (R61): A write of CLK_ISL_n_CTRL sets MULT, FLOOR, REF_SEL or BOND, starting, stopping or slewing the island clock. -/
  | islandClockWrite (n : Fin 106) (v : Word)
  /-- ISLAND_SLEW_DONE (R63): A local clock generator finishes slewing to its new CUR. -/
  | islandSlewDone (n : Fin 106)
  /-- ISLAND_LOCK (R63): A started local clock generator locks and sets LOCKED. -/
  | islandLock (n : Fin 106)
  /-- ISLAND_LOCK_LOSS (R64): A local clock generator loses lock, free-runs and logs source 0x74. -/
  | islandLockLoss (n : Fin 106)
  /-- PLL_ENABLE (R325): PLL_n_CTRL.EN written 1 starts a PLL after its settings are checked. -/
  | pllEnable (n : Fin 8) (v : Word)
  /-- PLL_DISABLE (R334): PLL_n_CTRL.EN written 0 stops all four outputs. -/
  | pllDisable (n : Fin 8)
  /-- PLL_OUTPUT_ENABLE (R334): An output EN write starts or stops an output at its next period boundary. -/
  | pllOutputEnable (n : Fin 8) (k : Fin 4) (v : Word)
  /-- PLL_LOCK (R330): The phase error stays within LOCK_WIN for LOCK_N cycles and LOCKED is set. -/
  | pllLock (n : Fin 8) (phErr : BitVec 16)
  /-- PLL_LOCK_LOSS (R330): The phase error reaches LOCK_WIN on 4 cycles, LOCKED falls and UNLOCK_SEEN is set. -/
  | pllLockLoss (n : Fin 8) (phErr : BitVec 16)
  /-- PLL_UNLOCK_FAULT (R330): 1 µs after a lock loss with REF_OK still 1, a FAULT of source 0x76 is logged. -/
  | pllUnlockFault (n : Fin 8)
  /-- PLL_REF_EDGES (R331): The reference pin shows edges, REF_OK rises and the PLL locks or relocks. -/
  | pllRefEdges (pin : Fin 8)
  /-- PLL_REF_LOSS (R331): The reference pin shows no edge for 1 µs; the PLL enters holdover and logs source 0x77. -/
  | pllRefLoss (pin : Fin 8)
  /-- PLL_STEP_GO (R333): PLL_n_STEP.GO starts moving one output's phase by COUNT steps. -/
  | pllStepGo (n : Fin 8) (v : Word)
  /-- PLL_STEP_DONE (R333): The last phase step is applied and BUSY falls. -/
  | pllStepDone (n : Fin 8)
  /-- PLL_RAMP_GO (R336): PLL_n_RAMP_CTRL.GO checks the segments and starts a frequency ramp, or refuses it. -/
  | pllRampGo (n : Fin 8)
  /-- PLL_RAMP_STOP (R337): PLL_n_RAMP_CTRL.STOP ends a ramp at the frequency it has reached. -/
  | pllRampStop (n : Fin 8) (reached : BitVec 33)
  /-- PLL_RAMP_SEGMENT_END (R336): A ramp segment reaches its target and finishes its hold, starting the next segment or ending the ramp. -/
  | pllRampSegmentEnd (n : Fin 8)
  /-- LC_TRANSITION_REQUEST (R343): A write of SEC_LC_CTRL requests a life-cycle transition, which is checked and started or refused. -/
  | lcTransitionRequest (target : BitVec 4)
  /-- LC_PHASE_DONE (R344): A transition phase completes; at DONE the new state applies and granted levels are dropped. -/
  | lcPhaseDone (readbackOk : Bool)
  /-- LOAD_OIK (R352): SEC_CMD operation LOAD_OIK loads an owner image public key in Test at level 3. -/
  | loadOik (slot : BitVec 4)
  /-- LOAD_DBG (R352): SEC_CMD operation LOAD_DBG loads the owner debug key. -/
  | loadDbg
  /-- LOAD_IMG (R352): SEC_CMD operation LOAD_IMG loads the image key. -/
  | loadImg
  /-- OWNER (R356): SEC_CMD operation OWNER checks and performs a signed owner command. -/
  | owner
  /-- CHALLENGE (R358): SEC_CMD operation CHALLENGE draws a nonce for a debug level. -/
  | challenge (level : BitVec 4)
  /-- RESPOND (R358): SEC_CMD operation RESPOND verifies the signed challenge and grants the level, or counts a failure. -/
  | respond
  /-- RELEASE (R359): SEC_CMD operation RELEASE ends a level granted by exchange. -/
  | release
  /-- ATTEST (R366): SEC_CMD operation ATTEST returns a signed attestation report. -/
  | attest
  /-- SECTOR_UPDATE_DONE (R349): A secure sector update writes the unused copy and completes the key load or owner command. -/
  | sectorUpdateDone
  /-- NONCE_EXPIRY (R358): A live nonce expires 10 s after it was drawn. -/
  | nonceExpiry
  /-- MESH_CHECK (R361): Every 10 µs the tamper mesh pattern is checked, and an open or short raises V3. -/
  | meshCheck (m : Mesh)
  /-- VBAT_MESH_CHECK (R364): With VCC_AO off, the VBAT domain checks the mesh every 1 ms and records a break. -/
  | vbatMeshCheck (broken : Bool)
  /-- CLOCK_GLITCH (R361): A clock pulse shorter than 0.45 period is detected and raises V1. -/
  | clockGlitch (island : Fin 106)
  /-- ERASE_DONE (R363): The sector erase completes, clears ERASE_PENDING and logs source 0x1D. -/
  | eraseDone
  /-- REAPPLY_CLOCK (R380): GBL_REAPPLY SECTION bit 0 re-applies the CLOCK section. -/
  | reapplyClock
  /-- REAPPLY_IO (R380): GBL_REAPPLY SECTION bit 1 re-applies the IO section. -/
  | reapplyIo
  /-- REAPPLY_CONTROL (R380): GBL_REAPPLY SECTION bit 2 re-applies the CONTROL section. -/
  | reapplyControl
  /-- REAPPLY_DRAM (R380): GBL_REAPPLY SECTION bit 3 re-applies the DRAM section. -/
  | reapplyDram
  /-- REAPPLY_ENGINE (R380): GBL_REAPPLY SECTION bit 4 re-applies the ENGINE section. -/
  | reapplyEngine
  /-- REAPPLY_ROOM (R380): GBL_REAPPLY SECTION bit 5 re-applies the ROOM section to slot-sourced rooms. -/
  | reapplyRoom
  /-- REAPPLY_DONE (R381): A re-apply ends, setting DONE, RESULT and SKIPPED. -/
  | reapplyDone
  /-- SPI_READ_WORD (R386): SPI command 0xA1 reads one word and returns a status byte and the data. -/
  | spiReadWord (a : Word) (ready : Bool)
  /-- SPI_WRITE_WORD (R387): SPI command 0xA2 writes one word through the write buffer. -/
  | spiWriteWord (a : Word) (v : SpiWord)
  /-- SPI_BURST_READ (R386): SPI command 0xA3 reads successive words while SCK runs. -/
  | spiBurstRead (a : Word) (ready : List Bool)
  /-- SPI_BURST_WRITE (R387): SPI command 0xA4 writes successive words while SCK runs. -/
  | spiBurstWrite (a : Word) (vs : List Word) (drains : List Nat)
  /-- SPI_STATUS (R387): SPI command 0xA5 returns the status of the last write command and its first failing address. -/
  | spiStatus
  /-- SPI_UNKNOWN_COMMAND (R385): An SPI transfer with another command code is ignored, counted in PROTO and logged with source 0x75. -/
  | spiUnknownCommand (code : BitVec 8)
  /-- TAP_EXTEST (R389): TAP instruction EXTEST selects the boundary-scan register at level 2. -/
  | tapExtest
  /-- TAP_IDCODE (R389): TAP instruction IDCODE selects the 32-bit identity register. -/
  | tapIdcode
  /-- TAP_SAMPLE_PRELOAD (R389): TAP instruction SAMPLE/PRELOAD selects the boundary-scan register at level 1. -/
  | tapSamplePreload
  /-- TAP_HATCH (R389): TAP instruction HATCH selects the 72-bit HATCH data register. -/
  | tapHatch
  /-- TAP_BYPASS (R389): TAP instruction BYPASS, or any other or unauthorised code, selects the 1-bit bypass register. -/
  | tapBypass (code : BitVec 8)
  /-- HATCH_UPDATE_DR (R390): Update-DR of the HATCH register starts a read, write or status access. -/
  | hatchUpdateDr (dr : BitVec 72)
  /-- READBACK_READ (R395): A Hatch read of the configuration readback window returns frame payload bits at level 1 or above. -/
  | readbackRead (a : Word)
  /-- REGISTER_WRITE (R11): A Hatch write to a register that has no row of its own is applied field by field, with reserved encodings refused and logged. -/
  | registerWrite (a v : Word)
  /-- IOB_STD_WRITE (R405): A write of a bank's STD or fast-clock fields is accepted only while the facing room is held, and resets the rail's goodness. -/
  | iobStdWrite (b : Fin 18) (v : Word)
  /-- VCCIO_MISMATCH (R405): A bank's VCCIO moves outside or back inside its standard's window, setting or clearing MISMATCH. -/
  | vccioMismatch (b : Fin 18) (outside : Bool)
  /-- ERR_RECORD_ARRIVE (R397): An error record arrives, is counted, and becomes first, is queued, copied or lost. -/
  | errRecordArrive (src : BitVec 7) (sev : Severity) (detail : Word)
  /-- ERR_ACK (R398): Writing 1 to ERR_ACK acknowledges the first-error record and moves the next queued record forward. -/
  | errAck
  /-- ERR_ALARM_CLEAR (R399): Writing 1 to ERR_ALARM.VALID clears the held alarm record. -/
  | errAlarmClear
  /-- ERR_NOTICE_READ (R398): A read of ERR_NOTICE word 0 latches words 1 to 3. -/
  | errNoticeRead
  /-- SEC_CMD_DONE (R358): A CHALLENGE, RESPOND or ATTEST operation ends after its nonce draw, signature verification or signing time, setting DONE and RESULT in SEC_CMD_STAT and, for RESPOND, granting the level or counting a failure. -/
  | secCmdDone
  /-- ENTROPY_HEALTH_TEST_FAIL (R368): The entropy source fails its NIST SP 800-90B health tests and logs a FAULT of source 0x1C, so CHALLENGE, ATTEST and Blank to Test end PREREQ until it passes again. -/
  | entropyHealthTestFail
  /-- DEEP_HOLD_SENSOR_CHECK (R361): In Deep hold the security monitor checks the reading of sensor 70 and raises V2 when it lies below −50 °C or above 125 °C. -/
  | deepHoldSensorCheck (temp : Int)
  /-- COR_REQUEST_TAKE (R82): A room's fabric takes a request out of its endpoint's request buffer, freeing buffer space. -/
  | corRequestTake (n : Fin 64) (e : Fin 4)
  /-- COR_TARGET_RESPONSE (R78): A room acting as a corridor target sends the response to a request it has taken. -/
  | corTargetResponse (n : Fin 64) (e : Fin 4) (k : Nat) (data : List (BitVec 64))
  /-- COR_RESPONSE_TAKE (R83): A room's fabric reads a response out of its endpoint's response buffer, freeing the flits that gate new requests. -/
  | corResponseTake (n : Fin 64) (e : Fin 4)
  /-- PAYLOAD_FLIT_INJECT (R171): A room's fabric supplies a further payload flit of a packet already under way, moving a WRITE beat at the attachment and, with the last flit, freeing the held links. -/
  | payloadFlitInject (n : Fin 64) (p : Fin 6) (flit : BitVec 64)
  /-- HB_CLK_STOPPED (R286): HB_CLK shows no edge for 1 µs, so CLK_RUN falls and mirror refresh, write-through and posting stop with the latch and buffers held. -/
  | hbClkStopped
  deriving DecidableEq, Repr

end Sys2Proof
end

