-- ==== Sys2Proof/Decode.lean ====
section
/-! DEFINITION. Words of the opcode table: it gives no row any bits (every row's `fields` is empty), so
no word spells a command. -/

namespace Sys2Proof

/-- The command that a word of the opcode table spells: none. DESIGN CHOICE, log entry 73. -/
def decodeTableWord (_nbits _w : Nat) : Option Instr := none

end Sys2Proof
end

