-- ==== Sys2Proof/Machine/Design.lean ====
section
/-! DEFINITION. The names of a room's fabric: the wires of Table 2.2, the multiplexers of a tile (R46), the blocks
that meet the fabric (R86, R96, R100, Tables 3.3), and what a tile's configuration selects (R36 to R41). -/

namespace Sys2Proof

/-- The direction a wire runs in (Table 2.2). -/
inductive Dir where
  | north | east | south | west
  deriving DecidableEq, Repr, Inhabited

/-- The unidirectional wires of Table 2.2: neighbour, length-4, length-12. -/
inductive Level where
  | one | four | twelve
  deriving DecidableEq, Repr, Inhabited

/-- A port of a channel on the fabric's side (Table 3.3), or another signal of a hardened port. -/
inductive BorderOut where
  | txReady (side j : Fin 4)
  | rxValid (side j : Fin 4)
  | rxData (side j : Fin 4) (i : Fin 36)
  | peerUp (side : Fin 4)
  | qpAsk
  | pin (i : Fin 400)
  | other (k : Nat)
  deriving DecidableEq, Repr, Inhabited

/-- What the blocks of a room give the fabric: block RAM words with their error outputs (R89, R91), multiply-accumulate
results (R96), the keep register port (R100), and the ports at the border. -/
inductive BlockOut where
  | bramA (b : Fin 40) (i : Fin 72)
  | bramB (b : Fin 40) (i : Fin 72)
  | sbitErr (b : Fin 40)
  | dbitErr (b : Fin 40)
  | macP (m : Fin 32) (i : Fin 48)
  | macCarry (m : Fin 32)
  | kpRdata (i : Fin 32)
  | border (x : BorderOut)
  deriving DecidableEq, Repr, Inhabited

/-- A stage of a multiply-accumulate block (Table 4.3). -/
inductive MacStage where
  | areg | breg | opreg | mreg | preg
  deriving DecidableEq, Repr, Inhabited

/-- What the fabric gives the blocks that act on an edge of the room clock by themselves: multiply-accumulate blocks,
the keep register port, and the registers of a bonded bank. -/
inductive BlockIn where
  | macA (m : Fin 32) (i : Fin 27)
  | macB (m : Fin 32) (i : Fin 18)
  | macC (m : Fin 32) (i : Fin 48)
  | macZsel (m : Fin 32) (i : Fin 2)
  | macSub (m : Fin 32)
  | macShift (m : Fin 32)
  | macCe (m : Fin 32) (x : MacStage)
  | macRst (m : Fin 32) (x : MacStage)
  | kpAddr (i : Fin 6)
  | kpWdata (i : Fin 32)
  | kpWe
  | pinData (i : Fin 400)
  | pinEnable (i : Fin 40)
  deriving DecidableEq, Repr, Inhabited

/-- A signal as a multiplexer of a tile can take it: a local line, a carry sum or CO_15 of the tile, a wire at the
tap `tap` tiles from its start, a long line that passes the tile, or an output of a block (R40, R41, Table 2.2). -/
inductive Sig where
  | o6 (i : Fin 16)
  | o5 (i : Fin 16)
  | ffA (i : Fin 16)
  | ffB (i : Fin 16)
  | sum (i : Fin 16)
  | co15
  | wire (l : Level) (dir : Dir) (k : Fin 16) (tap : Nat)
  | hLine (k : Fin 4)
  | vLine (k : Fin 4)
  | block (x : BlockOut)
  deriving DecidableEq, Repr, Inhabited

/-- What a routing multiplexer of a tile feeds (R46, R48): a LUT input A1 to A6, a bypass input, a control-set input,
the write enable of the memory LUTs, the start of a wire, or a driver point of a long line. -/
inductive Sink where
  | lut (i : Fin 16) (a : Fin 6)
  | bx (i : Fin 16)
  | by (i : Fin 16)
  | ce (upper : Bool)
  | sr (upper : Bool)
  | we
  | start (l : Level) (dir : Dir) (k : Fin 16)
  | hDrive (k : Fin 4)
  | vDrive (k : Fin 4)
  deriving DecidableEq, Repr, Inhabited

/-- A configuration bit of a LUT (Table 2.5, minors 0 to 20). -/
inductive LutBit where
  | tt (k : Fin 64)
  | mode (k : Fin 2)
  | cascade
  deriving DecidableEq, Repr, Inhabited

/-- The D input of FFA_i (R36). -/
inductive DSelA where
  | o6 | sum | bx
  deriving DecidableEq, Repr, Inhabited

/-- The D input of FFB_i (R36). -/
inductive DSelB where
  | o5 | byIn
  deriving DecidableEq, Repr, Inhabited

/-- CIN of a tile (R41): COUT of the tile below, or what the bottom tile of a chain takes. -/
inductive CinSrc where
  | below | zero | one | by0
  deriving DecidableEq, Repr, Inhabited

/-- A control set (R37): whether CE and SR come from the fabric (CE is held at 1 and SR at 0 otherwise), and SR_MODE. -/
structure CtlSet where
  ce : Bool
  sr : Bool
  mode : BitVec 2
  deriving DecidableEq, Repr, Inhabited

/-- What minors 21 and 22 select in a tile (Table 2.5): the D inputs, G from BX rather than O5, CIN, the control sets. -/
structure TileCtl where
  dA : Fin 16 → DSelA
  dB : Fin 16 → DSelB
  gBx : Fin 16 → Bool
  cin : CinSrc
  lower : CtlSet
  upper : CtlSet
  deriving Inhabited

/-- The configuration of a multiply-accumulate block (Table 4.3, R98): the depths of its stages, and whether A and B come
from the cascade. -/
structure MacCfg where
  areg : Fin 3
  breg : Fin 3
  opreg : Bool
  mreg : Bool
  preg : Bool
  aCasc : Bool
  bCasc : Bool
  deriving DecidableEq, Repr, Inhabited

end Sys2Proof
end

