-- ==== Sys2Proof/Config.lean ====
section
/-! DEFINITION. What the spec leaves open, as constants without a body: nothing can evaluate them or
prove a value of them, so every theorem holds whatever they are. The first group stands for functions a
published standard fixes (SHA-256, ECDSA, AES) and for the code tables the spec does not print; the
second for values the spec leaves undefined or does not state. -/

namespace Sys2Proof.Config

/-- SHA-256 of a byte string (FIPS 180-4), the first digest byte in the top bits (R5, R112).
PRESUMED, log entry 10. -/
opaque sha256 : List (BitVec 8) → BitVec 256

/-- ECDSA P-256 verification (R112): public key X then Y, digest, signature r then s.
PRESUMED, log entry 10. -/
opaque ecdsaOk : List (BitVec 8) → List (BitVec 8) → List (BitVec 8) → Bool

/-- ECDSA P-256 signature under the identity private key (R366), the number of the draw making it fresh: r then s.
PRESUMED, log entry 10. -/
opaque ecdsaSign : BitVec 256 → List (BitVec 8) → Nat → BitVec 512

/-- Public key of an identity private key (R344): X then Y.
PRESUMED, log entry 10. -/
opaque publicKey : BitVec 256 → BitVec 512

/-- AES-256 encryption of one block (FIPS 197): key, block, the first byte in the top bits. PRESUMED, log entry 10. -/
opaque aesBlock : BitVec 256 → BitVec 128 → BitVec 128

/-- The tag of AES-256-GCM (SP 800-38D): key, initialisation vector, associated data, ciphertext. PRESUMED, log entry
10. -/
opaque gcmTag : BitVec 256 → List (BitVec 8) → List (BitVec 8) → List (BitVec 8) → BitVec 128

/-- AES key wrap under the die key (SP 800-38F KW, Table 16.6). PRESUMED, log entry 10. -/
opaque wrapKey : BitVec 256 → BitVec 320

/-- AES key unwrap under the die key; none when it fails (R351).
PRESUMED, log entry 10. -/
opaque unwrapKey : List (BitVec 8) → Option (BitVec 256)

/-- A 256-bit draw of the entropy source (R344, R358), by the number of the draw. PRESUMED, log entry 10. -/
opaque entropy : Nat → BitVec 256

/-- The 8 check bits of 64 data bits (R91): the spec names the code SECDED and prints no matrix.
DESIGN CHOICE, log entry 6. -/
opaque secdedCheck : BitVec 64 → BitVec 8

/-- What a Larder word or block RAM word reads as when three or more of its bits are wrong: whether it
is taken for good, single or double, and the data (beyond the guarantee of SECDED, R160).
DESIGN CHOICE, log entry 6. -/
opaque secdedBeyond : BitVec 64 → BitVec 72 → Nat × BitVec 64

/-- What a DRAM burst reads as when its error lies beyond the guarantees of R194: 0 taken for good, 1 corrected, 2
detected; and the data. DESIGN CHOICE, log entry 6. -/
opaque dramBeyond : BitVec 128 → BitVec 144 → Nat × BitVec 128

/-- Undefined contents of a DRAM burst (R378), by epoch, channel and burst address: data and flips.
DEDUCED, log entry 62. -/
opaque dramUndefined : Nat → Nat → Nat → BitVec 128 × BitVec 144

/-- The next burst the copy engine of a channel is to copy while a resynchronisation runs (DRC_n_RESYNC.PROGRESS), by
number of the read and channel. DESIGN CHOICE, log entry 79. -/
opaque resyncProgress : Nat → Nat → BitVec 23

/-- Undefined contents of a Cellar byte after an interrupted write (R125), by the number of the write.
DESIGN CHOICE, log entry 7. -/
opaque cellarUndefined : Nat → Nat → BitVec 8

/-- Where a configuration bit of LUT_i lies among the 1,071 bits of a tile's slices of minors 0 to 20 (Table 2.5); the
image tools fix the place (R51). DESIGN CHOICE, log entry 14. -/
opaque lutBitAt : Fin 16 → LutBit → Fin 1071

/-- What a tile's slices of minors 21 and 22 select, whose coding the image tools know (R36 to R41, R51).
DESIGN CHOICE, log entry 14. -/
opaque tileCtl : BitVec 102 → TileCtl

/-- Where the one-hot select of a multiplexer lies: its minor less 23, and the bits of the tile's slice in the order
of the inputs (R46, R51, Table 2.5). DESIGN CHOICE, log entry 14. -/
opaque selectAt : Sink → Fin 48 × List (Fin 51)

/-- The signal at an input of a multiplexer; input 0 is constant 0 (R46). DESIGN CHOICE, log entry 14. -/
opaque muxInput : Sink → Nat → Sig

/-- The tile and signal that an input of a block, or a signal that leaves the fabric, is taken from.
DESIGN CHOICE, log entry 14. -/
opaque blockTap : BlockIn → Fin 32 × Fin 40 × Sig

/-- The configuration of multiply-accumulate block m that the logic frames of a plane hold (Table 4.3).
DESIGN CHOICE, log entry 14. -/
opaque macCfg : List (Nat × BitVec 2048) → Nat → MacCfg

/-- The first bit of a logic frame, by its index, that gives a block a code the guard treats as a format failure (R87,
R89, R91, R97), whose place the spec does not state. DESIGN CHOICE, log entry 14. -/
opaque blockFormat : Nat → BitVec 2048 → Option (Fin 2048)

/-- What a tap beyond the room's border, a cascade from below the bottom tile, or an input that no signal feeds reads as.
DESIGN CHOICE, log entry 75. -/
opaque absent : Bool

/-- A signal of a combinational loop that never settles, by column and row. DESIGN CHOICE, log entry 75. -/
opaque unsettled : Nat → Nat → Bool

/-- Z = P of a block without PREG, and the A and B that the bottom block of a column takes from the cascade, which the
spec does not state (R97, R98). DESIGN CHOICE, log entry 75. -/
opaque macOpen : BitVec 48 × BitVec 27 × BitVec 18

/-- A signal that a hardened port gives the fabric and the model does not hold, by number of the edge, room and signal.
DESIGN CHOICE, log entry 75. -/
opaque borderIn : Nat → Nat → Nat → Bool

/-- The levels at the pins of a bonded bank, as its input registers capture them, by number of the edge and bank.
DESIGN CHOICE, log entry 75. -/
opaque pinsIn : Nat → Nat → BitVec 400

/-- Mesh and supply state of the VBAT pin at a start (SEC_TAMP.VBAT_OK), by the number of the start.
DESIGN CHOICE, log entry 57. -/
opaque vbatOk : Nat → Bool

/-- A field of an attestation report that has nothing to state: the ROOT or BUILD_STAMP of a full image where none
runs, the SEQUENCE of a record where none is in use, the ROOT of a room's active plane that is not VALID; by number
and field. DESIGN CHOICE, log entry 79. -/
opaque reportOpen : Nat → Nat → BitVec 256

/-- The value an engine takes of a record that its producer changes between HEAD and TAIL (R226), of the
bit an aborted step leaves, or of another point the spec does not state, by number.
DESIGN CHOICE, log entry 2. -/
opaque freeWord : Nat → BitVec 64

/-- The detail of an error record whose detail the spec does not state, by source and number.
DESIGN CHOICE, log entry 2. -/
opaque detail : Nat → Nat → BitVec 32

end Sys2Proof.Config
end

