-- ==== Sys2Proof/Machine/State.lean ====
section
/-! DEFINITION. The state of the T1310 as plain data. Every Hatch register of the spec lives in one
sparse map (`Dev.regs`, keyed by register kind and indices; Machine/Regs.lean names the registers and
their fields). What the spec gives the machine beyond its registers stands in the structures below:
memories, buffers, work under way, and the levels of pins. A number without a spec reset value has the
default written here, named in notes/assumptions/11.md. -/

namespace Sys2Proof.Machine

/-- A sparse table: keys strictly rising, no entry equal to the default of its key (Machine/Ops.lean
has its operations). -/
abbrev Map (α : Type) := List (Nat × α)

/-- A record of the error unit (R396). -/
structure ErrRec where
  src : BitVec 7 := 0
  sev : Severity := .notice
  detail : Word := 0
  time : BitVec 64 := 0
  deriving DecidableEq, Repr

/-- The error unit beside its registers (R397, R398): the queue, oldest first, and the last NOTICE,
whose words 1 to 3 are latched by a read of ERR_NOTICE word 0. -/
structure ErrUnit where
  queue : List ErrRec := []
  notice : ErrRec := {}
  deriving DecidableEq, Repr

/-- Control pins and supplies (R376, R370); `bat` is VBAT within its range (SEC_TAMP.VBAT_OK), `vccio` has bit b at 1
while VCCIO of bank b is above 0.6 V (R375, R405), and `rfxRun` counts the edges in a row on which an ARMED reflex cell
saw an active input (R290). `safeOld` holds the safe state in force of a pin whose SAFE has been written since its entry
into the safe state, by 64 times the bank plus the pin (R406, Table 19.12).
DESIGN CHOICE, log entry 11. -/
structure Pins where
  resetN : Bool := true
  holdN : Bool := false
  bat : Bool := false
  vccio : BitVec 18 := 0
  refEdges : BitVec 8 := 0
  rfxIn : BitVec 64 := 0
  rfxRun : Map Nat := []
  safeOld : Map Nat := []
  deriving DecidableEq, Repr

/-- The life-cycle transition under way (R344): target code and the phase, 1 to 4. -/
structure LcWork where
  target : BitVec 4
  phase : Nat
  again : Bool := false
  deriving DecidableEq, Repr

/-- A change that a sector update makes durable (R349, R352, R356): the fields of the new copy. -/
structure SecUpd where
  cmd : BitVec 4
  bytes : List (BitVec 8)
  deriving DecidableEq, Repr

/-- The security monitor beside its registers (R342 to R368). `lcCopies` is the life-cycle block,
`keyIdk` and `keyImg` the key partition of the Attic, `cmd` an operation under way with its argument.
DESIGN CHOICE, log entry 11. DESIGN CHOICE, log entry 12. -/
structure Security where
  lcCopies : List (BitVec 8) := List.replicate 8 0xE1
  keyIdk : Option (BitVec 256) := none
  keyImg : Option (BitVec 256) := none
  sector : List (BitVec 8) := []
  resetHeld : Bool := false
  lc : Option LcWork := none
  upd : Option SecUpd := none
  erasing : Bool := false
  cmd : Option (BitVec 4 × BitVec 4) := none
  nonce : Option (BitVec 256) := none
  hold : List (BitVec 8) := []
  granted : Nat := 0
  entropyOk : Bool := true
  deriving DecidableEq, Repr

/-- A Cellar write operation under way (R123, R126): operation code, address and the page copied from
the buffer; `ticket` marks a block of a renewal pass. -/
structure CwWork where
  op : Nat
  addr : Nat
  page : List (BitVec 8) := []
  ticket : Bool := false
  deriving DecidableEq, Repr

/-- The renewal journal (R126): block address and CRC of the copy in the spare. -/
structure Journal where
  block : Nat
  crc : Word
  deriving DecidableEq, Repr

/-- A re-apply under way (R380): its sections, whether its entries count as level 2, the entries refused so far, and those
still to be applied, each a section's bit, an address and a value. -/
structure Reapply where
  sections : BitVec 6
  lvl2 : Bool := false
  skipped : Nat := 0
  rest : List (Nat × Nat × Word) := []
  deriving DecidableEq, Repr

/-- The configuration controller beside its registers (R103 to R128). The Cellar is a list of bytes by address, an
unlisted byte reading 0xFF (R103); `undef` names the pages that an interrupted write left undefined (R125), each with
the number of its free contents. `order` is what is left of the boot order, `slot` the slot being tried, `verReq` the
record's VERIFIED_REQ, `clockWait` the wait of R108 step 1, `sectionsDone` whether the DRAM and ENGINE sections have
been applied, `recordVerified` whether the record in use is signed, `hashBad` whether a digest of the image under
check differed; `renewPass` is the next block of a renewal pass. -/
structure CfgCtl where
  cellar : List Host.Cell := []
  undef : Map Nat := []
  cycles : Map Nat := []
  journal : Option Journal := none
  cw : Option CwWork := none
  renewPass : Option Nat := none
  renewFailed : Bool := false
  order : List Nat := []
  slot : Nat := 0
  verReq : Bool := false
  clockWait : Bool := false
  sectionsDone : Bool := false
  recordVerified : Bool := false
  hashBad : Bool := false
  reapply : Option Reapply := none
  deriving DecidableEq, Repr

/-- A load of one room's plane under way (R117, R131): the target plane, the Cellar address of the
image, of the room's first record, the next position in canonical order (R113), and whether the frames
come from a full configuration. -/
structure Load where
  active : Bool
  full : Bool := false
  image : Nat
  records : Nat
  pos : Nat := 0
  total : Nat
  keepBram : Bool := false
  encrypted : Bool := false
  deriving DecidableEq, Repr

/-- One configuration plane (R129): its logic frames, its guard driver map as pairs of long line and
driver point (R53), the entries of its kind 2 list, the KEEP_BRAM flag of its image, and whether it has the image
that ROOM_PLANE_STAT names as its source (R136). -/
structure Plane where
  frames : Map (BitVec 2048) := []
  drivers : List (Nat × Nat) := []
  kind2 : List (Nat × Word) := []
  keep : Bool := false
  src : Bool := false
  deriving DecidableEq, Repr

/-- The trigger of an armed swap as it stood at the arm write (R138); `ahead` is the condition
d ≥ 32,768 on the event core cycle before (R139). -/
structure Arm where
  trig : BitVec 2
  unit : BitVec 2
  code : BitVec 14
  revEn : Bool
  rev : BitVec 14
  angle : BitVec 16
  ahead : Bool := false
  deriving DecidableEq, Repr

/-- What a room is going through at its border (Tables 6.4, 14.7, 14.8). -/
inductive Stage where
  | idle
  | swapDrain | swapHold
  | parkDrain | parkSave
  | wakeSupply | wakeClock | wakeRestore | wakeBram
  deriving DecidableEq, Repr

/-- The quiesce port of a room (R314): idle, asked, or told to ask again after a DELAY; `purpose` says
for whom: 0 park by class, level or mode, 1 sleep handshake; `refused` holds while the room keeps running
against the present condition. -/
structure Quiesce where
  asked : Bool := false
  delayed : Bool := false
  delays : Nat := 0
  purpose : Nat := 0
  agreed : Bool := false
  refused : Bool := false
  deriving DecidableEq, Repr

/-- A request packet (Table 3.7), numbered in the order of issue. One whose flits are fewer than `need` is still being
injected; `here`: its header has reached the endpoint it goes to. `answered`: its response is sent and its last flits
are still to be discarded (R183). `cut`: after so many flits the room's reset completed it with zeros (R171). -/
structure Packet where
  op : BitVec 4
  len : BitVec 4
  dstRtr : Nat
  dstPort : Nat
  srcRtr : Nat
  srcPort : Nat
  gen : Bool
  slot : Nat
  addr : Word
  flits : List (BitVec 64)
  need : Nat
  no : Nat := 0
  here : Bool := false
  answered : Bool := false
  cut : Option Nat := none
  deriving DecidableEq, Repr

/-- A response packet (Table 3.8): `dst` is the requester's port. -/
structure RespPkt where
  isRead : Bool
  len : BitVec 4
  dstRtr : Nat
  dstPort : Nat
  srcRtr : Nat
  srcPort : Nat
  gen : Bool
  slot : Nat
  status : Nat
  data : List (BitVec 64)
  deriving DecidableEq, Repr

/-- A request slot of an endpoint (R81): the busy flag, quarantine (`byReset` under R82), generation bit, the response
flits it reserves (R83), the TIMEOUT in force at its issue, and what a TIMEOUT response repeats of the request (R77).
-/
structure Slot where
  busy : Bool := false
  quarantine : Bool := false
  byReset : Bool := false
  gen : Bool := false
  reserve : Nat := 0
  timeout : Nat := 0
  isRead : Bool := false
  len : BitVec 4 := 0
  rtr : Nat := 0
  port : Nat := 0
  deriving DecidableEq, Repr

/-- A corridor endpoint (R81 to R83): slots, requests buffered and not yet taken, requests taken and
not yet answered, and the response buffer. -/
structure Endpoint where
  slots : Map Slot := []
  reqBuf : List Packet := []
  taken : List Packet := []
  respBuf : List RespPkt := []
  deriving DecidableEq, Repr

/-- The stored bits of a block RAM (R86), the cells among them that have flipped since they were written, and the outputs
of its two ports (R89): latch, output register and the error outputs aligned with them. -/
structure Bram where
  d : BitVec 32768 := 0
  p : BitVec 4096 := 0
  flipD : BitVec 32768 := 0
  flipP : BitVec 4096 := 0
  latchA : BitVec 72 := 0
  latchB : BitVec 72 := 0
  outA : BitVec 72 := 0
  outB : BitVec 72 := 0
  errLatch : BitVec 2 := 0
  errOut : BitVec 2 := 0
  deriving DecidableEq, Repr

/-- The registers of a multiply-accumulate block (R96, R97): the stages of A and B, OPREG, MREG, PREG and
the carry that belongs to P. -/
structure Mac where
  a1 : BitVec 27 := 0
  a2 : BitVec 27 := 0
  b1 : BitVec 18 := 0
  b2 : BitVec 18 := 0
  zsel : BitVec 2 := 0
  sub : Bool := false
  shift : Bool := false
  c : BitVec 48 := 0
  m : BitVec 45 := 0
  p : BitVec 48 := 0
  carry : Bool := false
  deriving DecidableEq, Repr

/-- What the Attic keeps of a parked room (Table 14.10, row 1). -/
structure Saved where
  keep : List Word
  cur : Nat
  deriving DecidableEq, Repr

/-- A room beside its registers. A fresh room is held by the GSR (Table 1.5, Supply ramp). `ack0` and
`ack1` hold the STATUS of the last ACK at each event port (R253). By tile (40 × column + row), `ff` holds the 32
flip-flops, FFA_i at bit i and FFB_i at bit 16 + i (R33); `mem`, by 8 × tile + LUT, the bits of a memory LUT that the
design has changed since they were loaded (R42 to R45); `keepers` the last values of the 288 long lines (R48), `macs` the
multiply-accumulate blocks (R96). `release` holds while the controller has dropped the GSR and the release waits for the
first edge of the room's clock (R58, R135); `started` once the third edge of Table 2.6 has passed. `eccEdge` holds
while ROOM_BRAM_EADDR was recorded on the present edge (R93). `newClass` is a class written while the room parks or
wakes (Table 14.11). `crossIn` and `crossOut` are the crossing of an unbonded
bank, a word holding the data of the 40 pins in bits [399:0] and their output enables above; `bankIn`, `bankOut` and
`bankOe` are the input, output and output-enable registers of the facing bank (R66).
DESIGN CHOICE, log entry 11. -/
structure Room where
  gsr : Bool := true
  clamps : Bool := true
  down : Bool := true
  release : Bool := false
  act : Plane := {}
  shd : Plane := {}
  load : Option Load := none
  arm : Option Arm := none
  stage : Stage := .idle
  quiesce : Quiesce := {}
  newClass : Option (BitVec 2) := none
  saved : Option Saved := none
  ep0 : Endpoint := {}
  ep1 : Endpoint := {}
  ep2 : Endpoint := {}
  ep3 : Endpoint := {}
  ev0 : List (BitVec 64) := []
  ev1 : List (BitVec 64) := []
  ack0 : Option Nat := none
  ack1 : Option Nat := none
  bram : Map Bram := []
  eccEdge : Bool := false
  ff : Map (BitVec 32) := []
  mem : Map (BitVec 64) := []
  started : Bool := false
  keepers : BitVec 288 := 0
  macs : Map Mac := []
  crossIn : List (BitVec 440) := []
  crossOut : List (BitVec 440) := []
  bankIn : BitVec 400 := 0
  bankOut : BitVec 400 := 0
  bankOe : BitVec 40 := 0
  kpRdata : Word := 0
  deriving DecidableEq, Repr

/-- A Larder word (R153): the data as written, and the cells of its 72 bits that have flipped since. -/
structure LarWord where
  data : BitVec 64 := 0
  flips : BitVec 72 := 0
  deriving DecidableEq, Repr

/-- The answer of a memory or of the Hatch to its requester. -/
structure Answer where
  status : Nat := 0
  data : List (BitVec 64) := []
  deriving DecidableEq, Repr

/-- The Larder beside its registers. `words` holds the cells of every bank: the rows by word address, then the spare
rows and the spare buffers (R153). `spares` is the repair map kept in the Attic (R165), by bank: rows served and the
used and bad flags. `writeback` holds corrected words not yet written back, `item` the next step of a full pass
(regions, then spare rows), `ops` the test operations made in the phase, `rowFailed` the march's finding, `waits` the
quadrant a pass waits for (R166). `eG` tells that the last access recorded LAR_EADDR from port G (R168). -/
structure Larder where
  words : Map LarWord := []
  writeback : List (Nat × BitVec 64) := []
  item : Nat := 0
  ops : Nat := 0
  rowFailed : Bool := false
  waits : Option Nat := none
  eG : Bool := false
  spares : Map (BitVec 32 × BitVec 8) := []
  answer : Answer := {}
  deriving DecidableEq, Repr

/-- A request raised at an arbiter (R171, R174, R175). -/
structure ArbReq where
  id : Nat
  age : Nat := 0
  wait : Nat := 0
  noted : Bool := false
  deriving DecidableEq, Repr

/-- How far a request has come at a quadrant's arbiter: what it asks for, the beats it has moved, and for a READ the words
read and whether one was uncorrectable. -/
structure Work where
  op : BitVec 4 := 0
  addr : Nat := 0
  len : Nat := 0
  done : Nat := 0
  got : List (BitVec 64) := []
  bad : Bool := false
  deriving DecidableEq, Repr

/-- An arbiter beside its registers (R172 to R181): waiting requests in the order raised, the owner
with the beats it has moved and its burst limit, the winner chosen and its class, the no-progress count, the last ID
granted in each class, the requests partly served by requester, and the bank whose port a bit operation still occupies
in the coming cycle (R157). -/
structure Arbiter where
  now : BitVec 16 := 0
  reqs : List ArbReq := []
  owner : Option Nat := none
  chosen : Option Nat := none
  chosenClass : Nat := 0
  beats : Nat := 0
  burst : Nat := 0
  stuck : Nat := 0
  last : Map Nat := []
  work : Map Work := []
  port : Option Nat := none
  deriving DecidableEq, Repr

/-- A burst in DRAM (R194): data as written and the cells of its 144 bits that have flipped. -/
structure Burst where
  data : BitVec 128 := 0
  flips : BitVec 144 := 0
  deriving DecidableEq, Repr

/-- A burst in the command queue (R195): its number, the request it belongs to, its place in it, the requester and, once
a read is issued, the cells it reads. `bad` marks a copy written with an uncorrectable code (R202). -/
structure DramCmd where
  id : Nat
  write : Bool
  burst : Nat
  cells : Burst := {}
  tag : Nat := 0
  pos : Nat := 0
  req : Nat := 0x7F
  bad : Bool := false
  deriving DecidableEq, Repr

/-- A request at a DRAM channel: its first burst and its bursts, how many have entered the queue, how many read bursts are
still to come, the data gathered so far by place, the data a hardened requester writes, and the packet of a room by its
number (R192, R194). -/
structure DramReq where
  req : Nat
  tag : Nat
  write : Bool
  first : Nat
  count : Nat
  next : Nat := 0
  left : Nat
  data : List (BitVec 128) := []
  got : Map (BitVec 128) := []
  bad : Bool := false
  pkt : Option Nat := none
  deriving DecidableEq, Repr

/-- What training does beside the steps of Table 9.6 (R199, R200): a training as TRAIN starts it, one from the results
held after OFF followed by the clearing, or a restore from the Attic; `clear` is the clearing itself. -/
inductive Training where
  | full | fromOff | restore | clear
  deriving DecidableEq, Repr

/-- A DRAM channel beside its registers. `step`, `kind` and `back` are the training step under way, what the training
is, and whether the channel goes back to OFFLINE; `restored`: a restore is complete and waits for the partner's. `mem`
holds the bursts written since the contents were last undefined (R378); the others are free values of epoch `epoch` of
channel `copyOf` (this one if none), or zeros after the clearing of R199. -/
structure Dram where
  mem : Map Burst := []
  epoch : Nat := 0
  copyOf : Option Nat := none
  zeroed : Bool := false
  reqs : List DramReq := []
  queue : List DramCmd := []
  reading : List DramCmd := []
  writeback : List (Nat × BitVec 128) := []
  nextTag : Nat := 0
  nextId : Nat := 1
  trained : Bool := false
  firstTrain : Bool := true
  needTrain : Bool := false
  step : Nat := 0
  kind : Training := .full
  back : Bool := false
  restored : Bool := false
  offPending : Bool := false
  inOrderFor : Option Nat := none
  answer : Answer := {}
  deriving DecidableEq, Repr

/-- An angle unit beside its registers (R211 to R217): position at the last counted edge, filtered levels,
time stamp of the last counted edge (or of the last change of EN), forward intervals held, newest first,
whether the last counted edge was forward and can start an interval, the value a stall froze P_pred at,
and the pending revolution of EVT_ANG_u_REV. -/
structure Angle where
  pos : BitVec 64 := 0
  a : Bool := false
  b : Bool := false
  tEdge : BitVec 64 := 0
  hist : List Nat := []
  haveEdge : Bool := false
  frozen : Option (BitVec 64) := none
  pendRev : BitVec 32 := 0
  deriving DecidableEq, Repr

/-- The four phases of a channel (R240). -/
inductive Phase where
  | off | pull | hold | driven (code : BitVec 2)
  deriving DecidableEq, Repr

/-- A string channel or direct pin: its phase, the profile values taken at admission (R241), the ends
of its phase and of its pulse in device time, and the feed charged (R242). -/
structure Channel where
  phase : Phase := .off
  pullCode : BitVec 2 := 0
  holdCode : BitVec 2 := 0
  pullI : Nat := 0
  holdI : Nat := 0
  holdTicks : Nat := 0
  phaseEnd : Option Nat := none
  pulseEnd : Option Nat := none
  feed : Nat := 0
  deriving DecidableEq, Repr

/-- A record admitted to a string step (R244): its frame, its outcome (Table 10.4) and what its channel
becomes when the frame starts. -/
structure Commit where
  frame : Nat
  outcome : Nat
  result : Channel
  deriving DecidableEq, Repr

/-- The current record of a queue (R226, R237): the record, whether it has been compared, its E once
known, whether its due angle lay behind at the first comparison, its commitment, whether the throughput
limit has held it back (R246) and whether that has been counted. -/
structure Cur where
  word : BitVec 64
  seen : Bool := false
  due : Option Int := none
  behind : Bool := false
  commit : Option Commit := none
  held : Bool := false
  capped : Bool := false
  deriving DecidableEq, Repr

/-- An internal append whose Larder write is not yet acknowledged (R228): the answer on its way, and the
poster: 2 n + port of a room, 128 the host bus, 129 + k a player. -/
structure Append where
  status : Nat
  poster : Nat
  deriving DecidableEq, Repr

/-- Queue state beside the descriptor: the current record, the BASE 0b10 reference time (R221) and an
append under way. -/
structure Queue where
  cur : Option Cur := none
  ref : BitVec 64 := 0
  append : Option Append := none
  deriving DecidableEq, Repr

/-- A feed beside its registers (R243): the string step that began with an older budget or offset than
the registers now hold, with the older value, and the last string step counted in DEFERRED. -/
structure Feed where
  budgetStep : Nat := 0
  budget : Nat := 0
  ofsStep : Nat := 0
  ofs : Nat := 0
  deferredStep : Nat := 0
  deriving DecidableEq, Repr

/-- A record posted by a room and waiting in a record buffer (R253). -/
structure PostRec where
  room : Nat
  port : Nat
  queue : Nat
  word : BitVec 64
  deriving DecidableEq, Repr

/-- A packet of a room's event port that the event core holds back in the mesh (R253). -/
structure EvPost where
  room : Nat
  port : Nat
  att : Nat
  addr : Nat
  recs : List (BitVec 64)
  deriving DecidableEq, Repr

/-- A pattern player beside its registers (R255 to R257): image, the pick record fetched and the next
channel to look at. -/
structure Player where
  image : BitVec 16384 := 0
  pick : List (BitVec 8) := []
  index : Nat := 0
  deriving DecidableEq, Repr

/-- A frame that a string has sent: its number F / 640, its TYPE and the training step it belongs to (0 none). -/
structure SentFrame where
  n : Nat
  type : Nat
  step : Nat
  deriving DecidableEq, Repr

/-- The event core beside its registers: device time and its latched half, whether the time base has
locked since the last reset (R208), tokens and the time they stand for (R246), the string step whose
events `stepCount` counts, the last string step noted with source 0x5C, the HEAD copies of the echo
rings, the records of stopped queues that string engines hold, by string channel (R235), the record buffers of both
attachments, the posts held back in the mesh, and MODEL of every feed at recent TELEM frames (R271).
DESIGN CHOICE, log entry 11. -/
structure EventCore where
  time : BitVec 64 := 0
  timeHi : Word := 0
  tbEver : Bool := false
  angle0 : Angle := {}
  angle1 : Angle := {}
  angle2 : Angle := {}
  angle3 : Angle := {}
  queues : Map Queue := []
  chans : Map Channel := []
  pins : Map Channel := []
  feeds : Map Feed := []
  tokens : Nat := 750
  tokenAt : Nat := 0
  stepF : Nat := 0
  stepCount : Nat := 0
  capStep : Nat := 0
  echoHead : Map Nat := []
  handed : List (Nat × Commit) := []
  post0 : List PostRec := []
  post1 : List PostRec := []
  mesh : List EvPost := []
  player0 : Player := {}
  player1 : Player := {}
  player2 : Player := {}
  player3 : Player := {}
  models : List (Nat × Map Nat) := []
  stopped : Bool := false
  deriving DecidableEq, Repr

/-- A string beside its registers (R262 to R273): the frame it last sent (none while the pair is held at differential
0) and the frames whose returns may still come, newest first, the training step under way (0 none), whether training
started from FAULT, bad returns in a row and in IDENT, the PRBS register, ALL_OFF frames still to send in Alarm,
whether it sends them in Fallback load, and the time of the last telemetry frame. -/
structure StringS where
  lastFrame : Option (BitVec 560) := none
  sent : List SentFrame := []
  train : Nat := 0
  fromFault : Bool := false
  bad : Nat := 0
  badInStep : Bool := false
  prbs : BitVec 9 := 0x1FF
  allOff : Nat := 0
  fallOff : Bool := false
  telemAt : Nat := 0
  bfltNoted : Bool := false
  deriving DecidableEq, Repr

/-- An AVSBus voltage exchange (R309, R310): rail (0 VCC, 1 VCC_SRAM), target in mV, cycles spent, whether it raises
the rail, whether the write is acknowledged, whether the read under way is of the voltage (else of the status),
whether VDone has been read and the voltage last read lies near the target, and a CRC error of the present frame. -/
structure AvsWork where
  rail : Nat
  target : Nat
  cycles : Nat := 0
  raise : Bool
  written : Bool := false
  voltage : Bool := false
  done : Bool := false
  near : Bool := false
  crcErr : Bool := false
  deriving DecidableEq, Repr

/-- What the sleep handshake has stopped (Table 14.9); a channel with how it wakes, back to OFFLINE or not (R199), or OFF
from UNTRAINED. -/
inductive Stopped where
  | room (n : Nat)
  | engine
  | quad (q : Nat)
  | dram (n : Nat) (kind : Training) (back : Bool)
  | untrained (n : Nat)
  | pll (n : Nat)
  deriving DecidableEq, Repr

/-- The sleep handshake, its rollback (`rolling`, with what GOV_SLEEP_STAT will record) and the wake from Deep hold
(`waking`) (R318 to R321). `next` is the participant asked, or the stage of the wake to come: 1 rooms, 2 event engine,
3 to 6 quadrants 0 to 3, 7 to 10 channels, 11 to 18 PLLs, 19 to 21 the voltages at entry, and in a wake 20 the Attic's
restart, 22 and 23 the two voltages. `stopped` has what was stopped, the last first, `cur` the participants being
restarted and `restart` those still to follow (R320). -/
structure Sleep where
  next : Nat := 0
  delays : Nat := 0
  waking : Bool := false
  rolling : Bool := false
  stopped : List Stopped := []
  cur : List Stopped := []
  restart : List Stopped := []
  kind : Nat := 0
  code : Nat := 0
  index : Nat := 0
  deriving DecidableEq, Repr

/-- The governor beside its registers (R298 to R321): the request pending and the requests for Hold and Quiet
that stand, the powers of the last cycles, of the open bin and of the closed bins in units of 10 µW, the
CLEAR cycles counted, whether TJ_LIM has been noted, the confirmed VCC_SRAM, the exchange under way, the raises of VCC
and of VCC_SRAM (to `sramGoal`) that have failed in a row, whether the rooms are capped (R310), the rails whose current is
to be read, a CRC error of that read and the count of cycles to ten (R308), the
handshake attempts made for the current request, and by ticket what its work is judged by at its end. -/
structure Governor where
  pend : Nat := 0
  holdAsked : Bool := false
  quietAsked : Bool := false
  short : List Nat := []
  bin : List Nat := []
  bins : List Nat := []
  clear : Nat := 0
  tlimSeen : Bool := false
  vccSram : Nat := 0
  avs : Option AvsWork := none
  raiseFails : Nat := 0
  capped : Bool := false
  sramFails : Nat := 0
  sramGoal : Nat := 0
  asks : List Nat := []
  askErr : Bool := false
  turn : Nat := 0
  sleep : Option Sleep := none
  attempts : Nat := 0
  work : Map Nat := []
  deriving DecidableEq, Repr

/-- A PLL beside its registers (R325 to R337): a loss of lock not yet reported, the phase steps applied to
each output, the steps under way, the dither LFSR and what the dither adds to FRAC in the present PFD cycle, and of a
running ramp the ratio that its segment moves to and whether the segment is the last, as its words stood at its start. -/
structure Pll where
  lossPending : Bool := false
  steps : Map Int := []
  move : Option (Nat × Int) := none
  lfsr : BitVec 16 := 0xACE1
  dither : Int := 0
  rampTo : Nat := 0
  rampLast : Bool := false
  deriving DecidableEq, Repr

/-- A word in the SPI write buffer (R387), and whether it is of the last write command. -/
structure BufWord where
  addr : Word
  val : Word
  last : Bool
  deriving DecidableEq, Repr

/-- The Hatch beside its registers (R384 to R390): the SPI write buffer, of the last write command the first status
that was not OK of the words performed with its address, and the address of the word that found the buffer full, QUAD
as taken up at CS_N, the TAP's instruction, its HATCH and IDCODE data registers (Table 18.3), and what the SPI port
last sent. DESIGN CHOICE, log entry 11. -/
structure Hatch where
  buffer : List BufWord := []
  writeStatus : Nat := 1
  writeFail : Word := 0xFFFFFFFF
  dropped : Option Word := none
  quad : Bool := false
  ir : BitVec 8 := 0x01
  dr : BitVec 72 := 0
  idcode : Word := 0x213100D3
  drSel : BitVec 8 := 0x01
  bypass : Bool := false
  out : List (Nat × Word) := []
  deriving DecidableEq, Repr

/-- The host bus target beside its registers (R277 to R287): the mirror by half index, the
write-through and post buffers, the half 0 latch, the status words, the pass under way and the end of the one before. -/
structure HostBus where
  mirror : Map Word := []
  buffer : List (Nat × Word) := []
  posts : List (Nat × BitVec 64) := []
  latch : Option (Nat × Word) := none
  intStat : Word := 0
  intEn : Word := 0
  accepted : BitVec 16 := 0
  refused : BitVec 16 := 0
  postLast : Word := 0
  drops : BitVec 16 := 0
  unmapped : BitVec 16 := 0
  age : Word := 0
  passStart : Word := 0
  pass : Option Nat := none
  passEnd : Option (BitVec 64) := none
  out : Word := 0
  deriving DecidableEq, Repr

/-- One direction of a neighbour channel (R69 to R73), held with its sending port: credits, whether
the receiving end refuses every word until a TX_RESYNC (R72), words and tokens on the wires (a word
marked `true` is to be refused on arrival), and the receiving FIFO, oldest first. The sender's refused
state is ROOM_NCH_STAT.TX_REFUSED. -/
structure Chan where
  credits : Nat := 4
  rxRefusing : Bool := false
  wires : List (BitVec 36 × Bool) := []
  fifo : List (BitVec 36) := []
  acks : Nat := 0
  nacks : Nat := 0
  loss : Nat := 0
  deriving DecidableEq, Repr

/-- Registers and units. `net` holds the request packets on the way in the order of issue, `held` those whose header
has reached a router's attach port, in the order of arrival, `issued` their count; `free` numbers the free values
taken (the model's own field). -/
structure Dev where
  regs : Map Word := []
  err : ErrUnit := {}
  pin : Pins := {}
  sec : Security := {}
  cfg : CfgCtl := {}
  rooms : Map Room := []
  net : List Packet := []
  held : List Packet := []
  issued : Nat := 0
  netResp : List RespPkt := []
  lar : Larder := {}
  arbs : Map Arbiter := []
  drams : Map Dram := []
  ev : EventCore := {}
  strings : Map StringS := []
  gov : Governor := {}
  plls : Map Pll := []
  hat : Hatch := {}
  free : Nat := 0
  deriving DecidableEq, Repr

/-- The machine: the registers and units, the neighbour channels (keyed by room, side and sending
port), the host bus target, and the commands that wait, first in, first out. -/
structure State where
  dev : Dev := {}
  nch : Map Chan := []
  hb : HostBus := {}
  pending : List Instr := []
  deriving DecidableEq, Repr

/-- Reasons a command could stop the machine with. No command of this model does: every rule of the
spec goes on (raised by nobody; safe). -/
inductive Fault where
  /-- Raised by nobody. -/
  | none
  deriving DecidableEq, Repr

/-- Reasons to refuse a command. -/
inductive Refusal where
  /-- A row of the table without a meaning yet: raised only by an arm of `exec`; safe. -/
  | notModelled (mnemonic : String)
  deriving DecidableEq, Repr

/-- The machine at power-up, right after VCC_AO has become good (R29: GBL_MODE 0x0000_0101; R378): no
register written, every room held by the GSR, nothing queued.
DESIGN CHOICE, log entry 11. DESIGN CHOICE, log entry 12. -/
def State.reset : State := {}

end Sys2Proof.Machine
end

