-- ==== Sys2Proof/Machine/Regs.lean ====
section
/-! DEFINITION. The register space of the Hatch (R7, R8, R391, Table 18.4): one kind per register
description of the spec, with its address rule, its access masks (Table 0.3) and its reset value, and
one named constant per field. Written from the spec's register tables, field by field. -/

namespace Sys2Proof.Machine

/-- The kinds of register. A kind with indices stands for the whole array. -/
inductive RK where
  | GBL_IDCODE | GBL_MODE | ROOM_GUARD | CLK_ISL_CTRL
  | CLK_ISL_STAT | ROOM_BANK | ROOM_NCH_EN | ROOM_NCH_STAT
  | ROOM_NCH_CNT | ROOM_COR_CTRL | ROOM_COR_STAT | ROOM_COR_CNT
  | ROOM_BRAM_ECC | ROOM_BRAM_EADDR | KEEP | CFG_STATUS
  | CFG_BOOT_LOG | CFG_CW_CTRL | CFG_CW_ADDR | CFG_CW_STAT
  | CFG_CW_BUF | CFG_RENEW | ROOM_CLAMP | ROOM_SWAP_CFG
  | ROOM_SCRUB_CFG | ROOM_LOAD_CTRL | ROOM_LOAD_SRC | ROOM_PLANE_STAT
  | ROOM_LOAD_STAT | ROOM_SWAP_ARM | ROOM_SWAP_AT | ROOM_SCRUB_STAT
  | ROOM_SCRUB_CNT | ROOM_SCRUB_LAST | ROOM_BRAM_SRC | LAR_CTRL
  | LAR_EADDR | LAR_TEST_CTRL | LAR_TEST_STAT | LAR_TEST_CNT
  | LAR_QSTAT | LAR_ECC | LAR_QCNT | LAR_SPARE_ROW
  | LAR_SPARE_FLG | LAR_CONF | ARB_CTRL | ARB_STAT
  | ARB_WDOG | ARB_VOID | ARB_FENCE_LOG | ARB_REQ_CFG
  | ARB_REQ_STAT | ARB_REQ_GRANTS | ARB_REQ_WAIT | ARB_REQ_MAXWAIT
  | DRC_CFG | DRC_TIMING | DRC_REF | DRC_REF_AUX
  | DRC_CTRL | DRC_STAT | DRC_ECC | DRC_EADDR
  | DRC_CNT | DRC_RESYNC | EVT_ANG_CFG | EVT_ANG_INC
  | EVT_ANG_LIM | EVT_ANG_ERR | EVT_ANG_ANGLE | EVT_ANG_REV
  | EVT_ANG_STAT | EVT_ANG_IVL | QUEUE_W0 | QUEUE_W1
  | QUEUE_W2 | QUEUE_W3 | EVT_TIME_LO | EVT_TIME_HI
  | EVT_TIME_CFG | EVT_TIME_STAT | EVT_CTRL | EVT_QFAULT
  | EVT_POST_CNT | EVT_QSUM | EVT_ECHO_CFG | EVT_ECHO_CTL
  | EVT_ECHO_STAT | EVT_QGRP | EVT_PROF_DRV | EVT_PROF_CUR
  | EVT_FEED_CFG | EVT_FEED_STAT | EVT_FEED_MEAS | EVT_FEED_CNT
  | EVT_RATE | EVT_MARK_ROOMS_LO | EVT_MARK_ROOMS_HI | EVT_DPIN
  | EVT_EVP | EVT_EVP_CNT | EVT_PLY_CTRL | EVT_PLY_ADDR
  | EVT_PLY_REV | EVT_PLY_STAT | EVT_PLY_CNT | STG_CFG
  | STG_CTRL | STG_STAT | STG_CNT | STG_TELEM
  | STG_BFLT | STG_ID | STG_ID_EXP | STG_CHST
  | STG_COIL | HBT_CFG | HBT_MIR_GAP | HBT_STAT
  | RFX_IN_POL_LO | RFX_IN_POL_HI | RFX_FIRED_LO | RFX_FIRED_HI
  | RFX_CELL_SEL_LO | RFX_CELL_SEL_HI | RFX_CELL_CTRL | RFX_CELL_STAT
  | RFX_CELL_TIME | GOV_CTRL | GOV_STAT | GOV_PLIM
  | GOV_PAUX | GOV_TLIM | GOV_PWR | GOV_TMAX
  | GOV_VCC | GOV_AVS | GOV_AVS_STAT | GOV_SLEEP
  | GOV_SLEEP_STAT | GOV_TEMP | GOV_ROOM | GOV_TKT_W0
  | GOV_TKT_W1 | GOV_TKT_W2 | GOV_TKT_W3 | PLL_CTRL
  | PLL_DIV | PLL_FRAC | PLL_LOCK | PLL_OUT
  | PLL_STAT | PLL_STEP | PLL_RAMP_CTRL | PLL_REFIN
  | PLL_SEG_W0 | PLL_SEG_W1 | SEC_LCS | SEC_LC_CTRL
  | SEC_LC_STAT | SEC_KEYS | SEC_CMD | SEC_CMD_STAT
  | SEC_DBG | SEC_POL | SEC_VIOL | SEC_VSEEN
  | SEC_TAMP | SEC_IDK_HASH | SEC_BUF | GBL_RAIL_STAT
  | GBL_RAIL_SEEN | GBL_RESET | GBL_REAPPLY | GBL_REAPPLY_STAT
  | HAT_CFG | HAT_STAT | HAT_CNT | ERR_CTRL
  | ERR_STAT | ERR_ACK | ERR_FIRST | ERR_FIRST_TIME_LO
  | ERR_FIRST_TIME_HI | ERR_FIRST_DETAIL | ERR_ALARM | ERR_ALARM_TIME_LO
  | ERR_ALARM_TIME_HI | ERR_ALARM_DETAIL | ERR_NOTICE | ERR_NOTICE_TIME_LO
  | ERR_NOTICE_TIME_HI | ERR_NOTICE_DETAIL | ERR_CNT | IOB_CFG
  | IOB_STAT | IOB_PIN
  deriving DecidableEq, Repr

/-- One register description: address of element (0, 0), the two index ranges with their strides, the
bits of each access code of Table 0.3, and the reset value the heading gives (`RK.reset` has the
headings that depend on the index). -/
structure RegDesc where
  base : Nat
  n1 : Nat := 1
  st1 : Nat := 4294967296
  n2 : Nat := 1
  st2 : Nat := 4
  rw : Nat := 0
  ro : Nat := 0
  w1c : Nat := 0
  w1s : Nat := 0
  rc : Nat := 0
  wo : Nat := 0
  rst : Nat := 0
  deriving DecidableEq, Repr

/-- Register descriptions, in the order of `RK`. -/
def regTable0 : List RegDesc := [
  /- GBL_IDCODE -/ { base := 0x0, ro := 0xFFFFFFFF, rst := 0x213100D3 },
  /- GBL_MODE -/ { base := 0x10, ro := 0xFF30FFFF, wo := 0xF0000, rst := 0x101 },
  /- ROOM_GUARD -/ { base := 0x200F80, n1 := 64, st1 := 0x1000, ro := 0x7FFFFFFF, w1c := 0x80000000 },
  /- CLK_ISL_CTRL -/ { base := 0x52000, n1 := 106, st1 := 0x10, rw := 0x3CFFFFFF },
  /- CLK_ISL_STAT -/ { base := 0x52004, n1 := 106, st1 := 0x10, ro := 0xE0000FFF, w1c := 0x10000000 },
  /- ROOM_BANK -/ { base := 0x200300, n1 := 64, st1 := 0x1000, ro := 0xC000001F, w1c := 0x30000000, rst := 0x800000BB },
  /- ROOM_NCH_EN -/ { base := 0x200100, n1 := 64, st1 := 0x1000, rw := 0xFFFFFFFF },
  /- ROOM_NCH_STAT -/ { base := 0x200104, n1 := 64, st1 := 0x1000, ro := 0xFFFFF },
  /- ROOM_NCH_CNT -/ { base := 0x200180, n1 := 64, st1 := 0x1000, n2 := 32, st2 := 0x4, rc := 0xFFFFFFFF },
  /- ROOM_COR_CTRL -/ { base := 0x200200, n1 := 64, st1 := 0x1000, rw := 0xFFFF00FF, rst := 0x4000000 },
  /- ROOM_COR_STAT -/ { base := 0x200204, n1 := 64, st1 := 0x1000, ro := 0x3F3F3F3F }]

/-- Register descriptions, in the order of `RK`. -/
def regTable1 : List RegDesc := [
  /- ROOM_COR_CNT -/ { base := 0x200210, n1 := 64, st1 := 0x1000, n2 := 4, st2 := 0x4, rc := 0xFFFFFFFF },
  /- ROOM_BRAM_ECC -/ { base := 0x200340, n1 := 64, st1 := 0x1000, rc := 0xFFFFFFFF },
  /- ROOM_BRAM_EADDR -/ { base := 0x200344, n1 := 64, st1 := 0x1000, ro := 0x7FFF, w1c := 0x80000000 },
  /- KEEP -/ { base := 0x200400, n1 := 64, st1 := 0x1000, n2 := 64, st2 := 0x4, rw := 0xFFFFFFFF },
  /- CFG_STATUS -/ { base := 0x30000, ro := 0xFFF00000 },
  /- CFG_BOOT_LOG -/ { base := 0x30004, ro := 0x3FFFFFF },
  /- CFG_CW_CTRL -/ { base := 0x30100, wo := 0xFF000003 },
  /- CFG_CW_ADDR -/ { base := 0x30104, rw := 0xFFFFFFF },
  /- CFG_CW_STAT -/ { base := 0x30108, ro := 0x7000FFFF, w1c := 0x80000000 },
  /- CFG_CW_BUF -/ { base := 0x30200, n1 := 64, st1 := 0x4, rw := 0xFFFFFFFF },
  /- CFG_RENEW -/ { base := 0x30300, ro := 0x80000000, w1c := 0x40000000, rc := 0xFFF }]

/-- Register descriptions, in the order of `RK`. -/
def regTable2 : List RegDesc := [
  /- ROOM_CLAMP -/ { base := 0x200380, n1 := 64, st1 := 0x1000, n2 := 3, st2 := 0x4, rw := 0xFFFFFFFF, rst := 0xAAAAAAAA },
  /- ROOM_SWAP_CFG -/ { base := 0x200390, n1 := 64, st1 := 0x1000, rw := 0x8000FFFF, rst := 0x100 },
  /- ROOM_SCRUB_CFG -/ { base := 0x200398, n1 := 64, st1 := 0x1000, rw := 0xF, rst := 0x5 },
  /- ROOM_LOAD_CTRL -/ { base := 0x200F00, n1 := 64, st1 := 0x1000, wo := 0xFF000007 },
  /- ROOM_LOAD_SRC -/ { base := 0x200F04, n1 := 64, st1 := 0x1000, rw := 0xC00003FF },
  /- ROOM_PLANE_STAT -/ { base := 0x200F08, n1 := 64, st1 := 0x1000, ro := 0xFFFFFFFF },
  /- ROOM_LOAD_STAT -/ { base := 0x200F0C, n1 := 64, st1 := 0x1000, ro := 0x707FFFFF, w1c := 0x80000000 },
  /- ROOM_SWAP_ARM -/ { base := 0x200F10, n1 := 64, st1 := 0x1000, rw := 0xF0003FFF },
  /- ROOM_SWAP_AT -/ { base := 0x200F14, n1 := 64, st1 := 0x1000, rw := 0xBFFFFFFF },
  /- ROOM_SCRUB_STAT -/ { base := 0x200F20, n1 := 64, st1 := 0x1000, ro := 0xCFFFFFFF },
  /- ROOM_SCRUB_CNT -/ { base := 0x200F24, n1 := 64, st1 := 0x1000, rc := 0xFFFFFFFF }]

/-- Register descriptions, in the order of `RK`. -/
def regTable3 : List RegDesc := [
  /- ROOM_SCRUB_LAST -/ { base := 0x200F28, n1 := 64, st1 := 0x1000, ro := 0xFFFFF001 },
  /- ROOM_BRAM_SRC -/ { base := 0x200F18, n1 := 64, st1 := 0x1000, ro := 0x80000FFF },
  /- LAR_CTRL -/ { base := 0x70000, rw := 0x1, rst := 0x1 },
  /- LAR_EADDR -/ { base := 0x70004, ro := 0x4FFFFFFF, w1c := 0x80000000 },
  /- LAR_TEST_CTRL -/ { base := 0x70010, rw := 0x3FFF, w1s := 0xE0000000 },
  /- LAR_TEST_STAT -/ { base := 0x70014, ro := 0xF8003FFF },
  /- LAR_TEST_CNT -/ { base := 0x70018, ro := 0xFFFF0000, rc := 0xFFFF },
  /- LAR_QSTAT -/ { base := 0x70020, n1 := 4, st1 := 0x4, ro := 0xE0000000 },
  /- LAR_ECC -/ { base := 0x70030, n1 := 4, st1 := 0x4, rc := 0xFFFFFFFF },
  /- LAR_QCNT -/ { base := 0x70040, n1 := 4, st1 := 0x4, rc := 0xFFFFFFFF },
  /- LAR_SPARE_ROW -/ { base := 0x70800, n1 := 64, st1 := 0x8, ro := 0xFFFFFFFF }]

/-- Register descriptions, in the order of `RK`. -/
def regTable4 : List RegDesc := [
  /- LAR_SPARE_FLG -/ { base := 0x70804, n1 := 64, st1 := 0x8, ro := 0xFF },
  /- LAR_CONF -/ { base := 0x71000, n1 := 4, st1 := 0x200, n2 := 96, st2 := 0x4, rc := 0xFFFFFFFF },
  /- ARB_CTRL -/ { base := 0x60000, n1 := 12, st1 := 0x1000, rw := 0x80000000 },
  /- ARB_STAT -/ { base := 0x60004, n1 := 12, st1 := 0x1000, ro := 0xC07FFF00 },
  /- ARB_WDOG -/ { base := 0x60008, n1 := 12, st1 := 0x1000, rw := 0xFFFFFF, rst := 0x1000 },
  /- ARB_VOID -/ { base := 0x6000C, n1 := 12, st1 := 0x1000, rc := 0xFFFFFFFF },
  /- ARB_FENCE_LOG -/ { base := 0x60010, n1 := 12, st1 := 0x1000, ro := 0x7FFFFF, w1c := 0x80000000 },
  /- ARB_REQ_CFG -/ { base := 0x60100, n1 := 12, st1 := 0x1000, n2 := 96, st2 := 0x20, rw := 0x30FFFFFF, rst := 0x100F0000 },
  /- ARB_REQ_STAT -/ { base := 0x60104, n1 := 12, st1 := 0x1000, n2 := 96, st2 := 0x20, ro := 0x7FFF0000, w1c := 0x80000000, rc := 0xFFF },
  /- ARB_REQ_GRANTS -/ { base := 0x60108, n1 := 12, st1 := 0x1000, n2 := 96, st2 := 0x20, rc := 0xFFFFFFFF },
  /- ARB_REQ_WAIT -/ { base := 0x6010C, n1 := 12, st1 := 0x1000, n2 := 96, st2 := 0x20, rc := 0xFFFFFFFF }]

/-- Register descriptions, in the order of `RK`. -/
def regTable5 : List RegDesc := [
  /- ARB_REQ_MAXWAIT -/ { base := 0x60110, n1 := 12, st1 := 0x1000, n2 := 96, st2 := 0x20, rc := 0xFFFFFFFF },
  /- DRC_CFG -/ { base := 0x80000, n1 := 4, st1 := 0x4000, rw := 0x1F, rst := 0x8 },
  /- DRC_TIMING -/ { base := 0x80004, n1 := 4, st1 := 0x4000, rw := 0xFFF1F1F, rst := 0x843090A },
  /- DRC_REF -/ { base := 0x80008, n1 := 4, st1 := 0x4000, rw := 0x3000FFFF, ro := 0x80000000, rst := 0x823 },
  /- DRC_REF_AUX -/ { base := 0x8000C, n1 := 4, st1 := 0x4000, rw := 0xFFFFFFFF, rst := 0x4000411 },
  /- DRC_CTRL -/ { base := 0x80010, n1 := 4, st1 := 0x4000, wo := 0xFF000007 },
  /- DRC_STAT -/ { base := 0x80014, n1 := 4, st1 := 0x4000, ro := 0xEE3F07FF, w1c := 0x10000000, rst := 0x20000000 },
  /- DRC_ECC -/ { base := 0x80020, n1 := 4, st1 := 0x4000, rc := 0xFFFFFFFF },
  /- DRC_EADDR -/ { base := 0x80024, n1 := 4, st1 := 0x4000, ro := 0x7FFFFFFF, w1c := 0x80000000 },
  /- DRC_CNT -/ { base := 0x80028, n1 := 4, st1 := 0x4000, rc := 0xFFFFFFFF },
  /- DRC_RESYNC -/ { base := 0x80030, n1 := 4, st1 := 0x4000, rw := 0xF000000, ro := 0x7FFFFF, rst := 0x4000000 }]

/-- Register descriptions, in the order of `RK`. -/
def regTable6 : List RegDesc := [
  /- EVT_ANG_CFG -/ { base := 0x90100, n1 := 4, st1 := 0x40, rw := 0xFF80FFFF },
  /- EVT_ANG_INC -/ { base := 0x90104, n1 := 4, st1 := 0x40, rw := 0xFFFFFFFF },
  /- EVT_ANG_LIM -/ { base := 0x90108, n1 := 4, st1 := 0x40, rw := 0xFFFFFFFF },
  /- EVT_ANG_ERR -/ { base := 0x9010C, n1 := 4, st1 := 0x40, rw := 0xFF, ro := 0xFF000000, rc := 0xFF0000 },
  /- EVT_ANG_ANGLE -/ { base := 0x90110, n1 := 4, st1 := 0x40, rw := 0xFFFFFFFF },
  /- EVT_ANG_REV -/ { base := 0x90114, n1 := 4, st1 := 0x40, rw := 0xFFFFFFFF },
  /- EVT_ANG_STAT -/ { base := 0x90118, n1 := 4, st1 := 0x40, ro := 0xE1F00000, w1c := 0x1E000000 },
  /- EVT_ANG_IVL -/ { base := 0x9011C, n1 := 4, st1 := 0x40, ro := 0xFFFFFFFF },
  /- QUEUE_W0 -/ { base := 0x100000, n1 := 16384, st1 := 0x10, rw := 0xDFFFFFFF, rst := 0x400000 },
  /- QUEUE_W1 -/ { base := 0x100004, n1 := 16384, st1 := 0x10, rw := 0xFFFFFFFF },
  /- QUEUE_W2 -/ { base := 0x100008, n1 := 16384, st1 := 0x10, rw := 0xFFFFFFFF }]

/-- Register descriptions, in the order of `RK`. -/
def regTable7 : List RegDesc := [
  /- QUEUE_W3 -/ { base := 0x10000C, n1 := 16384, st1 := 0x10, rw := 0xFFFFFFFF },
  /- EVT_TIME_LO -/ { base := 0x90000, ro := 0xFFFFFFFF },
  /- EVT_TIME_HI -/ { base := 0x90004, ro := 0xFFFFFFFF },
  /- EVT_TIME_CFG -/ { base := 0x90008, rw := 0x38000FFF },
  /- EVT_TIME_STAT -/ { base := 0x9000C, ro := 0xC0000000, w1c := 0x30000000 },
  /- EVT_CTRL -/ { base := 0x90040, rw := 0x2, w1s := 0x1 },
  /- EVT_QFAULT -/ { base := 0x90044, ro := 0x70003FFF, w1c := 0x80000000 },
  /- EVT_POST_CNT -/ { base := 0x90048, rc := 0xFFFFFFFF },
  /- EVT_QSUM -/ { base := 0x9004C, ro := 0x1FFFFF },
  /- EVT_ECHO_CFG -/ { base := 0x90200, n1 := 4, st1 := 0x10, rw := 0x81FFFFFF },
  /- EVT_ECHO_CTL -/ { base := 0x90204, n1 := 4, st1 := 0x10, rw := 0x1FFFFF }]

/-- Register descriptions, in the order of `RK`. -/
def regTable8 : List RegDesc := [
  /- EVT_ECHO_STAT -/ { base := 0x90208, n1 := 4, st1 := 0x10, ro := 0xFFFF0000, rc := 0xFFFF },
  /- EVT_QGRP -/ { base := 0x91000, n1 := 256, st1 := 0x4, rw := 0xF },
  /- EVT_PROF_DRV -/ { base := 0x90400, n1 := 64, st1 := 0x8, rw := 0xFFFFFFFF, rst := 0x90001000 },
  /- EVT_PROF_CUR -/ { base := 0x90404, n1 := 64, st1 := 0x8, rw := 0xFFFF03FF },
  /- EVT_FEED_CFG -/ { base := 0x90800, n1 := 64, st1 := 0x10, rw := 0xFE00FFFF, rst := 0xFFFF },
  /- EVT_FEED_STAT -/ { base := 0x90804, n1 := 64, st1 := 0x10, ro := 0x400FFFFF, w1c := 0x80000000 },
  /- EVT_FEED_MEAS -/ { base := 0x90808, n1 := 64, st1 := 0x10, ro := 0xFFFFFFFF },
  /- EVT_FEED_CNT -/ { base := 0x9080C, n1 := 64, st1 := 0x10, rc := 0xFFFFFFFF },
  /- EVT_RATE -/ { base := 0x90058, rc := 0xFFFFFFFF },
  /- EVT_MARK_ROOMS_LO -/ { base := 0x90050, rw := 0xFFFFFFFF },
  /- EVT_MARK_ROOMS_HI -/ { base := 0x90054, rw := 0xFFFFFFFF }]

/-- Register descriptions, in the order of `RK`. -/
def regTable9 : List RegDesc := [
  /- EVT_DPIN -/ { base := 0x90C00, n1 := 256, st1 := 0x4, rw := 0xFE0007FF },
  /- EVT_EVP -/ { base := 0x91800, n1 := 64, st1 := 0x4, rw := 0xBFFF3FFF },
  /- EVT_EVP_CNT -/ { base := 0x91900, n1 := 64, st1 := 0x4, rc := 0xFFFFFFFF },
  /- EVT_PLY_CTRL -/ { base := 0x91400, n1 := 4, st1 := 0x20, rw := 0xFFC03FFF },
  /- EVT_PLY_ADDR -/ { base := 0x91404, n1 := 4, st1 := 0x20, rw := 0xFFFFFF },
  /- EVT_PLY_REV -/ { base := 0x91408, n1 := 4, st1 := 0x20, rw := 0xFFFFFFFF },
  /- EVT_PLY_STAT -/ { base := 0x9140C, n1 := 4, st1 := 0x20, ro := 0xFC00FFFF },
  /- EVT_PLY_CNT -/ { base := 0x91410, n1 := 4, st1 := 0x20, rc := 0xFFFFFFFF },
  /- STG_CFG -/ { base := 0xA0000, n1 := 64, st1 := 0x100, rw := 0xE3000000 },
  /- STG_CTRL -/ { base := 0xA0004, n1 := 64, st1 := 0x100, wo := 0xFF000003 },
  /- STG_STAT -/ { base := 0xA0008, n1 := 64, st1 := 0x100, ro := 0xDFFFFFC0, w1c := 0x20000000 }]

/-- Register descriptions, in the order of `RK`. -/
def regTable10 : List RegDesc := [
  /- STG_CNT -/ { base := 0xA000C, n1 := 64, st1 := 0x100, rc := 0xFFFFFFFF },
  /- STG_TELEM -/ { base := 0xA0010, n1 := 64, st1 := 0x100, ro := 0xFFFFFF00 },
  /- STG_BFLT -/ { base := 0xA0014, n1 := 64, st1 := 0x100, w1c := 0x80000000, rc := 0xFFFF },
  /- STG_ID -/ { base := 0xA0018, n1 := 64, st1 := 0x100, ro := 0xFFFFFFFF },
  /- STG_ID_EXP -/ { base := 0xA001C, n1 := 64, st1 := 0x100, rw := 0xFFFFFFFF },
  /- STG_CHST -/ { base := 0xA0040, n1 := 64, st1 := 0x100, n2 := 16, st2 := 0x4, ro := 0xFFFFFFFF },
  /- STG_COIL -/ { base := 0xA0080, n1 := 64, st1 := 0x100, n2 := 8, st2 := 0x4, w1c := 0xFFFFFFFF },
  /- HBT_CFG -/ { base := 0xC0000, rw := 0xC0FFFFFF },
  /- HBT_MIR_GAP -/ { base := 0xC0004, rw := 0xFFFF },
  /- HBT_STAT -/ { base := 0xC0008, ro := 0x8000FFFF },
  /- RFX_IN_POL_LO -/ { base := 0xB0000, rw := 0xFFFFFFFF }]

/-- Register descriptions, in the order of `RK`. -/
def regTable11 : List RegDesc := [
  /- RFX_IN_POL_HI -/ { base := 0xB0004, rw := 0xFFFFFFFF },
  /- RFX_FIRED_LO -/ { base := 0xB0010, ro := 0xFFFFFFFF },
  /- RFX_FIRED_HI -/ { base := 0xB0014, ro := 0xFFFFFFFF },
  /- RFX_CELL_SEL_LO -/ { base := 0xB0100, n1 := 64, st1 := 0x20, rw := 0xFFFFFFFF },
  /- RFX_CELL_SEL_HI -/ { base := 0xB0104, n1 := 64, st1 := 0x20, rw := 0xFFFFFFFF },
  /- RFX_CELL_CTRL -/ { base := 0xB0108, n1 := 64, st1 := 0x20, rw := 0xAF000000, w1s := 0x40000000 },
  /- RFX_CELL_STAT -/ { base := 0xB010C, n1 := 64, st1 := 0x20, ro := 0xDF80FFFF, w1c := 0x20000000 },
  /- RFX_CELL_TIME -/ { base := 0xB0110, n1 := 64, st1 := 0x20, ro := 0x3FFFFFFF },
  /- GOV_CTRL -/ { base := 0x40000, rw := 0xFF000FFF, rst := 0xA000010 },
  /- GOV_STAT -/ { base := 0x40004, ro := 0xFF00FFFF },
  /- GOV_PLIM -/ { base := 0x40008, rw := 0xFFFFFFFF, rst := 0x17701770 }]

/-- Register descriptions, in the order of `RK`. -/
def regTable12 : List RegDesc := [
  /- GOV_PAUX -/ { base := 0x4000C, rw := 0xFFFFFFFF, rst := 0x3200C8 },
  /- GOV_TLIM -/ { base := 0x40010, rw := 0xFFFFFF00, rst := 0x675F0500 },
  /- GOV_PWR -/ { base := 0x40014, ro := 0xFFFFFFFF },
  /- GOV_TMAX -/ { base := 0x40018, ro := 0x7FFFFF },
  /- GOV_VCC -/ { base := 0x40020, rw := 0xFFFFFFFF, rst := 0xA352320 },
  /- GOV_AVS -/ { base := 0x40024, rw := 0xFFFFFF1F, rst := 0x1140A07 },
  /- GOV_AVS_STAT -/ { base := 0x40028, ro := 0xFFFFFFFF },
  /- GOV_SLEEP -/ { base := 0x40030, rw := 0xFFFFFFFF, rst := 0x464030A },
  /- GOV_SLEEP_STAT -/ { base := 0x40034, ro := 0xFF7FF000, w1c := 0x800000 },
  /- GOV_TEMP -/ { base := 0x40200, n1 := 72, st1 := 0x4, ro := 0x8000FFFF },
  /- GOV_ROOM -/ { base := 0x40400, n1 := 64, st1 := 0x4, rw := 0xF0000000, ro := 0xC00FFFF }]

/-- Register descriptions, in the order of `RK`. -/
def regTable13 : List RegDesc := [
  /- GOV_TKT_W0 -/ { base := 0x41000, n1 := 256, st1 := 0x10, rw := 0xFFC000FF },
  /- GOV_TKT_W1 -/ { base := 0x41004, n1 := 256, st1 := 0x10, rw := 0xFFFFFFFF },
  /- GOV_TKT_W2 -/ { base := 0x41008, n1 := 256, st1 := 0x10, rw := 0xFFFF },
  /- GOV_TKT_W3 -/ { base := 0x4100C, n1 := 256, st1 := 0x10, rw := 0xFFFFFFFF },
  /- PLL_CTRL -/ { base := 0x50000, n1 := 8, st1 := 0x400, rw := 0xFF80FFFF, rst := 0xACE1 },
  /- PLL_DIV -/ { base := 0x50004, n1 := 8, st1 := 0x400, rw := 0xF9FF0000, rst := 0xA00000 },
  /- PLL_FRAC -/ { base := 0x50008, n1 := 8, st1 := 0x400, rw := 0xFFFFFF },
  /- PLL_LOCK -/ { base := 0x5000C, n1 := 8, st1 := 0x400, rw := 0xC000FFFF, rst := 0x40000100 },
  /- PLL_OUT -/ { base := 0x50010, n1 := 8, st1 := 0x400, n2 := 4, st2 := 0x4, rw := 0xF00001FF },
  /- PLL_STAT -/ { base := 0x50020, n1 := 8, st1 := 0x400, ro := 0xF000FFFF, w1c := 0x8000000 },
  /- PLL_STEP -/ { base := 0x50024, n1 := 8, st1 := 0x400, rw := 0x300000FF, ro := 0x40000000, w1s := 0x80000000 }]

/-- Register descriptions, in the order of `RK`. -/
def regTable14 : List RegDesc := [
  /- PLL_RAMP_CTRL -/ { base := 0x50028, n1 := 8, st1 := 0x400, ro := 0x381F0000, w1s := 0xC0000000 },
  /- PLL_REFIN -/ { base := 0x50030, n1 := 8, st1 := 0x400, rw := 0x3FFFF03 },
  /- PLL_SEG_W0 -/ { base := 0x50100, n1 := 8, st1 := 0x400, n2 := 32, st2 := 0x8, rw := 0x807FFFFF },
  /- PLL_SEG_W1 -/ { base := 0x50104, n1 := 8, st1 := 0x400, n2 := 32, st2 := 0x8, rw := 0xFFFFFFFF },
  /- SEC_LCS -/ { base := 0x20000, ro := 0x800000FF, rst := 0x1 },
  /- SEC_LC_CTRL -/ { base := 0x20004, wo := 0xFF00000F },
  /- SEC_LC_STAT -/ { base := 0x20008, ro := 0x70000000, w1c := 0x80000000 },
  /- SEC_KEYS -/ { base := 0x20010, ro := 0xFFFFFCFF },
  /- SEC_CMD -/ { base := 0x20020, wo := 0xFF0000FF },
  /- SEC_CMD_STAT -/ { base := 0x20024, ro := 0x78000000, w1c := 0x80000000 },
  /- SEC_DBG -/ { base := 0x20030, rw := 0xFF, ro := 0xF000FF00, rst := 0x3 }]

/-- Register descriptions, in the order of `RK`. -/
def regTable15 : List RegDesc := [
  /- SEC_POL -/ { base := 0x20040, rw := 0xFFF, rst := 0x555 },
  /- SEC_VIOL -/ { base := 0x20044, ro := 0x7C0FFFF, w1c := 0x80000000 },
  /- SEC_VSEEN -/ { base := 0x20048, w1c := 0x7F },
  /- SEC_TAMP -/ { base := 0x2004C, rw := 0x80000000, ro := 0x30000000, w1c := 0x40000000 },
  /- SEC_IDK_HASH -/ { base := 0x20080, n1 := 8, st1 := 0x4, ro := 0xFFFFFFFF },
  /- SEC_BUF -/ { base := 0x20100, n1 := 64, st1 := 0x4, rw := 0xFFFFFFFF },
  /- GBL_RAIL_STAT -/ { base := 0x80, ro := 0xFFFFFFF },
  /- GBL_RAIL_SEEN -/ { base := 0x84, w1c := 0xFFFFFFF },
  /- GBL_RESET -/ { base := 0x88, ro := 0xC01FFFFF },
  /- GBL_REAPPLY -/ { base := 0x90, wo := 0xFF00003F },
  /- GBL_REAPPLY_STAT -/ { base := 0x94, ro := 0x7800FFFF, w1c := 0x80000000 }]

/-- Register descriptions, in the order of `RK`. -/
def regTable16 : List RegDesc := [
  /- HAT_CFG -/ { base := 0x10000, rw := 0x1 },
  /- HAT_STAT -/ { base := 0x10004, ro := 0x800000FF },
  /- HAT_CNT -/ { base := 0x10008, rc := 0xFFFFFFFF },
  /- ERR_CTRL -/ { base := 0xE0000, rw := 0x1 },
  /- ERR_STAT -/ { base := 0xE0004, ro := 0xBC1FFFFF, w1c := 0x40000000 },
  /- ERR_ACK -/ { base := 0xE0008, wo := 0x1 },
  /- ERR_FIRST -/ { base := 0xE0010, ro := 0xE000007F },
  /- ERR_FIRST_TIME_LO -/ { base := 0xE0014, ro := 0xFFFFFFFF },
  /- ERR_FIRST_TIME_HI -/ { base := 0xE0018, ro := 0xFFFFFFFF },
  /- ERR_FIRST_DETAIL -/ { base := 0xE001C, ro := 0xFFFFFFFF },
  /- ERR_ALARM -/ { base := 0xE0020, ro := 0x6000007F, w1c := 0x80000000 }]

/-- Register descriptions, in the order of `RK`. -/
def regTable17 : List RegDesc := [
  /- ERR_ALARM_TIME_LO -/ { base := 0xE0024, ro := 0xFFFFFFFF },
  /- ERR_ALARM_TIME_HI -/ { base := 0xE0028, ro := 0xFFFFFFFF },
  /- ERR_ALARM_DETAIL -/ { base := 0xE002C, ro := 0xFFFFFFFF },
  /- ERR_NOTICE -/ { base := 0xE0030, ro := 0xE000007F },
  /- ERR_NOTICE_TIME_LO -/ { base := 0xE0034, ro := 0xFFFFFFFF },
  /- ERR_NOTICE_TIME_HI -/ { base := 0xE0038, ro := 0xFFFFFFFF },
  /- ERR_NOTICE_DETAIL -/ { base := 0xE003C, ro := 0xFFFFFFFF },
  /- ERR_CNT -/ { base := 0xE0100, n1 := 128, st1 := 0x4, rc := 0xFFFFFFFF },
  /- IOB_CFG -/ { base := 0xD0000, n1 := 18, st1 := 0x400, rw := 0xFF800000 },
  /- IOB_STAT -/ { base := 0xD0004, n1 := 18, st1 := 0x400, ro := 0xC0000000 },
  /- IOB_PIN -/ { base := 0xD0040, n1 := 18, st1 := 0x400, n2 := 40, st2 := 0x4, rw := 0xFFFC0000 }]

/-- The register descriptions of the spec, one per kind, in the order of `RK`. -/
def regTable : List RegDesc :=
  List.flatten [regTable0, regTable1, regTable2, regTable3, regTable4, regTable5, regTable6, regTable7, regTable8, regTable9, regTable10, regTable11, regTable12, regTable13, regTable14, regTable15, regTable16, regTable17]

/-- The description of a kind. -/
def RK.desc (k : RK) : RegDesc := regTable.getD k.ctorIdx { base := 0 }

/-- Register kinds, in the order of `RK`. -/
def rkList0 : List RK := [RK.GBL_IDCODE, RK.GBL_MODE, RK.ROOM_GUARD, RK.CLK_ISL_CTRL, RK.CLK_ISL_STAT, RK.ROOM_BANK, RK.ROOM_NCH_EN, RK.ROOM_NCH_STAT, RK.ROOM_NCH_CNT, RK.ROOM_COR_CTRL, RK.ROOM_COR_STAT]

/-- Register kinds, in the order of `RK`. -/
def rkList1 : List RK := [RK.ROOM_COR_CNT, RK.ROOM_BRAM_ECC, RK.ROOM_BRAM_EADDR, RK.KEEP, RK.CFG_STATUS, RK.CFG_BOOT_LOG, RK.CFG_CW_CTRL, RK.CFG_CW_ADDR, RK.CFG_CW_STAT, RK.CFG_CW_BUF, RK.CFG_RENEW]

/-- Register kinds, in the order of `RK`. -/
def rkList2 : List RK := [RK.ROOM_CLAMP, RK.ROOM_SWAP_CFG, RK.ROOM_SCRUB_CFG, RK.ROOM_LOAD_CTRL, RK.ROOM_LOAD_SRC, RK.ROOM_PLANE_STAT, RK.ROOM_LOAD_STAT, RK.ROOM_SWAP_ARM, RK.ROOM_SWAP_AT, RK.ROOM_SCRUB_STAT, RK.ROOM_SCRUB_CNT]

/-- Register kinds, in the order of `RK`. -/
def rkList3 : List RK := [RK.ROOM_SCRUB_LAST, RK.ROOM_BRAM_SRC, RK.LAR_CTRL, RK.LAR_EADDR, RK.LAR_TEST_CTRL, RK.LAR_TEST_STAT, RK.LAR_TEST_CNT, RK.LAR_QSTAT, RK.LAR_ECC, RK.LAR_QCNT, RK.LAR_SPARE_ROW]

/-- Register kinds, in the order of `RK`. -/
def rkList4 : List RK := [RK.LAR_SPARE_FLG, RK.LAR_CONF, RK.ARB_CTRL, RK.ARB_STAT, RK.ARB_WDOG, RK.ARB_VOID, RK.ARB_FENCE_LOG, RK.ARB_REQ_CFG, RK.ARB_REQ_STAT, RK.ARB_REQ_GRANTS, RK.ARB_REQ_WAIT]

/-- Register kinds, in the order of `RK`. -/
def rkList5 : List RK := [RK.ARB_REQ_MAXWAIT, RK.DRC_CFG, RK.DRC_TIMING, RK.DRC_REF, RK.DRC_REF_AUX, RK.DRC_CTRL, RK.DRC_STAT, RK.DRC_ECC, RK.DRC_EADDR, RK.DRC_CNT, RK.DRC_RESYNC]

/-- Register kinds, in the order of `RK`. -/
def rkList6 : List RK := [RK.EVT_ANG_CFG, RK.EVT_ANG_INC, RK.EVT_ANG_LIM, RK.EVT_ANG_ERR, RK.EVT_ANG_ANGLE, RK.EVT_ANG_REV, RK.EVT_ANG_STAT, RK.EVT_ANG_IVL, RK.QUEUE_W0, RK.QUEUE_W1, RK.QUEUE_W2]

/-- Register kinds, in the order of `RK`. -/
def rkList7 : List RK := [RK.QUEUE_W3, RK.EVT_TIME_LO, RK.EVT_TIME_HI, RK.EVT_TIME_CFG, RK.EVT_TIME_STAT, RK.EVT_CTRL, RK.EVT_QFAULT, RK.EVT_POST_CNT, RK.EVT_QSUM, RK.EVT_ECHO_CFG, RK.EVT_ECHO_CTL]

/-- Register kinds, in the order of `RK`. -/
def rkList8 : List RK := [RK.EVT_ECHO_STAT, RK.EVT_QGRP, RK.EVT_PROF_DRV, RK.EVT_PROF_CUR, RK.EVT_FEED_CFG, RK.EVT_FEED_STAT, RK.EVT_FEED_MEAS, RK.EVT_FEED_CNT, RK.EVT_RATE, RK.EVT_MARK_ROOMS_LO, RK.EVT_MARK_ROOMS_HI]

/-- Register kinds, in the order of `RK`. -/
def rkList9 : List RK := [RK.EVT_DPIN, RK.EVT_EVP, RK.EVT_EVP_CNT, RK.EVT_PLY_CTRL, RK.EVT_PLY_ADDR, RK.EVT_PLY_REV, RK.EVT_PLY_STAT, RK.EVT_PLY_CNT, RK.STG_CFG, RK.STG_CTRL, RK.STG_STAT]

/-- Register kinds, in the order of `RK`. -/
def rkList10 : List RK := [RK.STG_CNT, RK.STG_TELEM, RK.STG_BFLT, RK.STG_ID, RK.STG_ID_EXP, RK.STG_CHST, RK.STG_COIL, RK.HBT_CFG, RK.HBT_MIR_GAP, RK.HBT_STAT, RK.RFX_IN_POL_LO]

/-- Register kinds, in the order of `RK`. -/
def rkList11 : List RK := [RK.RFX_IN_POL_HI, RK.RFX_FIRED_LO, RK.RFX_FIRED_HI, RK.RFX_CELL_SEL_LO, RK.RFX_CELL_SEL_HI, RK.RFX_CELL_CTRL, RK.RFX_CELL_STAT, RK.RFX_CELL_TIME, RK.GOV_CTRL, RK.GOV_STAT, RK.GOV_PLIM]

/-- Register kinds, in the order of `RK`. -/
def rkList12 : List RK := [RK.GOV_PAUX, RK.GOV_TLIM, RK.GOV_PWR, RK.GOV_TMAX, RK.GOV_VCC, RK.GOV_AVS, RK.GOV_AVS_STAT, RK.GOV_SLEEP, RK.GOV_SLEEP_STAT, RK.GOV_TEMP, RK.GOV_ROOM]

/-- Register kinds, in the order of `RK`. -/
def rkList13 : List RK := [RK.GOV_TKT_W0, RK.GOV_TKT_W1, RK.GOV_TKT_W2, RK.GOV_TKT_W3, RK.PLL_CTRL, RK.PLL_DIV, RK.PLL_FRAC, RK.PLL_LOCK, RK.PLL_OUT, RK.PLL_STAT, RK.PLL_STEP]

/-- Register kinds, in the order of `RK`. -/
def rkList14 : List RK := [RK.PLL_RAMP_CTRL, RK.PLL_REFIN, RK.PLL_SEG_W0, RK.PLL_SEG_W1, RK.SEC_LCS, RK.SEC_LC_CTRL, RK.SEC_LC_STAT, RK.SEC_KEYS, RK.SEC_CMD, RK.SEC_CMD_STAT, RK.SEC_DBG]

/-- Register kinds, in the order of `RK`. -/
def rkList15 : List RK := [RK.SEC_POL, RK.SEC_VIOL, RK.SEC_VSEEN, RK.SEC_TAMP, RK.SEC_IDK_HASH, RK.SEC_BUF, RK.GBL_RAIL_STAT, RK.GBL_RAIL_SEEN, RK.GBL_RESET, RK.GBL_REAPPLY, RK.GBL_REAPPLY_STAT]

/-- Register kinds, in the order of `RK`. -/
def rkList16 : List RK := [RK.HAT_CFG, RK.HAT_STAT, RK.HAT_CNT, RK.ERR_CTRL, RK.ERR_STAT, RK.ERR_ACK, RK.ERR_FIRST, RK.ERR_FIRST_TIME_LO, RK.ERR_FIRST_TIME_HI, RK.ERR_FIRST_DETAIL, RK.ERR_ALARM]

/-- Register kinds, in the order of `RK`. -/
def rkList17 : List RK := [RK.ERR_ALARM_TIME_LO, RK.ERR_ALARM_TIME_HI, RK.ERR_ALARM_DETAIL, RK.ERR_NOTICE, RK.ERR_NOTICE_TIME_LO, RK.ERR_NOTICE_TIME_HI, RK.ERR_NOTICE_DETAIL, RK.ERR_CNT, RK.IOB_CFG, RK.IOB_STAT, RK.IOB_PIN]

/-- Every kind, in the order of the spec. -/
def RK.all : List RK :=
  List.flatten [rkList0, rkList1, rkList2, rkList3, rkList4, rkList5, rkList6, rkList7, rkList8, rkList9, rkList10, rkList11, rkList12, rkList13, rkList14, rkList15, rkList16, rkList17]

/-- A field of a register: its kind, its lowest bit and its width (R4). -/
structure Fld where
  reg : RK
  lo : Nat
  width : Nat
  deriving DecidableEq, Repr

namespace F

abbrev GBL_IDCODE_REV : Fld := ⟨.GBL_IDCODE, 28, 4⟩
abbrev GBL_IDCODE_PART : Fld := ⟨.GBL_IDCODE, 12, 16⟩
abbrev GBL_IDCODE_MFR : Fld := ⟨.GBL_IDCODE, 0, 12⟩
abbrev GBL_MODE_SEQ : Fld := ⟨.GBL_MODE, 24, 8⟩
abbrev GBL_MODE_REQ_ST : Fld := ⟨.GBL_MODE, 20, 2⟩
abbrev GBL_MODE_REQ : Fld := ⟨.GBL_MODE, 16, 4⟩
abbrev GBL_MODE_CAUSE : Fld := ⟨.GBL_MODE, 8, 8⟩
abbrev GBL_MODE_PREV : Fld := ⟨.GBL_MODE, 4, 4⟩
abbrev GBL_MODE_MODE : Fld := ⟨.GBL_MODE, 0, 4⟩
abbrev ROOM_GUARD_VALID : Fld := ⟨.ROOM_GUARD, 31, 1⟩
abbrev ROOM_GUARD_RULE : Fld := ⟨.ROOM_GUARD, 29, 2⟩
abbrev ROOM_GUARD_PRIOR_POS : Fld := ⟨.ROOM_GUARD, 23, 6⟩
abbrev ROOM_GUARD_FRAME_INDEX : Fld := ⟨.ROOM_GUARD, 11, 12⟩
abbrev ROOM_GUARD_BIT : Fld := ⟨.ROOM_GUARD, 0, 11⟩
abbrev CLK_ISL_CTRL_REF_SEL : Fld := ⟨.CLK_ISL_CTRL, 27, 3⟩
abbrev CLK_ISL_CTRL_BOND : Fld := ⟨.CLK_ISL_CTRL, 26, 1⟩
abbrev CLK_ISL_CTRL_FLOOR : Fld := ⟨.CLK_ISL_CTRL, 12, 12⟩
abbrev CLK_ISL_CTRL_MULT : Fld := ⟨.CLK_ISL_CTRL, 0, 12⟩
abbrev CLK_ISL_STAT_LOCKED : Fld := ⟨.CLK_ISL_STAT, 31, 1⟩
abbrev CLK_ISL_STAT_RUN : Fld := ⟨.CLK_ISL_STAT, 30, 1⟩
abbrev CLK_ISL_STAT_SLEWING : Fld := ⟨.CLK_ISL_STAT, 29, 1⟩
abbrev CLK_ISL_STAT_UNLOCK_SEEN : Fld := ⟨.CLK_ISL_STAT, 28, 1⟩
abbrev CLK_ISL_STAT_CUR : Fld := ⟨.CLK_ISL_STAT, 0, 12⟩
abbrev ROOM_BANK_FACING : Fld := ⟨.ROOM_BANK, 31, 1⟩
abbrev ROOM_BANK_BONDED : Fld := ⟨.ROOM_BANK, 30, 1⟩
abbrev ROOM_BANK_OVF_IN : Fld := ⟨.ROOM_BANK, 29, 1⟩
abbrev ROOM_BANK_OVF_OUT : Fld := ⟨.ROOM_BANK, 28, 1⟩
abbrev ROOM_BANK_BANK : Fld := ⟨.ROOM_BANK, 0, 5⟩
abbrev ROOM_NCH_EN_EN : Fld := ⟨.ROOM_NCH_EN, 0, 32⟩
abbrev ROOM_NCH_STAT_PEER_UP : Fld := ⟨.ROOM_NCH_STAT, 16, 4⟩
abbrev ROOM_NCH_STAT_TX_REFUSED : Fld := ⟨.ROOM_NCH_STAT, 0, 16⟩
abbrev ROOM_NCH_CNT_REFUSED : Fld := ⟨.ROOM_NCH_CNT, 16, 16⟩
abbrev ROOM_NCH_CNT_FLUSHED : Fld := ⟨.ROOM_NCH_CNT, 0, 16⟩
abbrev ROOM_COR_CTRL_TIMEOUT : Fld := ⟨.ROOM_COR_CTRL, 16, 16⟩
abbrev ROOM_COR_CTRL_TGT_EN : Fld := ⟨.ROOM_COR_CTRL, 4, 4⟩
abbrev ROOM_COR_CTRL_EP_EN : Fld := ⟨.ROOM_COR_CTRL, 0, 4⟩
abbrev ROOM_COR_STAT_OUT_3 : Fld := ⟨.ROOM_COR_STAT, 24, 6⟩
abbrev ROOM_COR_STAT_OUT_2 : Fld := ⟨.ROOM_COR_STAT, 16, 6⟩
abbrev ROOM_COR_STAT_OUT_1 : Fld := ⟨.ROOM_COR_STAT, 8, 6⟩
abbrev ROOM_COR_STAT_OUT_0 : Fld := ⟨.ROOM_COR_STAT, 0, 6⟩
abbrev ROOM_COR_CNT_ORPHAN : Fld := ⟨.ROOM_COR_CNT, 24, 8⟩
abbrev ROOM_COR_CNT_LATE : Fld := ⟨.ROOM_COR_CNT, 16, 8⟩
abbrev ROOM_COR_CNT_TIMEOUT : Fld := ⟨.ROOM_COR_CNT, 8, 8⟩
abbrev ROOM_COR_CNT_BORDER : Fld := ⟨.ROOM_COR_CNT, 0, 8⟩
abbrev ROOM_BRAM_ECC_CORR : Fld := ⟨.ROOM_BRAM_ECC, 16, 16⟩
abbrev ROOM_BRAM_ECC_UNCORR : Fld := ⟨.ROOM_BRAM_ECC, 0, 16⟩
abbrev ROOM_BRAM_EADDR_VALID : Fld := ⟨.ROOM_BRAM_EADDR, 31, 1⟩
abbrev ROOM_BRAM_EADDR_BRAM : Fld := ⟨.ROOM_BRAM_EADDR, 9, 6⟩
abbrev ROOM_BRAM_EADDR_ADDR : Fld := ⟨.ROOM_BRAM_EADDR, 0, 9⟩
abbrev KEEP_VALUE : Fld := ⟨.KEEP, 0, 32⟩
abbrev CFG_STATUS_BUSY : Fld := ⟨.CFG_STATUS, 31, 1⟩
abbrev CFG_STATUS_VPP_GOOD : Fld := ⟨.CFG_STATUS, 30, 1⟩
abbrev CFG_STATUS_RECORD : Fld := ⟨.CFG_STATUS, 28, 2⟩
abbrev CFG_STATUS_SLOT : Fld := ⟨.CFG_STATUS, 26, 2⟩
abbrev CFG_STATUS_VERIFIED : Fld := ⟨.CFG_STATUS, 25, 1⟩
abbrev CFG_STATUS_ENCRYPTED : Fld := ⟨.CFG_STATUS, 24, 1⟩
abbrev CFG_STATUS_STATE : Fld := ⟨.CFG_STATUS, 20, 4⟩
abbrev CFG_BOOT_LOG_TRIES : Fld := ⟨.CFG_BOOT_LOG, 24, 2⟩
abbrev CFG_BOOT_LOG_TRY_2 : Fld := ⟨.CFG_BOOT_LOG, 16, 8⟩
abbrev CFG_BOOT_LOG_TRY_1 : Fld := ⟨.CFG_BOOT_LOG, 8, 8⟩
abbrev CFG_BOOT_LOG_TRY_0 : Fld := ⟨.CFG_BOOT_LOG, 0, 8⟩
abbrev CFG_CW_CTRL_KEY : Fld := ⟨.CFG_CW_CTRL, 24, 8⟩
abbrev CFG_CW_CTRL_OP : Fld := ⟨.CFG_CW_CTRL, 0, 2⟩
abbrev CFG_CW_ADDR_ADDR : Fld := ⟨.CFG_CW_ADDR, 0, 28⟩
abbrev CFG_CW_STAT_DONE : Fld := ⟨.CFG_CW_STAT, 31, 1⟩
abbrev CFG_CW_STAT_RESULT : Fld := ⟨.CFG_CW_STAT, 28, 3⟩
abbrev CFG_CW_STAT_CYCLES : Fld := ⟨.CFG_CW_STAT, 0, 16⟩
abbrev CFG_CW_BUF_DATA : Fld := ⟨.CFG_CW_BUF, 0, 32⟩
abbrev CFG_RENEW_ACTIVE : Fld := ⟨.CFG_RENEW, 31, 1⟩
abbrev CFG_RENEW_RESUMED : Fld := ⟨.CFG_RENEW, 30, 1⟩
abbrev CFG_RENEW_REWRITTEN : Fld := ⟨.CFG_RENEW, 0, 12⟩
abbrev ROOM_CLAMP_CODE : Fld := ⟨.ROOM_CLAMP, 0, 32⟩
abbrev ROOM_SWAP_CFG_DRAIN_ABORT : Fld := ⟨.ROOM_SWAP_CFG, 31, 1⟩
abbrev ROOM_SWAP_CFG_DRAIN_TO : Fld := ⟨.ROOM_SWAP_CFG, 0, 16⟩
abbrev ROOM_SCRUB_CFG_FAIL_RESET : Fld := ⟨.ROOM_SCRUB_CFG, 3, 1⟩
abbrev ROOM_SCRUB_CFG_SHADOW_EN : Fld := ⟨.ROOM_SCRUB_CFG, 2, 1⟩
abbrev ROOM_SCRUB_CFG_MODE : Fld := ⟨.ROOM_SCRUB_CFG, 0, 2⟩
abbrev ROOM_LOAD_CTRL_KEY : Fld := ⟨.ROOM_LOAD_CTRL, 24, 8⟩
abbrev ROOM_LOAD_CTRL_OP : Fld := ⟨.ROOM_LOAD_CTRL, 0, 3⟩
abbrev ROOM_LOAD_SRC_SRC : Fld := ⟨.ROOM_LOAD_SRC, 30, 2⟩
abbrev ROOM_LOAD_SRC_BLOCK : Fld := ⟨.ROOM_LOAD_SRC, 0, 10⟩
abbrev ROOM_PLANE_STAT_SH_STATE : Fld := ⟨.ROOM_PLANE_STAT, 29, 3⟩
abbrev ROOM_PLANE_STAT_SH_VERIFIED : Fld := ⟨.ROOM_PLANE_STAT, 28, 1⟩
abbrev ROOM_PLANE_STAT_SH_KEEP_BRAM : Fld := ⟨.ROOM_PLANE_STAT, 27, 1⟩
abbrev ROOM_PLANE_STAT_SH_SRC : Fld := ⟨.ROOM_PLANE_STAT, 25, 2⟩
abbrev ROOM_PLANE_STAT_SH_BLOCK : Fld := ⟨.ROOM_PLANE_STAT, 15, 10⟩
abbrev ROOM_PLANE_STAT_ACT_STATE : Fld := ⟨.ROOM_PLANE_STAT, 13, 2⟩
abbrev ROOM_PLANE_STAT_ACT_VERIFIED : Fld := ⟨.ROOM_PLANE_STAT, 12, 1⟩
abbrev ROOM_PLANE_STAT_ACT_SRC : Fld := ⟨.ROOM_PLANE_STAT, 10, 2⟩
abbrev ROOM_PLANE_STAT_ACT_BLOCK : Fld := ⟨.ROOM_PLANE_STAT, 0, 10⟩
abbrev ROOM_LOAD_STAT_DONE : Fld := ⟨.ROOM_LOAD_STAT, 31, 1⟩
abbrev ROOM_LOAD_STAT_RESULT : Fld := ⟨.ROOM_LOAD_STAT, 28, 3⟩
abbrev ROOM_LOAD_STAT_SOURCE : Fld := ⟨.ROOM_LOAD_STAT, 16, 7⟩
abbrev ROOM_LOAD_STAT_HOLD_TICKS : Fld := ⟨.ROOM_LOAD_STAT, 0, 16⟩
abbrev ROOM_SWAP_ARM_TRIG : Fld := ⟨.ROOM_SWAP_ARM, 30, 2⟩
abbrev ROOM_SWAP_ARM_UNIT : Fld := ⟨.ROOM_SWAP_ARM, 28, 2⟩
abbrev ROOM_SWAP_ARM_CODE : Fld := ⟨.ROOM_SWAP_ARM, 0, 14⟩
abbrev ROOM_SWAP_AT_REV_EN : Fld := ⟨.ROOM_SWAP_AT, 31, 1⟩
abbrev ROOM_SWAP_AT_REV : Fld := ⟨.ROOM_SWAP_AT, 16, 14⟩
abbrev ROOM_SWAP_AT_ANGLE : Fld := ⟨.ROOM_SWAP_AT, 0, 16⟩
abbrev ROOM_SCRUB_STAT_RUNNING : Fld := ⟨.ROOM_SCRUB_STAT, 31, 1⟩
abbrev ROOM_SCRUB_STAT_PLANE : Fld := ⟨.ROOM_SCRUB_STAT, 30, 1⟩
abbrev ROOM_SCRUB_STAT_POSITION : Fld := ⟨.ROOM_SCRUB_STAT, 16, 12⟩
abbrev ROOM_SCRUB_STAT_PASSES : Fld := ⟨.ROOM_SCRUB_STAT, 0, 16⟩
abbrev ROOM_SCRUB_CNT_REPAIRED : Fld := ⟨.ROOM_SCRUB_CNT, 16, 16⟩
abbrev ROOM_SCRUB_CNT_FAILED : Fld := ⟨.ROOM_SCRUB_CNT, 0, 16⟩
abbrev ROOM_SCRUB_LAST_ADDR : Fld := ⟨.ROOM_SCRUB_LAST, 12, 20⟩
abbrev ROOM_SCRUB_LAST_FAILED : Fld := ⟨.ROOM_SCRUB_LAST, 0, 1⟩
abbrev ROOM_BRAM_SRC_VALID : Fld := ⟨.ROOM_BRAM_SRC, 31, 1⟩
abbrev ROOM_BRAM_SRC_SRC : Fld := ⟨.ROOM_BRAM_SRC, 10, 2⟩
abbrev ROOM_BRAM_SRC_BLOCK : Fld := ⟨.ROOM_BRAM_SRC, 0, 10⟩
abbrev LAR_CTRL_WB_EN : Fld := ⟨.LAR_CTRL, 0, 1⟩
abbrev LAR_EADDR_VALID : Fld := ⟨.LAR_EADDR, 31, 1⟩
abbrev LAR_EADDR_PORT : Fld := ⟨.LAR_EADDR, 30, 1⟩
abbrev LAR_EADDR_REQ : Fld := ⟨.LAR_EADDR, 21, 7⟩
abbrev LAR_EADDR_WADDR : Fld := ⟨.LAR_EADDR, 0, 21⟩
abbrev LAR_TEST_CTRL_PASS : Fld := ⟨.LAR_TEST_CTRL, 31, 1⟩
abbrev LAR_TEST_CTRL_ONE : Fld := ⟨.LAR_TEST_CTRL, 30, 1⟩
abbrev LAR_TEST_CTRL_STOP : Fld := ⟨.LAR_TEST_CTRL, 29, 1⟩
abbrev LAR_TEST_CTRL_REGION : Fld := ⟨.LAR_TEST_CTRL, 0, 14⟩
abbrev LAR_TEST_STAT_BUSY : Fld := ⟨.LAR_TEST_STAT, 31, 1⟩
abbrev LAR_TEST_STAT_PHASE : Fld := ⟨.LAR_TEST_STAT, 29, 2⟩
abbrev LAR_TEST_STAT_IN_PASS : Fld := ⟨.LAR_TEST_STAT, 28, 1⟩
abbrev LAR_TEST_STAT_SPARE : Fld := ⟨.LAR_TEST_STAT, 27, 1⟩
abbrev LAR_TEST_STAT_REGION : Fld := ⟨.LAR_TEST_STAT, 0, 14⟩
abbrev LAR_TEST_CNT_PASSES : Fld := ⟨.LAR_TEST_CNT, 16, 16⟩
abbrev LAR_TEST_CNT_REPAIRED : Fld := ⟨.LAR_TEST_CNT, 8, 8⟩
abbrev LAR_TEST_CNT_UNREPAIRED : Fld := ⟨.LAR_TEST_CNT, 0, 8⟩
abbrev LAR_QSTAT_STATE : Fld := ⟨.LAR_QSTAT, 30, 2⟩
abbrev LAR_QSTAT_TEST_HERE : Fld := ⟨.LAR_QSTAT, 29, 1⟩
abbrev LAR_ECC_CORR : Fld := ⟨.LAR_ECC, 16, 16⟩
abbrev LAR_ECC_UNCORR : Fld := ⟨.LAR_ECC, 0, 16⟩
abbrev LAR_QCNT_DOWN : Fld := ⟨.LAR_QCNT, 16, 16⟩
abbrev LAR_QCNT_OVERWRITTEN : Fld := ⟨.LAR_QCNT, 0, 16⟩
abbrev LAR_SPARE_ROW_ROW_3 : Fld := ⟨.LAR_SPARE_ROW, 24, 8⟩
abbrev LAR_SPARE_ROW_ROW_2 : Fld := ⟨.LAR_SPARE_ROW, 16, 8⟩
abbrev LAR_SPARE_ROW_ROW_1 : Fld := ⟨.LAR_SPARE_ROW, 8, 8⟩
abbrev LAR_SPARE_ROW_ROW_0 : Fld := ⟨.LAR_SPARE_ROW, 0, 8⟩
abbrev LAR_SPARE_FLG_BAD : Fld := ⟨.LAR_SPARE_FLG, 4, 4⟩
abbrev LAR_SPARE_FLG_USED : Fld := ⟨.LAR_SPARE_FLG, 0, 4⟩
abbrev LAR_CONF_COUNT : Fld := ⟨.LAR_CONF, 0, 32⟩
abbrev ARB_CTRL_FREEZE : Fld := ⟨.ARB_CTRL, 31, 1⟩
abbrev ARB_STAT_DRAINED : Fld := ⟨.ARB_STAT, 31, 1⟩
abbrev ARB_STAT_HELD : Fld := ⟨.ARB_STAT, 30, 1⟩
abbrev ARB_STAT_OWNER : Fld := ⟨.ARB_STAT, 16, 7⟩
abbrev ARB_STAT_WAITING : Fld := ⟨.ARB_STAT, 8, 8⟩
abbrev ARB_WDOG_LIMIT : Fld := ⟨.ARB_WDOG, 0, 24⟩
abbrev ARB_VOID_COUNT : Fld := ⟨.ARB_VOID, 0, 32⟩
abbrev ARB_FENCE_LOG_VALID : Fld := ⟨.ARB_FENCE_LOG, 31, 1⟩
abbrev ARB_FENCE_LOG_REQ : Fld := ⟨.ARB_FENCE_LOG, 16, 7⟩
abbrev ARB_FENCE_LOG_BEATS : Fld := ⟨.ARB_FENCE_LOG, 0, 16⟩
abbrev ARB_REQ_CFG_CLASS : Fld := ⟨.ARB_REQ_CFG, 28, 2⟩
abbrev ARB_REQ_CFG_BURST : Fld := ⟨.ARB_REQ_CFG, 16, 8⟩
abbrev ARB_REQ_CFG_WAIT_LIMIT : Fld := ⟨.ARB_REQ_CFG, 0, 16⟩
abbrev ARB_REQ_STAT_FENCED : Fld := ⟨.ARB_REQ_STAT, 31, 1⟩
abbrev ARB_REQ_STAT_HOLDS : Fld := ⟨.ARB_REQ_STAT, 30, 1⟩
abbrev ARB_REQ_STAT_WAITS : Fld := ⟨.ARB_REQ_STAT, 29, 1⟩
abbrev ARB_REQ_STAT_BOOSTED : Fld := ⟨.ARB_REQ_STAT, 28, 1⟩
abbrev ARB_REQ_STAT_PLACE : Fld := ⟨.ARB_REQ_STAT, 24, 4⟩
abbrev ARB_REQ_STAT_ETA : Fld := ⟨.ARB_REQ_STAT, 16, 8⟩
abbrev ARB_REQ_STAT_FENCE_HITS : Fld := ⟨.ARB_REQ_STAT, 0, 12⟩
abbrev ARB_REQ_GRANTS_COUNT : Fld := ⟨.ARB_REQ_GRANTS, 0, 32⟩
abbrev ARB_REQ_WAIT_COUNT : Fld := ⟨.ARB_REQ_WAIT, 0, 32⟩
abbrev ARB_REQ_MAXWAIT_CYCLES : Fld := ⟨.ARB_REQ_MAXWAIT, 0, 32⟩
abbrev DRC_CFG_MIRROR : Fld := ⟨.DRC_CFG, 4, 1⟩
abbrev DRC_CFG_WB_EN : Fld := ⟨.DRC_CFG, 3, 1⟩
abbrev DRC_CFG_LOSE_OK : Fld := ⟨.DRC_CFG, 2, 1⟩
abbrev DRC_CFG_DEVTYPE : Fld := ⟨.DRC_CFG, 0, 2⟩
abbrev DRC_TIMING_TXS : Fld := ⟨.DRC_TIMING, 24, 4⟩
abbrev DRC_TIMING_TRTW : Fld := ⟨.DRC_TIMING, 20, 4⟩
abbrev DRC_TIMING_TWTR : Fld := ⟨.DRC_TIMING, 16, 4⟩
abbrev DRC_TIMING_TRC : Fld := ⟨.DRC_TIMING, 8, 5⟩
abbrev DRC_TIMING_RL : Fld := ⟨.DRC_TIMING, 0, 5⟩
abbrev DRC_REF_HOT : Fld := ⟨.DRC_REF, 31, 1⟩
abbrev DRC_REF_REF_MODE : Fld := ⟨.DRC_REF, 28, 2⟩
abbrev DRC_REF_REF_INT : Fld := ⟨.DRC_REF, 0, 16⟩
abbrev DRC_REF_AUX_IDLE_SR : Fld := ⟨.DRC_REF_AUX, 16, 16⟩
abbrev DRC_REF_AUX_REF_INT_HOT : Fld := ⟨.DRC_REF_AUX, 0, 16⟩
abbrev DRC_CTRL_KEY : Fld := ⟨.DRC_CTRL, 24, 8⟩
abbrev DRC_CTRL_OP : Fld := ⟨.DRC_CTRL, 0, 3⟩
abbrev DRC_STAT_STATE : Fld := ⟨.DRC_STAT, 29, 3⟩
abbrev DRC_STAT_DONE : Fld := ⟨.DRC_STAT, 28, 1⟩
abbrev DRC_STAT_RESULT : Fld := ⟨.DRC_STAT, 26, 2⟩
abbrev DRC_STAT_IN_ORDER : Fld := ⟨.DRC_STAT, 25, 1⟩
abbrev DRC_STAT_QUEUE : Fld := ⟨.DRC_STAT, 16, 6⟩
abbrev DRC_STAT_FAIL_STEP : Fld := ⟨.DRC_STAT, 8, 3⟩
abbrev DRC_STAT_FAIL_PIN : Fld := ⟨.DRC_STAT, 0, 8⟩
abbrev DRC_ECC_CORR : Fld := ⟨.DRC_ECC, 16, 16⟩
abbrev DRC_ECC_UNCORR : Fld := ⟨.DRC_ECC, 0, 16⟩
abbrev DRC_EADDR_VALID : Fld := ⟨.DRC_EADDR, 31, 1⟩
abbrev DRC_EADDR_REQ : Fld := ⟨.DRC_EADDR, 24, 7⟩
abbrev DRC_EADDR_PIN : Fld := ⟨.DRC_EADDR, 23, 1⟩
abbrev DRC_EADDR_BURST : Fld := ⟨.DRC_EADDR, 0, 23⟩
abbrev DRC_CNT_IN_ORDER : Fld := ⟨.DRC_CNT, 16, 16⟩
abbrev DRC_CNT_SR_ENTRIES : Fld := ⟨.DRC_CNT, 0, 16⟩
abbrev DRC_RESYNC_SHARE : Fld := ⟨.DRC_RESYNC, 24, 4⟩
abbrev DRC_RESYNC_PROGRESS : Fld := ⟨.DRC_RESYNC, 0, 23⟩
abbrev EVT_ANG_CFG_EN : Fld := ⟨.EVT_ANG_CFG, 31, 1⟩
abbrev EVT_ANG_CFG_Z_EN : Fld := ⟨.EVT_ANG_CFG, 30, 1⟩
abbrev EVT_ANG_CFG_DIR_INV : Fld := ⟨.EVT_ANG_CFG, 29, 1⟩
abbrev EVT_ANG_CFG_MODE : Fld := ⟨.EVT_ANG_CFG, 27, 2⟩
abbrev EVT_ANG_CFG_HIST : Fld := ⟨.EVT_ANG_CFG, 23, 4⟩
abbrev EVT_ANG_CFG_FILT : Fld := ⟨.EVT_ANG_CFG, 8, 8⟩
abbrev EVT_ANG_CFG_Z_TOL : Fld := ⟨.EVT_ANG_CFG, 0, 8⟩
abbrev EVT_ANG_INC_INC : Fld := ⟨.EVT_ANG_INC, 0, 32⟩
abbrev EVT_ANG_LIM_STALL_TO : Fld := ⟨.EVT_ANG_LIM, 16, 16⟩
abbrev EVT_ANG_LIM_ZOFF : Fld := ⟨.EVT_ANG_LIM, 0, 16⟩
abbrev EVT_ANG_ERR_ERR_LAST : Fld := ⟨.EVT_ANG_ERR, 24, 8⟩
abbrev EVT_ANG_ERR_ERR_MAX : Fld := ⟨.EVT_ANG_ERR, 16, 8⟩
abbrev EVT_ANG_ERR_PERR_TOL : Fld := ⟨.EVT_ANG_ERR, 0, 8⟩
abbrev EVT_ANG_ANGLE_ANGLE : Fld := ⟨.EVT_ANG_ANGLE, 16, 16⟩
abbrev EVT_ANG_ANGLE_FRAC : Fld := ⟨.EVT_ANG_ANGLE, 0, 16⟩
abbrev EVT_ANG_REV_REV : Fld := ⟨.EVT_ANG_REV, 0, 32⟩
abbrev EVT_ANG_STAT_ZSYNC : Fld := ⟨.EVT_ANG_STAT, 31, 1⟩
abbrev EVT_ANG_STAT_STALL : Fld := ⟨.EVT_ANG_STAT, 30, 1⟩
abbrev EVT_ANG_STAT_DIR : Fld := ⟨.EVT_ANG_STAT, 29, 1⟩
abbrev EVT_ANG_STAT_STALL_SEEN : Fld := ⟨.EVT_ANG_STAT, 28, 1⟩
abbrev EVT_ANG_STAT_PERR_SEEN : Fld := ⟨.EVT_ANG_STAT, 27, 1⟩
abbrev EVT_ANG_STAT_QERR_SEEN : Fld := ⟨.EVT_ANG_STAT, 26, 1⟩
abbrev EVT_ANG_STAT_ZERR_SEEN : Fld := ⟨.EVT_ANG_STAT, 25, 1⟩
abbrev EVT_ANG_STAT_HISTN : Fld := ⟨.EVT_ANG_STAT, 20, 5⟩
abbrev EVT_ANG_IVL_T_AVG : Fld := ⟨.EVT_ANG_IVL, 0, 32⟩
abbrev QUEUE_W0_STATE : Fld := ⟨.QUEUE_W0, 30, 2⟩
abbrev QUEUE_W0_ECHO : Fld := ⟨.QUEUE_W0, 28, 1⟩
abbrev QUEUE_W0_LATE : Fld := ⟨.QUEUE_W0, 25, 3⟩
abbrev QUEUE_W0_SIZE : Fld := ⟨.QUEUE_W0, 21, 4⟩
abbrev QUEUE_W0_BASE : Fld := ⟨.QUEUE_W0, 0, 21⟩
abbrev QUEUE_W1_TAIL : Fld := ⟨.QUEUE_W1, 16, 16⟩
abbrev QUEUE_W1_HEAD : Fld := ⟨.QUEUE_W1, 0, 16⟩
abbrev QUEUE_W2_DEF_PROFILE : Fld := ⟨.QUEUE_W2, 26, 6⟩
abbrev QUEUE_W2_SLACK_SCALE : Fld := ⟨.QUEUE_W2, 22, 4⟩
abbrev QUEUE_W2_FEED : Fld := ⟨.QUEUE_W2, 16, 6⟩
abbrev QUEUE_W2_TARGET : Fld := ⟨.QUEUE_W2, 0, 16⟩
abbrev QUEUE_W3_FORCED : Fld := ⟨.QUEUE_W3, 24, 8⟩
abbrev QUEUE_W3_LATE : Fld := ⟨.QUEUE_W3, 16, 8⟩
abbrev QUEUE_W3_FIRED : Fld := ⟨.QUEUE_W3, 0, 16⟩
abbrev EVT_TIME_LO_TIME : Fld := ⟨.EVT_TIME_LO, 0, 32⟩
abbrev EVT_TIME_HI_TIME : Fld := ⟨.EVT_TIME_HI, 0, 32⟩
abbrev EVT_TIME_CFG_REF_SEL : Fld := ⟨.EVT_TIME_CFG, 27, 3⟩
abbrev EVT_TIME_CFG_MULT : Fld := ⟨.EVT_TIME_CFG, 0, 12⟩
abbrev EVT_TIME_STAT_TB_LOCKED : Fld := ⟨.EVT_TIME_STAT, 31, 1⟩
abbrev EVT_TIME_STAT_COUNTING : Fld := ⟨.EVT_TIME_STAT, 30, 1⟩
abbrev EVT_TIME_STAT_TB_UNLOCK_SEEN : Fld := ⟨.EVT_TIME_STAT, 29, 1⟩
abbrev EVT_TIME_STAT_GAP : Fld := ⟨.EVT_TIME_STAT, 28, 1⟩
abbrev EVT_CTRL_FLUSH_OK : Fld := ⟨.EVT_CTRL, 1, 1⟩
abbrev EVT_CTRL_STOP_ALL : Fld := ⟨.EVT_CTRL, 0, 1⟩
abbrev EVT_QFAULT_VALID : Fld := ⟨.EVT_QFAULT, 31, 1⟩
abbrev EVT_QFAULT_CAUSE : Fld := ⟨.EVT_QFAULT, 28, 3⟩
abbrev EVT_QFAULT_QUEUE : Fld := ⟨.EVT_QFAULT, 0, 14⟩
abbrev EVT_POST_CNT_FULL : Fld := ⟨.EVT_POST_CNT, 16, 16⟩
abbrev EVT_POST_CNT_STATE : Fld := ⟨.EVT_POST_CNT, 0, 16⟩
abbrev EVT_QSUM_ENTRIES : Fld := ⟨.EVT_QSUM, 0, 21⟩
abbrev EVT_ECHO_CFG_EN : Fld := ⟨.EVT_ECHO_CFG, 31, 1⟩
abbrev EVT_ECHO_CFG_SIZE : Fld := ⟨.EVT_ECHO_CFG, 21, 4⟩
abbrev EVT_ECHO_CFG_BASE : Fld := ⟨.EVT_ECHO_CFG, 0, 21⟩
abbrev EVT_ECHO_CTL_CTRL_WA : Fld := ⟨.EVT_ECHO_CTL, 0, 21⟩
abbrev EVT_ECHO_STAT_TAIL : Fld := ⟨.EVT_ECHO_STAT, 16, 16⟩
abbrev EVT_ECHO_STAT_OVERRUN : Fld := ⟨.EVT_ECHO_STAT, 0, 16⟩
abbrev EVT_QGRP_ECHO_RING : Fld := ⟨.EVT_QGRP, 2, 2⟩
abbrev EVT_QGRP_UNIT : Fld := ⟨.EVT_QGRP, 0, 2⟩
abbrev EVT_PROF_DRV_PULL_CODE : Fld := ⟨.EVT_PROF_DRV, 30, 2⟩
abbrev EVT_PROF_DRV_HOLD_CODE : Fld := ⟨.EVT_PROF_DRV, 28, 2⟩
abbrev EVT_PROF_DRV_TSCALE : Fld := ⟨.EVT_PROF_DRV, 24, 4⟩
abbrev EVT_PROF_DRV_PULL_DUR : Fld := ⟨.EVT_PROF_DRV, 12, 12⟩
abbrev EVT_PROF_DRV_HOLD_DUR : Fld := ⟨.EVT_PROF_DRV, 0, 12⟩
abbrev EVT_PROF_CUR_PW_SCALE : Fld := ⟨.EVT_PROF_CUR, 28, 4⟩
abbrev EVT_PROF_CUR_PULL_I : Fld := ⟨.EVT_PROF_CUR, 16, 12⟩
abbrev EVT_PROF_CUR_HOLD_I : Fld := ⟨.EVT_PROF_CUR, 0, 10⟩
abbrev EVT_FEED_CFG_MEAS_EN : Fld := ⟨.EVT_FEED_CFG, 31, 1⟩
abbrev EVT_FEED_CFG_SRC : Fld := ⟨.EVT_FEED_CFG, 25, 6⟩
abbrev EVT_FEED_CFG_BUDGET : Fld := ⟨.EVT_FEED_CFG, 0, 16⟩
abbrev EVT_FEED_STAT_OVER : Fld := ⟨.EVT_FEED_STAT, 31, 1⟩
abbrev EVT_FEED_STAT_MEAS_VALID : Fld := ⟨.EVT_FEED_STAT, 30, 1⟩
abbrev EVT_FEED_STAT_MODEL : Fld := ⟨.EVT_FEED_STAT, 0, 20⟩
abbrev EVT_FEED_MEAS_MEAS : Fld := ⟨.EVT_FEED_MEAS, 16, 16⟩
abbrev EVT_FEED_MEAS_OFS : Fld := ⟨.EVT_FEED_MEAS, 0, 16⟩
abbrev EVT_FEED_CNT_FORCED : Fld := ⟨.EVT_FEED_CNT, 16, 16⟩
abbrev EVT_FEED_CNT_DEFERRED : Fld := ⟨.EVT_FEED_CNT, 0, 16⟩
abbrev EVT_RATE_PEAK : Fld := ⟨.EVT_RATE, 16, 16⟩
abbrev EVT_RATE_CAP_LATE : Fld := ⟨.EVT_RATE, 0, 16⟩
abbrev EVT_MARK_ROOMS_LO_ROOMS : Fld := ⟨.EVT_MARK_ROOMS_LO, 0, 32⟩
abbrev EVT_MARK_ROOMS_HI_ROOMS : Fld := ⟨.EVT_MARK_ROOMS_HI, 0, 32⟩
abbrev EVT_DPIN_EN : Fld := ⟨.EVT_DPIN, 31, 1⟩
abbrev EVT_DPIN_INV : Fld := ⟨.EVT_DPIN, 30, 1⟩
abbrev EVT_DPIN_FINE : Fld := ⟨.EVT_DPIN, 25, 5⟩
abbrev EVT_DPIN_BANK : Fld := ⟨.EVT_DPIN, 6, 5⟩
abbrev EVT_DPIN_PIN : Fld := ⟨.EVT_DPIN, 0, 6⟩
abbrev EVT_EVP_EN : Fld := ⟨.EVT_EVP, 31, 1⟩
abbrev EVT_EVP_QHI : Fld := ⟨.EVT_EVP, 16, 14⟩
abbrev EVT_EVP_QLO : Fld := ⟨.EVT_EVP, 0, 14⟩
abbrev EVT_EVP_CNT_DROPPED : Fld := ⟨.EVT_EVP_CNT, 16, 16⟩
abbrev EVT_EVP_CNT_REFUSED : Fld := ⟨.EVT_EVP_CNT, 0, 16⟩
abbrev EVT_PLY_CTRL_RUN : Fld := ⟨.EVT_PLY_CTRL, 31, 1⟩
abbrev EVT_PLY_CTRL_KEEP_IMAGE : Fld := ⟨.EVT_PLY_CTRL, 30, 1⟩
abbrev EVT_PLY_CTRL_ANGLE_UNIT : Fld := ⟨.EVT_PLY_CTRL, 28, 2⟩
abbrev EVT_PLY_CTRL_LEAD : Fld := ⟨.EVT_PLY_CTRL, 24, 4⟩
abbrev EVT_PLY_CTRL_CHAN : Fld := ⟨.EVT_PLY_CTRL, 22, 2⟩
abbrev EVT_PLY_CTRL_QBASE : Fld := ⟨.EVT_PLY_CTRL, 0, 14⟩
abbrev EVT_PLY_ADDR_WA : Fld := ⟨.EVT_PLY_ADDR, 0, 24⟩
abbrev EVT_PLY_REV_REV : Fld := ⟨.EVT_PLY_REV, 0, 32⟩
abbrev EVT_PLY_STAT_STATE : Fld := ⟨.EVT_PLY_STAT, 29, 3⟩
abbrev EVT_PLY_STAT_CAUSE : Fld := ⟨.EVT_PLY_STAT, 26, 3⟩
abbrev EVT_PLY_STAT_PICKS : Fld := ⟨.EVT_PLY_STAT, 0, 16⟩
abbrev EVT_PLY_CNT_EVENTS : Fld := ⟨.EVT_PLY_CNT, 16, 16⟩
abbrev EVT_PLY_CNT_STALLS : Fld := ⟨.EVT_PLY_CNT, 0, 16⟩
abbrev STG_CFG_EN : Fld := ⟨.STG_CFG, 31, 1⟩
abbrev STG_CFG_AUTO_TRAIN : Fld := ⟨.STG_CFG, 30, 1⟩
abbrev STG_CFG_ID_LOCK : Fld := ⟨.STG_CFG, 29, 1⟩
abbrev STG_CFG_FAULT_POL : Fld := ⟨.STG_CFG, 24, 2⟩
abbrev STG_CTRL_KEY : Fld := ⟨.STG_CTRL, 24, 8⟩
abbrev STG_CTRL_OP : Fld := ⟨.STG_CTRL, 0, 2⟩
abbrev STG_STAT_STATE : Fld := ⟨.STG_STAT, 30, 2⟩
abbrev STG_STAT_DONE : Fld := ⟨.STG_STAT, 29, 1⟩
abbrev STG_STAT_RESULT : Fld := ⟨.STG_STAT, 27, 2⟩
abbrev STG_STAT_FAIL_STEP : Fld := ⟨.STG_STAT, 24, 3⟩
abbrev STG_STAT_RDLY : Fld := ⟨.STG_STAT, 20, 4⟩
abbrev STG_STAT_OFFSET : Fld := ⟨.STG_STAT, 10, 10⟩
abbrev STG_STAT_PHASE : Fld := ⟨.STG_STAT, 6, 4⟩
abbrev STG_CNT_BAD_RX : Fld := ⟨.STG_CNT, 16, 16⟩
abbrev STG_CNT_FWD_REJ : Fld := ⟨.STG_CNT, 0, 16⟩
abbrev STG_TELEM_CURRENT : Fld := ⟨.STG_TELEM, 16, 16⟩
abbrev STG_TELEM_TEMP : Fld := ⟨.STG_TELEM, 8, 8⟩
abbrev STG_BFLT_WDOG_SEEN : Fld := ⟨.STG_BFLT, 31, 1⟩
abbrev STG_BFLT_BFLAGS : Fld := ⟨.STG_BFLT, 0, 16⟩
abbrev STG_ID_BOARD_ID : Fld := ⟨.STG_ID, 0, 32⟩
abbrev STG_ID_EXP_ID_EXP : Fld := ⟨.STG_ID_EXP, 0, 32⟩
abbrev STG_CHST_STATUS : Fld := ⟨.STG_CHST, 0, 32⟩
abbrev STG_COIL_FAULT : Fld := ⟨.STG_COIL, 0, 32⟩
abbrev HBT_CFG_EN : Fld := ⟨.HBT_CFG, 31, 1⟩
abbrev HBT_CFG_MIR_EN : Fld := ⟨.HBT_CFG, 30, 1⟩
abbrev HBT_CFG_MIR_SIZE : Fld := ⟨.HBT_CFG, 21, 3⟩
abbrev HBT_CFG_MIR_BASE : Fld := ⟨.HBT_CFG, 0, 21⟩
abbrev HBT_MIR_GAP_GAP : Fld := ⟨.HBT_MIR_GAP, 0, 16⟩
abbrev HBT_STAT_CLK_RUN : Fld := ⟨.HBT_STAT, 31, 1⟩
abbrev HBT_STAT_PASSES : Fld := ⟨.HBT_STAT, 0, 16⟩
abbrev RFX_IN_POL_LO_POL : Fld := ⟨.RFX_IN_POL_LO, 0, 32⟩
abbrev RFX_IN_POL_HI_POL : Fld := ⟨.RFX_IN_POL_HI, 0, 32⟩
abbrev RFX_FIRED_LO_FIRED : Fld := ⟨.RFX_FIRED_LO, 0, 32⟩
abbrev RFX_FIRED_HI_FIRED : Fld := ⟨.RFX_FIRED_HI, 0, 32⟩
abbrev RFX_CELL_SEL_LO_SEL : Fld := ⟨.RFX_CELL_SEL_LO, 0, 32⟩
abbrev RFX_CELL_SEL_HI_SEL : Fld := ⟨.RFX_CELL_SEL_HI, 0, 32⟩
abbrev RFX_CELL_CTRL_ARM : Fld := ⟨.RFX_CELL_CTRL, 31, 1⟩
abbrev RFX_CELL_CTRL_CLEAR : Fld := ⟨.RFX_CELL_CTRL, 30, 1⟩
abbrev RFX_CELL_CTRL_FIRE_VAL : Fld := ⟨.RFX_CELL_CTRL, 29, 1⟩
abbrev RFX_CELL_CTRL_FILT : Fld := ⟨.RFX_CELL_CTRL, 24, 4⟩
abbrev RFX_CELL_STAT_STATE : Fld := ⟨.RFX_CELL_STAT, 30, 2⟩
abbrev RFX_CELL_STAT_CLR_REFUSED : Fld := ⟨.RFX_CELL_STAT, 29, 1⟩
abbrev RFX_CELL_STAT_FIRED_BY : Fld := ⟨.RFX_CELL_STAT, 23, 6⟩
abbrev RFX_CELL_STAT_FIRES : Fld := ⟨.RFX_CELL_STAT, 0, 16⟩
abbrev RFX_CELL_TIME_FIRE_TIME : Fld := ⟨.RFX_CELL_TIME, 0, 30⟩
abbrev GOV_CTRL_RELAX : Fld := ⟨.GOV_CTRL, 24, 8⟩
abbrev GOV_CTRL_STEP : Fld := ⟨.GOV_CTRL, 0, 12⟩
abbrev GOV_STAT_LEVEL : Fld := ⟨.GOV_STAT, 29, 3⟩
abbrev GOV_STAT_OVER : Fld := ⟨.GOV_STAT, 28, 1⟩
abbrev GOV_STAT_CLEAR : Fld := ⟨.GOV_STAT, 27, 1⟩
abbrev GOV_STAT_TCRIT : Fld := ⟨.GOV_STAT, 26, 1⟩
abbrev GOV_STAT_AVS_FAIL : Fld := ⟨.GOV_STAT, 25, 1⟩
abbrev GOV_STAT_AVS_BUSY : Fld := ⟨.GOV_STAT, 24, 1⟩
abbrev GOV_STAT_VCC_SET : Fld := ⟨.GOV_STAT, 0, 16⟩
abbrev GOV_PLIM_P_SHORT : Fld := ⟨.GOV_PLIM, 16, 16⟩
abbrev GOV_PLIM_P_LONG : Fld := ⟨.GOV_PLIM, 0, 16⟩
abbrev GOV_PAUX_P_HYST : Fld := ⟨.GOV_PAUX, 16, 16⟩
abbrev GOV_PAUX_P_AUX : Fld := ⟨.GOV_PAUX, 0, 16⟩
abbrev GOV_TLIM_TJ_CRIT : Fld := ⟨.GOV_TLIM, 24, 8⟩
abbrev GOV_TLIM_TJ_LIM : Fld := ⟨.GOV_TLIM, 16, 8⟩
abbrev GOV_TLIM_TJ_HYST : Fld := ⟨.GOV_TLIM, 8, 8⟩
abbrev GOV_PWR_SHORT : Fld := ⟨.GOV_PWR, 16, 16⟩
abbrev GOV_PWR_LONG : Fld := ⟨.GOV_PWR, 0, 16⟩
abbrev GOV_TMAX_SENSOR : Fld := ⟨.GOV_TMAX, 16, 7⟩
abbrev GOV_TMAX_TEMP : Fld := ⟨.GOV_TMAX, 0, 16⟩
abbrev GOV_VCC_MARGIN : Fld := ⟨.GOV_VCC, 24, 8⟩
abbrev GOV_VCC_VSRAM_RUN : Fld := ⟨.GOV_VCC, 12, 12⟩
abbrev GOV_VCC_VSRAM_RET : Fld := ⟨.GOV_VCC, 0, 12⟩
abbrev GOV_AVS_RAIL_VCC : Fld := ⟨.GOV_AVS, 28, 4⟩
abbrev GOV_AVS_RAIL_SRAM : Fld := ⟨.GOV_AVS, 24, 4⟩
abbrev GOV_AVS_TO : Fld := ⟨.GOV_AVS, 16, 8⟩
abbrev GOV_AVS_TOL : Fld := ⟨.GOV_AVS, 8, 8⟩
abbrev GOV_AVS_DIV : Fld := ⟨.GOV_AVS, 0, 5⟩
abbrev GOV_AVS_STAT_I_VCC : Fld := ⟨.GOV_AVS_STAT, 16, 16⟩
abbrev GOV_AVS_STAT_I_SRAM : Fld := ⟨.GOV_AVS_STAT, 0, 16⟩
abbrev GOV_SLEEP_DELAY_MAX : Fld := ⟨.GOV_SLEEP, 24, 8⟩
abbrev GOV_SLEEP_QP_TO : Fld := ⟨.GOV_SLEEP, 16, 8⟩
abbrev GOV_SLEEP_TRIES : Fld := ⟨.GOV_SLEEP, 8, 8⟩
abbrev GOV_SLEEP_RETRY : Fld := ⟨.GOV_SLEEP, 0, 8⟩
abbrev GOV_SLEEP_STAT_PHASE : Fld := ⟨.GOV_SLEEP_STAT, 28, 4⟩
abbrev GOV_SLEEP_STAT_ATTEMPT : Fld := ⟨.GOV_SLEEP_STAT, 24, 4⟩
abbrev GOV_SLEEP_STAT_RVALID : Fld := ⟨.GOV_SLEEP_STAT, 23, 1⟩
abbrev GOV_SLEEP_STAT_RKIND : Fld := ⟨.GOV_SLEEP_STAT, 20, 3⟩
abbrev GOV_SLEEP_STAT_RCODE : Fld := ⟨.GOV_SLEEP_STAT, 18, 2⟩
abbrev GOV_SLEEP_STAT_RINDEX : Fld := ⟨.GOV_SLEEP_STAT, 12, 6⟩
abbrev GOV_TEMP_VALID : Fld := ⟨.GOV_TEMP, 31, 1⟩
abbrev GOV_TEMP_TEMP : Fld := ⟨.GOV_TEMP, 0, 16⟩
abbrev GOV_ROOM_CLASS : Fld := ⟨.GOV_ROOM, 30, 2⟩
abbrev GOV_ROOM_AUTO_AGREE : Fld := ⟨.GOV_ROOM, 29, 1⟩
abbrev GOV_ROOM_FORCE_PARK : Fld := ⟨.GOV_ROOM, 28, 1⟩
abbrev GOV_ROOM_PSTATE : Fld := ⟨.GOV_ROOM, 26, 2⟩
abbrev GOV_ROOM_ACT : Fld := ⟨.GOV_ROOM, 0, 16⟩
abbrev GOV_TKT_W0_STATE : Fld := ⟨.GOV_TKT_W0, 29, 3⟩
abbrev GOV_TKT_W0_KIND : Fld := ⟨.GOV_TKT_W0, 26, 3⟩
abbrev GOV_TKT_W0_PRIO : Fld := ⟨.GOV_TKT_W0, 22, 4⟩
abbrev GOV_TKT_W0_TARGET : Fld := ⟨.GOV_TKT_W0, 0, 8⟩
abbrev GOV_TKT_W1_ENERGY : Fld := ⟨.GOV_TKT_W1, 0, 32⟩
abbrev GOV_TKT_W2_THERMAL : Fld := ⟨.GOV_TKT_W2, 0, 16⟩
abbrev GOV_TKT_W3_DEADLINE : Fld := ⟨.GOV_TKT_W3, 0, 32⟩
abbrev PLL_CTRL_EN : Fld := ⟨.PLL_CTRL, 31, 1⟩
abbrev PLL_CTRL_MODE : Fld := ⟨.PLL_CTRL, 29, 2⟩
abbrev PLL_CTRL_REF_SEL : Fld := ⟨.PLL_CTRL, 26, 3⟩
abbrev PLL_CTRL_DITHER : Fld := ⟨.PLL_CTRL, 25, 1⟩
abbrev PLL_CTRL_DAMP : Fld := ⟨.PLL_CTRL, 23, 2⟩
abbrev PLL_CTRL_SEED : Fld := ⟨.PLL_CTRL, 0, 16⟩
abbrev PLL_DIV_RDIV : Fld := ⟨.PLL_DIV, 27, 5⟩
abbrev PLL_DIV_N : Fld := ⟨.PLL_DIV, 16, 9⟩
abbrev PLL_FRAC_FRAC : Fld := ⟨.PLL_FRAC, 0, 24⟩
abbrev PLL_LOCK_LOCK_WIN : Fld := ⟨.PLL_LOCK, 30, 2⟩
abbrev PLL_LOCK_LOCK_N : Fld := ⟨.PLL_LOCK, 0, 16⟩
abbrev PLL_OUT_EN : Fld := ⟨.PLL_OUT, 31, 1⟩
abbrev PLL_OUT_FMT : Fld := ⟨.PLL_OUT, 28, 3⟩
abbrev PLL_OUT_CDIV : Fld := ⟨.PLL_OUT, 0, 9⟩
abbrev PLL_STAT_LOCKED : Fld := ⟨.PLL_STAT, 31, 1⟩
abbrev PLL_STAT_REF_OK : Fld := ⟨.PLL_STAT, 30, 1⟩
abbrev PLL_STAT_RAMPING : Fld := ⟨.PLL_STAT, 29, 1⟩
abbrev PLL_STAT_HOLDOVER : Fld := ⟨.PLL_STAT, 28, 1⟩
abbrev PLL_STAT_UNLOCK_SEEN : Fld := ⟨.PLL_STAT, 27, 1⟩
abbrev PLL_STAT_PH_ERR : Fld := ⟨.PLL_STAT, 0, 16⟩
abbrev PLL_STEP_GO : Fld := ⟨.PLL_STEP, 31, 1⟩
abbrev PLL_STEP_BUSY : Fld := ⟨.PLL_STEP, 30, 1⟩
abbrev PLL_STEP_OUT : Fld := ⟨.PLL_STEP, 28, 2⟩
abbrev PLL_STEP_COUNT : Fld := ⟨.PLL_STEP, 0, 8⟩
abbrev PLL_RAMP_CTRL_GO : Fld := ⟨.PLL_RAMP_CTRL, 31, 1⟩
abbrev PLL_RAMP_CTRL_STOP : Fld := ⟨.PLL_RAMP_CTRL, 30, 1⟩
abbrev PLL_RAMP_CTRL_RESULT : Fld := ⟨.PLL_RAMP_CTRL, 28, 2⟩
abbrev PLL_RAMP_CTRL_RUN : Fld := ⟨.PLL_RAMP_CTRL, 27, 1⟩
abbrev PLL_RAMP_CTRL_SEG : Fld := ⟨.PLL_RAMP_CTRL, 16, 5⟩
abbrev PLL_REFIN_FREQ : Fld := ⟨.PLL_REFIN, 8, 18⟩
abbrev PLL_REFIN_FMT : Fld := ⟨.PLL_REFIN, 0, 2⟩
abbrev PLL_SEG_W0_LAST : Fld := ⟨.PLL_SEG_W0, 31, 1⟩
abbrev PLL_SEG_W0_TARGET : Fld := ⟨.PLL_SEG_W0, 0, 23⟩
abbrev PLL_SEG_W1_SLOPE : Fld := ⟨.PLL_SEG_W1, 16, 16⟩
abbrev PLL_SEG_W1_HOLD : Fld := ⟨.PLL_SEG_W1, 0, 16⟩
abbrev SEC_LCS_BUSY : Fld := ⟨.SEC_LCS, 31, 1⟩
abbrev SEC_LCS_TARGET : Fld := ⟨.SEC_LCS, 4, 4⟩
abbrev SEC_LCS_STATE : Fld := ⟨.SEC_LCS, 0, 4⟩
abbrev SEC_LC_CTRL_KEY : Fld := ⟨.SEC_LC_CTRL, 24, 8⟩
abbrev SEC_LC_CTRL_TARGET : Fld := ⟨.SEC_LC_CTRL, 0, 4⟩
abbrev SEC_LC_STAT_DONE : Fld := ⟨.SEC_LC_STAT, 31, 1⟩
abbrev SEC_LC_STAT_RESULT : Fld := ⟨.SEC_LC_STAT, 28, 3⟩
abbrev SEC_KEYS_SEQUENCE : Fld := ⟨.SEC_KEYS, 16, 16⟩
abbrev SEC_KEYS_COPY : Fld := ⟨.SEC_KEYS, 14, 2⟩
abbrev SEC_KEYS_ERASE_PENDING : Fld := ⟨.SEC_KEYS, 13, 1⟩
abbrev SEC_KEYS_IDK : Fld := ⟨.SEC_KEYS, 12, 1⟩
abbrev SEC_KEYS_IMG : Fld := ⟨.SEC_KEYS, 11, 1⟩
abbrev SEC_KEYS_DBG : Fld := ⟨.SEC_KEYS, 10, 1⟩
abbrev SEC_KEYS_REVOKED : Fld := ⟨.SEC_KEYS, 4, 4⟩
abbrev SEC_KEYS_OIK : Fld := ⟨.SEC_KEYS, 0, 4⟩
abbrev SEC_CMD_KEY : Fld := ⟨.SEC_CMD, 24, 8⟩
abbrev SEC_CMD_ARG : Fld := ⟨.SEC_CMD, 4, 4⟩
abbrev SEC_CMD_OP : Fld := ⟨.SEC_CMD, 0, 4⟩
abbrev SEC_CMD_STAT_DONE : Fld := ⟨.SEC_CMD_STAT, 31, 1⟩
abbrev SEC_CMD_STAT_BUSY : Fld := ⟨.SEC_CMD_STAT, 30, 1⟩
abbrev SEC_CMD_STAT_RESULT : Fld := ⟨.SEC_CMD_STAT, 27, 3⟩
abbrev SEC_DBG_LEVEL : Fld := ⟨.SEC_DBG, 30, 2⟩
abbrev SEC_DBG_PENDING : Fld := ⟨.SEC_DBG, 28, 2⟩
abbrev SEC_DBG_FAILS : Fld := ⟨.SEC_DBG, 8, 8⟩
abbrev SEC_DBG_LIMIT : Fld := ⟨.SEC_DBG, 0, 8⟩
abbrev SEC_POL_POL : Fld := ⟨.SEC_POL, 0, 12⟩
abbrev SEC_VIOL_VALID : Fld := ⟨.SEC_VIOL, 31, 1⟩
abbrev SEC_VIOL_SRC : Fld := ⟨.SEC_VIOL, 24, 3⟩
abbrev SEC_VIOL_POLICY : Fld := ⟨.SEC_VIOL, 22, 2⟩
abbrev SEC_VIOL_DETAIL : Fld := ⟨.SEC_VIOL, 0, 16⟩
abbrev SEC_VSEEN_SEEN : Fld := ⟨.SEC_VSEEN, 0, 7⟩
abbrev SEC_TAMP_BAT_ERASE : Fld := ⟨.SEC_TAMP, 31, 1⟩
abbrev SEC_TAMP_BAT_SEEN : Fld := ⟨.SEC_TAMP, 30, 1⟩
abbrev SEC_TAMP_MESH_OK : Fld := ⟨.SEC_TAMP, 29, 1⟩
abbrev SEC_TAMP_VBAT_OK : Fld := ⟨.SEC_TAMP, 28, 1⟩
abbrev SEC_IDK_HASH_HASH : Fld := ⟨.SEC_IDK_HASH, 0, 32⟩
abbrev SEC_BUF_DATA : Fld := ⟨.SEC_BUF, 0, 32⟩
abbrev GBL_RAIL_STAT_GOOD : Fld := ⟨.GBL_RAIL_STAT, 0, 28⟩
abbrev GBL_RAIL_SEEN_LEFT : Fld := ⟨.GBL_RAIL_SEEN, 0, 28⟩
abbrev GBL_RESET_CAUSE : Fld := ⟨.GBL_RESET, 30, 2⟩
abbrev GBL_RESET_RAIL : Fld := ⟨.GBL_RESET, 16, 5⟩
abbrev GBL_RESET_COUNT : Fld := ⟨.GBL_RESET, 0, 16⟩
abbrev GBL_REAPPLY_KEY : Fld := ⟨.GBL_REAPPLY, 24, 8⟩
abbrev GBL_REAPPLY_SECTION : Fld := ⟨.GBL_REAPPLY, 0, 6⟩
abbrev GBL_REAPPLY_STAT_DONE : Fld := ⟨.GBL_REAPPLY_STAT, 31, 1⟩
abbrev GBL_REAPPLY_STAT_BUSY : Fld := ⟨.GBL_REAPPLY_STAT, 30, 1⟩
abbrev GBL_REAPPLY_STAT_RESULT : Fld := ⟨.GBL_REAPPLY_STAT, 27, 3⟩
abbrev GBL_REAPPLY_STAT_SKIPPED : Fld := ⟨.GBL_REAPPLY_STAT, 0, 16⟩
abbrev HAT_CFG_QUAD : Fld := ⟨.HAT_CFG, 0, 1⟩
abbrev HAT_STAT_PORT : Fld := ⟨.HAT_STAT, 31, 1⟩
abbrev HAT_STAT_LAST : Fld := ⟨.HAT_STAT, 0, 8⟩
abbrev HAT_CNT_ASLEEP : Fld := ⟨.HAT_CNT, 24, 8⟩
abbrev HAT_CNT_NO_REG : Fld := ⟨.HAT_CNT, 16, 8⟩
abbrev HAT_CNT_BUSY : Fld := ⟨.HAT_CNT, 8, 8⟩
abbrev HAT_CNT_PROTO : Fld := ⟨.HAT_CNT, 0, 8⟩
abbrev ERR_CTRL_NOTICE_Q : Fld := ⟨.ERR_CTRL, 0, 1⟩
abbrev ERR_STAT_FIRST_VALID : Fld := ⟨.ERR_STAT, 31, 1⟩
abbrev ERR_STAT_OVF : Fld := ⟨.ERR_STAT, 30, 1⟩
abbrev ERR_STAT_OVF_SEV : Fld := ⟨.ERR_STAT, 28, 2⟩
abbrev ERR_STAT_FAULT_PIN : Fld := ⟨.ERR_STAT, 27, 1⟩
abbrev ERR_STAT_ALARM_PIN : Fld := ⟨.ERR_STAT, 26, 1⟩
abbrev ERR_STAT_QLEN : Fld := ⟨.ERR_STAT, 16, 5⟩
abbrev ERR_STAT_LOST : Fld := ⟨.ERR_STAT, 0, 16⟩
abbrev ERR_ACK_ACK : Fld := ⟨.ERR_ACK, 0, 1⟩
abbrev ERR_FIRST_VALID : Fld := ⟨.ERR_FIRST, 31, 1⟩
abbrev ERR_FIRST_SEV : Fld := ⟨.ERR_FIRST, 29, 2⟩
abbrev ERR_FIRST_SRC : Fld := ⟨.ERR_FIRST, 0, 7⟩
abbrev ERR_FIRST_TIME_LO_VALUE : Fld := ⟨.ERR_FIRST_TIME_LO, 0, 32⟩
abbrev ERR_FIRST_TIME_HI_VALUE : Fld := ⟨.ERR_FIRST_TIME_HI, 0, 32⟩
abbrev ERR_FIRST_DETAIL_VALUE : Fld := ⟨.ERR_FIRST_DETAIL, 0, 32⟩
abbrev ERR_ALARM_VALID : Fld := ⟨.ERR_ALARM, 31, 1⟩
abbrev ERR_ALARM_SEV : Fld := ⟨.ERR_ALARM, 29, 2⟩
abbrev ERR_ALARM_SRC : Fld := ⟨.ERR_ALARM, 0, 7⟩
abbrev ERR_ALARM_TIME_LO_VALUE : Fld := ⟨.ERR_ALARM_TIME_LO, 0, 32⟩
abbrev ERR_ALARM_TIME_HI_VALUE : Fld := ⟨.ERR_ALARM_TIME_HI, 0, 32⟩
abbrev ERR_ALARM_DETAIL_VALUE : Fld := ⟨.ERR_ALARM_DETAIL, 0, 32⟩
abbrev ERR_NOTICE_VALID : Fld := ⟨.ERR_NOTICE, 31, 1⟩
abbrev ERR_NOTICE_SEV : Fld := ⟨.ERR_NOTICE, 29, 2⟩
abbrev ERR_NOTICE_SRC : Fld := ⟨.ERR_NOTICE, 0, 7⟩
abbrev ERR_NOTICE_TIME_LO_VALUE : Fld := ⟨.ERR_NOTICE_TIME_LO, 0, 32⟩
abbrev ERR_NOTICE_TIME_HI_VALUE : Fld := ⟨.ERR_NOTICE_TIME_HI, 0, 32⟩
abbrev ERR_NOTICE_DETAIL_VALUE : Fld := ⟨.ERR_NOTICE_DETAIL, 0, 32⟩
abbrev ERR_CNT_COUNT : Fld := ⟨.ERR_CNT, 0, 32⟩
abbrev IOB_CFG_STD : Fld := ⟨.IOB_CFG, 28, 4⟩
abbrev IOB_CFG_FCLK_EN : Fld := ⟨.IOB_CFG, 27, 1⟩
abbrev IOB_CFG_FCLK_PLL : Fld := ⟨.IOB_CFG, 24, 3⟩
abbrev IOB_CFG_FCLK_OUT : Fld := ⟨.IOB_CFG, 23, 1⟩
abbrev IOB_STAT_VCCIO_GOOD : Fld := ⟨.IOB_STAT, 31, 1⟩
abbrev IOB_STAT_MISMATCH : Fld := ⟨.IOB_STAT, 30, 1⟩
abbrev IOB_PIN_SAFE : Fld := ⟨.IOB_PIN, 30, 2⟩
abbrev IOB_PIN_DRIVE : Fld := ⟨.IOB_PIN, 28, 2⟩
abbrev IOB_PIN_SLEW : Fld := ⟨.IOB_PIN, 27, 1⟩
abbrev IOB_PIN_PULL : Fld := ⟨.IOB_PIN, 25, 2⟩
abbrev IOB_PIN_DIFF : Fld := ⟨.IOB_PIN, 24, 1⟩
abbrev IOB_PIN_SUBLVDS : Fld := ⟨.IOB_PIN, 23, 1⟩
abbrev IOB_PIN_TERM : Fld := ⟨.IOB_PIN, 22, 1⟩
abbrev IOB_PIN_SER : Fld := ⟨.IOB_PIN, 18, 4⟩

end F

end Sys2Proof.Machine
end

