-- ==== Sys2Proof/Machine/Ops.lean ====
section
/-! DEFINITION. The named operations every family is written over: sparse tables, registers and their
fields, saturating counters, the error unit (R396 to R400), the operating mode (R29, R30), device time,
and the fixed tables of the floor plan (Tables 1.3, 3.2, 3.6, 8.2). -/

namespace Sys2Proof.Machine

/-! ### Sparse tables -/

/-- What table `m` holds at `k`, `dflt k` where nothing is listed. -/
def Map.get {α : Type} (dflt : Nat → α) : Map α → Nat → α
  | [], k => dflt k
  | (k', v) :: m, k => if k' = k then v else Map.get dflt m k

/-- `m` without an entry at `k`. -/
def Map.erase {α : Type} (m : Map α) (k : Nat) : Map α := m.filter (fun e => e.1 != k)

/-- `m` with `(k, v)` in its place among rising keys. -/
def Map.insert {α : Type} : Map α → Nat → α → Map α
  | [], k, v => [(k, v)]
  | (k', v') :: m, k, v =>
    if k < k' then (k, v) :: (k', v') :: m
    else if k = k' then (k, v) :: m
    else (k', v') :: Map.insert m k v

/-- `m` with `v` at `k`, in canonical form: keys rising, no entry equal to its default.
DESIGN CHOICE, log entry 1. -/
def Map.put {α : Type} [DecidableEq α] (dflt : Nat → α) (m : Map α) (k : Nat) (v : α) : Map α :=
  if v = dflt k then m.erase k else m.insert k v

/-- `m` with every value changed by `f`, in canonical form if `m` was. -/
def Map.mapAll {α : Type} [DecidableEq α] (dflt : Nat → α) (m : Map α) (f : Nat → α → α) : Map α :=
  (m.map (fun e => (e.1, f e.1 e.2))).filter (fun e => e.2 != dflt e.1)

/-- The canonical form of a table. -/
def Map.wf {α : Type} [DecidableEq α] (dflt : Nat → α) (m : Map α) : Bool :=
  (m.map Prod.fst).Pairwise (· < ·) && m.all (fun e => e.2 != dflt e.1)

/-! ### Bits of a register word -/

/-- Bits [lo + width − 1 : lo] of a word (R4). -/
def bits (w : Word) (lo width : Nat) : Nat := (w.toNat >>> lo) % 2 ^ width

/-- `w` with bits [lo + width − 1 : lo] replaced by `v`. -/
def putBits (w : Word) (lo width v : Nat) : Word :=
  let m : Word := BitVec.ofNat 32 ((2 ^ width - 1) <<< lo)
  (w &&& ~~~m) ||| (BitVec.ofNat 32 (v <<< lo) &&& m)

/-- Bit `n` of a number. -/
def bitOf (v n : Nat) : Bool := v.testBit n

/-- 1 for true, 0 for false. -/
def b2n (b : Bool) : Nat := if b then 1 else 0

/-! ### Floor plan -/

/-- The facing room of each general I/O bank (Table 3.2). -/
def facingRooms : List Nat := [15, 23, 39, 47, 1, 2, 3, 4, 5, 57, 58, 59, 60, 61, 16, 24, 32, 40]

/-- The room bank `b` faces. -/
def facingRoom (b : Nat) : Nat := facingRooms.getD b 0

/-- The bank that faces room `n`, if any. -/
def bankOf (n : Nat) : Option Nat := facingRooms.findIdx? (· == n)

/-- Whether requester `id` reaches arbiter `a` (Table 8.2). -/
def arbReaches (a id : Nat) : Bool :=
  if a < 8 then
    if a % 2 = 0 then 70 ≤ id && id ≤ 82 else id ≤ 69
  else id ≤ 66 || (78 ≤ id && id ≤ 82)

/-- The timed class (R170). -/
def timedId (id : Nat) : Bool := 70 ≤ id && id ≤ 82

/-! ### Registers -/

/-- The number of an element of a register array in `Dev.regs`. DESIGN CHOICE, log entry 1. -/
def RK.key (k : RK) (i j : Nat) : Nat := k.ctorIdx * 16777216 + i * 256 + j

/-- The reset value of element (i, j), with the headings that depend on the index (ROOM_BANK,
ROOM_CLAMP_k, ARB_a_REQ_i_CFG, the queue descriptor words). -/
def RK.rst (k : RK) (i j : Nat) : Word :=
  match k with
  | .ROOM_BANK => match bankOf i with
    | some b => BitVec.ofNat 32 (0x80000000 + b)
    | none => 0
  | .ROOM_CLAMP => match bankOf i with
    | some _ => if j = 2 then 0x0000AAAA else 0xAAAAAAAA
    | none => 0
  | .QUEUE_W0 => BitVec.ofNat 32 (0x00400000 + 16 * i)
  | .QUEUE_W2 => BitVec.ofNat 32 (i + 0x10000 * (i / 256))
  | .ARB_REQ_CFG =>
    if arbReaches i j then
      if j < 64 then 0x100F0000 else if j = 66 then 0x200F0000 else if j = 67 then 0x300F0000 else 0x000F0000
    else 0
  | k => BitVec.ofNat 32 k.desc.rst

/-- The stored word of a register. DESIGN CHOICE, log entry 1. -/
def Dev.reg (d : Dev) (k : RK) (i : Nat := 0) (j : Nat := 0) : Word :=
  Map.get (fun _ => k.rst i j) d.regs (k.key i j)

/-- The device with a register's stored word replaced. DESIGN CHOICE, log entry 1. -/
def Dev.setReg (d : Dev) (k : RK) (i j : Nat) (v : Word) : Dev :=
  { d with regs := Map.put (fun _ => k.rst i j) d.regs (k.key i j) v }

/-- A field of a register. -/
def Dev.gf (d : Dev) (f : Fld) (i : Nat := 0) (j : Nat := 0) : Nat := bits (d.reg f.reg i j) f.lo f.width

/-- A one-bit field as a Bool. -/
def Dev.gb (d : Dev) (f : Fld) (i : Nat := 0) (j : Nat := 0) : Bool := d.gf f i j == 1

/-- The device with a field replaced. -/
def Dev.sf (d : Dev) (f : Fld) (i j v : Nat) : Dev :=
  d.setReg f.reg i j (putBits (d.reg f.reg i j) f.lo f.width v)

/-- Count `n` events in a saturating field (R12). -/
def Dev.cnt (d : Dev) (f : Fld) (i j : Nat) (n : Nat := 1) : Dev :=
  d.sf f i j (min (d.gf f i j + n) (2 ^ f.width - 1))

/-- Count `n` events in a wrapping field (R12). -/
def Dev.cntWrap (d : Dev) (f : Fld) (i j : Nat) (n : Nat := 1) : Dev :=
  d.sf f i j ((d.gf f i j + n) % 2 ^ f.width)

/-- A fold over a list that changes the device at each item. -/
def Dev.each {α : Type} (d : Dev) (l : List α) (f : Dev → α → Dev) : Dev := l.foldl f d

/-- The device where `c` holds, changed by `f`; unchanged otherwise. -/
def Dev.when (d : Dev) (c : Bool) (f : Dev → Dev) : Dev := if c then f d else d

/-! ### Error unit -/

/-- Code of a severity in the SEV fields. -/
def sevCode : Severity → Nat
  | .notice => 1
  | .fault => 2
  | .alarm => 3

/-- Word 0 of an error record as the ERR registers show it. -/
def ErrRec.word0 (r : ErrRec) : Word :=
  BitVec.ofNat 32 (0x80000000 + (sevCode r.sev) * 0x20000000 + r.src.toNat)

/-- The three words that follow ERR_FIRST or ERR_ALARM. DEDUCED, log entry 72. -/
def Dev.putFirst (d : Dev) (r : ErrRec) : Dev :=
  ((((d.setReg .ERR_FIRST 0 0 r.word0).setReg .ERR_FIRST_TIME_LO 0 0 (r.time.setWidth 32)).setReg
    .ERR_FIRST_TIME_HI 0 0 ((r.time >>> 32).setWidth 32)).setReg .ERR_FIRST_DETAIL 0 0 r.detail).sf
    F.ERR_STAT_FIRST_VALID 0 0 1

/-- Copy a record into ERR_ALARM (R399). -/
def Dev.putAlarm (d : Dev) (r : ErrRec) : Dev :=
  (((d.setReg .ERR_ALARM 0 0 r.word0).setReg .ERR_ALARM_TIME_LO 0 0 (r.time.setWidth 32)).setReg
    .ERR_ALARM_TIME_HI 0 0 ((r.time >>> 32).setWidth 32)).setReg .ERR_ALARM_DETAIL 0 0 r.detail

/-- Steps 3 and 4 of R397: the record becomes first, joins the queue of 16, or is lost.
DEDUCED, log entry 72. -/
def Dev.enqueueErr (d : Dev) (r : ErrRec) : Dev :=
  if d.gb F.ERR_FIRST_VALID = false then d.putFirst r
  else if d.err.queue.length < 16 then
    let d := { d with err := { d.err with queue := d.err.queue ++ [r] } }
    d.sf F.ERR_STAT_QLEN 0 0 d.err.queue.length
  else
    ((d.sf F.ERR_STAT_OVF 0 0 1).sf F.ERR_STAT_OVF_SEV 0 0 (max (d.gf F.ERR_STAT_OVF_SEV) (sevCode r.sev))).cnt
      F.ERR_STAT_LOST 0 0

/-- A record arrives at the error unit and is handled (R397, R399). DEDUCED, log entry 72. -/
def Dev.arrive (d : Dev) (r : ErrRec) : Dev :=
  let d := d.cnt F.ERR_CNT_COUNT r.src.toNat 0
  match r.sev with
  | .notice =>
    let d := ({ d with err := { d.err with notice := r } }).setReg .ERR_NOTICE 0 0 r.word0
    if d.gb F.ERR_CTRL_NOTICE_Q then d.enqueueErr r else d
  | .fault => d.enqueueErr r
  | .alarm =>
    let d := d.enqueueErr r
    if d.gb F.ERR_ALARM_VALID then d else d.putAlarm r

/-- Raise an error: the record is stamped with device time and handled at once (log entry 3). -/
def Dev.raise (d : Dev) (src : Nat) (sev : Severity) (detail : Nat) : Dev :=
  d.arrive { src := BitVec.ofNat 7 src, sev := sev, detail := BitVec.ofNat 32 detail, time := d.ev.time }

/-- A NOTICE. -/
def Dev.notice (d : Dev) (src detail : Nat) : Dev := d.raise src .notice detail

/-- A FAULT. -/
def Dev.fault (d : Dev) (src detail : Nat) : Dev := d.raise src .fault detail

/-- Raise an error whose detail the spec does not state: a free value. DESIGN CHOICE, log entry 2. -/
def Dev.raiseFree (d : Dev) (src : Nat) (sev : Severity) : Dev :=
  ({ d with free := d.free + 1 }).raise src sev (Config.detail src d.free).toNat

/-- A NOTICE with an unstated detail. -/
def Dev.noticeFree (d : Dev) (src : Nat) : Dev := d.raiseFree src .notice

/-- A FAULT with an unstated detail. -/
def Dev.faultFree (d : Dev) (src : Nat) : Dev := d.raiseFree src .fault

/-- Whether a record comes before another that arrives in the same cycle (R396): by source, then detail. -/
def errBefore (a b : Nat × Severity × Nat) : Bool := a.1 < b.1 || (a.1 == b.1 && a.2.2 ≤ b.2.2)

/-- Put a record of one cycle in its place among the others. -/
def errInsert (x : Nat × Severity × Nat) : List (Nat × Severity × Nat) → List (Nat × Severity × Nat)
  | [] => [x]
  | y :: l => if errBefore x y then x :: y :: l else y :: errInsert x l

/-- Raise the records of one cycle in ascending source, then detail (R396). DESIGN CHOICE, log entry 3. -/
def Dev.raiseAll (d : Dev) (l : List (Nat × Severity × Nat)) : Dev :=
  (l.foldr errInsert []).foldl (fun d x => d.raise x.1 x.2.1 x.2.2) d

/-! ### Modes -/

/-- Codes of Table 1.5. -/
abbrev mOff : Nat := 0
abbrev mRamp : Nat := 1
abbrev mLoad : Nat := 2
abbrev mVerify : Nat := 3
abbrev mFallback : Nat := 4
abbrev mRun : Nat := 5
abbrev mQuiet : Nat := 6
abbrev mHold : Nat := 7
abbrev mDeep : Nat := 8
abbrev mAlarm : Nat := 9
abbrev mTest : Nat := 10
abbrev mDormant : Nat := 11

/-- GBL_MODE.MODE. -/
def Dev.mode (d : Dev) : Nat := d.gf F.GBL_MODE_MODE

/-- Run, Quiet or Hold: the modes with READY high (R27). -/
def Dev.ready (d : Dev) : Bool := d.mode == mRun || d.mode == mQuiet || d.mode == mHold

/-- The device has power: every mode but Off. -/
def Dev.on (d : Dev) : Bool := d.mode != mOff

/-- The write of GBL_MODE that every transition makes (R30): SEQ + 1, PREV, CAUSE and MODE. -/
def Dev.putMode (d : Dev) (m cause : Nat) : Dev :=
  let prev := d.mode
  (((d.cntWrap F.GBL_MODE_SEQ 0 0).sf F.GBL_MODE_PREV 0 0 prev).sf F.GBL_MODE_CAUSE 0 0 cause).sf
    F.GBL_MODE_MODE 0 0 m

/-- ALARM_N low (R400). -/
def Dev.alarmPin (d : Dev) : Bool :=
  d.mode != mRamp && d.mode != mOff && (d.gb F.ERR_ALARM_VALID || d.mode == mAlarm || d.mode == mDormant)

/-- FAULT_N low (R400). -/
def Dev.faultPin (d : Dev) : Bool :=
  d.mode != mRamp && d.mode != mOff &&
    ((d.gb F.ERR_FIRST_VALID && 2 ≤ d.gf F.ERR_FIRST_SEV) || d.err.queue.any (fun r => r.sev != .notice) ||
      (d.gb F.ERR_STAT_OVF && 2 ≤ d.gf F.ERR_STAT_OVF_SEV))

/-- READY high (R27). -/
def Dev.readyPin (d : Dev) : Bool := d.ready

/-! ### Device time and free values -/

/-- Let `dt` ticks of device time pass; it counts only while EVT_TIME_STAT.COUNTING is 1 (R207).
DESIGN CHOICE, log entry 4. -/
def Dev.tick (d : Dev) (dt : Nat) : Dev :=
  if d.gb F.EVT_TIME_STAT_COUNTING then { d with ev := { d.ev with time := d.ev.time + BitVec.ofNat 64 dt } } else d

/-- Device time as a number. -/
def Dev.now (d : Dev) : Nat := d.ev.time.toNat

/-! ### Units by index -/

/-- Room `n`. -/
def Dev.room (d : Dev) (n : Nat) : Room := Map.get (fun _ => {}) d.rooms n

/-- Change room `n`. -/
def Dev.onRoom (d : Dev) (n : Nat) (f : Room → Room) : Dev :=
  { d with rooms := Map.put (fun _ => {}) d.rooms n (f (d.room n)) }

/-- Arbiter `a`. -/
def Dev.arb (d : Dev) (a : Nat) : Arbiter := Map.get (fun _ => {}) d.arbs a

/-- Change arbiter `a`. -/
def Dev.onArb (d : Dev) (a : Nat) (f : Arbiter → Arbiter) : Dev :=
  { d with arbs := Map.put (fun _ => {}) d.arbs a (f (d.arb a)) }

/-- DRAM channel `n`. -/
def Dev.dram (d : Dev) (n : Nat) : Dram := Map.get (fun _ => {}) d.drams n

/-- Change DRAM channel `n`. -/
def Dev.onDram (d : Dev) (n : Nat) (f : Dram → Dram) : Dev :=
  { d with drams := Map.put (fun _ => {}) d.drams n (f (d.dram n)) }

/-- String `s`. -/
def Dev.str (d : Dev) (s : Nat) : StringS := Map.get (fun _ => {}) d.strings s

/-- Change string `s`. -/
def Dev.onStr (d : Dev) (s : Nat) (f : StringS → StringS) : Dev :=
  { d with strings := Map.put (fun _ => {}) d.strings s (f (d.str s)) }

/-- PLL `n`. -/
def Dev.pll (d : Dev) (n : Nat) : Pll := Map.get (fun _ => {}) d.plls n

/-- Change PLL `n`. -/
def Dev.onPll (d : Dev) (n : Nat) (f : Pll → Pll) : Dev :=
  { d with plls := Map.put (fun _ => {}) d.plls n (f (d.pll n)) }

/-- Queue `q`. -/
def Dev.queue (d : Dev) (q : Nat) : Queue := Map.get (fun _ => {}) d.ev.queues q

/-- Change queue `q`. -/
def Dev.onQueue (d : Dev) (q : Nat) (f : Queue → Queue) : Dev :=
  { d with ev := { d.ev with queues := Map.put (fun _ => {}) d.ev.queues q (f (d.queue q)) } }

/-- Feed `f`. -/
def Dev.feed (d : Dev) (f : Nat) : Feed := Map.get (fun _ => {}) d.ev.feeds f

/-- Change feed `f`. -/
def Dev.onFeed (d : Dev) (f : Nat) (g : Feed → Feed) : Dev :=
  { d with ev := { d.ev with feeds := Map.put (fun _ => {}) d.ev.feeds f (g (d.feed f)) } }

/-- Channel of a string, or direct pin. -/
def Dev.chan (d : Dev) : ChanId → Channel
  | .str c => Map.get (fun _ => {}) d.ev.chans c.toNat
  | .pin n => Map.get (fun _ => {}) d.ev.pins n.toNat

/-- Change a channel. -/
def Dev.onChan (d : Dev) (c : ChanId) (f : Channel → Channel) : Dev :=
  match c with
  | .str n => { d with ev := { d.ev with chans := Map.put (fun _ => {}) d.ev.chans n.toNat (f (d.chan c)) } }
  | .pin n => { d with ev := { d.ev with pins := Map.put (fun _ => {}) d.ev.pins n.toNat (f (d.chan c)) } }

/-- Angle unit `u`. -/
def Dev.angle (d : Dev) (u : Nat) : Angle :=
  if u = 0 then d.ev.angle0 else if u = 1 then d.ev.angle1 else if u = 2 then d.ev.angle2 else d.ev.angle3

/-- Change angle unit `u`. -/
def Dev.onAngle (d : Dev) (u : Nat) (f : Angle → Angle) : Dev :=
  if u = 0 then { d with ev := { d.ev with angle0 := f d.ev.angle0 } }
  else if u = 1 then { d with ev := { d.ev with angle1 := f d.ev.angle1 } }
  else if u = 2 then { d with ev := { d.ev with angle2 := f d.ev.angle2 } }
  else { d with ev := { d.ev with angle3 := f d.ev.angle3 } }

/-- Pattern player `k`. -/
def Dev.player (d : Dev) (k : Nat) : Player :=
  if k = 0 then d.ev.player0 else if k = 1 then d.ev.player1 else if k = 2 then d.ev.player2 else d.ev.player3

/-- Change pattern player `k`. -/
def Dev.onPlayer (d : Dev) (k : Nat) (f : Player → Player) : Dev :=
  if k = 0 then { d with ev := { d.ev with player0 := f d.ev.player0 } }
  else if k = 1 then { d with ev := { d.ev with player1 := f d.ev.player1 } }
  else if k = 2 then { d with ev := { d.ev with player2 := f d.ev.player2 } }
  else { d with ev := { d.ev with player3 := f d.ev.player3 } }

/-- Endpoint `e` of a room. -/
def Room.ep (r : Room) (e : Nat) : Endpoint :=
  if e = 0 then r.ep0 else if e = 1 then r.ep1 else if e = 2 then r.ep2 else r.ep3

/-- Change endpoint `e` of a room. -/
def Room.onEp (r : Room) (e : Nat) (f : Endpoint → Endpoint) : Room :=
  if e = 0 then { r with ep0 := f r.ep0 } else if e = 1 then { r with ep1 := f r.ep1 }
  else if e = 2 then { r with ep2 := f r.ep2 } else { r with ep3 := f r.ep3 }

/-- Whether room `n` is on the grid edge of its side, and the list of the 16 sending ports of a room. -/
def txPorts : List (Nat × Nat) := (List.range 16).map (fun x => (x / 4, x % 4))

/-! ### Fences (R182) -/

/-- Requester `i` is fenced at arbiter `a`. -/
def Dev.fenced (d : Dev) (a i : Nat) : Bool := d.gb F.ARB_REQ_STAT_FENCED a i

/-- A request answered FENCED without access is counted. DESIGN CHOICE, log entry 51. -/
def Dev.fenceHit (d : Dev) (a i : Nat) : Dev := d.cnt F.ARB_REQ_STAT_FENCE_HITS a i

/-- Take a free value of 64 bits. DESIGN CHOICE, log entry 2. -/
def Dev.takeFree (d : Dev) : BitVec 64 × Dev := (Config.freeWord d.free, { d with free := d.free + 1 })

/-! ### Bank supplies (R375, R405) -/

/-- VCCIO of bank `b` is above 0.6 V. -/
def Dev.bankPowered (d : Dev) (b : Nat) : Bool := d.pin.vccio.getLsbD b

/-- Pins leave the safe state: from the next entry on their SAFE is used as it stands (R406). Pins are numbered 64
times the bank plus the pin. -/
def Dev.leaveSafe (d : Dev) (p : Nat → Bool) : Dev :=
  { d with pin := { d.pin with safeOld := d.pin.safeOld.filter (fun e => !p e.1) } }

/-- All pins of a bank leave the safe state. -/
def Dev.bankLeaves (d : Dev) (b : Nat) : Dev := d.leaveSafe (fun k => k / 64 == b)

/-- VCCIO of bank `b` rises above 0.6 V or falls to it. -/
def Dev.setVccio (d : Dev) (b : Nat) (v : Bool) : Dev :=
  let m : BitVec 18 := BitVec.ofNat 18 (2 ^ b)
  ({ d with pin := { d.pin with vccio := if v then d.pin.vccio ||| m else d.pin.vccio &&& ~~~m } }).when (!v)
    (fun d => d.bankLeaves b)

/-! ### Status bytes of the Hatch (Table 18.5) -/

abbrev hOk : Nat := 0x01
abbrev hAsleep : Nat := 0x02
abbrev hNoReg : Nat := 0x04
abbrev hBusy : Nat := 0x08
abbrev hDenied : Nat := 0x10
abbrev hEcc : Nat := 0x20
abbrev hOkEcc : Nat := 0x21

/-- What a read of an asleep target returns (R394). -/
abbrev asleepWord : Word := 0x0BAD0FF0

/-- The values the status byte takes (Table 18.5). -/
def hatchStatuses : List Nat := [0x01, 0x21, 0x20, 0x02, 0x04, 0x08, 0x10]

/-- A status byte and data word that the spec leaves open, within Table 18.5: of a Hatch access that an arbiter
answers FENCED. DESIGN CHOICE, log entry 51. -/
def freeStatus (f : BitVec 64) : Nat × Word :=
  let st := hatchStatuses.getD (f.toNat % 7) hOk
  (st, if st = hOk ∨ st = hOkEcc then (f >>> 32).setWidth 32 else if st = hAsleep then asleepWord else 0)

/-- An access to an asleep target: counted, and a NOTICE with the address (R394). DEDUCED, log entry 23. -/
def Dev.asleepAccess (d : Dev) (a : Nat) : Dev := (d.cnt F.HAT_CNT_ASLEEP 0 0).notice 0x73 a

/-- A refused address: counted, and a NOTICE with the address (R392). -/
def Dev.noReg (d : Dev) (a : Nat) : Dev := (d.cnt F.HAT_CNT_NO_REG 0 0).notice 0x75 a

/-- An access of the Hatch ends with a status byte and a word: HAT_STAT.LAST and HAT_CNT.BUSY (R401). -/
def Dev.hatDone (d : Dev) (status : Nat) (w : Word) : Dev :=
  let d := (d.when (status == hBusy) (fun d => d.cnt F.HAT_CNT_BUSY 0 0)).sf F.HAT_STAT_LAST 0 0 status
  { d with hat := { d.hat with out := [(status, w)] } }

/-! ### Outcomes -/

/-- What every meaning answers. -/
abbrev Out := Host.Outcome State Fault Refusal

/-- A command that changes only the device's registers and units. DESIGN CHOICE, log entry 56. -/
def State.onDev (s : State) (f : Dev → Dev) : State := { s with dev := f s.dev }

end Sys2Proof.Machine
end

