-- ==== Sys2Proof/Machine/Flags.lean ====
section
/-! DEFINITION. Error flags computed from stored cells: single, double and one-pin errors of the three
protected memories (R91 to R93, R160, R194), the outcome flags every read and bit operation shares. -/

namespace Sys2Proof.Machine

/-- Ones of a bit vector. -/
def popCount {w : Nat} (v : BitVec w) : Nat := ((List.range w).filter (fun i => v.getLsbD i)).length

/-- What a check of a protected word finds. -/
inductive Ecc where
  | good | single | double
  deriving DecidableEq, Repr

/-- A number of `secdedBeyond` or `dramBeyond` as a finding. -/
def Ecc.found (n : Nat) : Ecc := if n = 0 then .good else if n = 1 then .single else .double

/-- A check of a Larder word (R160): the finding, and the data as a read gives them: corrected after a
single-bit error, as stored after a double-bit error. DESIGN CHOICE, log entry 6. -/
def LarWord.check (w : LarWord) : Ecc × BitVec 64 :=
  let n := popCount w.flips
  if n = 0 then (.good, w.data)
  else if n = 1 then (.single, w.data)
  else if n = 2 then (.double, w.data ^^^ w.flips.setWidth 64)
  else let r := Config.secdedBeyond w.data w.flips; (Ecc.found r.1, r.2)

/-- The 64 data bits of a Larder word as its cells stand. -/
def LarWord.raw (w : LarWord) : BitVec 64 := w.data ^^^ w.flips.setWidth 64

/-- The DQ pin that carries a bit of a burst (R194). -/
def dqPin (i : Nat) : Nat := if i < 128 then i % 32 else 32 + i % 4

/-- The pins on which a burst is wrong. -/
def wrongPins (flips : BitVec 144) : List Nat :=
  (((List.range 144).filter (fun i => flips.getLsbD i)).map dqPin).eraseDups

/-- The error of a burst is confined to one pin (DRC_n_EADDR.PIN). -/
def onePin (flips : BitVec 144) : Bool := (wrongPins flips).length == 1

/-- A check of a DRAM burst (R194): corrected if one bit is wrong, detected if two are or if all the
wrong bits belong to one pin. DESIGN CHOICE, log entry 6. -/
def Burst.check (b : Burst) : Ecc × BitVec 128 :=
  let n := popCount b.flips
  if n = 0 then (.good, b.data)
  else if n = 1 then (.single, b.data)
  else if n = 2 || onePin b.flips then (.double, b.data ^^^ b.flips.setWidth 128)
  else let r := Config.dramBeyond b.data b.flips; (Ecc.found r.1, r.2)

/-- The 128 data bits of a burst as its cells stand. -/
def Burst.raw (b : Burst) : BitVec 128 := b.data ^^^ b.flips.setWidth 128

/-- A check of a block RAM word as stored, 64 data bits below 8 check bits, of which the cells `flips` have changed
since the word was written (R91, R92). A word written with its code is good, single or double by the number of changed
cells, and anything beyond that; one written without its code is judged by what its bits match: the code, the code of one
changed bit, or neither. The data are those a correction gives. DESIGN CHOICE, log entry 6. -/
def bramCheck (word flips : BitVec 72) : Ecc × BitVec 64 :=
  let data := word.setWidth 64
  let was := word ^^^ flips
  let n := popCount flips
  let e := Config.secdedCheck data
  let chk := (word >>> 64).setWidth 8
  if (was >>> 64).setWidth 8 = Config.secdedCheck (was.setWidth 64) then
    if n = 0 then (.good, data)
    else if n = 1 then (.single, was.setWidth 64)
    else if n = 2 then (.double, data)
    else let r := Config.secdedBeyond (was.setWidth 64) flips; (Ecc.found r.1, r.2)
  else if e = chk then (.good, data)
  else if popCount (e ^^^ chk) = 1 then (.single, data)
  else match (List.range 64).find? (fun i => Config.secdedCheck (data ^^^ (1#64 <<< i)) = chk) with
    | some i => (.single, data ^^^ (1#64 <<< i))
    | none => (.double, data)

/-- Sum of an unsigned field and an increment that saturates (R12). -/
def satAdd (width a b : Nat) : Nat := min (a + b) (2 ^ width - 1)

/-- Two's-complement value of the low `width` bits of a number. -/
def signed (width v : Nat) : Int :=
  let x := v % 2 ^ width
  if x < 2 ^ (width - 1) then (x : Int) else (x : Int) - (2 ^ width : Int)

/-- The low `width` bits of an integer. -/
def unsigned (width : Nat) (v : Int) : Nat := (v % (2 ^ width : Int)).toNat

/-- Round a quotient of naturals to the nearest integer, halves up (R6). -/
def roundDiv (a b : Nat) : Nat := (2 * a + b) / (2 * b)

end Sys2Proof.Machine
end

