-- ==== Sys2Proof/Machine/Operands.lean ====
section
/-! DEFINITION. Operand forms: Larder word addresses and their banks (R154), the Hatch windows (R155,
R193), DRAM bursts (R191), frame addresses (Table 5.5), block RAM words at every width (R87, R88). -/

namespace Sys2Proof.Machine

/-! ### Larder (Table 7.1) -/

/-- Words of the whole Larder, and of one quadrant. -/
abbrev larWords : Nat := 0x200000
abbrev quadWords : Nat := 0x80000

/-- QUAD of a word address. -/
def larQuad (wa : Nat) : Nat := wa / quadWords % 4

/-- ROW of a word address. -/
def larRow (wa : Nat) : Nat := wa / 2048 % 256

/-- COL of a word address. -/
def larCol (wa : Nat) : Nat := wa / 16 % 128

/-- Device bank of a word address. -/
def larBank (wa : Nat) : Nat := 16 * larQuad wa + wa % 16

/-- Region of a word address (R154). -/
def larRegion (wa : Nat) : Nat := 256 * larBank wa + larRow wa

/-- Word addresses of a region, in ascending COL. -/
def regionWords (r : Nat) : List Nat :=
  (List.range 128).map (fun c => (r / 256 / 16) * quadWords + (r % 256) * 2048 + c * 16 + r / 256 % 16)

/-- The window a Hatch address falls in: 0 data, 1 bit-set, 2 bit-clear (Table 7.2). -/
def larWindow (a : Nat) : Option Nat :=
  if 0x40000000 ≤ a && a ≤ 0x40FFFFFF then some 0
  else if 0x44000000 ≤ a && a ≤ 0x44FFFFFF then some 1
  else if 0x48000000 ≤ a && a ≤ 0x48FFFFFF then some 2
  else none

/-- Word address of a byte offset 8 WA + 4 h in a window, and the half (R155). -/
def winWord (a : Nat) : Nat := a % 0x1000000 / 8
def winHalf (a : Nat) : Nat := a / 4 % 2

/-- Half `h` of a 64-bit word (R155). -/
def halfOf (w : BitVec 64) (h : Nat) : Word := (w >>> (32 * h)).setWidth 32

/-- A 64-bit word with half `h` replaced. -/
def withHalf (w : BitVec 64) (h : Nat) (v : Word) : BitVec 64 :=
  (w &&& ~~~((0xFFFFFFFF#64) <<< (32 * h))) ||| ((v.setWidth 64) <<< (32 * h))

/-! ### DRAM (R191 to R193) -/

/-- The channel whose window a Hatch address falls in (R193). -/
def dramWindow (a : Nat) : Option Nat :=
  if 0x50000000 ≤ a && a ≤ 0x6FFFFFFF then some ((a - 0x50000000) / 0x8000000) else none

/-- Word address of a byte address in a DRAM window. -/
def dramWord (a : Nat) : Nat := a % 0x8000000 / 8

/-- BANK and ROW of a burst address (Table 9.3). -/
def burstBank (b : Nat) : Nat := b % 16
def burstRow (b : Nat) : Nat := b / 512

/-- Half WA[0] of a burst. -/
def burstWord (d : BitVec 128) (wa : Nat) : BitVec 64 := (d >>> (64 * (wa % 2))).setWidth 64

/-- A burst with half WA[0] replaced. -/
def withBurstWord (d : BitVec 128) (wa : Nat) (v : BitVec 64) : BitVec 128 :=
  (d &&& ~~~((0xFFFFFFFFFFFFFFFF#128) <<< (64 * (wa % 2)))) ||| ((v.setWidth 128) <<< (64 * (wa % 2)))

/-- Whole bursts from data words in order: word 0 is D[63:0] (R194). -/
def burstsOf : List (BitVec 64) → List (BitVec 128)
  | a :: b :: l => (a.setWidth 128 ||| (b.setWidth 128 <<< 64)) :: burstsOf l
  | _ => []

/-- The two words of a burst. -/
def wordsOf (d : BitVec 128) : List (BitVec 64) := [d.setWidth 64, (d >>> 64).setWidth 64]

/-! ### Configuration frames (Table 5.5) -/

/-- Room, kind and index of a frame address. -/
def frameRoom (a : Nat) : Nat := a / 0x4000000 % 64
def frameKind (a : Nat) : Nat := a / 0x1000000 % 4
def frameIndex (a : Nat) : Nat := a / 0x1000 % 4096

/-- A frame address from room, kind and index. -/
def mkFrame (n kind index : Nat) : Nat := n * 0x4000000 + kind * 0x1000000 + index * 0x1000

/-! ### Block RAM (Table 4.1, R88) -/

/-- Address bits a width code uses; the others are ignored (R87). -/
def bramDepthBits (c : Nat) : Nat := 15 - c

/-- Data bits of a word at a width code. -/
def bramDataBits (c : Nat) : Nat := 2 ^ c

/-- Parity bits of a word at a width code. -/
def bramParBits (c : Nat) : Nat := if c < 3 then 0 else 2 ^ (c - 3)

/-- The word at a width: data bits below, parity bits above them. -/
def Bram.word (b : Bram) (c addr : Nat) : BitVec 72 :=
  let w := addr % 2 ^ bramDepthBits c
  let n := bramDataBits c
  let p := bramParBits c
  BitVec.ofNat 72 ((b.d.toNat >>> (n * w)) % 2 ^ n + 2 ^ n * ((b.p.toNat >>> (p * w)) % 2 ^ p))

/-- The cells of a 72-bit word that have flipped since they were written. -/
def Bram.flips (b : Bram) (addr : Nat) : BitVec 72 :=
  ((b.flipD >>> (64 * (addr % 512))).setWidth 64).setWidth 72 ||| (((b.flipP >>> (8 * (addr % 512))).setWidth 8).setWidth 72 <<< 64)

/-- Write-enable lanes of a width (Table 4.1). -/
def bramLanes (c : Nat) : Nat := if c < 4 then 1 else 2 ^ (c - 3)

/-- Mask of the data bits that the enabled lanes write. -/
def bramDataMask (c : Nat) (we : BitVec 8) : Nat :=
  if c < 4 then (if we.getLsbD 0 then 2 ^ bramDataBits c - 1 else 0)
  else (List.range (bramLanes c)).foldl (fun m k => if we.getLsbD k then m + 0xFF <<< (8 * k) else m) 0

/-- Mask of the parity bits that the enabled lanes write. -/
def bramParMask (c : Nat) (we : BitVec 8) : Nat :=
  if c < 3 then 0 else (List.range (bramLanes c)).foldl (fun m k => if we.getLsbD k then m + 1 <<< k else m) 0

/-- Replace the masked bits of a field at `lo` in a wide vector. -/
def setMasked {w : Nat} (x : BitVec w) (lo mask v : Nat) : BitVec w :=
  (x &&& ~~~(BitVec.ofNat w (mask <<< lo))) ||| BitVec.ofNat w ((v &&& mask) <<< lo)

/-- Write the enabled lanes of a word (R88). -/
def Bram.put (b : Bram) (c addr : Nat) (we : BitVec 8) (din : BitVec 72) : Bram :=
  let w := addr % 2 ^ bramDepthBits c
  let n := bramDataBits c
  let p := bramParBits c
  { b with
    d := setMasked b.d (n * w) (bramDataMask c we) (din.toNat % 2 ^ n)
    p := setMasked b.p (p * w) (bramParMask c we) (din.toNat >>> n)
    flipD := setMasked b.flipD (n * w) (bramDataMask c we) 0
    flipP := setMasked b.flipP (p * w) (bramParMask c we) 0 }

end Sys2Proof.Machine
end

