-- ==== Sys2Proof/Machine/Rooms.lean ====
section
/-! DEFINITION. A room at its border: held by the GSR and released (R25, R57, R58), the flush when it
enters reset (R73, R82, R171, R250), its planes' states (Tables 6.1, 6.2) and loads and swaps abandoned
(R32, R152). -/

namespace Sys2Proof.Machine

/-- Codes of Table 6.1. -/
abbrev shEmpty : Nat := 0
abbrev shLoading : Nat := 1
abbrev shChecking : Nat := 2
abbrev shReady : Nat := 3
abbrev shArmed : Nat := 4
abbrev shSwapping : Nat := 5
abbrev shInvalid : Nat := 6

/-- Codes of Table 6.2. -/
abbrev actDown : Nat := 0
abbrev actLoading : Nat := 1
abbrev actChecking : Nat := 2
abbrev actValid : Nat := 3

/-- All room numbers. -/
def roomIds : List Nat := List.range 64

/-- State of a room's shadow plane. -/
def Dev.sh (d : Dev) (n : Nat) : Nat := d.gf F.ROOM_PLANE_STAT_SH_STATE n

/-- State of a room's active plane. -/
def Dev.act (d : Dev) (n : Nat) : Nat := d.gf F.ROOM_PLANE_STAT_ACT_STATE n

/-- The room is released and its clamps are open: what PEER_UP shows its neighbours (Table 3.3). -/
def Dev.roomUp (d : Dev) (n : Nat) : Bool := !(d.room n).gsr && !(d.room n).clamps

/-- Governor state of a room: 0 up, 1 parking, 2 parked, 3 waking. -/
def Dev.pstate (d : Dev) (n : Nat) : Nat := d.gf F.GOV_ROOM_PSTATE n

/-- A room is parked, or off with the device in Off or Deep hold (R135, R315). -/
def Dev.parkedOrOff (d : Dev) (n : Nat) : Bool := d.pstate n == 2 || d.pstate n == 3 || d.mode == mDeep || d.mode == mOff

/-- The room next to `n` on a side: 0 north, 1 east, 2 south, 3 west (R69). -/
def neighbour (n side : Nat) : Option Nat :=
  if side = 0 then (if n / 8 < 7 then some (n + 8) else none)
  else if side = 1 then (if n % 8 < 7 then some (n + 1) else none)
  else if side = 2 then (if 0 < n / 8 then some (n - 8) else none)
  else (if 0 < n % 8 then some (n - 1) else none)

/-- The side of the neighbour that faces `side`. -/
def opposite (side : Nat) : Nat := (side + 2) % 4

/-- ROOM_NCH_STAT.PEER_UP of a room, bit per side. -/
def Dev.peerUp (d : Dev) (n : Nat) : Nat :=
  (List.range 4).foldl (fun v s => match neighbour n s with
    | some m => if d.roomUp m then v + 2 ^ s else v
    | none => v) 0

/-- Send the response to a request (R78): data only for a READ answered OK. -/
def Dev.respond (d : Dev) (p : Packet) (status : Nat) (data : List (BitVec 64)) : Dev :=
  { d with netResp := d.netResp ++ [{
      isRead := p.op == 0, len := p.len, dstRtr := p.srcRtr, dstPort := p.srcPort, srcRtr := p.dstRtr,
      srcPort := p.dstPort, gen := p.gen, slot := p.slot, status := status,
      data := if p.op == 0 && status == 0 then data else [] }] }

/-- The border answers a request to endpoint `e` (R79, R82): ROOM_BUSY for a swap or a full buffer,
ROOM_DOWN otherwise; counted in BORDER. -/
def Dev.borderAnswer (d : Dev) (n e : Nat) (p : Packet) (busy : Bool) : Dev :=
  (d.respond p (if busy then 2 else 1) []).cnt F.ROOM_COR_CNT_BORDER n e

/-- The delivery FIFO of an event port. -/
def Room.ev (r : Room) (p : Nat) : List (BitVec 64) := if p = 0 then r.ev0 else r.ev1

/-- Replace the delivery FIFO of an event port. -/
def Room.setEv (r : Room) (p : Nat) (l : List (BitVec 64)) : Room :=
  if p = 0 then { r with ev0 := l } else { r with ev1 := l }

/-- Delivery words of one port are discarded: each counts in DROPPED, one NOTICE for the port (R250). -/
def Dev.dropDelivery (d : Dev) (n p : Nat) : Dev :=
  let l := (d.room n).ev p
  if l.isEmpty then d
  else ((d.onRoom n (fun r => r.setEv p [])).cnt F.EVT_EVP_CNT_DROPPED n 0 l.length).notice 0x5B n

/-- Requests buffered at an endpoint and not yet taken are answered by the border (R82); what the
fabric has taken gets no response. Responses it has not read are lost with the fabric. DESIGN CHOICE, log entry 17. -/
def Dev.flushEndpoint (d : Dev) (n e : Nat) (busy : Bool) : Dev :=
  let l := ((d.room n).ep e).reqBuf
  let d := d.onRoom n (fun r => r.onEp e (fun x => { x with reqBuf := [], taken := [], respBuf := [] }))
  d.each l (fun d p => d.borderAnswer n e p busy)

/-- Flits of a packet are still to come. -/
def Packet.isPartial (p : Packet) : Bool := decide (p.flits.length < p.need)

/-- The endpoint completes a packet with zero flits marked aborted (R171). -/
def Packet.complete (p : Packet) : Packet :=
  if p.isPartial then { p with flits := p.flits ++ List.replicate (p.need - p.flits.length) 0, cut := some p.flits.length } else p

/-- The flits of a packet that are not aborted. -/
def Packet.real (p : Packet) : List (BitVec 64) := p.flits.take (p.cut.getD p.need)

/-- Packets that room `n` has only partly injected are completed (R171); one already answered is then gone (R183). -/
def Dev.abortPackets (d : Dev) (n : Nat) : Dev :=
  let f := fun (p : Packet) => if p.srcRtr = n then p.complete else p
  { d with net := d.net.map f, held := (d.held.map f).filter (fun p => p.isPartial || !p.answered) }

/-- The outputs of a block RAM's ports read 0 under the GSR (R95). -/
def Bram.clearOutputs (b : Bram) : Bram :=
  { b with latchA := 0, latchB := 0, outA := 0, outB := 0, errLatch := 0, errOut := 0 }

/-- The outputs of all the block RAM ports of a room read 0 under the GSR (R95). -/
def Room.clearBramOutputs (r : Room) : Room := { r with bram := r.bram.mapAll (fun _ => {}) (fun _ b => b.clearOutputs) }

/-- A room enters reset: the GSR is asserted over it, flip-flops, keepers and memory LUTs stand as they will at
release (R39, R45, R57), its buffers are flushed (R73, R82, R250, R171) and its scrubber pauses, its pass still under
way (R151). `busy` is a swap; otherwise the border answers ROOM_DOWN. Neighbour FIFOs are flushed by `State.sync`. -/
def Dev.roomReset (d : Dev) (n : Nat) (busy : Bool) : Dev :=
  let d := d.onRoom n (fun r => ({ r with
    gsr := true, clamps := true, down := !busy, release := false, started := false, ff := [], mem := [], keepers := 0,
    macs := [] }).clearBramOutputs)
  let d := (List.range 4).foldl (fun d e => d.flushEndpoint n e busy) d
  let d := (d.dropDelivery n 0).dropDelivery n 1
  d.abortPackets n

/-- Every slot busy when the room entered reset goes into quarantine at its release (R82). -/
def Endpoint.quarantineBusy (e : Endpoint) : Endpoint :=
  { e with slots := e.slots.map (fun (k, s) => (k, if s.busy then { s with busy := false, quarantine := true, byReset := true, reserve := 0 } else s)) }

/-- The room is out of reset by Table 2.6: clamps open, slots busy in reset quarantined, a new scrub pass
at position 0 of the active plane in continuous mode, or where a ticketed pass was paused (R151). -/
def Dev.roomOut (d : Dev) (n : Nat) : Dev :=
  let d := d.onRoom n (fun r => { r with
    release := false, gsr := false, clamps := false, down := false, stage := .idle,
    ep0 := r.ep0.quarantineBusy, ep1 := r.ep1.quarantineBusy,
    ep2 := r.ep2.quarantineBusy, ep3 := r.ep3.quarantineBusy })
  let d := match bankOf n with
    | some b => d.bankLeaves b
    | none => d
  let mode := d.gf F.ROOM_SCRUB_CFG_MODE n
  ((d.sf F.ROOM_SCRUB_STAT_POSITION n 0 0).sf F.ROOM_SCRUB_STAT_PLANE n 0 0).sf
    F.ROOM_SCRUB_STAT_RUNNING n 0 (b2n (mode == 1 || (mode == 2 && d.gb F.ROOM_SCRUB_STAT_RUNNING n)))

/-- The controller drops a room's GSR: the room comes out of reset, or waits for the first edge of its clock where that
is stopped (R58, R135). -/
def Dev.roomRelease (d : Dev) (n : Nat) : Dev :=
  if d.gb F.CLK_ISL_STAT_RUN n then d.roomOut n
  else d.onRoom n (fun r => { r with release := true, stage := .idle })

/-- The border clamps engage (R141, R315); the scrubber pauses while they are (R151). `busy` as in `roomReset`. -/
def Dev.clamp (d : Dev) (n : Nat) (busy : Bool) : Dev :=
  d.onRoom n (fun r => { r with clamps := true, down := !busy })

/-- The result codes of ROOM_LOAD_STAT. -/
abbrev rOk : Nat := 0
abbrev rBusy : Nat := 1
abbrev rNotUp : Nat := 2
abbrev rNoShadow : Nat := 3
abbrev rRefused : Nat := 4
abbrev rAbandoned : Nat := 5
abbrev rDrainAbort : Nat := 6
abbrev rBadSource : Nat := 7

/-- An operation of ROOM_LOAD_CTRL ends (R152). -/
def Dev.roomResult (d : Dev) (n result source : Nat) : Dev :=
  ((d.sf F.ROOM_LOAD_STAT_DONE n 0 1).sf F.ROOM_LOAD_STAT_RESULT n 0 result).sf F.ROOM_LOAD_STAT_SOURCE n 0 source

/-- Empty a room's shadow plane: its map is cleared (R53) and its source released. -/
def Dev.emptyShadow (d : Dev) (n : Nat) : Dev :=
  let d := d.onRoom n (fun r => { r with shd := {}, arm := none })
  ((((d.sf F.ROOM_PLANE_STAT_SH_STATE n 0 shEmpty).sf F.ROOM_PLANE_STAT_SH_VERIFIED n 0 0).sf
    F.ROOM_PLANE_STAT_SH_KEEP_BRAM n 0 0).sf F.ROOM_PLANE_STAT_SH_SRC n 0 0).sf F.ROOM_PLANE_STAT_SH_BLOCK n 0 0

/-- A load under way in room `n` is ended: the plane loaded becomes INVALID or DOWN (R152, R32). -/
def Dev.dropLoad (d : Dev) (n result source : Nat) : Dev :=
  match (d.room n).load with
  | none => d
  | some l =>
    let d := d.onRoom n (fun r => { r with load := none })
    let d := if l.active then d.sf F.ROOM_PLANE_STAT_ACT_STATE n 0 actDown
      else d.sf F.ROOM_PLANE_STAT_SH_STATE n 0 shInvalid
    if l.full then d else d.roomResult n result source

/-- A swap of room `n` armed or under way is abandoned: the shadow plane is READY again, not armed, and
the arm operation ends ABANDONED (R32, R146). -/
def Dev.dropSwap (d : Dev) (n result : Nat) : Dev :=
  if d.sh n == shArmed || d.sh n == shSwapping then
    let d := d.onRoom n (fun r => { r with arm := none, stage := .idle })
    (d.sf F.ROOM_PLANE_STAT_SH_STATE n 0 shReady).roomResult n result 0
  else d

/-- The keep registers of a room, as values. -/
def Dev.keepRegs (d : Dev) (n : Nat) : List Word := (List.range 64).map (fun k => d.reg .KEEP n k)

/-- Set the keep registers of a room. -/
def Dev.setKeepRegs (d : Dev) (n : Nat) (l : List Word) : Dev :=
  d.each (List.range 64) (fun d k => d.setReg .KEEP n k (l.getD k 0))

/-- A park or a wake under way in a room put into reset by a mode ends with the room powered, its keep
registers as saved. DEDUCED, log entry 37. -/
def Dev.dropPark (d : Dev) (n : Nat) : Dev :=
  let d := match d.pstate n, (d.room n).saved with
    | 3, some v => d.setKeepRegs n v.keep
    | _, _ => d
  if d.pstate n == 1 || d.pstate n == 3 then (d.sf F.GOV_ROOM_PSTATE n 0 0).onRoom n (fun r => { r with saved := none })
  else d

/-- A class written while the room parked or woke takes effect (Table 14.11). -/
def Dev.takeClass (d : Dev) (n : Nat) : Dev :=
  match (d.room n).newClass with
  | some c => (d.sf F.GOV_ROOM_CLASS n 0 c.toNat).onRoom n (fun r => { r with newClass := none })
  | none => d

/-- Every room is put into reset by a mode (Table 1.5). -/
def Dev.resetAllRooms (d : Dev) : Dev :=
  d.each roomIds (fun d n =>
    ((((d.dropPark n).takeClass n).roomReset n false)).onRoom n (fun r => { r with stage := .idle, quiesce := {} }))

/-- Loads and swaps of every room are abandoned (R32). -/
def Dev.abandonRooms (d : Dev) : Dev :=
  d.each roomIds (fun d n => (d.dropLoad n rAbandoned 0).dropSwap n rAbandoned)

end Sys2Proof.Machine
end

