-- ==== Sys2Proof/Machine/Corridor.lean ====
section
/-! DEFINITION. The corridor (R75 to R83): routes, endpoints, their slots and buffers, packets on the way and
what answers them. Packets of one pair of ports keep their order (R80): only the oldest of a pair can
arrive. Requests stand in `Dev.net`, responses in `Dev.netResp`, in the order they were sent; a request
whose header has reached an attach port stands in `Dev.held`, in the order of arrival (R171). -/

namespace Sys2Proof.Machine

/-- Status codes of Table 3.9. -/
abbrev stOk : Nat := 0
abbrev stRoomDown : Nat := 1
abbrev stRoomBusy : Nat := 2
abbrev stQuadDown : Nat := 3
abbrev stChanOffline : Nat := 4
abbrev stEccUncorr : Nat := 5
abbrev stNoTarget : Nat := 6
abbrev stTimeout : Nat := 7
abbrev stFenced : Nat := 8

/-! ### Routes (R75, R80) -/

/-- Positions from `x` to `y`, both included. -/
def walk (x y : Nat) : List Nat :=
  if x ≤ y then (List.range (y - x + 1)).map (x + ·) else (List.range (x - y + 1)).map (x - ·)

/-- The routers a packet passes from `a` to `b`: along the row first, then along the column. -/
def route (a b : Nat) : List Nat :=
  (walk (a % 8) (b % 8)).map (a / 8 * 8 + ·) ++ ((walk (a / 8) (b / 8)).drop 1).map (8 * · + b % 8)

/-- The hop count between two routers. -/
def hops (a b : Nat) : Nat := (route a b).length - 1

/-- The router outputs a packet passes: each router with the next, at last the local port, numbered from 64 on. -/
def outputs (a b port : Nat) : List (Nat × Nat) :=
  let r := route a b
  r.zip (r.drop 1 ++ [64 + port])

/-- The outputs that lead a request to its port. -/
def Packet.path (p : Packet) : List (Nat × Nat) := outputs p.srcRtr p.dstRtr p.dstPort

/-! ### Packets (R77) -/

/-- The header flit of a request (Table 3.7). -/
def Packet.header (p : Packet) : BitVec 64 :=
  p.op ++ p.len ++ BitVec.ofNat 6 p.dstRtr ++ BitVec.ofNat 3 p.dstPort ++ BitVec.ofNat 6 p.srcRtr ++
    BitVec.ofNat 3 p.srcPort ++ BitVec.ofBool p.gen ++ BitVec.ofNat 5 p.slot ++ p.addr

/-- The header flit of a response (Table 3.8). -/
def RespPkt.header (r : RespPkt) : BitVec 64 :=
  (if r.isRead then 8#4 else 9#4) ++ r.len ++ BitVec.ofNat 6 r.dstRtr ++ BitVec.ofNat 3 r.dstPort ++
    BitVec.ofNat 6 r.srcRtr ++ BitVec.ofNat 3 r.srcPort ++ BitVec.ofBool r.gen ++ BitVec.ofNat 5 r.slot ++ 0#28 ++
    BitVec.ofNat 4 r.status

/-- The flits of a response on the wire: the header, then the data. -/
def RespPkt.wire (r : RespPkt) : List (BitVec 64) := r.header :: r.data

/-- Operation codes of Table 3.7. -/
abbrev opRead : BitVec 4 := 0
abbrev opWrite : BitVec 4 := 1
abbrev opBitSet : BitVec 4 := 2
abbrev opBitClear : BitVec 4 := 3
abbrev opEvent : BitVec 4 := 4

/-- A hardened target on the corridor. -/
inductive Target where
  | quad (q : Nat)
  | dram (n : Nat)
  | core (att : Nat)
  deriving DecidableEq, Repr

/-- The target attached to a router (Table 3.6). -/
def attachOf (rtr : Nat) : Option Target :=
  if rtr = 1 || rtr = 2 then some (.quad 0)
  else if rtr = 3 then some (.dram 0)
  else if rtr = 4 then some (.dram 1)
  else if rtr = 5 || rtr = 6 then some (.quad 1)
  else if rtr = 31 then some (.core 0)
  else if rtr = 39 then some (.core 1)
  else if rtr = 57 || rtr = 58 then some (.quad 2)
  else if rtr = 59 then some (.dram 2)
  else if rtr = 60 then some (.dram 3)
  else if rtr = 61 || rtr = 62 then some (.quad 3)
  else none

/-- Payload flits of a request (R77). -/
def payloadFlits (op len : BitVec 4) : Nat :=
  if op = opWrite || op = opEvent then len.toNat + 1 else if op = opBitSet || op = opBitClear then 1 else 0

/-- Flits of the response a request must have room for (R83). -/
def respNeed (op len : BitVec 4) : Nat := if op = opRead then len.toNat + 2 else 1

/-- LEN as the header carries it: 0 for bit operations (Table 3.7). -/
def packetLen (op len : BitVec 4) : BitVec 4 := if op = opBitSet || op = opBitClear then 0 else len

/-- Flits of a response in a buffer. -/
def RespPkt.size (r : RespPkt) : Nat := 1 + r.data.length

/-- Flits of a request in a buffer. -/
def Packet.size (p : Packet) : Nat := 1 + p.need

/-- Slot `k` of an endpoint. -/
def Endpoint.slot (e : Endpoint) (k : Nat) : Slot := Map.get (fun _ => {}) e.slots k

/-- Replace slot `k`. -/
def Endpoint.setSlot (e : Endpoint) (k : Nat) (x : Slot) : Endpoint :=
  { e with slots := Map.put (fun _ => {}) e.slots k x }

/-- The free slots of an endpoint (R81). -/
def Endpoint.free (e : Endpoint) : List Nat :=
  (List.range 32).filter (fun k => !(e.slot k).busy && !(e.slot k).quarantine)

/-- Busy slots of an endpoint (ROOM_COR_STAT.OUT_e). -/
def Endpoint.busyCount (e : Endpoint) : Nat := ((List.range 32).filter (fun k => (e.slot k).busy)).length

/-- Flits of the response buffer held or reserved (R83). -/
def Endpoint.claimed (e : Endpoint) : Nat :=
  ((List.range 32).map (fun k => if (e.slot k).busy then (e.slot k).reserve else 0)).sum + (e.respBuf.map RespPkt.size).sum

/-- Endpoint `e` of room `n`. -/
def Dev.ep (d : Dev) (n e : Nat) : Endpoint := (d.room n).ep e

/-- Change endpoint `e` of room `n`. -/
def Dev.onEp (d : Dev) (n e : Nat) (f : Endpoint → Endpoint) : Dev := d.onRoom n (fun r => r.onEp e f)

/-- An endpoint may issue a request (R81, R83, Table 6.4). -/
def Dev.mayIssue (d : Dev) (n e : Nat) (op len : BitVec 4) : Bool :=
  d.roomUp n && bitOf (d.gf F.ROOM_COR_CTRL_EP_EN n) e && !((d.ep n e).free).isEmpty &&
    !(d.net ++ d.held).any (fun p => p.srcRtr == n && p.srcPort == e && p.isPartial) &&
    decide ((d.ep n e).claimed + respNeed op (packetLen op len) ≤ 64)

/-- The slot an issue takes: the spec does not say which free one, so the choice is a free value. -/
def Dev.pickSlot (d : Dev) (n e : Nat) : Nat :=
  let l := (d.ep n e).free
  l.getD ((Config.freeWord d.free).toNat % l.length) 0

/-- COR_REQUEST_ISSUE (R81, R83): a slot is taken, its generation bit toggles, and the packet goes out.
`flits` are the payload flits supplied at once; the others follow by PAYLOAD_FLIT_INJECT.
DESIGN CHOICE, log entry 17. -/
def Dev.corIssue (d : Dev) (n e : Nat) (op len : BitVec 4) (rtr : Nat) (port : Nat) (addr : Word)
    (flits : List (BitVec 64)) : Dev :=
  if d.mayIssue n e op len && decide (flits.length ≤ payloadFlits op (packetLen op len)) then
    let k := d.pickSlot n e
    let old := (d.ep n e).slot k
    let gen := !old.gen
    let len := packetLen op len
    let d := { d with free := d.free + 1 }
    let d := d.onEp n e (fun x => x.setSlot k {
      busy := true, gen := gen, reserve := respNeed op len, timeout := d.gf F.ROOM_COR_CTRL_TIMEOUT n
      isRead := op == opRead, len := len, rtr := rtr, port := port })
    { d with issued := d.issued + 1, net := d.net ++ [{
        no := d.issued, op := op, len := len, dstRtr := rtr, dstPort := port, srcRtr := n, srcPort := e, gen := gen, slot := k,
        addr := addr, flits := flits, need := payloadFlits op len }] }
  else d

/-- COR_REQUEST_ISSUE (R81). -/
def execCorRequestIssue (n e : Nat) (op len : BitVec 4) (rtr : Nat) (port : BitVec 3) (addr : Word)
    (flits : List (BitVec 64)) (s : State) : Out :=
  .next (s.onDev (fun d => d.corIssue n e op len rtr port.toNat addr flits))

/-- A further payload flit of the packet that port `p` of room `n` has only partly injected. -/
def Packet.inject (n p : Nat) (flit : BitVec 64) (x : Packet) : Packet :=
  if x.srcRtr = n ∧ x.srcPort = p ∧ x.isPartial then { x with flits := x.flits ++ [flit] } else x

/-- PAYLOAD_FLIT_INJECT (R171): an answered packet leaves the links with its last flit (R183). -/
def Dev.injectFlit (d : Dev) (n p : Nat) (flit : BitVec 64) : Dev :=
  { d with
    net := d.net.map (Packet.inject n p flit)
    held := (d.held.map (Packet.inject n p flit)).filter (fun x => x.isPartial || !x.answered) }

/-- PAYLOAD_FLIT_INJECT (R171). -/
def execPayloadFlitInject (n p : Nat) (flit : BitVec 64) (s : State) : Out := .next (s.onDev (fun d => d.injectFlit n p flit))

/-- Packets `x` and `y` travel between the same two ports (R80). -/
def samePair (x y : Packet) : Bool :=
  x.srcRtr == y.srcRtr && x.srcPort == y.srcPort && x.dstRtr == y.dstRtr && x.dstPort == y.dstPort

/-- An older packet whose header has arrived holds an output on the way of `p` until its last flit (R80). -/
def Dev.pathHeld (d : Dev) (p : Packet) : Bool :=
  (d.held ++ d.net.filter (·.here)).any (fun h => h.isPartial && h.no < p.no && h.path.any (fun o => p.path.contains o))

/-- The k-th packet on the way, if it may arrive next: no older one of its pair is still on the way, and its path is
not held. DESIGN CHOICE, log entry 17. -/
def Dev.arriving (d : Dev) (k : Nat) : Option Packet :=
  match d.net[k]? with
  | none => none
  | some p => if (d.net.take k).any (fun q => samePair q p) || d.pathHeld p then none else some p

/-- LAR_QSTAT_q.STATE. -/
def Dev.quadState (d : Dev) (q : Nat) : Nat := d.gf F.LAR_QSTAT_STATE q

/-- DRC_n_STAT.STATE. -/
def Dev.dramState (d : Dev) (n : Nat) : Nat := d.gf F.DRC_STAT_STATE n

/-- The even channel of a mirrored pair, where channel `n` belongs to one (R201). -/
def Dev.mirrorOf (d : Dev) (n : Nat) : Option Nat :=
  let e := n / 2 * 2
  if d.gb F.DRC_CFG_MIRROR e then some e else none

/-- A channel serves its own requests: ONLINE or SELF_REFRESH (Table 9.4). -/
def Dev.serves (d : Dev) (n : Nat) : Bool := d.dramState n == 3 || d.dramState n == 6

/-- Requests to channel `n` are served by it or by the partner of its pair (Table 9.4). -/
def Dev.pairServes (d : Dev) (n : Nat) : Bool :=
  match d.mirrorOf n with
  | some e => d.serves e || d.serves (e + 1)
  | none => d.serves n

/-- The check of a request's words at a Larder attachment (R156). -/
def larAddrOk (q addr : Nat) (len : Nat) : Bool :=
  decide (addr < larWords) && larQuad addr == q && decide (addr % quadWords + len < quadWords)

/-- The check of a request at a DRAM attachment (R192). -/
def dramAddrOk (op : BitVec 4) (addr : Nat) (len : Nat) : Bool :=
  (op == opRead || op == opWrite) && decide (addr < 2 ^ 24) && addr % 2 == 0 && len % 2 == 1 &&
    decide (addr + len < 2 ^ 24)

/-- The status an attachment answers a request with at once, none where the request waits for its
arbiter (R76, R79, R156, R161, R192). An EVENT packet is EVENT_POST's. -/
def Dev.attachAnswer (d : Dev) (p : Packet) : Option Nat :=
  match attachOf p.dstRtr with
  | none => some stNoTarget
  | some (.quad q) =>
    if 4 ≤ p.op.toNat || !larAddrOk q p.addr.toNat p.len.toNat then some stNoTarget
    else if d.quadState q != 2 then some stQuadDown
    else none
  | some (.dram n) =>
    if !dramAddrOk p.op p.addr.toNat p.len.toNat then some stNoTarget
    else if !d.pairServes n then some stChanOffline
    else none
  | some (.core _) => some stNoTarget

/-- Remove the k-th packet from the way. -/
def Dev.dropNet (d : Dev) (k : Nat) : Dev := { d with net := d.net.eraseIdx k }

/-- The header of the k-th packet stands at the endpoint it goes to; its flits follow. -/
def Dev.headHere (d : Dev) (k : Nat) : Dev := { d with net := d.net.modify k (fun p => { p with here := true }) }

/-- The header of the k-th packet has reached an attach port. -/
def Dev.hold (d : Dev) (k : Nat) (p : Packet) : Dev := { d.dropNet k with held := d.held ++ [p] }

/-- A request answered QUAD_DOWN is counted (R161). -/
def Dev.countDown (d : Dev) (p : Packet) (st : Nat) : Dev :=
  match attachOf p.dstRtr with
  | some (.quad q) => if st = stQuadDown then d.cnt F.LAR_QCNT_DOWN q 0 else d
  | _ => d

/-- A request reaches endpoint `e` of room `m` (R79, R82, R83): the border answers for a room that is
down or swapping, ahead of the NO_TARGET of an endpoint that takes no requests, and for a buffer without room for all of
the request; an empty buffer takes any. DESIGN CHOICE, log entry 17. -/
def Dev.endpointArrive (d : Dev) (m e : Nat) (p : Packet) : Dev :=
  let r := d.room m
  if r.gsr || r.clamps then d.borderAnswer m e p (!r.down)
  else if !bitOf (d.gf F.ROOM_COR_CTRL_TGT_EN m) e || 4 ≤ p.op.toNat then d.respond p stNoTarget []
  else
    let held := ((d.ep m e).reqBuf.map Packet.size).sum
    if held = 0 || held + p.size ≤ 16 then d.onEp m e (fun x => { x with reqBuf := x.reqBuf ++ [p] })
    else d.borderAnswer m e p true

/-! ### Requests that have reached an attach port (R171) -/

/-- Answer the request held at place `k`. A packet whose flits are not all in keeps its links until they are, and they are
discarded (R171, R183). -/
def Dev.answerAt (d : Dev) (k : Option Nat) (status : Nat) (data : List (BitVec 64)) : Dev :=
  match k with
  | none => d
  | some k => match d.held[k]? with
    | none => d
    | some p =>
      ({ d with held := if p.isPartial then d.held.modify k (fun p => { p with answered := true }) else d.held.eraseIdx k }).respond
        p status data

/-- Answer the request held under number `no`, if it still waits for its answer. -/
def Dev.answerNo (d : Dev) (no status : Nat) (data : List (BitVec 64)) : Dev :=
  d.answerAt (d.held.findIdx? (fun p => p.no == no && !p.answered)) status data

/-- Packet `p` waits at an attachment of the target for its answer. -/
def waitsAt (t : Target) (p : Packet) : Bool := p.dstPort == 6 && attachOf p.dstRtr == some t && !p.answered

/-- The targets whose requests the arbiter in front of a target sees: both channels of a mirrored pair (R201). -/
def Dev.arbTargets (d : Dev) : Target → List Target
  | .dram n => match d.mirrorOf n with
    | some e => [.dram e, .dram (e + 1)]
    | none => [.dram n]
  | t => [t]

/-- The arbiter in front of a target that a room's requests reach (Table 8.2). -/
def Dev.roomArb (d : Dev) : Target → Nat
  | .quad q => 2 * q + 1
  | .dram n => 8 + (d.mirrorOf n).getD n
  | .core _ => 0

/-- The request line of an ID is raised, unless it is raised or holds the grant already. -/
def Arbiter.raise (x : Arbiter) (i : Nat) : Arbiter :=
  if x.owner == some i || x.reqs.any (fun r => r.id == i) then x else { x with reqs := x.reqs ++ [({ id := i } : ArbReq)] }

/-- A request has come to wait at an attachment: the room's line is raised, or the arbiter answers FENCED (R171, R182). -/
def Dev.lineAt (d : Dev) (t : Target) (k req : Nat) : Dev :=
  let a := d.roomArb t
  if d.fenced a req then (d.fenceHit a req).answerAt (some k) stFenced [] else d.onArb a (fun x => x.raise req)

/-- COR_REQUEST_ARRIVE (R83): the k-th packet on the way reaches its destination port. At an endpoint it arrives once
it is whole; at an attach port its header arrives ahead of its flits (R171). DESIGN CHOICE, log entry 17. -/
def Dev.corArrive (d : Dev) (k : Nat) : Dev :=
  match d.arriving k with
  | none => d
  | some p =>
    if p.dstPort < 4 then
      if p.isPartial then d.headHere k else (d.dropNet k).endpointArrive p.dstRtr p.dstPort p
    else
      let place := d.held.length
      let d := d.hold k p
      if p.dstPort = 6 then
        match d.attachAnswer p, attachOf p.dstRtr with
        | some st, _ => (d.countDown p st).answerAt (some place) st []
        | none, some t => d.lineAt t place p.srcRtr
        | none, none => d
      else d.answerAt (some place) stNoTarget []

/-- COR_REQUEST_ARRIVE (R83). -/
def execCorRequestArrive (k : Nat) (s : State) : Out := .next (s.onDev (fun d => d.corArrive k))

/-- The k-th response on the way, if it may arrive next (R80). -/
def Dev.respArriving (d : Dev) (k : Nat) : Option RespPkt :=
  match d.netResp[k]? with
  | none => none
  | some r =>
    if (d.netResp.take k).any (fun q => q.srcRtr == r.srcRtr && q.srcPort == r.srcPort && q.dstRtr == r.dstRtr &&
        q.dstPort == r.dstPort) then none else some r

/-- A response reaches its requester's endpoint (R81, R82): dropped while the room is held by the GSR,
parked or off, dropped at a quarantined or unmatched slot, else it frees its slot. -/
def Dev.respAt (d : Dev) (n e : Nat) (r : RespPkt) : Dev :=
  let x := (d.ep n e).slot r.slot
  if (d.room n).gsr then (d.cnt F.ROOM_COR_CNT_ORPHAN n e).noticeFree 0x62
  else if x.quarantine && x.byReset then d.cnt F.ROOM_COR_CNT_ORPHAN n e
  else if !x.busy || x.gen != r.gen then (d.cnt F.ROOM_COR_CNT_LATE n e).noticeFree 0x63
  else d.onEp n e (fun y =>
    { y.setSlot r.slot { x with busy := false, reserve := 0 } with respBuf := y.respBuf ++ [r] })

/-- COR_RESPONSE_ARRIVE (R81). A response to an event port frees that port's post.
DESIGN CHOICE, log entry 17. -/
def Dev.corRespond (d : Dev) (k : Nat) : Dev :=
  match d.respArriving k with
  | none => d
  | some r =>
    let d := { d with netResp := d.netResp.eraseIdx k }
    if r.dstPort < 4 then d.respAt r.dstRtr r.dstPort r else d

/-- COR_RESPONSE_ARRIVE (R81). -/
def execCorResponseArrive (k : Nat) (s : State) : Out := .next (s.onDev (fun d => d.corRespond k))

/-- COR_TIMEOUT (R81): a busy slot whose timer runs expires: the fabric gets TIMEOUT, the slot goes into
quarantine. -/
def Dev.corTimeout (d : Dev) (n e k : Nat) : Dev :=
  let x := (d.ep n e).slot k
  if x.busy && x.timeout != 0 && !(d.room n).gsr then
    let resp : RespPkt := {
      isRead := x.isRead, len := x.len, dstRtr := n, dstPort := e, srcRtr := x.rtr, srcPort := x.port,
      gen := x.gen, slot := k, status := stTimeout, data := [] }
    let d := d.onEp n e (fun y => { y.setSlot k { x with
      busy := false, quarantine := true, byReset := false, reserve := 0 } with respBuf := y.respBuf ++ [resp] })
    (d.cnt F.ROOM_COR_CNT_TIMEOUT n e).noticeFree 0x61
  else d

/-- COR_TIMEOUT (R81). -/
def execCorTimeout (n e k : Nat) (s : State) : Out := .next (s.onDev (fun d => d.corTimeout n e k))

/-- COR_QUARANTINE_END (R81): a further timeout period has passed; the slot is free. -/
def execCorQuarantineEnd (n e k : Nat) (s : State) : Out :=
  .next (s.onDev (fun d =>
    let x := (d.ep n e).slot k
    if x.quarantine then d.onEp n e (fun y => y.setSlot k { x with quarantine := false, byReset := false }) else d))

/-- COR_REQUEST_TAKE (R82): the fabric takes the oldest request of an endpoint, while its room runs with
the clamps open (Table 6.4). -/
def execCorRequestTake (n e : Nat) (s : State) : Out :=
  .next (s.onDev (fun d =>
    if d.roomUp n then d.onEp n e (fun x => match x.reqBuf with
      | [] => x
      | p :: l => { x with reqBuf := l, taken := x.taken ++ [p] })
    else d))

/-- COR_TARGET_RESPONSE (R78): the fabric answers the k-th request it has taken with OK, and with
LEN + 1 data flits for a READ; it may do so until the GSR is asserted (Table 6.4). -/
def Dev.corTarget (d : Dev) (n e k : Nat) (data : List (BitVec 64)) : Dev :=
  match (d.ep n e).taken[k]? with
  | none => d
  | some p =>
    if (d.room n).gsr || (p.op == opRead && data.length != p.len.toNat + 1) then d
    else (d.onEp n e (fun x => { x with taken := x.taken.eraseIdx k })).respond p stOk data

/-- COR_TARGET_RESPONSE (R78). -/
def execCorTargetResponse (n e k : Nat) (data : List (BitVec 64)) (s : State) : Out :=
  .next (s.onDev (fun d => d.corTarget n e k data))

/-- COR_RESPONSE_TAKE (R83): the fabric reads the oldest response out of the buffer. -/
def execCorResponseTake (n e : Nat) (s : State) : Out :=
  .next (s.onDev (fun d =>
    if (d.room n).gsr then d else d.onEp n e (fun x => { x with respBuf := x.respBuf.drop 1 })))

/-- ROOM_COR_STAT (R85): busy slots of the four endpoints. -/
def Dev.corStat (d : Dev) (n : Nat) : Word :=
  BitVec.ofNat 32 ((d.ep n 0).busyCount + 0x100 * (d.ep n 1).busyCount + 0x10000 * (d.ep n 2).busyCount +
    0x1000000 * (d.ep n 3).busyCount)

end Sys2Proof.Machine
end

