-- ==== Sys2Proof/Machine/Larder.lean ====
section
/-! DEFINITION. The Larder (R153 to R168): the cells of its banks, the words as a requester sees them while a region is
under test, error correction, the transparent test, quadrant power. -/

namespace Sys2Proof.Machine

/-! ### Cells (R153) -/

/-- The cell of word `c` of spare row `k` of bank `b`. -/
def spareCell (b k c : Nat) : Nat := larWords + (4 * b + k) * 128 + c

/-- The cell of word `c` of the spare buffer of bank `b`. -/
def bufferCell (b c : Nat) : Nat := larWords + 0x8000 + 128 * b + c

/-- The quadrant of a cell. -/
def cellQuad (x : Nat) : Nat :=
  if x < larWords then larQuad x else if x < larWords + 0x8000 then (x - larWords) / 0x2000 else (x - larWords - 0x8000) / 0x800

/-- The word in a cell. -/
def Dev.larCell (d : Dev) (x : Nat) : LarWord := Map.get (fun _ => {}) d.lar.words x

/-- Replace the word in a cell. -/
def Dev.setLarCell (d : Dev) (x : Nat) (w : LarWord) : Dev :=
  { d with lar := { d.lar with words := Map.put (fun _ => {}) d.lar.words x w } }

/-- Replace the word in each of several cells. -/
def Dev.setLarCells (d : Dev) (l : List Nat) (w : LarWord) : Dev := d.each l (fun d x => d.setLarCell x w)

/-! ### The repair map (R165) and the redirections of a test (Table 7.6) -/

/-- Phases of LAR_TEST_STAT. -/
abbrev phIdle : Nat := 0
abbrev phCopy : Nat := 1
abbrev phMarch : Nat := 2
abbrev phRestore : Nat := 3

/-- Byte of LAR_SPARE_ROW for spare row `k`. -/
def spareRowFld (k : Nat) : Fld := ⟨.LAR_SPARE_ROW, 8 * k, 8⟩

/-- The spare row of bank `b` that serves row `r`, if any. -/
def Dev.spareOf (d : Dev) (b r : Nat) : Option Nat :=
  (List.range 4).find? (fun k => bitOf (d.gf F.LAR_SPARE_FLG_USED b) k && d.gf (spareRowFld k) b == r)

/-- The lowest spare row of bank `b` neither in use nor bad (R165). -/
def Dev.goodSpare (d : Dev) (b : Nat) : Option Nat :=
  (List.range 4).find? (fun k => !bitOf (d.gf F.LAR_SPARE_FLG_USED b) k && !bitOf (d.gf F.LAR_SPARE_FLG_BAD b) k)

/-- The cell that serves a word outside a test: its row's, or that of the spare row in its place. -/
def Dev.rowCell (d : Dev) (wa : Nat) : Nat :=
  match d.spareOf (larBank wa) (larRow wa) with
  | some k => spareCell (larBank wa) k (larCol wa)
  | none => wa

/-- The cell RESTORE writes: the row's, or that of the spare row that takes the failed row's place. -/
def Dev.restoreCell (d : Dev) (wa : Nat) : Nat :=
  if !d.lar.rowFailed then d.rowCell wa
  else match d.goodSpare (larBank wa) with
    | some k => spareCell (larBank wa) k (larCol wa)
    | none => d.rowCell wa

/-- The phase in force for a word: idle unless its region is under test. -/
def Dev.phaseFor (d : Dev) (wa : Nat) : Nat :=
  if d.gb F.LAR_TEST_STAT_BUSY && !d.gb F.LAR_TEST_STAT_SPARE && d.gf F.LAR_TEST_STAT_REGION == larRegion wa then
    d.gf F.LAR_TEST_STAT_PHASE
  else phIdle

/-- The cell a read of a word takes (Table 7.6). -/
def Dev.readCell (d : Dev) (wa : Nat) : Nat :=
  let ph := d.phaseFor wa
  if ph = phMarch || ph = phRestore then bufferCell (larBank wa) (larCol wa) else d.rowCell wa

/-- The cells a write of a word changes (Table 7.6). -/
def Dev.writeCells (d : Dev) (wa : Nat) : List Nat :=
  let ph := d.phaseFor wa
  let buf := bufferCell (larBank wa) (larCol wa)
  if ph = phCopy then [d.rowCell wa, buf]
  else if ph = phMarch then [buf]
  else if ph = phRestore then [buf, d.restoreCell wa]
  else [d.rowCell wa]

/-- The word at a word address, as a read finds it. -/
def Dev.larWord (d : Dev) (wa : Nat) : LarWord := d.larCell (d.readCell wa)

/-! ### Words (R156, R160) -/

/-- The arbiter in front of a quadrant for a requester: T for the timed class, else G (R157). -/
def larArb (q req : Nat) : Nat := if timedId req then 2 * q else 2 * q + 1

/-- Cells of the word read have flipped, as an access finds. DESIGN CHOICE, log entry 6. -/
def Dev.larUpset (d : Dev) (wa : Nat) (u : BitVec 72) : Dev :=
  let x := d.readCell wa
  let w := d.larCell x
  d.setLarCell x { w with flips := w.flips ^^^ u }

/-- A single-bit error found (R160). -/
def Dev.larSingle (d : Dev) (wa : Nat) (fixed : BitVec 64) : Dev :=
  let d := (d.cnt F.LAR_ECC_CORR (larQuad wa) 0).notice 0x30 wa
  if d.gb F.LAR_CTRL_WB_EN then { d with lar := { d.lar with writeback := d.lar.writeback ++ [(wa, fixed)] } } else d

/-- LAR_EADDR takes the word address, the port and the requester. -/
def Dev.larRecord (d : Dev) (wa req : Nat) : Dev :=
  let d := (((d.sf F.LAR_EADDR_VALID 0 0 1).sf F.LAR_EADDR_PORT 0 0 (b2n (!timedId req))).sf F.LAR_EADDR_REQ 0 0 req).sf
    F.LAR_EADDR_WADDR 0 0 wa
  { d with lar := { d.lar with eG := !timedId req } }

/-- A double-bit error found (R160): counted, logged, offered to LAR_EADDR, where one on port T takes the place of one
that port G recorded in the same cycle (R168). -/
def Dev.larDouble (d : Dev) (wa req : Nat) (same : Bool) : Dev :=
  let free := !d.gb F.LAR_EADDR_VALID || (same && timedId req && d.lar.eG)
  let d := (d.cnt F.LAR_ECC_UNCORR (larQuad wa) 0).fault 0x31 wa
  if free then d.larRecord wa req else d

/-- A checked read of one word: the finding and the data. `same`: it takes effect in the cycle of the access before it. -/
def Dev.larFetch (d : Dev) (wa req : Nat) (u : BitVec 72) (same : Bool := false) : Dev × Ecc × BitVec 64 :=
  let d := d.larUpset wa u
  let d := if same then d else { d with lar := { d.lar with eG := false } }
  let r := (d.larWord wa).check
  match r.1 with
  | .good => (d, r.1, r.2)
  | .single => (d.larSingle wa r.2, r.1, r.2)
  | .double => (d.larDouble wa req same, r.1, r.2)

/-- A whole word is written with a good code; a write-back of it is no longer due (R160). -/
def Dev.larStore (d : Dev) (wa : Nat) (v : BitVec 64) : Dev :=
  let d := d.setLarCells (d.writeCells wa) { data := v, flips := 0 }
  { d with lar := { d.lar with writeback := d.lar.writeback.filter (fun e => e.1 != wa) } }

/-- A read-modify-write of one word (R156, R159): not performed on a double-bit error, else stored with a
good code. -/
def Dev.larModify (d : Dev) (wa req : Nat) (u : BitVec 72) (f : BitVec 64 → BitVec 64) : Dev × Bool :=
  let r := d.larFetch wa req u
  if r.2.1 = .double then (r.1, false) else (r.1.larStore wa (f r.2.2), true)

/-- LAR_WRITEBACK (R160): a corrected word that no port has written since is written back, in a cycle in which a bit
operation does not occupy the bank's port G. DEDUCED, log entry 61. -/
def Dev.larWriteback (d : Dev) (wa : Nat) : Dev :=
  match d.lar.writeback.find? (fun e => e.1 == wa) with
  | none => d
  | some e =>
    let free := (d.arb (2 * larQuad wa + 1)).port != some (larBank wa)
    if d.quadState (larQuad wa) == 2 && free then d.larStore wa e.2 else d

/-- LAR_WRITEBACK (R160). -/
def execLarWriteback (wa : BitVec 21) (s : State) : Out := .next (s.onDev (fun d => d.larWriteback wa.toNat))

/-! ### Transparent test (R163 to R166) -/

/-- The Larder test's ID as a requester. -/
abbrev testId : Nat := 67

/-- Steps of a full pass: regions 0 to 16,383, then the spare rows by bank (R164). -/
abbrev passItems : Nat := 16384 + 256

/-- The bank of an item of a pass. -/
def itemBank (i : Nat) : Nat := if i < 16384 then i / 256 else (i - 16384) / 4

/-- The G arbiter of the quadrant under test. -/
def Dev.testArb (d : Dev) : Nat := larArb (d.gf F.LAR_TEST_STAT_REGION / 4096) testId

/-- Test operations of the phase under way (Table 7.6, R164). -/
def Dev.phaseOps (d : Dev) : Nat := if d.gf F.LAR_TEST_STAT_PHASE = phMarch then 2560 else 128

/-- A phase begins: its operations are requested at the quadrant's G arbiter; behind a fence there they wait (R163).
DESIGN CHOICE, log entry 80. -/
def Dev.phaseBegin (d : Dev) (ph : Nat) : Dev :=
  let d := ({ d with lar := { d.lar with ops := 0 } }).sf F.LAR_TEST_STAT_PHASE 0 0 ph
  d.when (!d.fenced d.testArb testId) (fun d => d.onArb d.testArb (fun x => x.raise testId))

/-- Begin the test of an item, COPY for a region, MARCH for an unused spare row. -/
def Dev.testBegin (d : Dev) (i : Nat) : Dev :=
  let spare := decide (16384 ≤ i)
  let r := if spare then 256 * itemBank i + i % 4 else i
  let d := { d with lar := { d.lar with rowFailed := false, waits := none } }
  let d := ((d.sf F.LAR_TEST_STAT_BUSY 0 0 1).sf F.LAR_TEST_STAT_SPARE 0 0 (b2n spare)).sf F.LAR_TEST_STAT_REGION 0 0 r
  (d.sf F.LAR_QSTAT_TEST_HERE (itemBank i / 16) 0 1).phaseBegin (if spare then phMarch else phCopy)

/-- No row is under test. -/
def Dev.testIdle (d : Dev) : Dev :=
  let d := (d.sf F.LAR_TEST_STAT_BUSY 0 0 0).sf F.LAR_TEST_STAT_PHASE 0 0 phIdle
  (List.range 4).foldl (fun d q => d.sf F.LAR_QSTAT_TEST_HERE q 0 0) d

/-- The pass is over. -/
def Dev.passEnd (d : Dev) (complete : Bool) : Dev :=
  let d := ((d.sf F.LAR_TEST_CTRL_PASS 0 0 0).sf F.LAR_TEST_CTRL_STOP 0 0 0).sf F.LAR_TEST_STAT_IN_PASS 0 0 0
  if complete then d.cntWrap F.LAR_TEST_CNT_PASSES 0 0 else d

/-- Item `i` has nothing to test: a spare row in use (R164). -/
def Dev.itemSkipped (d : Dev) (i : Nat) : Bool :=
  decide (16384 ≤ i) && bitOf (d.gf F.LAR_SPARE_FLG_USED (itemBank i)) (i % 4)

/-- The next item of a pass from `i` on, `passItems` if none is left. DEDUCED, log entry 61. -/
def Dev.nextItem (d : Dev) (i : Nat) : Nat :=
  if i < 16384 then i
  else ((List.range 256).map (· + 16384)).find? (fun j => i ≤ j && !d.itemSkipped j) |>.getD passItems

/-- Go on with the pass at its next item, or wait until that item's quadrant is UP (R166). -/
def Dev.passGo (d : Dev) : Dev :=
  let i := d.nextItem d.lar.item
  let q := itemBank i / 16
  if passItems ≤ i then d.passEnd true
  else if d.quadState q == 2 then ({ d with lar := { d.lar with item := i + 1 } }).testBegin i
  else { d with lar := { d.lar with waits := some q } }

/-- A region's test or a spare row's test is over. -/
def Dev.testOver (d : Dev) : Dev :=
  let d := d.testIdle.sf F.LAR_TEST_CTRL_ONE 0 0 0
  if !d.gb F.LAR_TEST_STAT_IN_PASS then d
  else if d.gb F.LAR_TEST_CTRL_STOP then d.passEnd false
  else d.passGo

/-- LAR_TEST_PASS (R163, R166). -/
def Dev.larTestPass (d : Dev) : Dev :=
  if d.gb F.LAR_TEST_STAT_BUSY then d.notice 0x75 0x70010
  else
    let d := (d.sf F.LAR_TEST_CTRL_PASS 0 0 1).sf F.LAR_TEST_STAT_IN_PASS 0 0 1
    ({ d with lar := { d.lar with item := 0 } }).passGo

/-- LAR_TEST_ONE (R163, R166). A region whose quadrant is not UP has no test to run. -/
def Dev.larTestOne (d : Dev) (region : Nat) : Dev :=
  let d := d.sf F.LAR_TEST_CTRL_REGION 0 0 region
  if d.gb F.LAR_TEST_STAT_BUSY then d.notice 0x75 0x70010
  else if d.quadState (region / 4096) == 2 then (d.sf F.LAR_TEST_CTRL_ONE 0 0 1).testBegin region
  else d

/-- LAR_TEST_STOP (R166): the pass ends after the region under test. -/
def Dev.larTestStop (d : Dev) : Dev :=
  if !d.gb F.LAR_TEST_STAT_IN_PASS then d
  else if d.gb F.LAR_TEST_STAT_BUSY then d.sf F.LAR_TEST_CTRL_STOP 0 0 1
  else d.passEnd false

/-- LAR_TEST_PASS (R163). -/
def execLarTestPass (s : State) : Out := .next (s.onDev Dev.larTestPass)

/-- LAR_TEST_ONE (R163). -/
def execLarTestOne (region : BitVec 14) (s : State) : Out :=
  .next (s.onDev (fun d => d.larTestOne region.toNat))

/-- LAR_TEST_STOP (R166). -/
def execLarTestStop (s : State) : Out := .next (s.onDev Dev.larTestStop)

/-- Set or clear a bit of USED or BAD. -/
def Dev.setFlag (d : Dev) (f : Fld) (b k : Nat) (v : Bool) : Dev :=
  let m := 2 ^ k
  let x := d.gf f b
  d.sf f b 0 (if v then x ||| m else if bitOf x k then x - m else x)

/-- The bank's map goes to the Attic (R165). -/
def Dev.saveSpares (d : Dev) (b : Nat) : Dev :=
  let m := (d.reg .LAR_SPARE_ROW b, (d.reg .LAR_SPARE_FLG b).setWidth 8)
  { d with lar := { d.lar with spares := Map.put (fun _ => (0, 0)) d.lar.spares b m } }

/-- A spare row of bank `b` has failed its march: marked bad, counted, with a NOTICE (R165). -/
def Dev.spareFails (d : Dev) (b k : Nat) : Dev :=
  (((d.setFlag F.LAR_SPARE_FLG_USED b k false).setFlag F.LAR_SPARE_FLG_BAD b k true).cnt
    F.LAR_TEST_CNT_REPAIRED 0 0).noticeFree 0x32

/-- The row that serves `region` has failed its march and RESTORE is complete (R165): the region is served from the good
spare row from now on; with none left it stays where it is, and a spare row that serves it is marked bad beside being in
use. DEDUCED, log entry 61. -/
def Dev.rowRepair (d : Dev) (region : Nat) : Dev :=
  let b := region / 256
  let r := region % 256
  match d.goodSpare b, d.spareOf b r with
  | none, none => (d.cnt F.LAR_TEST_CNT_UNREPAIRED 0 0).fault 0x33 region
  | none, some k0 => (((d.setFlag F.LAR_SPARE_FLG_BAD b k0 true).saveSpares b).cnt F.LAR_TEST_CNT_UNREPAIRED 0 0).fault 0x33 region
  | some k, old =>
    let d := match old with
      | none => d
      | some k0 => d.spareFails b k0
    let d := (d.setFlag F.LAR_SPARE_FLG_USED b k true).sf (spareRowFld k) b 0 r
    ((d.cnt F.LAR_TEST_CNT_REPAIRED 0 0).noticeFree 0x32).saveSpares b

/-- An unused spare row has failed its march: marked bad (R165). -/
def Dev.spareBad (d : Dev) (b k : Nat) : Dev :=
  (((d.setFlag F.LAR_SPARE_FLG_BAD b k true).cnt F.LAR_TEST_CNT_REPAIRED 0 0).noticeFree 0x32).saveSpares b

/-- One test operation, a cycle of port G granted to the test (R163): COPY takes a word with its check bits as they stand
into the buffer, RESTORE puts one back; what the march leaves in a row, RESTORE or a later use overwrites. -/
def Dev.testOp (d : Dev) : Dev :=
  let region := d.gf F.LAR_TEST_STAT_REGION
  let c := d.lar.ops
  if !d.gb F.LAR_TEST_STAT_BUSY || d.phaseOps ≤ c then d
  else
    let wa := (regionWords region).getD c 0
    let buf := bufferCell (region / 256) c
    let ph := d.gf F.LAR_TEST_STAT_PHASE
    let d := if d.gb F.LAR_TEST_STAT_SPARE then d
      else if ph = phCopy then d.setLarCell buf (d.larCell (d.rowCell wa))
      else if ph = phRestore then d.setLarCell (d.restoreCell wa) (d.larCell buf)
      else d
    { d with lar := { d.lar with ops := c + 1 } }

/-- TEST_PHASE_DONE (R163 to R166): a phase ends once its test operations are made; `fail` is the march's finding. A
frozen G arbiter makes none of them and so holds the test where it stands. DEDUCED, log entry 61. -/
def Dev.testPhaseDone (d : Dev) (fail : Bool) : Dev :=
  let region := d.gf F.LAR_TEST_STAT_REGION
  if !d.gb F.LAR_TEST_STAT_BUSY || d.lar.ops < d.phaseOps then d
  else
    let ph := d.gf F.LAR_TEST_STAT_PHASE
    if ph = phCopy then d.phaseBegin phMarch
    else if ph = phMarch then
      if d.gb F.LAR_TEST_STAT_SPARE then (if fail then d.spareBad (region / 256) (region % 4) else d).testOver
      else ({ d with lar := { d.lar with rowFailed := fail } }).phaseBegin phRestore
    else (if d.lar.rowFailed then d.rowRepair region else d).testOver

/-- TEST_PHASE_DONE (R163). -/
def execTestPhaseDone (fail : Bool) (s : State) : Out := .next (s.onDev (fun d => d.testPhaseDone fail))

/-! ### Quadrant power (R161, R162) -/

/-- What quadrant `q` holds is gone. -/
def Dev.quadForget (d : Dev) (q : Nat) : Dev :=
  { d with lar := { d.lar with
    words := d.lar.words.filter (fun e => cellQuad e.1 != q)
    writeback := d.lar.writeback.filter (fun e => larQuad e.1 != q) } }

/-- A test in quadrant `q` ends at once (R166): a pass whose STOP is due is over, any other waits for the quadrant; ONE is
over. DEDUCED, log entry 61. -/
def Dev.testCut (d : Dev) (q : Nat) : Dev :=
  if !d.gb F.LAR_TEST_STAT_BUSY || d.gf F.LAR_TEST_STAT_REGION / 4096 != q then d
  else
    let d := d.testIdle.sf F.LAR_TEST_CTRL_ONE 0 0 0
    if !d.gb F.LAR_TEST_STAT_IN_PASS then d
    else if d.gb F.LAR_TEST_CTRL_STOP then d.passEnd false
    else { d with lar := { d.lar with waits := some q } }

/-- A quadrant goes OFF: contents and spare buffer are lost, a test there ends (R161, R166). A grant held there ends and
what waits is answered in the arbiters' own file. -/
def Dev.quadOff (d : Dev) (q : Nat) : Dev := ((d.quadForget q).testCut q).sf F.LAR_QSTAT_STATE q 0 0

/-- A quadrant starts: it loads its repair map from the Attic, an empty one where that fails its check (R322), and enters
CLEARING (R162). -/
def Dev.quadStart (d : Dev) (q : Nat) (mapOk : Bool) : Dev :=
  let lost := fun (d : Dev) (b : Nat) => { d with lar := { d.lar with spares := Map.put (fun _ => (0, 0)) d.lar.spares b (0, 0) } }
  let banks := (List.range 16).map (16 * q + ·)
  let held := banks.any (fun b => Map.get (fun _ => (0, 0)) d.lar.spares b != (0, 0))
  let d := if mapOk || !held then d else (d.each banks lost).fault 0x29 4
  let d := d.each banks (fun d b =>
    let m := Map.get (fun _ => (0, 0)) d.lar.spares b
    (d.setReg .LAR_SPARE_ROW b 0 m.1).setReg .LAR_SPARE_FLG b 0 (m.2.setWidth 32))
  d.sf F.LAR_QSTAT_STATE q 0 1

/-- QUAD_START (R162): while the quadrant is OFF and its island clock runs. -/
def execQuadStart (x : QuadBegin) (s : State) : Out :=
  .next (s.onDev (fun d =>
    if d.quadState x.q == 0 && d.gb F.CLK_ISL_STAT_RUN (94 + x.q) then d.quadStart x.q x.mapOk else d))

/-- Every word reads 0 with a good code and the quadrant is UP (R162); a pass that waits for it goes on (R166).
DEDUCED, log entry 61. -/
def Dev.quadClearDone (d : Dev) (q : Nat) : Dev :=
  let d := (d.quadForget q).sf F.LAR_QSTAT_STATE q 0 2
  if d.lar.waits = some q && d.gb F.LAR_TEST_STAT_IN_PASS && !d.gb F.LAR_TEST_STAT_BUSY then d.passGo else d

end Sys2Proof.Machine
end

