-- ==== Sys2Proof/Machine/Arbiters.lean ====
section
/-! DEFINITION. The twelve arbiters (R169 to R187): requests, the decision of one arbiter cycle, void
grants, boosts, burst limits, the watchdog and fences, freeze, turn hints. -/

namespace Sys2Proof.Machine

/-- The kind of an arbiter (Table 8.1): timed quadrant port, general quadrant port, DRAM channel. -/
def arbTimed (a : Nat) : Bool := a < 8 && a % 2 == 0
def arbDram (a : Nat) : Bool := 8 ≤ a

/-- The target in front of which an arbiter stands. -/
def arbTarget (a : Nat) : Target := if a < 8 then .quad (a / 2) else .dram (a - 8)

/-- The resource of an arbiter is up (Table 8.4). -/
def Dev.arbUp (d : Dev) (a : Nat) : Bool := if a < 8 then d.quadState (a / 2) == 2 else d.pairServes (a - 8)

/-- The waiting request of an ID. -/
def Arbiter.find (x : Arbiter) (i : Nat) : Option ArbReq := x.reqs.find? (fun r => r.id == i)

/-- An ID has a request raised or holds the grant. -/
def Arbiter.raised (x : Arbiter) (i : Nat) : Bool := x.owner == some i || (x.find i).isSome

/-- The requests that wait in front of an arbiter, in the order of arrival: those that are not wholly queued (R171,
R195). -/
def Dev.waitList (d : Dev) (a : Nat) : List Packet :=
  let l := d.arbTargets (arbTarget a)
  let queued := fun (p : Packet) => arbDram a && (d.dram (a - 8)).reqs.any (fun r => r.pkt == some p.no && r.next == r.count)
  d.held.filter (fun p => l.any (fun t => waitsAt t p) && !queued p)

/-- Those of room `i`, by packet number. -/
def Dev.roomQueue (d : Dev) (a i : Nat) : List Nat := ((d.waitList a).filter (fun p => p.srcRtr == i)).map (·.no)

/-- Answer all that wait in front of an arbiter. -/
def Dev.answerAll (d : Dev) (a st : Nat) : Dev := d.each (d.waitList a) (fun d p => d.answerNo p.no st [])

/-- The Larder test has operations to make in the quadrant of an arbiter (R163). -/
def Dev.testHere (d : Dev) (a : Nat) : Bool := d.testArb == a && d.gb F.LAR_TEST_STAT_BUSY && decide (d.lar.ops < d.phaseOps)

/-- An ID has work behind its request line: a room what waits at the attachments, the Larder test its region; of any other
requester its own commands tell. -/
def Dev.lineWork (d : Dev) (a i : Nat) : Bool := if i < 64 then !(d.roomQueue a i).isEmpty else i != testId || d.testHere a

/-- ARB_REQUEST (R171, R174, R182): the request line rises and the request is stamped; a fenced requester's line, and one
at a resource that is down, is not taken up, and its access is answered. DEDUCED, log entry 13. -/
def Dev.arbRequest (d : Dev) (a i : Nat) : Dev :=
  if !arbReaches a i || (arbDram a && a % 2 == 1 && (d.mirrorOf (a - 8)).isSome) || !d.arbUp a || d.fenced a i ||
      !d.lineWork a i then d
  else d.onArb a (fun x => x.raise i)

/-- ARB_REQUEST (R171). -/
def execArbRequest (a i : Nat) (s : State) : Out := .next (s.onDev (fun d => d.arbRequest a i))

/-! ### Order of the waiting requests (R174, R175) -/

/-- The first of a list under a strict order. -/
def firstBy {α : Type} (lt : α → α → Bool) : List α → Option α
  | [] => none
  | x :: l => match firstBy lt l with
    | none => some x
    | some y => if lt y x then some y else some x

/-- Oldest first, then the lower ID (R174). -/
def olderReq (x y : ArbReq) : Bool := y.age < x.age || (x.age == y.age && x.id < y.id)

/-- Longest wait first, then the lower ID (R175). -/
def longerReq (x y : ArbReq) : Bool := y.wait < x.wait || (x.wait == y.wait && x.id < y.id)

/-- Round-robin distance of an ID from the last one granted, counting upward and wrapping from 95 to 0. -/
def rrDist (last i : Nat) : Nat := (i + 95 - last) % 96

/-- The winner among general requests that are not boosted: by CLASS, then round robin. -/
def Dev.classPick (d : Dev) (a : Nat) (last : Map Nat) (l : List ArbReq) : Option ArbReq :=
  let cls := fun (r : ArbReq) => d.gf F.ARB_REQ_CFG_CLASS a r.id
  let dist := fun (r : ArbReq) => rrDist (Map.get (fun _ => 95) last (cls r)) r.id
  firstBy (fun x y => cls x < cls y || (cls x == cls y && dist x < dist y)) l

/-- A general request whose wait has reached its WAIT_LIMIT is boosted; a limit of 0 never boosts (R175). -/
def Dev.boosted (d : Dev) (a : Nat) (r : ArbReq) : Bool :=
  let limit := d.gf F.ARB_REQ_CFG_WAIT_LIMIT a r.id
  !timedId r.id && limit != 0 && decide (limit ≤ r.wait)

/-- The winner among requests (R174, R175): at a DRAM arbiter boosted general requests come first, then
the timed ones. -/
def Dev.arbPick (d : Dev) (a : Nat) (last : Map Nat) (l : List ArbReq) : Option ArbReq :=
  let timed := l.filter (fun r => timedId r.id)
  let rest := l.filter (fun r => !timedId r.id && !d.boosted a r)
  match firstBy longerReq (l.filter (d.boosted a)) with
  | some r => some r
  | none => match firstBy olderReq timed with
    | some r => some r
    | none => d.classPick a last rest

/-! ### One arbiter cycle (R172, R173, R176, R181) -/

/-- A request waits one more cycle: its age saturates at 65,535 (R174). -/
def ArbReq.older (r : ArbReq) : ArbReq := { r with age := min 65535 (r.age + 1), wait := r.wait + 1 }

/-- A timed request's age has reached 65,535: one NOTICE for that request (R174). -/
def Dev.arbNoteAges (d : Dev) (a : Nat) : Dev :=
  let l := ((d.arb a).reqs).filter (fun r => timedId r.id && r.age == 65535 && !r.noted)
  let d := d.onArb a (fun x => { x with reqs := x.reqs.map (fun r =>
    if timedId r.id && r.age == 65535 then { r with noted := true } else r) })
  d.each l (fun d _ => d.noticeFree 0x35)

/-- The round-robin position of a class moves to an ID; a timed one has none. -/
def moveLast (last : Map Nat) (cls i : Nat) : Map Nat := if timedId i then last else Map.put (fun _ => 95) last cls i

/-- The grant that was decided begins, with the class it was decided in, or is void because the winner's request is low
(R173, R179). -/
def Dev.arbBegin (d : Dev) (a : Nat) (lowered : List Nat) : Dev :=
  let x := d.arb a
  match x.chosen with
  | none => d
  | some i =>
    let d := d.onArb a (fun x => { x with chosen := none })
    match x.find i with
    | none => d.cnt F.ARB_VOID_COUNT a 0
    | some r =>
      if lowered.contains i then d.cnt F.ARB_VOID_COUNT a 0
      else
        let burst := d.gf F.ARB_REQ_CFG_BURST a i + 1
        let d := d.onArb a (fun x => { x with
          owner := some i, beats := 0, burst := burst, stuck := 0
          reqs := x.reqs.filter (fun q => q.id != i)
          last := moveLast x.last x.chosenClass i })
        let d := d.cnt F.ARB_REQ_GRANTS_COUNT a i
        d.sf F.ARB_REQ_MAXWAIT_CYCLES a i (min 0xFFFFFFFF (max (d.gf F.ARB_REQ_MAXWAIT_CYCLES a i) r.wait))

/-- The owner's grant ends (R172). -/
def Arbiter.release (x : Arbiter) : Arbiter := { x with owner := none, stuck := 0 }

/-- A requester's partly served request is gone. -/
def Arbiter.forget (x : Arbiter) (i : Nat) : Arbiter := { x with work := x.work.filter (fun e => e.1 != i) }

/-- Every request of a fenced room that waits ends FENCED (R182): the one that was cut short, the first, is not counted,
the others are. -/
def Dev.fenceRoom (d : Dev) (a i : Nat) : Dev :=
  let l := d.roomQueue a i
  d.each l (fun d no => (if l.head? = some no then d else d.fenceHit a i).answerNo no stFenced [])

/-- Requests of a fenced requester at a DRAM channel that have bursts left are over; a hardened one's status is FENCED
(R182). -/
def Dev.fencePort (d : Dev) (a i : Nat) : Dev :=
  if arbDram a then
    d.onDram (a - 8) (fun x => { x with
      reqs := x.reqs.filter (fun r => r.req != i || r.next == r.count)
      answer := if i < 64 then x.answer else { status := stFenced } })
  else if i < 64 then d
  else { d with lar := { d.lar with answer := { status := stFenced } } }

/-- The watchdog frees the owner's grant and fences it (R182). -/
def Dev.arbFence (d : Dev) (a i : Nat) : Dev :=
  let beats := (d.arb a).beats
  let d := d.onArb a (fun x => ({ x.release with reqs := x.reqs.filter (fun r => r.id != i) }).forget i)
  let d := d.sf F.ARB_REQ_STAT_FENCED a i 1
  let d := if d.gb F.ARB_FENCE_LOG_VALID a then d
    else ((d.sf F.ARB_FENCE_LOG_VALID a 0 1).sf F.ARB_FENCE_LOG_REQ a 0 i).sf F.ARB_FENCE_LOG_BEATS a 0 (min beats 65535)
  let d := (d.fault 0x34 (256 * a + i)).fencePort a i
  if i < 64 then d.fenceRoom a i else d

/-- A cycle the owner lost to an occupied bank port is a bank conflict (R167, R169). -/
def Dev.arbConflict (d : Dev) (a i : Nat) : Dev := if a < 8 then d.cnt F.LAR_CONF_COUNT (a / 2) i else d

/-- What the owner does in the cycle, and how its grant ends: request low, last beat, burst limit or
watchdog (R172, R181, Table 8.4). A beat of the Larder test is one of its operations. An ID that is named requests again,
as a new request raised after the decision (R176). DESIGN CHOICE, log entry 18. -/
def Dev.arbOwner (d : Dev) (a : Nat) (c : ArbCycle) : Dev × Option Nat :=
  let x := d.arb a
  match x.owner with
  | none => (d, none)
  | some i =>
    let again := if i < 64 && d.lineWork a i then some i else none
    let low := !d.lineWork a i && !c.last
    let d := if c.beat && i = testId then d.testOp else d
    let beats := if c.beat then x.beats + 1 else x.beats
    let stuck := if c.beat then 0 else if c.neutral then x.stuck else x.stuck + 1
    let limit := d.gf F.ARB_WDOG_LIMIT a
    let d := d.onArb a (fun x => { x with beats := beats, stuck := stuck })
    let d := if c.neutral && !c.beat then d.arbConflict a i else d
    if c.beat && c.last then (d.onArb a Arbiter.release, again)
    else if c.drop || low then (d.onArb a (fun x => x.release.forget i), none)
    else if c.beat && x.burst ≤ beats then (d.onArb a Arbiter.release, some i)
    else if !c.beat && !c.neutral && limit != 0 && limit ≤ stuck then (d.arbFence a i, none)
    else (d, none)

/-- The waiting requests count their wait and age. DESIGN CHOICE, log entry 18. -/
def Dev.arbWait (d : Dev) (a : Nat) : Dev :=
  let l := (d.arb a).reqs
  let d := d.each l (fun d r => d.cnt F.ARB_REQ_WAIT_COUNT a r.id)
  (d.onArb a (fun x => { x with reqs := l.map ArbReq.older })).arbNoteAges a

/-- The decision: with no grant held and no freeze, a winner is chosen for the next cycle.
DESIGN CHOICE, log entry 18. -/
def Dev.arbDecide (d : Dev) (a : Nat) (frozen : Bool) : Dev :=
  let x := d.arb a
  if x.owner.isSome || frozen then d
  else match d.arbPick a x.last x.reqs with
    | none => d
    | some r =>
      let cls := d.gf F.ARB_REQ_CFG_CLASS a r.id
      d.onArb a (fun x => { x with chosen := some r.id, chosenClass := cls })

/-- Requesters that wait lower their requests; what was served of them is gone. -/
def Arbiter.lower (x : Arbiter) (low : List Nat) : Arbiter :=
  { x with
    reqs := x.reqs.filter (fun r => !low.contains r.id)
    work := x.work.filter (fun e => x.owner == some e.1 || !low.contains e.1) }

/-- One arbiter cycle; `busy` is the bank whose port stays occupied in the next one (R157). DESIGN CHOICE, log entry
18. -/
def Dev.arbCycle (d : Dev) (a : Nat) (c : ArbCycle) (busy : Option Nat := none) : Dev :=
  if !d.arbUp a then d
  else
    let low := c.lowered.map (fun i => i.val) ++ ((d.arb a).reqs.map (·.id)).filter (fun i => !d.lineWork a i)
    let d := d.arbBegin a low
    let d := d.onArb a (fun x => x.lower low)
    let r := d.arbOwner a c
    let d := r.1.arbDecide a (d.gb F.ARB_CTRL_FREEZE a)
    let d := d.arbWait a
    let d := match r.2 with
      | none => d
      | some i => d.onArb a (fun x => x.raise i)
    d.onArb a (fun x => { x with now := x.now + 1, port := busy })

/-- What a cycle of ARB_DECISION can show of the owner: a room's beats are those of its packets' commands, the test's are
limited to its phase, and a quadrant holds a beat up only at an occupied port. DEDUCED, log entry 13. -/
def Dev.cycleOf (d : Dev) (a : Nat) (c : ArbCycle) : ArbCycle :=
  let x := d.arb a
  let i := (if x.owner.isSome then x.owner else x.chosen).getD 0
  let beat := c.beat && decide (64 ≤ i) && (i != testId || decide (d.lar.ops < d.phaseOps))
  { c with beat := beat, last := beat && c.last && i != testId, drop := c.drop && decide (64 ≤ i) && i != testId
           neutral := c.neutral && (arbDram a || x.port.isSome) }

/-- ARB_DECISION (R172). DESIGN CHOICE, log entry 8. -/
def execArbDecision (a : Nat) (c : ArbCycle) (s : State) : Out := .next (s.onDev (fun d => d.arbCycle a (d.cycleOf a c)))

/-- ARB_AGE_SATURATE (R174): a waiting timed request's age has reached 65,535.
DESIGN CHOICE, log entry 18. -/
def Dev.arbSaturate (d : Dev) (a i : Nat) : Dev :=
  (d.onArb a (fun x => { x with reqs := x.reqs.map (fun r =>
    if r.id = i ∧ timedId i then { r with age := 65535 } else r) })).arbNoteAges a

/-- ARB_AGE_SATURATE (R174). -/
def execArbAgeSaturate (a i : Nat) (s : State) : Out := .next (s.onDev (fun d => d.arbSaturate a i))

/-- ARB_WAIT_BOOST (R175): a waiting general request's wait has reached its WAIT_LIMIT, which is not 0.
DESIGN CHOICE, log entry 18. -/
def Dev.arbBoost (d : Dev) (a i : Nat) : Dev :=
  let limit := d.gf F.ARB_REQ_CFG_WAIT_LIMIT a i
  if limit = 0 || timedId i then d
  else d.onArb a (fun x => { x with reqs := x.reqs.map (fun r =>
    if r.id = i then { r with wait := max r.wait limit } else r) })

/-- ARB_WAIT_BOOST (R175). -/
def execArbWaitBoost (a i : Nat) (s : State) : Out := .next (s.onDev (fun d => d.arbBoost a i))

/-- ARB_WATCHDOG_EXPIRY (R181): the cycle in which the no-progress count reaches LIMIT.
DESIGN CHOICE, log entry 18. -/
def Dev.arbWatchdog (d : Dev) (a : Nat) : Dev :=
  let limit := d.gf F.ARB_WDOG_LIMIT a
  if limit = 0 then d
  else match (d.arb a).owner with
    | none => d
    | some _ => (d.onArb a (fun x => { x with stuck := limit - 1 })).arbCycle a {}

/-- ARB_WATCHDOG_EXPIRY (R181). -/
def execArbWatchdogExpiry (a : Nat) (s : State) : Out := .next (s.onDev (fun d => d.arbWatchdog a))

/-- ARB_FENCE_LIFT (R183): a write of 1 to FENCED; the Larder test requests again. -/
def Dev.fenceLift (d : Dev) (a i : Nat) : Dev :=
  if !arbReaches a i then d
  else
    let d := d.sf F.ARB_REQ_STAT_FENCED a i 0
    d.when (i == testId && d.testHere a) (fun d => d.onArb a (fun x => x.raise i))

/-- ARB_FENCE_LIFT (R183). -/
def execArbFenceLift (a i : Nat) (s : State) : Out := .next (s.onDev (fun d => d.fenceLift a i))

/-- ARB_FREEZE (R180). -/
def execArbFreeze (a : Nat) (on : Bool) (s : State) : Out :=
  .next (s.onDev (fun d => d.sf F.ARB_CTRL_FREEZE a 0 (b2n on)))

/-- The resource of an arbiter goes down (Table 8.4): the grant ends without fence or void count, and nothing waits. -/
def Dev.arbDown (d : Dev) (a : Nat) : Dev :=
  d.onArb a (fun x => { x.release with chosen := none, reqs := [], work := [], port := none })

/-- Quadrant `q` goes OFF, with its arbiters and the requests at its attachments (R161, Table 8.4). -/
def Dev.quadLeave (d : Dev) (q : Nat) : Dev :=
  let g := 2 * q + 1
  let d := ((d.quadOff q).arbDown (2 * q)).arbDown g
  (d.cnt F.LAR_QCNT_DOWN q 0 (d.waitList g).length).answerAll g stQuadDown

/-! ### Status and turn hints (R178, ARB_a_STAT, ARB_a_REQ_i_STAT) -/

/-- The waiting IDs in the order in which they would be granted. -/
def Dev.arbOrder (d : Dev) (a : Nat) : Nat → Map Nat → List ArbReq → List Nat
  | 0, _, _ => []
  | n + 1, last, l => match d.arbPick a last l with
    | none => []
    | some r =>
      let last := moveLast last (d.gf F.ARB_REQ_CFG_CLASS a r.id) r.id
      r.id :: Dev.arbOrder d a n last (l.filter (fun q => q.id != r.id))

/-- The IDs ahead of requester `i`, the winner already chosen first. -/
def Dev.arbAhead (d : Dev) (a i : Nat) : List Nat :=
  let x := d.arb a
  let first := match x.chosen with
    | some j => if (x.find j).isSome then [j] else []
    | none => []
  let last := first.foldl (fun l j => moveLast l x.chosenClass j) x.last
  let rest := d.arbOrder a x.reqs.length last (x.reqs.filter (fun r => !first.contains r.id))
  (first ++ rest).takeWhile (fun j => j != i)

/-- PLACE (R178). -/
def Dev.arbPlace (d : Dev) (a i : Nat) : Nat :=
  min 15 ((d.arbAhead a i).length + b2n (d.arb a).owner.isSome)

/-- ETA (R178). -/
def Dev.arbEta (d : Dev) (a i : Nat) : Nat :=
  let x := d.arb a
  let own := if x.owner.isSome then x.burst - x.beats else 0
  let c := own + ((d.arbAhead a i).map (fun j => d.gf F.ARB_REQ_CFG_BURST a j + 1)).sum
  min 255 ((c + 3) / 4)

/-- ARB_a_STAT. -/
def Dev.arbStat (d : Dev) (a : Nat) : Word :=
  let x := d.arb a
  let held := x.owner.isSome
  BitVec.ofNat 32 (0x80000000 * b2n (d.gb F.ARB_CTRL_FREEZE a && !held && x.chosen.isNone) + 0x40000000 * b2n held +
    0x10000 * (x.owner.getD 0) + 0x100 * (min 255 x.reqs.length))

/-- ARB_a_REQ_i_STAT: the stored FENCED and FENCE_HITS with the live fields. -/
def Dev.arbReqStat (d : Dev) (a i : Nat) : Word :=
  let x := d.arb a
  let w := d.reg .ARB_REQ_STAT a i
  let r := x.find i
  let w := putBits w 30 1 (b2n (x.owner == some i))
  let w := putBits w 29 1 (b2n r.isSome)
  let w := putBits w 28 1 (b2n (r.any (d.boosted a)))
  let w := putBits w 24 4 (if r.isSome then d.arbPlace a i else 0)
  putBits w 16 8 (if r.isSome then d.arbEta a i else 0)

end Sys2Proof.Machine
end

