-- ==== Sys2Proof/Machine/Access.lean ====
section
/-! DEFINITION. Accesses to the Larder under their grants (R155 to R160, R169, R171): the rows of corridor and hardened
requesters, the Hatch windows, and the accesses of the event core and of the host bus target. -/

namespace Sys2Proof.Machine

/-! ### Grants -/

/-- A requester may move a beat in this cycle: it holds the grant, or its grant begins. -/
def Dev.mayMove (d : Dev) (a i : Nat) : Bool :=
  let x := d.arb a
  x.owner == some i || (x.owner.isNone && x.chosen == some i && (x.find i).isSome)

/-- A request is raised where nothing stands before it: the next decision grants it (R172). -/
def Dev.nextIs (d : Dev) (a i : Nat) : Bool :=
  let x := d.arb a
  x.owner.isNone && x.chosen.isNone && !d.gb F.ARB_CTRL_FREEZE a && (d.arbPick a x.last x.reqs).any (fun r => r.id == i)

/-- A requester gets to its turn where nothing stands before it: it holds the grant, or raises its line at an arbiter that
grants it on the next cycle (R172). DEDUCED, log entry 13. -/
def Dev.turn (d : Dev) (a i : Nat) : Dev :=
  if d.mayMove a i then d
  else
    let d := d.arbRequest a i
    if d.nextIs a i then d.arbCycle a {} else d

/-- The grant has begun and the port of a bank is free: where a bit operation still occupies it the owner waits a cycle
(R157, R167). -/
def Dev.portFree (d : Dev) (a bank : Nat) : Dev :=
  (if (d.arb a).port = some bank then d.arbCycle a { neutral := true } else d).arbBegin a []

/-- The cycle of a beat to a bank; a bit operation occupies the port for a second one (R157). -/
def Dev.beat (d : Dev) (a bank : Nat) (last bit : Bool) : Dev :=
  d.arbCycle a { beat := true, last := last } (if bit then some bank else none)

/-! ### Requests of the corridor and of hardened requesters (R156) -/

/-- The answer at the port, and of a room's packet its response (R78). -/
def Dev.larAnswer (d : Dev) (no : Option Nat) (st : Nat) (data : List (BitVec 64)) : Dev :=
  let d := { d with lar := { d.lar with answer := { status := st, data := data } } }
  match no with
  | none => d
  | some no => d.answerNo no st data

/-- Refusals of a hardened request; a room's are its attachment's (R156, R161, R182). -/
def Dev.larRefusal (d : Dev) (q req addr len : Nat) : Option Nat :=
  if !larAddrOk q addr len then some stNoTarget
  else if d.quadState q != 2 then some stQuadDown
  else if d.fenced (larArb q req) req then some stFenced
  else none

/-- A refused request: QUAD_DOWN counts in DOWN, but for the Hatch and the test; FENCED counts in FENCE_HITS. -/
def Dev.larRefuse (d : Dev) (q req st : Nat) : Dev :=
  let d := if st = stQuadDown then (if req = 64 || req = testId then d else d.cnt F.LAR_QCNT_DOWN q 0)
    else if st = stFenced then d.fenceHit (larArb q req) req else d
  d.larAnswer none st []

/-- A Larder request as its row describes it: for a WRITE the data, for a bit operation the mask. -/
structure LarOp where
  op : BitVec 4
  addr : Nat
  len : Nat
  data : List (BitVec 64) := []

/-- Beats of a request. -/
def LarOp.beats (o : LarOp) : Nat := if o.op = opRead ∨ o.op = opWrite then o.len + 1 else 1

/-- The request is the one packet `p` carries, as far as its flits are in. -/
def LarOp.isOf (o : LarOp) (p : Packet) : Bool :=
  p.op == o.op && p.addr.toNat == o.addr && p.len.toNat == o.len && p.flits.isPrefixOf o.data

/-- What stands behind a request: the packet of a room, the oldest that waits (R171), or the port of a hardened requester;
then the beats whose flits are in and those that are not aborted. None where the row is not the room's request. -/
def Dev.larBehind (d : Dev) (a req : Nat) (o : LarOp) : Option (Option Nat × Nat × Nat) :=
  if 64 ≤ req then some (none, o.beats, o.beats)
  else do
    let no ← (d.roomQueue a req).head?
    let p ← d.held.find? (fun p => p.no == no && !p.answered)
    if !o.isOf p then none
    else if p.need = 0 then some (some no, o.beats, o.beats)
    else some (some no, p.flits.length, p.real.length)

/-- What a bit operation does to a word (R156). -/
def LarOp.apply (o : LarOp) (w : BitVec 64) : BitVec 64 :=
  let m := o.data.headD 0
  if o.op = opBitSet then w ||| m else w &&& ~~~m

/-- One word of a request is accessed: what has been served of it. `lost`: a plain write of port G that port T
overwrites in its cycle (R159); `same`: it takes effect in the cycle of the access before it. -/
def Dev.larTouch (d : Dev) (req : Nat) (o : LarOp) (w : Work) (u : BitVec 72) (lost same : Bool) : Dev × Work :=
  let wa := o.addr + w.done
  let w := { w with done := w.done + 1 }
  if o.op = opRead then
    let r := d.larFetch wa req u same
    (r.1, { w with got := w.got ++ [r.2.2], bad := w.bad || r.2.1 == .double })
  else if o.op = opWrite then
    let d := d.larStore wa (o.data.getD (w.done - 1) 0)
    (if lost && !timedId req then d.cnt F.LAR_QCNT_OVERWRITTEN (larQuad wa) 0 else d, w)
  else
    let r := d.larModify wa req u o.apply
    (r.1, { w with bad := !r.2 })

/-- The answer of a request wholly served (R78, R160). -/
def Dev.larEnd (d : Dev) (no : Option Nat) (w : Work) : Dev :=
  d.larAnswer no (if w.bad then stEccUncorr else stOk) (if w.bad then [] else w.got)

/-- One beat of a request moves, where the requester's turn has come and its flit is in; an aborted flit is discarded
without access (R171). The flag tells that the row has no more beats to move. DEDUCED, log entry 13. -/
def Dev.larBeat (d : Dev) (q req : Nat) (o : LarOp) (u : BitVec 72) (lost same : Bool) : Dev × Bool :=
  let a := larArb q req
  match d.larBehind a req o with
  | none => (d, true)
  | some (no, here, real) =>
    let d := d.turn a req
    let w := Map.get (fun _ => { op := o.op, addr := o.addr, len := o.len }) (d.arb a).work req
    if !d.mayMove a req || here ≤ w.done || w.op != o.op || w.addr != o.addr || w.len != o.len then (d, true)
    else
      let bank := larBank (o.addr + w.done)
      let last := w.done + 1 == o.beats
      let d := d.portFree a bank
      let r := if w.done < real then d.larTouch req o w u lost same else (d, { w with done := w.done + 1 })
      let d := r.1.onArb a (fun x => if last then x.forget req else { x with work := x.work.insert req r.2 })
      let d := if last then d.larEnd no r.2 else d
      (d.beat a bank last (o.op != opRead && o.op != opWrite), last)

/-- The beats of a row, one for each entry, as far as the grant and the flits allow. DEDUCED, log entry 13. -/
def Dev.larRow (d : Dev) (q req : Nat) (o : LarOp) (l : List (BitVec 72 × Bool)) (same : Bool) : Dev :=
  match (if 64 ≤ req then d.larRefusal q req o.addr o.len else none) with
  | some st => d.larRefuse q req st
  | none => (l.foldl (fun (x : Dev × Bool) e => if x.2 then x else x.1.larBeat q req o e.1 e.2 same) (d, false)).1

/-- LAR_READ (R156, R160): one word for each entry of `us`, the cells found flipped in it. -/
def execLarRead (req q : Nat) (addr : Word) (len : Nat) (us : Upsets) (s : State) : Out :=
  .next (s.onDev (fun d =>
    d.larRow q req { op := opRead, addr := addr.toNat, len := len } (us.flips.map (fun u => (u, false))) us.same))

/-- LAR_WRITE (R156, R159): one word for each entry of `overG`; in an entry that is set port T overwrites the word in its
cycle, and its write comes as a command of its own, after this one. DEDUCED, log entry 13. -/
def execLarWrite (req q : Nat) (addr : Word) (data : List (BitVec 64)) (overG : List Bool) (s : State) : Out :=
  .next (s.onDev (fun d =>
    if data.isEmpty || 16 < data.length then d
    else d.larRow q req { op := opWrite, addr := addr.toNat, len := data.length - 1, data := data } (overG.map (fun b => (0, b))) false))

/-- LAR_BIT_SET (R156). -/
def execLarBitSet (req q : Nat) (addr : Word) (mask : BitVec 64) (u : BitVec 72) (s : State) : Out :=
  .next (s.onDev (fun d => d.larRow q req { op := opBitSet, addr := addr.toNat, len := 0, data := [mask] } [(u, false)] false))

/-- LAR_BIT_CLEAR (R156). -/
def execLarBitClear (req q : Nat) (addr : Word) (mask : BitVec 64) (u : BitVec 72) (s : State) : Out :=
  .next (s.onDev (fun d => d.larRow q req { op := opBitClear, addr := addr.toNat, len := 0, data := [mask] } [(u, false)] false))

/-- The cycle of the owner's next beat, on which the burst limit expires (R176): a room's next word, a requester's
beat. -/
def Dev.expireBeat (d : Dev) (a i : Nat) : Dev :=
  let p := (d.roomQueue a i).head?.bind (fun no => d.held.find? (fun p => p.no == no && !p.answered))
  if 64 ≤ i then d.arbCycle a (d.cycleOf a { beat := true })
  else if arbDram a then d
  else match p with
    | none => d
    | some p => (d.larBeat (a / 2) i { op := p.op, addr := p.addr.toNat, len := p.len.toNat, data := p.flits } 0 false false).1

/-- ARB_BURST_EXPIRE (R176): the cycle in which the owner moves the beat that exhausts its limit.
DESIGN CHOICE, log entry 18. -/
def Dev.arbBurstExpire (d : Dev) (a : Nat) : Dev :=
  match (d.arb a).owner with
  | none => d
  | some i => (d.onArb a (fun x => { x with beats := x.burst - 1 })).expireBeat a i

/-- ARB_BURST_EXPIRE (R176). -/
def execArbBurstExpire (a : Nat) (s : State) : Out := .next (s.onDev (fun d => d.arbBurstExpire a))

/-! ### Accesses that are part of another command: the event core's and the host bus target's -/

/-- A frozen arbiter keeps a requester that does not hold the grant waiting (R180). -/
def Dev.larWaits (d : Dev) (wa req : Nat) : Bool :=
  let a := larArb (larQuad wa) req
  d.quadState (larQuad wa) == 2 && !d.fenced a req && d.gb F.ARB_CTRL_FREEZE a && !d.mayMove a req

/-- The words of such an access, each with a beat where its turn has come. DEDUCED, log entry 13. -/
def Dev.larNowGo (d : Dev) (req : Nat) (o : LarOp) : Work → List (BitVec 72) → Dev × Work
  | w, [] => (d, w)
  | w, u :: l =>
    let wa := o.addr + w.done
    let a := larArb (larQuad wa) req
    let d := d.turn a req
    let may := d.mayMove a req
    let d := if may then d.portFree a (larBank wa) else d
    let r := d.larTouch req o w u false false
    let d := if may then r.1.beat a (larBank wa) l.isEmpty (o.op != opRead && o.op != opWrite) else r.1
    Dev.larNowGo d req o r.2 l

/-- Such an access as a whole: its answer stands in `lar.answer`. -/
def Dev.larNow (d : Dev) (req : Nat) (o : LarOp) (us : List (BitVec 72)) : Dev :=
  let q := larQuad o.addr
  match d.larRefusal q req o.addr o.len with
  | some st => d.larRefuse q req st
  | none =>
    let r := d.larNowGo req o {} ((List.range o.beats).map (fun i => us.getD i 0))
    r.1.larEnd none r.2

/-- A half write of a hardened requester (R157, R283): a read-modify-write of one word. -/
def Dev.larHalf (d : Dev) (wa h : Nat) (v : Word) (req : Nat) (u : BitVec 72) : Dev :=
  let q := larQuad wa
  let a := larArb q req
  match d.larRefusal q req wa 0 with
  | some st => d.larRefuse q req st
  | none =>
    let d := d.turn a req
    let may := d.mayMove a req
    let r := (d.when may (fun d => d.portFree a (larBank wa))).larModify wa req u (fun w => withHalf w h v)
    (r.1.larEnd none { bad := !r.2 }).when may (fun d => d.beat a (larBank wa) true true)

/-! ### Hatch windows (R155) -/

/-- The Hatch's ID as a requester. -/
abbrev hatchId : Nat := 64

/-- The status of a Hatch access that the G arbiter answers FENCED: the spec gives no status byte.
DESIGN CHOICE, log entry 51. -/
def Dev.hatchFenced (d : Dev) (a : Nat) : Dev × Nat × Word :=
  let f := d.takeFree
  (f.2.fenceHit a hatchId, freeStatus f.1)

/-- A Hatch access to a quadrant that is not UP, or that the arbiter does not grant in time: asleep, BUSY, or FENCED
(R155, R161, R386). DESIGN CHOICE, log entry 51. -/
def Dev.larHatchOff (d : Dev) (a q : Nat) : Option (Dev × Nat × Word) :=
  let g := larArb q hatchId
  if d.quadState q == 0 then some (d.asleepAccess a, hAsleep, asleepWord)
  else if d.quadState q == 1 then some (d, hBusy, 0)
  else if d.fenced g hatchId then some (d.hatchFenced g)
  else if !(d.turn g hatchId).mayMove g hatchId then some (d.turn g hatchId, hBusy, 0)
  else none

/-- A Hatch read through a Larder window: status byte and half (R155, R160, R161). -/
def Dev.larHatchReadOp (d : Dev) (a : Nat) (u : BitVec 72) : Dev × Nat × Word :=
  let wa := winWord a
  let g := larArb (larQuad wa) hatchId
  match d.larHatchOff a (larQuad wa) with
  | some r => r
  | none =>
    let r := ((d.turn g hatchId).portFree g (larBank wa)).larFetch wa hatchId u
    let w := if r.2.1 = .double then (r.1.larWord wa).raw else r.2.2
    (r.1.beat g (larBank wa) true false, if r.2.1 = .double then hOkEcc else hOk, halfOf w (winHalf a))

/-- A Hatch write through a Larder window: `f` gives the half's new value (R155, Table 7.2). -/
def Dev.larHatchWriteOp (d : Dev) (a : Nat) (u : BitVec 72) (f : Word → Word) : Dev × Nat :=
  let wa := winWord a
  let g := larArb (larQuad wa) hatchId
  match d.larHatchOff a (larQuad wa) with
  | some r => (r.1, r.2.1)
  | none =>
    let r := ((d.turn g hatchId).portFree g (larBank wa)).larModify wa hatchId u
      (fun w => withHalf w (winHalf a) (f (halfOf w (winHalf a))))
    (r.1.beat g (larBank wa) true true, if r.2 then hOk else hEcc)

/-- The new half in each window (Table 7.2). -/
def winValue (win : Nat) (v old : Word) : Word :=
  if win = 0 then v else if win = 1 then old ||| v else old &&& ~~~v

/-- LAR_HATCH_READ (R155): a read through any of the three windows. -/
def Dev.larHatchRead (d : Dev) (a : Nat) (u : BitVec 72) : Dev :=
  if a % 4 = 0 && (larWindow a).isSome then
    let r := d.larHatchReadOp a u
    r.1.hatDone r.2.1 r.2.2
  else d

/-- A Hatch write through window `win`. -/
def Dev.larHatchWrite (d : Dev) (win a : Nat) (v : Word) (u : BitVec 72) : Dev :=
  if a % 4 = 0 && larWindow a == some win then
    let r := d.larHatchWriteOp a u (winValue win v)
    r.1.hatDone r.2 0
  else d

/-- LAR_HATCH_READ (R155). -/
def execLarHatchRead (a : Word) (u : BitVec 72) (s : State) : Out :=
  .next (s.onDev (fun d => d.larHatchRead a.toNat u))

/-- LAR_HATCH_WRITE (R155). -/
def execLarHatchWrite (a v : Word) (u : BitVec 72) (s : State) : Out :=
  .next (s.onDev (fun d => d.larHatchWrite 0 a.toNat v u))

/-- LAR_HATCH_BIT_SET (R155). -/
def execLarHatchBitSet (a v : Word) (u : BitVec 72) (s : State) : Out :=
  .next (s.onDev (fun d => d.larHatchWrite 1 a.toNat v u))

/-- LAR_HATCH_BIT_CLEAR (R155). -/
def execLarHatchBitClear (a v : Word) (u : BitVec 72) (s : State) : Out :=
  .next (s.onDev (fun d => d.larHatchWrite 2 a.toNat v u))

end Sys2Proof.Machine
end

