-- ==== Sys2Proof/Machine/Dram.lean ====
section
/-! DEFINITION. The reduced-latency DRAM channels (R188 to R206): requests and their bursts, the command
queue and its ordering rules, error correction, self-refresh, training, mirroring, the Hatch windows. -/

namespace Sys2Proof.Machine

/-- Codes of Table 9.4. -/
abbrev drOff : Nat := 0
abbrev drUntrained : Nat := 1
abbrev drTraining : Nat := 2
abbrev drOnline : Nat := 3
abbrev drOffline : Nat := 4
abbrev drResync : Nat := 5
abbrev drSelfRef : Nat := 6

/-- The partner of a channel in its pair. -/
def partner (n : Nat) : Nat := if n % 2 = 0 then n + 1 else n - 1

/-- The channel whose arbiter serves requests to channel `n` (R201). -/
def Dev.dramLead (d : Dev) (n : Nat) : Nat := (d.mirrorOf n).getD n

/-- Set the state of a channel. -/
def Dev.setDramState (d : Dev) (n st : Nat) : Dev := d.sf F.DRC_STAT_STATE n 0 st

/-! ### Contents -/

/-- What a burst that is not listed reads as (R199, R378). DEDUCED, log entry 62. -/
def Dram.unlisted (x : Dram) (n : Nat) : Nat → Burst := fun b =>
  if x.zeroed then {}
  else let u := Config.dramUndefined x.epoch (x.copyOf.getD n) b; { data := u.1, flips := u.2 }

/-- A burst of channel `n`. -/
def Dev.burst (d : Dev) (n b : Nat) : Burst := Map.get ((d.dram n).unlisted n) (d.dram n).mem b

/-- Replace a burst. With free contents underneath, an entry is kept for every written burst.
DEDUCED, log entry 62. -/
def Dev.setBurst (d : Dev) (n b : Nat) (v : Burst) : Dev :=
  d.onDram n (fun x =>
    { x with mem := if x.zeroed then Map.put (fun _ => {}) x.mem b v else x.mem.insert b v })

/-- A whole burst is written with a good code; a write-back of it is no longer due (R194). -/
def Dev.storeBurst (d : Dev) (n b : Nat) (v : BitVec 128) : Dev :=
  (d.setBurst n b { data := v, flips := 0 }).onDram n (fun x => { x with
    writeback := x.writeback.filter (fun e => e.1 != b) })

/-- DRC_n_STAT.QUEUE follows the command queue. -/
def Dev.setQueueLen (d : Dev) (n : Nat) : Dev := d.sf F.DRC_STAT_QUEUE n 0 (d.dram n).queue.length

/-! ### Errors (R194) -/

/-- The ID DRC_n_EADDR shows for the copy engine and the write-back. -/
abbrev engineId : Nat := 0x7F

/-- A single-bit error is counted, logged, and its write-back becomes due, unless the burst has been written since
(`stale`). -/
def Dev.dramSingle (d : Dev) (n b : Nat) (fixed : BitVec 128) (stale : Bool) : Dev :=
  let d := (d.cnt F.DRC_ECC_CORR n 0).noticeFree 0x40
  if d.gb F.DRC_CFG_WB_EN n && !stale then d.onDram n (fun x => { x with writeback := x.writeback ++ [(b, fixed)] }) else d

/-- An uncorrectable error is counted, logged and offered to DRC_n_EADDR. -/
def Dev.dramDouble (d : Dev) (n b req : Nat) (flips : BitVec 144) : Dev :=
  let d := (d.cnt F.DRC_ECC_UNCORR n 0).fault 0x41 b
  if d.gb F.DRC_EADDR_VALID n then d
  else (((d.sf F.DRC_EADDR_VALID n 0 1).sf F.DRC_EADDR_REQ n 0 req).sf F.DRC_EADDR_PIN n 0 (b2n (onePin flips))).sf
    F.DRC_EADDR_BURST n 0 b

/-- What a check of cells read from burst `b` does. -/
def Dev.dramChecked (d : Dev) (n b req : Nat) (c : Burst) (stale : Bool) : Dev × Ecc × BitVec 128 :=
  let r := c.check
  match r.1 with
  | .good => (d, r.1, r.2)
  | .single => (d.dramSingle n b r.2 stale, r.1, r.2)
  | .double => (d.dramDouble n b req c.flips, r.1, r.2)

/-! ### Requests -/

/-- The answer at the port, and the response of a room's packet. -/
def Dev.dramAnswer (d : Dev) (n : Nat) (no : Option Nat) (st : Nat) (data : List (BitVec 64)) : Dev :=
  let d := d.onDram n (fun x => { x with answer := { status := st, data := data } })
  match no with
  | none => d
  | some no => d.answerNo no st data

/-- A request that has all its bursts queued and, for a read, all its data. -/
def DramReq.ready (r : DramReq) : Bool := r.next == r.count && (r.write || r.left == 0)

/-- The first request that may be answered: complete, and, for a hardened requester, the oldest of its
own (R196). DEDUCED, log entry 63. -/
def answerable (seen : List Nat) : List DramReq → Option DramReq
  | [] => none
  | r :: l =>
    if r.ready && (r.req < 64 || !seen.contains r.req) then some r else answerable (r.req :: seen) l

/-- Answer every request that may be answered (R194 to R196). -/
def Dev.dramFlush (d : Dev) (n : Nat) : Nat → Dev
  | 0 => d
  | k + 1 => match answerable [] (d.dram n).reqs with
    | none => d
    | some r =>
      let d := d.onDram n (fun x => { x with reqs := x.reqs.filter (fun q => q.tag != r.tag) })
      let ok := r.write || !r.bad
      let data := if r.write || r.bad then [] else r.got.flatMap (fun e => wordsOf e.2)
      Dev.dramFlush (d.dramAnswer n r.pkt (if ok then stOk else stEccUncorr) data) n k

/-- Answer what may be answered at channel `n`. -/
def Dev.dramSettle (d : Dev) (n : Nat) : Dev := d.dramFlush n (d.dram n).reqs.length

/-- A request enters the channel's list: its bursts from `first` on, the data of a hardened requester, the packet of a
room. -/
def Dev.dramEnter (d : Dev) (e req first count : Nat) (write : Bool) (data : List (BitVec 128)) (no : Option Nat) : Dev :=
  d.onDram e (fun x => { x with
    nextTag := x.nextTag + 1
    reqs := x.reqs ++ [{ req := req, tag := x.nextTag, write := write, first := first, count := count, left := count,
                         data := data, pkt := no }] })

/-- A hardened request is checked (R192, R205, R182), or enters and raises its line. -/
def Dev.dramHard (d : Dev) (n e req addr len : Nat) (write : Bool) (data : List (BitVec 64)) : Dev :=
  let refuse := fun (d : Dev) (st : Nat) => d.dramAnswer e none st []
  if !dramAddrOk (if write then opWrite else opRead) addr len then refuse d stNoTarget
  else if !d.pairServes n then refuse d stChanOffline
  else if d.fenced (8 + e) req then refuse (d.fenceHit (8 + e) req) stFenced
  else (d.dramEnter e req (addr / 2) ((len + 1) / 2) write (burstsOf data) none).arbRequest (8 + e) req

/-- The oldest packet of a room at the attachment of channel `n` that has not entered the channel's list. -/
def Dev.dramNext (d : Dev) (n e req : Nat) : Option Packet :=
  (d.waitList (8 + e)).find? (fun p => p.srcRtr == req && attachOf p.dstRtr == some (.dram n) &&
    !(d.dram e).reqs.any (fun r => r.pkt == some p.no))

/-- A request reaches the channel (R192, R201): a room's is the oldest packet that waits at its attachment, already
checked there. DEDUCED, log entry 13. -/
def Dev.dramRequest (d : Dev) (n req addr : Nat) (write : Bool) (len : Nat) (data : List (BitVec 64)) : Dev :=
  let e := d.dramLead n
  if !arbReaches (8 + e) req then d
  else if 64 ≤ req then d.dramHard n e req addr len write data
  else match d.dramNext n e req with
    | none => d
    | some p =>
      if LarOp.isOf { op := if write then opWrite else opRead, addr := addr, len := len, data := data } p then
        d.dramEnter e req (addr / 2) ((len + 1) / 2) write [] (some p.no)
      else d

/-- DRAM_READ (R192). -/
def execDramRead (n req : Nat) (addr : Word) (len : Nat) (s : State) : Out :=
  .next (s.onDev (fun d => d.dramRequest n req addr.toNat false len []))

/-- DRAM_WRITE (R192). -/
def execDramWrite (n req : Nat) (addr : Word) (data : List (BitVec 64)) (s : State) : Out :=
  .next (s.onDev (fun d =>
    if data.isEmpty || 16 < data.length then d else d.dramRequest n req addr.toNat true (data.length - 1) data))

/-! ### The command queue (R195, R201, R202) -/

/-- The channels of the pair (or the one channel) led by `e`. -/
def Dev.dramGroup (d : Dev) (e : Nat) : List Nat := if d.gb F.DRC_CFG_MIRROR e && e % 2 == 0 then [e, e + 1] else [e]

/-- Channels that take a write: ONLINE, or RESYNC. -/
def Dev.writeChans (d : Dev) (e : Nat) : List Nat :=
  (d.dramGroup e).filter (fun n => d.dramState n == drOnline || d.dramState n == drResync)

/-- A channel of the group is in self-refresh: writes wait for its exit (R198, R205). -/
def Dev.groupAsleep (d : Dev) (e : Nat) : Bool := (d.dramGroup e).any (fun n => d.dramState n == drSelfRef)

/-- The channel that takes a read: the ONLINE one with fewer bursts queued, the even one at a tie (R201).
DEDUCED, log entry 62. -/
def Dev.readChan (d : Dev) (e : Nat) : Option Nat :=
  match (d.dramGroup e).filter (fun n => d.dramState n == drOnline) with
  | [] => none
  | [n] => some n
  | a :: b :: _ => if (d.dram b).queue.length < (d.dram a).queue.length then some b else some a

/-- The newest queued write whose BANK and ROW match burst `b` (R195 rule 4). -/
def matching (q : List DramCmd) (b : Nat) : Option DramCmd :=
  q.reverse.find? (fun c => c.write && burstBank c.burst == burstBank b && burstRow c.burst == burstRow b)

/-- A burst enters the queue of channel `n`; a read that matches a queued write puts the channel into
in-order mode. -/
def Dev.enqueueBurst (d : Dev) (n : Nat) (c : DramCmd) : Dev :=
  let x := d.dram n
  let hit := if c.write then none else matching x.queue c.burst
  let d := d.onDram n (fun x => { x with
    nextId := x.nextId + 1
    queue := x.queue ++ [{ c with id := x.nextId }]
    inOrderFor := match hit with
      | none => x.inOrderFor
      | some w => some w.id })
  let d := if hit.isSome && x.inOrderFor.isNone then (d.cnt F.DRC_CNT_IN_ORDER n 0).sf F.DRC_STAT_IN_ORDER n 0 1 else d
  d.setQueueLen n

/-- Channel `n` has room in its queue of 32. -/
def Dev.queueRoom (d : Dev) (n : Nat) : Bool := decide ((d.dram n).queue.length < 32)

/-- The data of the next burst of a write: a room's once both flits are in, none of it where they are aborted (R171). -/
def Dev.dramDatum (d : Dev) (r : DramReq) : Option (Option (BitVec 128)) :=
  match r.pkt with
  | none => some (r.data[r.next]?)
  | some no => match d.held.find? (fun p => p.no == no) with
    | none => none
    | some p =>
      if p.flits.length < 2 * (r.next + 1) then none
      else some (if p.real.length < 2 * (r.next + 1) then none else (burstsOf (p.flits.drop (2 * r.next))).head?)

/-- A granted beat enters the queue of a channel, or both queues of a pair for a write, once there is room; a cycle
without room is neutral (R181). DEDUCED, log entry 63. -/
def Dev.dramBeat (d : Dev) (e : Nat) (r : DramReq) (v : Option (BitVec 128)) : Dev :=
  let a := 8 + e
  let targets := if r.write then d.writeChans e else (d.readChan e).toList
  if targets.isEmpty || (r.write && d.groupAsleep e) || targets.any (fun m => !d.queueRoom m) then d.arbCycle a { neutral := true }
  else
    let cmd : DramCmd := { id := 0, write := r.write, burst := r.first + r.next, cells := { data := v.getD 0 }, tag := r.tag, pos := r.next, req := r.req }
    let d := d.arbBegin a []
    let d := if r.write && v.isNone then d else d.each targets (fun d m => d.enqueueBurst m cmd)
    let d := d.onDram e (fun x => { x with reqs := x.reqs.map (fun q => if q.tag = r.tag then { q with next := q.next + 1 } else q) })
    (d.dramSettle e).arbCycle a { beat := true, last := r.next + 1 == r.count }

/-- DRAM_BURST_ENQUEUE (R195): the next burst of the oldest request of `req`, where its turn has come and, for a
write, its flits are in. DEDUCED, log entry 63. -/
def Dev.dramEnqueue (d : Dev) (n req : Nat) : Dev :=
  let e := d.dramLead n
  match (d.dram e).reqs.find? (fun r => r.req == req && r.next < r.count) with
  | none => d
  | some r =>
    let d := d.turn (8 + e) req
    match d.dramDatum r with
    | none => if r.write then d else d.when (d.mayMove (8 + e) req) (fun d => d.dramBeat e r none)
    | some v => d.when (d.mayMove (8 + e) req) (fun d => d.dramBeat e r v)

/-- DRAM_BURST_ENQUEUE (R195). -/
def execDramBurstEnqueue (n req : Nat) (s : State) : Out := .next (s.onDev (fun d => d.dramEnqueue n req))

/-- A queued burst may issue (R195): the ordering rules within its bank, and arrival order in in-order mode.
DEDUCED, log entry 63. -/
def mayIssueBurst (x : Dram) (k : Nat) (c : DramCmd) : Bool :=
  let older := (x.queue.take k).filter (fun o => burstBank o.burst == burstBank c.burst)
  if x.inOrderFor.isSome then k == 0
  else if c.write then older.isEmpty
  else !older.any (fun o => !o.write || burstRow o.burst == burstRow c.burst)

/-- The channel issues bursts: it is ONLINE or RESYNC, or completing its queue after OFFLINE (R202, R203), before a TRAIN
accepted meanwhile begins. -/
def Dev.issues (d : Dev) (n : Nat) : Bool :=
  d.dramState n == drOnline || d.dramState n == drResync || d.dramState n == drOffline || d.dramState n == drTraining

/-- OFFLINE ends when the queue is empty (R202). -/
def Dev.offlineDone (d : Dev) (n : Nat) : Dev :=
  if (d.dram n).offPending && (d.dram n).queue.isEmpty then
    ((d.onDram n (fun x => { x with offPending := false })).sf F.DRC_STAT_DONE n 0 1).sf F.DRC_STAT_RESULT n 0 0
  else d

/-- A burst leaves the queue for issue: a write changes the device, a read takes its cells. -/
def Dev.issueBurst (d : Dev) (n k : Nat) (c : DramCmd) : Dev :=
  let leave := (d.dram n).inOrderFor == some c.id
  let cells := d.burst n c.burst
  let d := d.onDram n (fun x => { x with
    queue := x.queue.eraseIdx k
    reading := if c.write then x.reading else x.reading ++ [{ c with cells := cells }]
    inOrderFor := if leave then none else x.inOrderFor })
  let d := if leave then d.sf F.DRC_STAT_IN_ORDER n 0 0 else d
  let d := if !c.write then d
    else if c.bad then d.setBurst n c.burst { data := c.cells.data, flips := 3 }
    else d.storeBurst n c.burst c.cells.data
  (d.setQueueLen n).offlineDone n

/-- DRAM_BURST_ISSUE (R195): the k-th burst of the queue issues, where the rules let it.
DEDUCED, log entry 63. -/
def Dev.dramIssue (d : Dev) (n k : Nat) : Dev :=
  match (d.dram n).queue[k]? with
  | none => d
  | some c => if d.issues n && mayIssueBurst (d.dram n) k c then d.issueBurst n k c else d

/-- DRAM_BURST_ISSUE (R195). -/
def execDramBurstIssue (n k : Nat) (s : State) : Out := .next (s.onDev (fun d => d.dramIssue n k))

/-- The data of the oldest issued read return and are checked; `upset` are cells of the burst that have flipped.
DESIGN CHOICE, log entry 6. -/
def Dev.dramTake (d : Dev) (n : Nat) (c : DramCmd) (upset : BitVec 144) : Dev × Ecc × BitVec 128 :=
  let cells := { c.cells with flips := c.cells.flips ^^^ upset }
  let d := d.onDram n (fun x => { x with reading := x.reading.drop 1 })
  let same := decide (d.burst n c.burst = c.cells)
  let d := if same && upset != 0 then d.setBurst n c.burst cells else d
  let r := d.dramChecked n c.burst c.req cells !same
  (r.1, r.2.1, if r.2.1 = .double then cells.raw else r.2.2)

/-- DRAM_READ_DATA (R194). -/
def Dev.dramReadData (d : Dev) (n : Nat) (upset : BitVec 144) : Dev :=
  match (d.dram n).reading with
  | [] => d
  | c :: _ =>
    let e := d.dramLead n
    let r := d.dramTake n c upset
    let d := r.1.onDram e (fun x => { x with reqs := x.reqs.map (fun q =>
      if q.tag = c.tag then
        { q with left := q.left - 1, bad := q.bad || r.2.1 == .double, got := q.got.insert c.pos r.2.2 }
      else q) })
    d.dramSettle e

/-- DRAM_READ_DATA (R194). -/
def execDramReadData (n : Nat) (upset : BitVec 144) (s : State) : Out :=
  .next (s.onDev (fun d => d.dramReadData n upset))

/-- DRAM_ECC_WRITEBACK (R194): once no request for the bank is queued. -/
def Dev.dramWriteback (d : Dev) (n b : Nat) : Dev :=
  match (d.dram n).writeback.find? (fun e => e.1 == b) with
  | none => d
  | some e =>
    if (d.dram n).queue.any (fun c => burstBank c.burst == burstBank b) || !d.issues n then d
    else d.storeBurst n b e.2

/-- DRAM_ECC_WRITEBACK (R194). -/
def execDramEccWriteback (n : Nat) (b : BitVec 23) (s : State) : Out :=
  .next (s.onDev (fun d => d.dramWriteback n b.toNat))

/-- An access ends the self-refresh of the channels that serve it (R198). -/
def Dev.dramAwake (d : Dev) (e : Nat) : Dev :=
  d.each (d.dramGroup e) (fun d m => if d.dramState m == drSelfRef then d.setDramState m drOnline else d)

/-! ### A burst read as part of another command (R193, R255) -/

/-- The controller issues its queue in arrival order, and the data of the reads before the last come back. -/
def Dev.dramDrain (d : Dev) (n : Nat) : Dev :=
  let d := d.each (d.dram n).queue (fun d _ => d.dramIssue n 0)
  d.each ((d.dram n).reading.drop 1) (fun d _ => d.dramReadData n 0)

/-- Where the queue is full, its first burst issues. -/
def Dev.dramMakeRoom (d : Dev) (n : Nat) : Dev := if d.queueRoom n then d else d.dramIssue n 0

/-- Requester `req` reads a burst through the queue of the channel that takes reads (R195, R201): its finding and the
data, as stored where the error is uncorrectable. The bursts ahead of it issue in arrival order. DEDUCED, log entry
63. -/
def Dev.dramFetch (d : Dev) (e b req : Nat) (upset : BitVec 144) : Dev × Ecc × BitVec 128 :=
  match d.readChan e with
  | none => (d, .double, 0)
  | some m =>
    let tag := (d.dram e).nextTag
    let d := (d.dramMakeRoom m).onDram e (fun x => { x with nextTag := x.nextTag + 1 })
    let d := (d.enqueueBurst m { id := 0, write := false, burst := b, tag := tag, req := req }).dramDrain m
    match (d.dram m).reading with
    | [] => (d, .double, 0)
    | c :: _ => d.dramTake m c upset

/-- A frozen arbiter keeps a requester that does not hold the grant waiting (R180). -/
def Dev.dramWaits (d : Dev) (n req : Nat) : Bool :=
  let a := 8 + d.dramLead n
  d.pairServes n && !d.fenced a req && d.gb F.ARB_CTRL_FREEZE a && !d.mayMove a req

/-- A burst that another command of a hardened requester reads, with a beat where its turn has come; `last` ends the
request. DEDUCED, log entry 13. -/
def Dev.dramNow (d : Dev) (e b req : Nat) (last : Bool) : Dev × Ecc × BitVec 128 :=
  let a := 8 + e
  let d := d.turn a req
  let may := d.mayMove a req
  let r := (d.when may (fun d => d.arbBegin a [])).dramFetch e b req 0
  (r.1.when may (fun d => d.arbCycle a { beat := true, last := last }), r.2)

/-! ### Refresh and self-refresh (R197, R198) -/

/-- DRAM_REFRESH (R197): a refresh burst stalls traffic for a bounded time and refreshes every bank; it
changes no content, no queue and no register. -/
def execDramRefresh (_n : Nat) (s : State) : Out := .next s

/-- Nothing waits at the arbiter of a channel and nothing is queued. -/
def Dev.dramIdle (d : Dev) (n : Nat) : Bool :=
  (d.dram n).queue.isEmpty && (d.dram n).reading.isEmpty && (d.dram (d.dramLead n)).reqs.isEmpty &&
    (d.arb (8 + d.dramLead n)).reqs.isEmpty && (d.arb (8 + d.dramLead n)).owner.isNone

/-- An operation of DRC_n_CTRL ends. -/
def Dev.dramResult (d : Dev) (n result : Nat) : Dev :=
  (d.sf F.DRC_STAT_DONE n 0 1).sf F.DRC_STAT_RESULT n 0 result

/-- The partner has left ONLINE: a channel in RESYNC goes back to OFFLINE with RESULT FAILED (R202). -/
def Dev.resyncLost (d : Dev) (n : Nat) : Dev :=
  if d.dramState n == drResync then ((d.setDramState n drOffline).sf F.DRC_RESYNC_PROGRESS n 0 0).dramResult n 2 else d

/-- DRAM_SELF_REFRESH_ENTER (R198): SRE, for a device that has the state. -/
def execDramSelfRefreshEnter (n : Nat) (s : State) : Out :=
  .next (s.onDev (fun d =>
    if d.gf F.DRC_REF_REF_MODE n == 1 && d.gf F.DRC_CFG_DEVTYPE n == 1 && d.dramState n == drOnline && d.dramIdle n then
      let d := (d.setDramState n drSelfRef).cnt F.DRC_CNT_SR_ENTRIES n 0
      d.when (d.mirrorOf n).isSome (fun d => d.resyncLost (partner n))
    else d))

/-- DRAM_SELF_REFRESH_EXIT (R198): SRX, the TXS wait and a refresh burst, because a request has arrived. -/
def execDramSelfRefreshExit (n : Nat) (s : State) : Out :=
  .next (s.onDev (fun d =>
    if d.dramState n == drSelfRef && !d.dramIdle n then d.setDramState n drOnline else d))

/-! ### Training (R200) and live retraining (R202, R203) -/

/-- The partner of a mirrored channel serves. -/
def Dev.partnerServes (d : Dev) (n : Nat) : Bool := (d.mirrorOf n).isSome && d.serves (partner n)

/-- A channel returns after TRAIN or ONLINE: through RESYNC beside a serving partner, else ONLINE at once
(R202). -/
def Dev.dramReturn (d : Dev) (n : Nat) : Dev :=
  if d.partnerServes n then
    let d := if d.dramState (partner n) == drSelfRef then d.setDramState (partner n) drOnline else d
    (d.setDramState n drResync).sf F.DRC_RESYNC_PROGRESS n 0 0
  else (d.setDramState n drOnline).dramResult n 0

/-- A training of a kind begins with step 1; `back`: the channel was OFFLINE. -/
def Dev.dramTrainStart (d : Dev) (n : Nat) (kind : Training) (back : Bool) : Dev :=
  (d.onDram n (fun x => { x with step := 1, kind := kind, back := back, restored := false, offPending := false })).setDramState
    n drTraining

/-- DRAM_TRAIN (R200): from UNTRAINED or OFFLINE. -/
def Dev.dramTrain (d : Dev) (n : Nat) : Dev :=
  if d.dramState n == drUntrained || d.dramState n == drOffline then d.dramTrainStart n .full (d.dramState n == drOffline)
  else d.dramResult n 1

/-- DRAM_TRAIN (R200). -/
def execDramTrain (n : Nat) (s : State) : Out := .next (s.onDev (fun d => d.dramTrain n))

/-- The step after the present one (Table 9.6): step 2 in the first training and after OFF only, a restore of steps 1,
3 and 7; none at the end. -/
def Dram.nextStep (x : Dram) : Option Nat :=
  match x.kind with
  | .clear => none
  | .restore => if x.step = 1 then some 3 else if x.step = 3 then some 7 else none
  | k => if 8 ≤ x.step then none else some (if x.step = 1 && !x.firstTrain && k == .full then 3 else x.step + 1)

/-- A channel that was woken serves again; of a mirrored pair both together (Table 14.9). -/
def Dev.dramUp (d : Dev) (n : Nat) : Dev :=
  let p := partner n
  if (d.mirrorOf n).isSome && d.dramState p == drTraining && (d.dram p).step != 0 && (d.dram p).kind != .full then
    d.onDram n (fun x => { x with restored := true })
  else
    let other := (d.mirrorOf n).isSome && (d.dram p).restored
    let d := d.setDramState n drOnline
    d.when other (fun d => (d.onDram p (fun x => { x with restored := false })).setDramState p drOnline)

/-- A channel of a pair has failed its wake: a partner that waits for it serves alone. -/
def Dev.dramAlone (d : Dev) (n : Nat) : Dev :=
  let p := partner n
  d.when ((d.mirrorOf n).isSome && (d.dram p).restored) (fun d =>
    (d.onDram p (fun x => { x with restored := false })).setDramState p drOnline)

/-- Training or a restore is complete (R199, R200). -/
def Dev.dramTrainEnd (d : Dev) (n : Nat) : Dev :=
  let x := d.dram n
  let d := d.onDram n (fun x => { x with
    step := 0, trained := true, firstTrain := false, needTrain := false
    mem := if x.kind = .clear then [] else x.mem, zeroed := x.kind == .clear || x.zeroed })
  let d := d.noticeFree 0x43
  if x.kind = .full then d.dramReturn n else if x.back then (d.setDramState n drOffline).dramAlone n else d.dramUp n

/-- A step fails (R200): RESULT FAILED, UNTRAINED, or OFFLINE if the channel was OFFLINE before, and a FAULT. -/
def Dev.dramTrainFail (d : Dev) (n pin : Nat) : Dev :=
  let x := d.dram n
  let d := d.onDram n (fun x => { x with step := 0 })
  let d := (d.setDramState n (if x.back then drOffline else drUntrained)).dramResult n 2
  (((d.sf F.DRC_STAT_FAIL_STEP n 0 x.step).sf F.DRC_STAT_FAIL_PIN n 0 pin).fault 0x42 (256 * x.step + pin)).dramAlone n

/-- DRAM_TRAIN_STEP_DONE (R199, R200, Table 9.6): a step ends, once the queue an OFFLINE has left is empty; the clearing
after OFF follows step 8 and cannot fail. DEDUCED, log entry 62. -/
def Dev.dramTrainStep (d : Dev) (n : Nat) (ok : Bool) (pin : Nat) : Dev :=
  let x := d.dram n
  if d.dramState n != drTraining || x.step == 0 || !x.queue.isEmpty then d
  else if !ok && x.kind != .clear then d.dramTrainFail n pin
  else match x.nextStep with
    | some s => d.onDram n (fun x => { x with step := s })
    | none =>
      if x.kind = .fromOff then d.onDram n (fun x => { x with kind := .clear, step := 9 }) else d.dramTrainEnd n

/-- Requests that have beats left when their channel stops serving are answered CHAN_OFFLINE (R203, Table 8.4). -/
def Dev.dramTurnAway (d : Dev) (e : Nat) : Dev :=
  let hard := (d.dram e).reqs.filter (fun r => r.next != r.count && r.pkt.isNone)
  let rooms := d.waitList (8 + e)
  let d := d.onDram e (fun x => { x with reqs := x.reqs.filter (fun r => r.next == r.count) })
  let d := d.each hard (fun d _ => d.dramAnswer e none stChanOffline [])
  (d.each rooms (fun d p => d.answerNo p.no stChanOffline [])).arbDown (8 + e)

/-- DRAM_OFFLINE (R202, R203): from ONLINE; in a pair only while the partner is ONLINE. -/
def Dev.dramOffline (d : Dev) (n : Nat) : Dev :=
  let paired := (d.mirrorOf n).isSome
  if d.dramState n != drOnline || (paired && d.dramState (partner n) != drOnline) then d.dramResult n 1
  else
    let d := (d.onDram n (fun x => { x with offPending := true })).setDramState n drOffline
    let d := if paired then d else d.dramTurnAway n
    d.offlineDone n

/-- DRAM_OFFLINE (R202). -/
def execDramOffline (n : Nat) (s : State) : Out := .next (s.onDev (fun d => d.dramOffline n))

/-- DRAM_ONLINE (R202, R203): from OFFLINE, and not after a change of frequency without a TRAIN (R190). -/
def Dev.dramOnline (d : Dev) (n : Nat) : Dev :=
  if d.dramState n != drOffline || (d.dram n).needTrain then d.dramResult n 1
  else (d.onDram n (fun x => { x with offPending := false })).dramReturn n

/-- DRAM_ONLINE (R202). -/
def execDramOnline (n : Nat) (s : State) : Out := .next (s.onDev (fun d => d.dramOnline n))

/-- A burst of the partner as its queue will leave it: the newest queued write, else its cells. -/
def Dev.burstView (d : Dev) (n b : Nat) : Burst × Bool :=
  match (d.dram n).queue.reverse.find? (fun c => c.write && c.burst == b) with
  | some c => (c.cells, c.bad)
  | none => (d.burst n b, false)

/-- Bursts the copy engine meets that may be uncorrectable: those listed or queued over cleared contents,
else every burst. -/
def Dev.copyBursts (d : Dev) (m : Nat) : List Nat :=
  let x := d.dram m
  if x.zeroed then (x.mem.map Prod.fst ++ x.queue.map (·.burst)).eraseDups else List.range (2 ^ 23)

/-- One burst is copied from the partner `m` to channel `n` (R202). DEDUCED, log entry 62. -/
def Dev.copyBurst (d : Dev) (m n b : Nat) : Dev :=
  let v := d.burstView m b
  let r := v.1.check
  if v.2 || r.1 = .double then
    let flips := if v.2 then 3 else v.1.flips
    ((d.dramDouble m b engineId flips).fault 0x47 b).setBurst n b { data := v.1.data, flips := flips }
  else
    let d := if r.1 = .single then d.dramSingle m b r.2 false else d
    d.setBurst n b { data := r.2, flips := 0 }

/-- DRAM_RESYNC_DONE (R202): every burst has been copied and the channel becomes ONLINE.
DEDUCED, log entry 62. -/
def Dev.dramResyncDone (d : Dev) (n : Nat) : Dev :=
  if d.dramState n != drResync then d
  else
    let m := partner n
    let src := d.dram m
    let d := d.onDram n (fun x => { x with
      mem := src.mem, epoch := src.epoch, zeroed := src.zeroed, copyOf := some (src.copyOf.getD m) })
    let d := d.each (d.copyBursts m) (fun d b => d.copyBurst m n b)
    (((d.setDramState n drOnline).sf F.DRC_RESYNC_PROGRESS n 0 0).dramResult n 0).noticeFree 0x46

/-- DRAM_RESYNC_DONE (R202). -/
def execDramResyncDone (n : Nat) (s : State) : Out := .next (s.onDev (fun d => d.dramResyncDone n))

/-- The channel loses its contents: every burst is a free value of a new epoch (R199, R378). -/
def Dev.dramForget (d : Dev) (n : Nat) : Dev :=
  let u := d.free + 1
  ({ d with free := u }).onDram n (fun x => { x with
    mem := [], epoch := u, copyOf := none, zeroed := false, reqs := [], queue := [], reading := [],
    writeback := [], inOrderFor := none, offPending := false })

/-! ### Hatch windows (R193) -/

/-- A Hatch access to a channel, or pair, that does not serve: asleep while OFF, else BUSY (R193). -/
def Dev.dramHatchDown (d : Dev) (n a : Nat) : Dev × Nat × Word :=
  if d.dramState n == drOff then (d.asleepAccess a, hAsleep, asleepWord) else (d, hBusy, 0)

/-- A Hatch access that is not made: the channel or pair does not serve, the arbiter answers FENCED, or does not grant it
in time (R193, R386). DESIGN CHOICE, log entry 51. -/
def Dev.dramHatchOff (d : Dev) (a n : Nat) : Option (Dev × Nat × Word) :=
  let g := 8 + d.dramLead n
  if !d.pairServes n then some (d.dramHatchDown n a)
  else if d.fenced g hatchId then some (d.hatchFenced g)
  else if !(d.turn g hatchId).mayMove g hatchId then some (d.turn g hatchId, hBusy, 0)
  else none

/-- A Hatch half read (R193): status byte and half. -/
def Dev.dramHatchReadOp (d : Dev) (a : Nat) (upset : BitVec 144) : Dev × Nat × Word :=
  let n := (dramWindow a).getD 0
  let e := d.dramLead n
  let wa := dramWord a
  match d.dramHatchOff a n with
  | some r => r
  | none =>
    let r := ((d.turn (8 + e) hatchId).dramAwake e).dramFetch e (wa / 2) hatchId upset
    (r.1.arbCycle (8 + e) { beat := true, last := true }, if r.2.1 = .double then hOkEcc else hOk,
      halfOf (burstWord r.2.2 wa) (winHalf a))

/-- A Hatch half write (R193), two beats: read, merge and write back, or nothing on an uncorrectable error. -/
def Dev.dramHatchWriteOp (d : Dev) (a : Nat) (v : Word) (upset : BitVec 144) : Dev × Nat :=
  let n := (dramWindow a).getD 0
  let e := d.dramLead n
  let wa := dramWord a
  match d.dramHatchOff a n with
  | some r => (r.1, r.2.1)
  | none =>
    let r := ((d.turn (8 + e) hatchId).dramAwake e).dramFetch e (wa / 2) hatchId upset
    let bad := r.2.1 == .double
    let d := (r.1.arbCycle (8 + e) { beat := true, last := bad }).turn (8 + e) hatchId
    if bad then (r.1.arbCycle (8 + e) { beat := true, last := true }, hEcc)
    else
      let new := withBurstWord r.2.2 wa (withHalf (burstWord r.2.2 wa) (winHalf a) v)
      let cmd : DramCmd := { id := 0, write := true, burst := wa / 2, cells := { data := new }, tag := (d.dram e).nextTag }
      let d := d.onDram e (fun x => { x with nextTag := x.nextTag + 1 })
      let d := d.each (d.writeChans e) (fun d m => (d.dramMakeRoom m).enqueueBurst m cmd)
      (d.arbCycle (8 + e) { beat := true, last := true }, hOk)

/-- DRAM_HATCH_READ (R193). -/
def Dev.dramHatchRead (d : Dev) (a : Nat) (upset : BitVec 144) : Dev :=
  if a % 4 = 0 && (dramWindow a).isSome then
    let r := d.dramHatchReadOp a upset
    r.1.hatDone r.2.1 r.2.2
  else d

/-- DRAM_HATCH_READ (R193). -/
def execDramHatchRead (a : Word) (upset : BitVec 144) (s : State) : Out :=
  .next (s.onDev (fun d => d.dramHatchRead a.toNat upset))

/-- DRAM_HATCH_WRITE (R193). -/
def Dev.dramHatchWrite (d : Dev) (a : Nat) (v : Word) (upset : BitVec 144) : Dev :=
  if a % 4 = 0 && (dramWindow a).isSome then
    let r := d.dramHatchWriteOp a v upset
    r.1.hatDone r.2 0
  else d

/-- DRAM_HATCH_WRITE (R193). -/
def execDramHatchWrite (a v : Word) (upset : BitVec 144) (s : State) : Out :=
  .next (s.onDev (fun d => d.dramHatchWrite a.toNat v upset))

end Sys2Proof.Machine
end

