-- ==== Sys2Proof/Machine/Bytes.lean ====
section
/-! DEFINITION. Bytes and codes: little-endian words (R5), CRC-32C (R114), CRC-16 (R263), and the Cellar's
bytes (R103, R125, R126). -/

namespace Sys2Proof.Machine

/-! ### Bytes -/

/-- A little-endian number from bytes (R5). -/
def leNat : List (BitVec 8) → Nat
  | [] => 0
  | b :: l => b.toNat + 256 * leNat l

/-- The `n` little-endian bytes of a number (R5). -/
def leBytes : Nat → Nat → List (BitVec 8)
  | 0, _ => []
  | n + 1, v => BitVec.ofNat 8 v :: leBytes n (v / 256)

/-- The `n` big-endian bytes of a number. -/
def beBytes (n v : Nat) : List (BitVec 8) := (leBytes n v).reverse

/-- A big-endian number from bytes. -/
def beNat (l : List (BitVec 8)) : Nat := leNat l.reverse

/-- Bytes [off, off + n) of a byte string. -/
def slice (l : List (BitVec 8)) (off n : Nat) : List (BitVec 8) := (l.drop off).take n

/-- The 4-byte field at an offset. -/
def field4 (l : List (BitVec 8)) (off : Nat) : Nat := leNat (slice l off 4)

/-- The 32 bytes of a SHA-256 digest (R112). PRESUMED, log entry 10. -/
def sha256 (l : List (BitVec 8)) : List (BitVec 8) := beBytes 32 (Config.sha256 l).toNat

/-! ### CRCs -/

/-- One bit step of the reflected CRC-32C register. -/
def crc32cBit (c : BitVec 32) : BitVec 32 :=
  if c.getLsbD 0 then (c >>> 1) ^^^ 0x82F63B78 else c >>> 1

/-- One byte of CRC-32C. -/
def crc32cByte (c : BitVec 32) (b : BitVec 8) : BitVec 32 :=
  (List.range 8).foldl (fun c _ => crc32cBit c) (c ^^^ b.setWidth 32)

/-- CRC-32C (Castagnoli) of a byte string (R114). -/
def crc32c (l : List (BitVec 8)) : BitVec 32 := (l.foldl crc32cByte 0xFFFFFFFF) ^^^ 0xFFFFFFFF

/-- One bit step of CRC-16, polynomial 0x1021, most significant bit first (R263). -/
def crc16Bit (c : BitVec 16) (bit : Bool) : BitVec 16 :=
  let top := c.getLsbD 15 ^^ bit
  let c := c <<< 1
  if top then c ^^^ 0x1021 else c

/-- CRC-16 of bits [hi : lo] of a frame, sent from the highest down (R263). -/
def crc16Bits (f : BitVec 560) (hi lo : Nat) : BitVec 16 :=
  (List.range (hi + 1 - lo)).foldl (fun c k => crc16Bit c (f.getLsbD (hi - k))) 0xFFFF

/-- CRC-16 of a byte string (R263's check value). -/
def crc16Bytes (l : List (BitVec 8)) : BitVec 16 :=
  l.foldl (fun c b => (List.range 8).foldl (fun c k => crc16Bit c (b.getLsbD (7 - k))) c) 0xFFFF

/-! ### The Cellar -/

/-- What an unlisted Cellar byte reads as: erased (R103). DESIGN CHOICE, log entry 7. -/
def erasedByte : Nat → BitVec 8 := fun _ => 0xFF

/-- Where a Cellar read of `a` goes: reads of a block whose journal record is open are served from the
spare (R126, R127). DEDUCED, log entry 25. -/
def Dev.cellarAddr (d : Dev) (a : Nat) : Nat :=
  match d.cfg.journal with
  | some j => if j.block ≤ a && a < j.block + 0x10000 then 0x40000 + a % 0x10000 else a
  | none => a

/-- The byte a Cellar cell holds; a page left undefined reads free values (R125).
DESIGN CHOICE, log entry 7. -/
def Dev.cellarCell (d : Dev) (a : Nat) : BitVec 8 :=
  let u := Map.get (fun _ => 0) d.cfg.undef (a / 256)
  if u = 0 then Map.get erasedByte d.cfg.cellar a else Config.cellarUndefined u a

/-- A Cellar byte as a read gives it (R103, R126). -/
def Dev.cellar (d : Dev) (a : Nat) : BitVec 8 := d.cellarCell (d.cellarAddr a)

/-- Cellar bytes [a, a + n). -/
def Dev.cellarRange (d : Dev) (a n : Nat) : List (BitVec 8) := (List.range n).map (fun i => d.cellar (a + i))

/-- Store bytes from address `a` on. -/
def Dev.cellarStore (d : Dev) (a : Nat) (l : List (BitVec 8)) : Dev :=
  { d with cfg := { d.cfg with
      cellar := (l.zipIdx).foldl (fun m (b, i) => Map.put erasedByte m (a + i) b) d.cfg.cellar } }

/-- Erase the bytes of [a, a + n) (R103). -/
def Dev.cellarErase (d : Dev) (a n : Nat) : Dev :=
  { d with cfg := { d.cfg with
      cellar := d.cfg.cellar.filter (fun e => e.1 < a || a + n ≤ e.1)
      undef := d.cfg.undef.filter (fun e => e.1 * 256 < a || a + n ≤ e.1 * 256) } }

/-- Mark the pages of [a, a + n) undefined (R125). DESIGN CHOICE, log entry 7. -/
def Dev.cellarSpoil (d : Dev) (a n : Nat) : Dev :=
  let u := d.free + 1
  { d with
    free := u
    cfg := { d.cfg with undef :=
      (List.range (n / 256)).foldl (fun m i => Map.put (fun _ => 0) m (a / 256 + i) u) d.cfg.undef } }

/-- VPP_CEL is good (R16): the rail behind CFG_STATUS.VPP_GOOD. -/
def Dev.vppGood (d : Dev) : Bool := bitOf (d.gf F.GBL_RAIL_STAT_GOOD) 4

/-- Whether rail `r` is good (R370). -/
def Dev.railGood (d : Dev) (r : Nat) : Bool := bitOf (d.gf F.GBL_RAIL_STAT_GOOD) r

/-- Steps 1 and 2 of a rewrite (R126): the block is copied into the spare, and the journal opened. -/
def Dev.renewCopy (d : Dev) (a : Nat) : Dev :=
  let c := d.cellarRange a 0x10000
  let d := (d.cellarErase 0x40000 0x10000).cellarStore 0x40000 c
  { d with cfg := { d.cfg with journal := some { block := a, crc := crc32c c } } }

/-- Steps 3 and 4 of a rewrite (R126, R127): the block is erased and programmed from the spare, and the
journal closed. -/
def Dev.renewFinish (d : Dev) (a : Nat) : Dev :=
  let c := (List.range 0x10000).map (fun i => d.cellarCell (0x40000 + i))
  let d := { d with cfg := { d.cfg with journal := none } }
  (d.cellarErase a 0x10000).cellarStore a c

/-- What an interruption leaves of a Cellar write (R125): a program its page, an erase its block undefined;
a renewal is cut off in its margin read, its copy or its rewrite, a free choice. DEDUCED, log entry 24. -/
def Dev.interruptCw (d : Dev) (w : CwWork) : Dev :=
  if w.op = 1 then d.cellarSpoil w.addr 256
  else if w.op = 2 then d.cellarSpoil w.addr 0x10000
  else
    let f := d.takeFree
    if f.1.toNat % 3 = 0 then f.2
    else if f.1.toNat % 3 = 1 then f.2.cellarSpoil 0x40000 0x10000
    else (f.2.renewCopy w.addr).cellarSpoil w.addr 0x10000

end Sys2Proof.Machine
end

