-- ==== Sys2Proof/Machine/Modes.lean ====
section
/-! DEFINITION. Mode transitions and what entry into each mode does at once (R30, R32, R233, R251, R268,
Tables 1.5, 1.6, 12.4), and the release and refusal of mode requests (R29). -/

namespace Sys2Proof.Machine

/-- Queues whose descriptor word 0 is not at its reset value, with that word: all that are not IDLE are among them. -/
def Dev.listedQueues (d : Dev) : List Nat :=
  d.regs.filterMap (fun (k, _) => if k / 16777216 = RK.QUEUE_W0.ctorIdx then some (k % 16777216 / 256) else none)

/-- Queues not in IDLE, ascending. -/
def Dev.liveQueues (d : Dev) : List Nat := d.listedQueues.filter (fun q => d.gf F.QUEUE_W0_STATE q != 0)

/-- Queue states. -/
abbrev qIdle : Nat := 0
abbrev qRun : Nat := 1
abbrev qStopped : Nat := 2
abbrev qFault : Nat := 3

/-- A RUN queue goes to STOPPED: HEAD unchanged, the head record unfired (R225, R233). -/
def Dev.stopQueue (d : Dev) (q : Nat) : Dev :=
  if d.gf F.QUEUE_W0_STATE q == qRun then
    (d.onQueue q (fun x => { x with cur := none })).sf F.QUEUE_W0_STATE q 0 qStopped
  else d

/-- Every RUN queue goes to STOPPED (R233, R236). DEDUCED, log entry 65. -/
def Dev.stopAllQueues (d : Dev) : Dev := d.each d.liveQueues Dev.stopQueue

/-- Every channel goes off and every model reads 0 (R242, R251). -/
def Dev.allOff (d : Dev) : Dev :=
  { d with ev := { d.ev with chans := [], pins := [], handed := [] } }

/-- Player states (EVT_PLY_k_STAT). -/
abbrev pIdle : Nat := 0
abbrev pWait : Nat := 1
abbrev pFetch : Nat := 2
abbrev pPost : Nat := 3
abbrev pStalled : Nat := 4
abbrev pFault : Nat := 5
abbrev pDone : Nat := 6

/-- Alarm and Fallback load clear RUN and set every player to IDLE (R257). -/
def Dev.idlePlayers (d : Dev) : Dev :=
  d.each (List.range 4) (fun d k =>
    ((d.sf F.EVT_PLY_CTRL_RUN k 0 0).sf F.EVT_PLY_STAT_STATE k 0 pIdle).onPlayer k
      (fun p => { p with pick := [], index := 0 }))

/-- String states (STG_s_STAT). -/
abbrev sDown : Nat := 0
abbrev sTraining : Nat := 1
abbrev sUp : Nat := 2
abbrev sFault : Nat := 3

/-- MEAS_VALID of the feeds measured on string `s` falls and OFS is 0 (R243, R272). -/
def Dev.measFall (d : Dev) (s : Nat) : Dev :=
  d.each (List.range 64) (fun d f =>
    if d.gf F.EVT_FEED_CFG_SRC f == s && d.gb F.EVT_FEED_STAT_MEAS_VALID f then
      ((d.sf F.EVT_FEED_STAT_MEAS_VALID f 0 0).sf F.EVT_FEED_MEAS_OFS f 0 0).onFeed f (fun x => { x with ofsStep := 0 })
    else d)

/-- A string's training is abandoned: DOWN, RESULT FAILED, FAIL_STEP 0, no FAULT logged (R268, R273). -/
def Dev.abandonTraining (d : Dev) (s : Nat) : Dev :=
  let d := d.onStr s (fun x => { x with train := 0, bad := 0 })
  (((d.sf F.STG_STAT_STATE s 0 sDown).sf F.STG_STAT_DONE s 0 1).sf F.STG_STAT_RESULT s 0 2).sf
    F.STG_STAT_FAIL_STEP s 0 0

/-- A string enters a mode with no frames and becomes DOWN (Table 12.4). -/
def Dev.stringDown (d : Dev) (s : Nat) : Dev :=
  let d := if d.gf F.STG_STAT_STATE s == sTraining then d.abandonTraining s else d
  (d.sf F.STG_STAT_STATE s 0 sDown).onStr s (fun x => { x with bad := 0, fallOff := false })

/-- All strings DOWN. -/
def Dev.stringsDown (d : Dev) : Dev := d.each (List.range 64) Dev.stringDown

/-- Start of a string's link training (R268, R269): TRAINING, the PRBS register at all ones. -/
def Dev.startTraining (d : Dev) (s : Nat) : Dev :=
  let from' := d.gf F.STG_STAT_STATE s == sFault
  let d := d.onStr s (fun x => { x with train := 1, fromFault := from', bad := 0, badInStep := false, prbs := 0x1FF })
  d.sf F.STG_STAT_STATE s 0 sTraining

/-- Entry into Run, Quiet or Hold starts training of a DOWN string with EN and AUTO_TRAIN (R268). -/
def Dev.autoTrain (d : Dev) : Dev :=
  d.each (List.range 64) (fun d s =>
    if d.gb F.STG_CFG_EN s && d.gb F.STG_CFG_AUTO_TRAIN s && d.gf F.STG_STAT_STATE s == sDown then d.startTraining s
    else d)

/-- Decisions made for a string step are withdrawn when Hold is entered (R251). -/
def Dev.withdraw (d : Dev) : Dev :=
  { d with ev := { d.ev with queues := d.ev.queues.map (fun (q, x) =>
      (q, { x with cur := x.cur.map (fun c => { c with commit := none }) })) } }

/-- CFG_CW_STAT of an operation that has ended: its result and the erase cycles of the block addressed (R128). -/
def Dev.cwStat (d : Dev) (a result : Nat) : Dev :=
  ((d.sf F.CFG_CW_STAT_DONE 0 0 1).sf F.CFG_CW_STAT_RESULT 0 0 result).sf F.CFG_CW_STAT_CYCLES 0 0
    (min 0xFFFF (Map.get (fun _ => 0) d.cfg.cycles (a / 0x10000)))

/-- A Cellar write under way is abandoned (R32, R125): its target is left undefined. A step of a renewal pass is no
operation of CFG_CW_CTRL, and its pass has failed. -/
def Dev.abandonCw (d : Dev) : Dev :=
  match d.cfg.cw with
  | none => d
  | some w =>
    let d := { d with cfg := { d.cfg with
      cw := none, renewPass := none, renewFailed := d.cfg.renewFailed || d.cfg.renewPass.isSome } }.interruptCw w
    let d := (d.sf F.CFG_RENEW_ACTIVE 0 0 0).sf F.CFG_STATUS_BUSY 0 0 0
    (if w.ticket then d else d.cwStat w.addr 5).fault 0x0D w.addr

/-- A sleep handshake under way is abandoned (R32). -/
def Dev.abandonSleep (d : Dev) : Dev :=
  { d with gov := { d.gov with sleep := none } }.sf F.GOV_SLEEP_STAT_PHASE 0 0 0

/-- A re-apply under way ends (R381): 0 OK, 2 NOT_UP, 3 BAD_RECORD, 4 ABANDONED, with the entries left not applied. -/
def Dev.endReapply (d : Dev) (result : Nat) : Dev :=
  match d.cfg.reapply with
  | none => d
  | some r =>
    let d := { d with cfg := { d.cfg with reapply := none } }
    (((d.sf F.GBL_REAPPLY_STAT_BUSY 0 0 0).sf F.GBL_REAPPLY_STAT_DONE 0 0 1).sf
      F.GBL_REAPPLY_STAT_RESULT 0 0 result).sf F.GBL_REAPPLY_STAT_SKIPPED 0 0 (min r.skipped 0xFFFF)

/-- Hash and signature checks under way are abandoned (R32): STATE NONE, VERIFIED 0. -/
def Dev.abandonChecks (d : Dev) : Dev :=
  let st := d.gf F.CFG_STATUS_STATE
  if st == 8 || st == 9 || st == 0 then d
  else ({ d with cfg := { d.cfg with clockWait := false } }.sf F.CFG_STATUS_STATE 0 0 0).sf F.CFG_STATUS_VERIFIED 0 0 0

/-- N and FRAC of a PLL as one 33-bit number (R325). -/
def Dev.pllRatio (d : Dev) (n : Nat) : Nat := d.gf F.PLL_DIV_N n * 2 ^ 24 + d.gf F.PLL_FRAC_FRAC n

/-- Set N and FRAC. -/
def Dev.setPllRatio (d : Dev) (n r : Nat) : Dev :=
  (d.sf F.PLL_DIV_N n 0 (r / 2 ^ 24 % 512)).sf F.PLL_FRAC_FRAC n 0 (r % 2 ^ 24)

/-- A running ramp ends with a result at the frequency `r` (R337). -/
def Dev.endRamp (d : Dev) (n result r : Nat) : Dev :=
  (((d.setPllRatio n r).sf F.PLL_RAMP_CTRL_RUN n 0 0).sf F.PLL_RAMP_CTRL_RESULT n 0 result).sf F.PLL_STAT_RAMPING n 0 0

/-- The ratio nearest to `r` that the segment under way passes (R336): between the one it has moved from and its
target. -/
def Dev.rampReach (d : Dev) (n r : Nat) : Nat :=
  let a := d.pllRatio n
  let b := (d.pll n).rampTo
  max (min a b) (min r (max a b))

/-- The ratio that a running ramp has reached: a free value of those its segment passes. DESIGN CHOICE, log entry 78. -/
def Dev.rampNow (d : Dev) (n : Nat) : Nat :=
  let lo := min (d.pllRatio n) (d.pll n).rampTo
  lo + (Config.freeWord d.free).toNat % (max (d.pllRatio n) (d.pll n).rampTo - lo + 1)

/-- A running ramp is halted where it stands (R337). DESIGN CHOICE, log entry 78. -/
def Dev.haltRamp (d : Dev) (n result : Nat) : Dev :=
  if d.gb F.PLL_RAMP_CTRL_RUN n then d.takeFree.2.endRamp n result (d.rampNow n) else d

/-- Running frequency ramps stop where they are (R337). -/
def Dev.stopRamps (d : Dev) (result : Nat) : Dev := d.each (List.range 8) (fun d n => d.haltRamp n result)

/-- The debug level the life-cycle state holds without exchange (Table 16.2). -/
def Dev.heldLevel (d : Dev) : Nat :=
  let st := d.gf F.SEC_LCS_STATE
  if st == 1 then 3
  else if st == 2 then (if d.gb F.SEC_KEYS_DBG then 0 else 3)
  else if st == 8 then 2
  else 0

/-- SEC_DBG.LEVEL after the exchange level is set to `g` (R359). -/
def Dev.setLevel (d : Dev) (g : Nat) : Dev :=
  let d := { d with sec := { d.sec with granted := g } }
  d.sf F.SEC_DBG_LEVEL 0 0 (if g = 0 then d.heldLevel else max g d.heldLevel)

/-- Alarm is entered: a RESPOND that is verifying grants no level (Table 16.12). -/
def Dev.barRespond (d : Dev) : Dev :=
  if d.sec.cmd.any (fun c => c.1 == 6) then { d with sec := { d.sec with hold := [0] } } else d

/-- A pending mode request ends: REQ_ST 0b10 done, 0b11 refused (R29). -/
def Dev.endRequest (d : Dev) (st : Nat) : Dev :=
  { d with gov := { d.gov with pend := 0 } }.sf F.GBL_MODE_REQ_ST 0 0 st

/-- A pending request is refused where a transition of higher rank was taken (R29, R31). -/
def Dev.refusePending (d : Dev) : Dev := if d.gov.pend = 0 then d else d.endRequest 3

/-- A string at entry into Alarm: one that sends frames has 16 ALL_OFF frames to send and is DOWN after them, its training
abandoned (Table 12.4). DEDUCED, log entry 67. -/
def Dev.stringAlarm (d : Dev) (s : Nat) : Dev :=
  let st := d.gf F.STG_STAT_STATE s
  if st = sDown then d
  else if !d.gb F.STG_CFG_EN s || !d.gb F.CLK_ISL_STAT_RUN (82 + s / 8) || !d.gb F.EVT_TIME_STAT_COUNTING then d.stringDown s
  else (d.when (st == sTraining) (fun d => d.abandonTraining s)).onStr s (fun x => { x with allOff := 16, bad := 0, fallOff := false })

/-- What entry into Alarm does (R32, R233, R251, R337, R359, Tables 1.5, 12.4). DEDUCED, log entry 9. -/
def Dev.enterAlarm (d : Dev) (cause : Nat) : Dev :=
  let d := d.refusePending.abandonRooms.abandonCw.abandonSleep.abandonChecks.endReapply 4
  let d := ((((d.stopAllQueues.allOff).idlePlayers).stopRamps 2).setLevel 0).barRespond
  let d := d.each (List.range 64) Dev.stringAlarm
  d.resetAllRooms.putMode mAlarm cause

/-- What entry into Test does (R32): every room in reset with ACT_STATE DOWN and its shadow EMPTY. -/
def Dev.enterTest (d : Dev) (cause : Nat) : Dev :=
  let d := d.abandonRooms.abandonChecks
  let d := d.resetAllRooms.stringsDown
  let d := d.each roomIds (fun d n => (d.emptyShadow n).sf F.ROOM_PLANE_STAT_ACT_STATE n 0 actDown)
  d.putMode mTest cause

/-- What entry into Dormant does (Table 1.5). -/
def Dev.enterDormant (d : Dev) (cause : Nat) : Dev :=
  (d.refusePending.resetAllRooms.stringsDown).putMode mDormant cause

/-- Start of a full configuration: the GSR device-wide, driver maps of both planes cleared, every
shadow EMPTY, loads and swaps abandoned (R53, R117, Table 6.5). -/
def Dev.clearForFull (d : Dev) : Dev :=
  let d := d.abandonRooms.resetAllRooms
  d.each roomIds (fun d n =>
    ((d.emptyShadow n).onRoom n (fun r => { r with act := { r.act with drivers := [], src := false } })).sf
      F.ROOM_PLANE_STAT_ACT_STATE n 0 actDown)

/-- Entry into Fallback load (R121, R122, R233, R251): a FAULT of source 0x0B with the CAUSE. From a
running image the event engine stops and strings send all-off frames. -/
def Dev.enterFallback (d : Dev) (cause : Nat) : Dev :=
  let running := d.ready
  let d := d.refusePending
  let d := if running then (d.stopAllQueues.allOff).idlePlayers.endReapply 4 else d
  let d := d.each (List.range 64) (fun d s =>
    let st := d.gf F.STG_STAT_STATE s
    if st == sTraining then d.abandonTraining s
    else if st == sDown then d else d.onStr s (fun x => { x with fallOff := true }))
  (d.clearForFull.putMode mFallback cause).fault 0x0B cause

/-- Entry into Run, Quiet or Hold. -/
def Dev.enterReady (d : Dev) (m cause : Nat) : Dev :=
  let d := d.putMode m cause
  let d := if m = mHold then d.withdraw else d
  let d := d.each (List.range 64) (fun d s => d.onStr s (fun x => { x with fallOff := false }))
  d.autoTrain

/-- The mode entered at release: Run, or Hold if HOLD_N is low (Table 1.6). -/
def Dev.enterRunOrHold (d : Dev) (cause : Nat) : Dev :=
  d.enterReady (if d.pin.holdN then mRun else mHold) cause

end Sys2Proof.Machine
end

