-- ==== Sys2Proof/Machine/Islands.lean ====
section
/-! DEFINITION. Clock islands (R60 to R68, R23) and PLLs (R325 to R339, R418): frequencies as exact
fractions, the checks of their registers, lock and loss of lock, phase steps, ramps. -/

namespace Sys2Proof.Machine

/-- A frequency in kHz as a fraction. -/
structure Freq where
  num : Nat
  den : Nat
  deriving DecidableEq, Repr

/-- The frequency times `m`, divided by `k`. -/
def Freq.scale (f : Freq) (m k : Nat) : Freq := { num := f.num * m, den := f.den * k }

/-- lo ≤ f ≤ hi, in kHz. DEDUCED, log entry 68. -/
def Freq.within (f : Freq) (lo hi : Nat) : Bool := decide (lo * f.den ≤ f.num) && decide (f.num ≤ hi * f.den)

/-- f is exactly `k` kHz. -/
def Freq.eqK (f : Freq) (k : Nat) : Bool := f.num == k * f.den

/-- A write, or a field of it, treated as a reserved encoding (R11): a NOTICE with the register's address. -/
def Dev.refused (d : Dev) (src addr : Nat) : Dev := d.notice src addr

/-! ### Frequencies derived from a reference pin (R418) -/

/-- The frequency stated for a reference pin, none where a check of it cannot pass. -/
def Dev.pinFreq (d : Dev) (k : Nat) : Option Nat :=
  if d.gf F.PLL_REFIN_FREQ k = 0 || d.gf F.PLL_REFIN_FMT k = 0 then none else some (d.gf F.PLL_REFIN_FREQ k)

/-- RDIV and CDIV_k as divider values. -/
def Dev.pllRdiv (d : Dev) (n : Nat) : Nat := d.gf F.PLL_DIV_RDIV n + 1
def Dev.pllCdiv (d : Dev) (n k : Nat) : Nat := d.gf F.PLL_OUT_CDIV n k + 1

/-- f_VCO of PLL `n` taken from pin `pin`. -/
def Dev.vcoFrom (d : Dev) (n pin : Nat) : Option Freq :=
  (d.pinFreq pin).map (fun f => { num := f * d.pllRatio n, den := 2 ^ 24 * d.pllRdiv n })

/-- f_VCO of PLL `n`. -/
def Dev.pllVco (d : Dev) (n : Nat) : Option Freq := d.vcoFrom n (d.gf F.PLL_CTRL_REF_SEL n)

/-- Output `k` of PLL `n` with divider value `cdiv`. -/
def Dev.pllOutWith (d : Dev) (n cdiv : Nat) : Option Freq := (d.pllVco n).map (fun f => f.scale 1 cdiv)

/-- Output `k` of PLL `n`. -/
def Dev.pllOut (d : Dev) (n k : Nat) : Option Freq := d.pllOutWith n (d.pllCdiv n k)

/-! ### Islands -/

/-- Islands with a local clock generator (R23). -/
def hasGen (n : Nat) : Bool := n < 106 && n != 100 && n != 103 && n != 105

/-- Maximum frequency of an island in kHz (Table 1.4). -/
def islandMax (n : Nat) : Nat :=
  if n < 64 then 600000 else if n < 82 then 800000 else if n < 90 then 437500 else if n < 94 then 1066670
  else if n < 98 then 800000 else if n = 98 then 500000 else if n = 99 then 1000000 else if n < 103 then 200000
  else 100000

/-- Address of CLK_ISL_n_CTRL. -/
def islAddr (n : Nat) : Nat := 0x52000 + 0x10 * n

/-- The clock of island `n` starts: a room whose release waits for its first edge comes out of reset (R58). -/
def Dev.firstEdge (d : Dev) (n : Nat) : Dev := d.when (decide (n < 64) && (d.room n).release) (fun d => d.roomOut n)

/-- Set the multiplier in use (R63): from 0 the clock starts, to 0 it stops, else it slews. -/
def Dev.setCur (d : Dev) (n c : Nat) : Dev :=
  let old := d.gf F.CLK_ISL_STAT_CUR n
  if c = old then d
  else
    let d := d.sf F.CLK_ISL_STAT_CUR n 0 c
    if c = 0 then
      ((d.sf F.CLK_ISL_STAT_RUN n 0 0).sf F.CLK_ISL_STAT_LOCKED n 0 0).sf F.CLK_ISL_STAT_SLEWING n 0 0
    else if old = 0 then ((d.sf F.CLK_ISL_STAT_RUN n 0 1).sf F.CLK_ISL_STAT_LOCKED n 0 0).firstEdge n
    else d.sf F.CLK_ISL_STAT_SLEWING n 0 1

/-- Room classes (Table 14.2). -/
abbrev clMust : Nat := 0
abbrev clElastic : Nat := 1
abbrev clJob : Nat := 2
abbrev clParked : Nat := 3

/-- The multiplier a running room is to have (R62, R303); an ELASTIC room stays between its bounds. -/
def Dev.roomTarget (d : Dev) (n : Nat) : Nat :=
  let mult := d.gf F.CLK_ISL_CTRL_MULT n
  let floor := d.gf F.CLK_ISL_CTRL_FLOOR n
  let cls := d.gf F.GOV_ROOM_CLASS n
  let cur := d.gf F.CLK_ISL_STAT_CUR n
  if mult = 0 then 0
  else if d.mode == mHold then floor
  else if d.mode == mQuiet && cls < 2 then floor
  else if cls = clElastic then
    (if cur = 0 then (if d.gf F.GOV_STAT_LEVEL < 2 then mult else floor) else max floor (min mult cur))
  else mult

/-! ### Voltage and room clocks (R304, Table 14.3) -/

/-- Minimum VCC in mV for a room frequency (Table 14.3). DEDUCED, log entry 46. -/
def vccFor (f : Freq) : Nat :=
  if f.within 0 300000 then 720 else if f.within 0 400000 then 750 else if f.within 0 500000 then 780 else 800

/-- The frequency of room `n` at a multiplier. -/
def Dev.roomFreq (d : Dev) (n m : Nat) : Option Freq :=
  (d.pllOut (d.gf F.CLK_ISL_CTRL_REF_SEL n) 1).map (fun f => f.scale m 64)

/-- What Table 14.3 asks for room `n` at a multiplier: the lowest for a stopped clock, the highest for a frequency that is
not stated. -/
def Dev.roomBase (d : Dev) (n m : Nat) : Nat :=
  if m = 0 then 720 else match d.roomFreq n m with
    | some f => vccFor f
    | none => 800

/-- V_req of room `n` at a multiplier: Table 14.3 plus MARGIN, within 720 to 880 mV. -/
def Dev.roomVcc (d : Dev) (n m : Nat) : Nat := max 720 (min 880 (d.roomBase n m + d.gf F.GOV_VCC_MARGIN))

/-- A room may take a multiplier at the confirmed VCC: it needs no more voltage than that, or no more than any
room needs; while the rooms are capped, by Table 14.3 alone (R310). DEDUCED, log entry 46. -/
def Dev.vccAllows (d : Dev) (n m : Nat) : Bool :=
  let v := d.gf F.GOV_STAT_VCC_SET
  if d.gov.capped then decide (d.roomBase n m ≤ max v 720) else decide (d.roomVcc n m ≤ max v (d.roomVcc n 0))

/-- The highest multiplier of `m` candidates below `m` that the confirmed VCC allows, never below `lo`. -/
def Dev.allowedMult (d : Dev) (n lo m : Nat) : Nat :=
  if d.vccAllows n m then m
  else (((List.range m).reverse.find? (fun x => d.vccAllows n x)).getD lo) |> max lo

/-- The generator of an island follows its control register (R62): a room's within the governor's bounds and
only as far as VCC allows, a bonded bank's stopped, any other at MULT. -/
def Dev.followMult (d : Dev) (n : Nat) : Dev :=
  if n < 64 then
    let t := d.roomTarget n
    if d.pstate n == 0 && (t ≤ d.gf F.CLK_ISL_STAT_CUR n || d.vccAllows n t) then d.setCur n t else d
  else if d.gb F.CLK_ISL_CTRL_BOND n && n < 82 then d.setCur n 0
  else d.setCur n (d.gf F.CLK_ISL_CTRL_MULT n)

/-- The multiplier of island `n` given reference PLL `p` is within the island's range (R61). -/
def Dev.multOk (d : Dev) (n p m : Nat) : Bool :=
  m == 0 || (match d.pllOut p 1 with
    | none => false
    | some f => (f.scale m 64).within 25000 (islandMax n))

/-- A DRAM channel lets its island's MULT be written (R190). -/
def Dev.dramMultOk (d : Dev) (n p m : Nat) : Bool :=
  let st := d.dramState (n - 90)
  (st == drOff || st == drUntrained || st == drOffline) &&
    (m == 0 || (match d.pllOut p 1 with
      | none => false
      | some f => (f.scale m 64).within 400000 1066670))

/-- A PLL runs with its OUT_1 enabled. -/
def Dev.pllFeeds (d : Dev) (p : Nat) : Bool := d.gb F.PLL_CTRL_EN p && d.gb F.PLL_OUT_EN p 1

/-- What follows from a change of an island's settings (R161, R190). -/
def Dev.islandChanged (d : Dev) (n oldMult oldRef : Nat) : Dev :=
  let mult := d.gf F.CLK_ISL_CTRL_MULT n
  let d := d.followMult n
  let d := if 94 ≤ n && n < 98 && mult = 0 && d.quadState (n - 94) != 0 then d.quadLeave (n - 94) else d
  if 90 ≤ n && n < 94 && d.dramState (n - 90) == drOffline &&
      (mult != oldMult || d.gf F.CLK_ISL_CTRL_REF_SEL n != oldRef) then
    d.onDram (n - 90) (fun x => { x with needTrain := true })
  else d

/-- A write of CLK_ISL_n_CTRL (R61, R67, R190), field by field: whether a field was refused. A MULT or FLOOR
that stands as it is is not judged (R11). DEDUCED, log entry 22. DEDUCED, log entry 68. -/
def Dev.islandFields (d : Dev) (n : Nat) (v : Word) : Dev × Bool :=
  if !hasGen n then (d, true)
  else
    let oldMult := d.gf F.CLK_ISL_CTRL_MULT n
    let oldRef := d.gf F.CLK_ISL_CTRL_REF_SEL n
    let ref := bits v 27 3
    let mult := bits v 0 12
    let floor := bits v 12 12
    let bond := bits v 26 1
    let ramp := ref != oldRef && mult != 0 && d.gb F.PLL_RAMP_CTRL_RUN ref
    let oldFloor := d.gf F.CLK_ISL_CTRL_FLOOR n
    let badMult := mult != oldMult && (!d.multOk n ref mult || (mult = 0 && (n = 101 || n = 102 || n = 104)) ||
      (90 ≤ n && n < 94 && !d.dramMultOk n ref mult))
    let badFloor := floor != oldFloor && !d.multOk n ref floor
    let mult' := if badMult then oldMult else mult
    let floor' := if badFloor then oldFloor else floor
    let cross := mult' < floor' && (mult' != oldMult || floor' != oldFloor)
    let bank := 64 ≤ n && n < 82
    let badBond := bank && bond != d.gf F.CLK_ISL_CTRL_BOND n && !(d.room (facingRoom (n - 64))).gsr
    let d := if ramp then d else d.sf F.CLK_ISL_CTRL_REF_SEL n 0 ref
    let d := if cross then d else (d.sf F.CLK_ISL_CTRL_MULT n 0 mult').sf F.CLK_ISL_CTRL_FLOOR n 0 floor'
    let d := if bank && !badBond then
        (d.sf F.CLK_ISL_CTRL_BOND n 0 bond).sf F.ROOM_BANK_BONDED (facingRoom (n - 64)) 0 bond
      else d
    let d := d.islandChanged n oldMult oldRef
    (d, badMult || badFloor || cross || badBond || ramp)

/-- A write of CLK_ISL_n_CTRL (R61); islands without a generator have no such register. -/
def Dev.islandWrite (d : Dev) (n : Nat) (v : Word) : Dev :=
  if !hasGen n then d.noReg (islAddr n)
  else
    let r := d.islandFields n v
    if r.2 then r.1.refused 0x75 (islAddr n) else r.1

/-- ISLAND_SLEW_DONE (R63). -/
def execIslandSlewDone (n : Nat) (s : State) : Out :=
  .next (s.onDev (fun d => if d.gb F.CLK_ISL_STAT_SLEWING n then d.sf F.CLK_ISL_STAT_SLEWING n 0 0 else d))

/-- ISLAND_LOCK (R63, R64): a running generator whose reference is fed locks, also to a reference outside the
25 to 100 MHz of R60, for which no rule says what a generator does. DESIGN CHOICE, log entry 78. -/
def execIslandLock (n : Nat) (s : State) : Out :=
  .next (s.onDev (fun d =>
    if hasGen n && d.gb F.CLK_ISL_STAT_RUN n && d.pllFeeds (d.gf F.CLK_ISL_CTRL_REF_SEL n) then
      d.sf F.CLK_ISL_STAT_LOCKED n 0 1
    else d))

/-- A generator that has lost lock (R64). DEDUCED, log entry 68. -/
def Dev.islandUnlocked (d : Dev) (n : Nat) : Dev :=
  ((d.sf F.CLK_ISL_STAT_LOCKED n 0 0).sf F.CLK_ISL_STAT_UNLOCK_SEEN n 0 1).fault 0x74 n

/-- ISLAND_LOCK_LOSS (R64, R327): also of a generator whose PLL is off, which cannot lock. -/
def execIslandLockLoss (n : Nat) (s : State) : Out :=
  .next (s.onDev (fun d =>
    if hasGen n && d.gb F.CLK_ISL_STAT_RUN n &&
        (d.gb F.CLK_ISL_STAT_LOCKED n || !d.pllFeeds (d.gf F.CLK_ISL_CTRL_REF_SEL n)) then d.islandUnlocked n
    else d))

/-- What clocks an island (R374): nothing, the boot clock, or its generator. Islands 101, 102 and 104 run on the boot
clock while their generator is stopped, and 102 and 104 in Deep hold. -/
inductive IslandClock where
  | stopped | boot | generator
  deriving DecidableEq, Repr

/-- The clock of an island with a generator (R319, R374). -/
def Dev.islandClock (d : Dev) (n : Nat) : IslandClock :=
  if d.mode == mOff || d.mode == mRamp then .stopped
  else if d.gb F.CLK_ISL_STAT_RUN n then .generator
  else if n = 102 || n = 104 || (n = 101 && d.mode != mDeep) then .boot
  else .stopped

/-- CLK_ISL_n_STAT as read: a bonded bank shows the room's CUR (R62). -/
def Dev.islandStat (d : Dev) (n : Nat) : Word :=
  let w := d.reg .CLK_ISL_STAT n
  if 64 ≤ n && n < 82 && d.gb F.CLK_ISL_CTRL_BOND n then
    putBits w 0 12 (d.gf F.CLK_ISL_STAT_CUR (facingRoom (n - 64)))
  else w

/-! ### PLLs -/

/-- Address of a PLL's first register. -/
def pllAddr (n : Nat) : Nat := 0x50000 + 0x400 * n

/-- R327 names the PLL: an island with MULT not 0 or the running time base uses it. -/
def Dev.pllUsed (d : Dev) (n : Nat) : Bool :=
  (List.range 106).any (fun i => hasGen i && d.gf F.CLK_ISL_CTRL_MULT i != 0 && d.gf F.CLK_ISL_CTRL_REF_SEL i == n) ||
    (d.gf F.EVT_TIME_CFG_MULT != 0 && d.gf F.EVT_TIME_CFG_REF_SEL == n)

/-- A bank selects OUT_2 or OUT_3 of the PLL for its serializers (R336, R406): with FCLK_EN at 0 it selects none.
DEDUCED, log entry 68. -/
def Dev.pllServesBank (d : Dev) (n : Nat) : Bool :=
  (List.range 18).any (fun b => d.gb F.IOB_CFG_FCLK_EN b && d.gf F.IOB_CFG_FCLK_PLL b == n)

/-- The settings with which EN may be set (R325, R332). -/
def Dev.pllEnOk (d : Dev) (n : Nat) : Bool :=
  match d.pinFreq (d.gf F.PLL_CTRL_REF_SEL n), d.pllVco n with
  | some f, some vco =>
    let pfd : Freq := { num := f, den := d.pllRdiv n }
    decide (10000 ≤ f) && decide (f ≤ 200000) && pfd.within 10000 100000 && vco.within 2400000 4800000 &&
      decide (24 ≤ d.gf F.PLL_DIV_N n) && decide (d.gf F.PLL_DIV_N n ≤ 480) &&
      (d.gf F.PLL_CTRL_MODE n != 1 || (d.gf F.PLL_FRAC_FRAC n == 0 && !d.gb F.PLL_CTRL_DITHER n))
  | _, _ => false

/-- A PLL starts (R325, R329, R331): it waits for its reference and for lock. -/
def Dev.pllStart (d : Dev) (n : Nat) : Dev :=
  let pin := d.gf F.PLL_CTRL_REF_SEL n
  let d := d.sf F.PLL_CTRL_EN n 0 1
  let d := d.onPll n (fun x => { x with lfsr := BitVec.ofNat 16 (d.gf F.PLL_CTRL_SEED n), lossPending := false })
  ((d.sf F.PLL_STAT_LOCKED n 0 0).sf F.PLL_STAT_HOLDOVER n 0 0).sf F.PLL_STAT_REF_OK n 0 (b2n (d.pin.refEdges.getLsbD pin))

/-- EN falls (R333, R334): all outputs stop, the steps are lost, a ramp ends where it stands.
DEDUCED, log entry 68. -/
def Dev.pllStop (d : Dev) (n : Nat) : Dev :=
  let d := (d.haltRamp n 2).sf F.PLL_CTRL_EN n 0 0
  let d := d.onPll n (fun x => { x with steps := [], move := none, lossPending := false })
  ((((d.sf F.PLL_STAT_LOCKED n 0 0).sf F.PLL_STAT_REF_OK n 0 0).sf F.PLL_STAT_HOLDOVER n 0 0).sf
    F.PLL_STEP_BUSY n 0 0)

/-- A field of PLL_n_CTRL beside EN, written while EN is as it stands: kept where reserved (R329, R332) or
where it would change a running PLL (R334). -/
def Dev.pllField (d : Dev) (n : Nat) (f : Fld) (v : Nat) (bad : Bool) : Dev × Bool :=
  if v = d.gf f n then (d, false)
  else if bad || d.gb F.PLL_CTRL_EN n then (d, true)
  else (d.sf f n 0 v, false)

/-- The fields of PLL_n_CTRL beside EN. -/
def Dev.pllCtrlFields (d : Dev) (n : Nat) (v : Word) : Dev × Bool :=
  let a := d.pllField n F.PLL_CTRL_MODE (bits v 29 2) (bits v 29 2 == 3)
  let b := a.1.pllField n F.PLL_CTRL_REF_SEL (bits v 26 3) false
  let c := b.1.pllField n F.PLL_CTRL_DITHER (bits v 25 1) false
  let e := c.1.pllField n F.PLL_CTRL_DAMP (bits v 23 2) false
  let g := e.1.pllField n F.PLL_CTRL_SEED (bits v 0 16) (bits v 0 16 == 0)
  (g.1, a.2 || b.2 || c.2 || e.2 || g.2)

/-- The NOTICEs of a write refused in part: source 0x75, source 0x76. DEDUCED, log entry 38. -/
def Dev.refuse2 (d : Dev) (a : Nat) (bad75 bad76 : Bool) : Dev × Bool :=
  let d := if bad75 then d.refused 0x75 a else d
  (if bad76 then d.refused 0x76 a else d, bad75 || bad76)

/-- A write of PLL_n_CTRL (R325, R327, R334): whether a field was refused. -/
def Dev.pllCtrlFieldsEn (d : Dev) (n : Nat) (v : Word) : Dev × Bool :=
  let r := d.pllCtrlFields n v
  let d := r.1
  let on := d.gb F.PLL_CTRL_EN n
  if bits v 31 1 = 1 then
    if on then d.refuse2 (pllAddr n) r.2 false
    else if d.pllEnOk n then (d.pllStart n).refuse2 (pllAddr n) r.2 false
    else d.refuse2 (pllAddr n) true false
  else if !on then d.refuse2 (pllAddr n) r.2 false
  else if d.pllUsed n then d.refuse2 (pllAddr n) r.2 true
  else (d.pllStop n).refuse2 (pllAddr n) r.2 false

/-- A write of PLL_n_CTRL. -/
def Dev.pllCtrlWrite (d : Dev) (n : Nat) (v : Word) : Dev := (d.pllCtrlFieldsEn n v).1

/-- PLL_ENABLE (R325): a write of PLL_n_CTRL with EN at 1. -/
def execPllEnable (n : Nat) (v : Word) (s : State) : Out :=
  .next (s.onDev (fun d => d.pllCtrlWrite n (v ||| 0x80000000)))

/-- PLL_DISABLE (R327, R334): EN written 0, the other fields as they are. -/
def execPllDisable (n : Nat) (s : State) : Out :=
  .next (s.onDev (fun d => d.pllCtrlWrite n (putBits (d.reg .PLL_CTRL n) 31 1 0)))

/-- The frequency limit of a format in kHz (Table 15.3). -/
def fmtLimit (f : Nat) : Nat := if f = 0 then 800000 else if f = 1 then 400000 else if f = 2 then 200000 else 100000

/-- An output may start: OUT_0 within its format's limit (R335). -/
def Dev.outEnOk (d : Dev) (n k : Nat) : Bool :=
  k != 0 || (match d.pllOut n 0 with
    | none => false
    | some f => f.within 0 (fmtLimit (d.gf F.PLL_OUT_FMT n 0)))

/-- A write of PLL_n_OUT_k (R327, R334, R335): CDIV and FMT only while EN is 0; OUT_1 of a PLL in use keeps
running within 25 to 100 MHz. Whether a field was refused. DEDUCED, log entry 22. -/
def Dev.pllOutFields (d : Dev) (n k : Nat) (v : Word) : Dev × Bool :=
  let a := pllAddr n + 0x10 + 4 * k
  let on := d.gb F.PLL_OUT_EN n k
  let fmt := bits v 28 3
  let cdiv := bits v 0 9
  let used := k = 1 && d.pllUsed n
  let newFmt := k = 0 && fmt != d.gf F.PLL_OUT_FMT n k
  let newCdiv := cdiv != d.gf F.PLL_OUT_CDIV n k
  let badFmt := newFmt && (on || 4 ≤ fmt)
  let range := match d.pllOutWith n (cdiv + 1) with
    | none => false
    | some f => f.within 25000 100000
  let bad76 := used && newCdiv && !range
  let badCdiv := newCdiv && (on || bad76)
  let d := if newFmt && !badFmt then d.sf F.PLL_OUT_FMT n k fmt else d
  let d := if newCdiv && !badCdiv then d.sf F.PLL_OUT_CDIV n k cdiv else d
  let bad75 := badFmt || (badCdiv && !bad76)
  if bits v 31 1 = 1 then
    if on then d.refuse2 a bad75 bad76
    else if d.outEnOk n k then (d.sf F.PLL_OUT_EN n k 1).refuse2 a bad75 bad76
    else d.refuse2 a true bad76
  else if !on then d.refuse2 a bad75 bad76
  else if used then d.refuse2 a bad75 true
  else (d.sf F.PLL_OUT_EN n k 0).refuse2 a bad75 bad76

/-- A write of PLL_n_OUT_k. -/
def Dev.pllOutWrite (d : Dev) (n k : Nat) (v : Word) : Dev := (d.pllOutFields n k v).1

/-- PLL_OUTPUT_ENABLE (R334). -/
def execPllOutputEnable (n k : Nat) (v : Word) (s : State) : Out := .next (s.onDev (fun d => d.pllOutWrite n k v))

/-- LOCK_WIN in ps. -/
def lockWin (c : Nat) : Nat := 100 * 2 ^ c

/-- The size of a signed phase error. -/
def errSize (e : BitVec 16) : Nat := e.toInt.natAbs

/-- PLL_LOCK (R330): the error has stayed below LOCK_WIN for LOCK_N cycles. -/
def Dev.pllLock (d : Dev) (n : Nat) (e : BitVec 16) : Dev :=
  if d.gb F.PLL_CTRL_EN n && d.gb F.PLL_STAT_REF_OK n && !d.gb F.PLL_STAT_LOCKED n &&
      errSize e < lockWin (d.gf F.PLL_LOCK_LOCK_WIN n) then
    ((d.sf F.PLL_STAT_LOCKED n 0 1).sf F.PLL_STAT_HOLDOVER n 0 0).sf F.PLL_STAT_PH_ERR n 0 e.toNat
  else d

/-- PLL_LOCK (R330). -/
def execPllLock (n : Nat) (e : BitVec 16) (s : State) : Out := .next (s.onDev (fun d => d.pllLock n e))

/-- LOCKED falls and, where it was 1, UNLOCK_SEEN is set; a running ramp halts with LOST; the next lock starts with the
LFSR at SEED (R329, R330, R337). -/
def Dev.pllUnlocked (d : Dev) (n : Nat) : Dev :=
  let was := d.gb F.PLL_STAT_LOCKED n
  let d := d.haltRamp n 3
  let d := d.onPll n (fun x => { x with lfsr := BitVec.ofNat 16 (d.gf F.PLL_CTRL_SEED n) })
  (d.sf F.PLL_STAT_LOCKED n 0 0).when was (fun d => d.sf F.PLL_STAT_UNLOCK_SEEN n 0 1)

/-- PLL_LOCK_LOSS (R330). -/
def Dev.pllLockLoss (d : Dev) (n : Nat) (e : BitVec 16) : Dev :=
  if d.gb F.PLL_STAT_LOCKED n && lockWin (d.gf F.PLL_LOCK_LOCK_WIN n) ≤ errSize e then
    ((d.pllUnlocked n).sf F.PLL_STAT_PH_ERR n 0 e.toNat).onPll n (fun x => { x with lossPending := true })
  else d

/-- PLL_LOCK_LOSS (R330). -/
def execPllLockLoss (n : Nat) (e : BitVec 16) (s : State) : Out := .next (s.onDev (fun d => d.pllLockLoss n e))

/-- PLL_UNLOCK_FAULT (R330): 1 µs after a loss of lock, logged if REF_OK is still 1. -/
def Dev.pllUnlockFault (d : Dev) (n : Nat) : Dev :=
  if (d.pll n).lossPending then
    let d' := d.onPll n (fun x => { x with lossPending := false })
    if d.gb F.PLL_STAT_REF_OK n then d'.faultFree 0x76 else d'
  else d

/-- PLL_UNLOCK_FAULT (R330). -/
def execPllUnlockFault (n : Nat) (s : State) : Out := .next (s.onDev (fun d => d.pllUnlockFault n))

/-- PLL_REF_EDGES (R331): the pin shows edges; enabled PLLs that use it, with its receiver on, see them and relock.
HOLDOVER reads 1 until they have (Table 15.4). DEDUCED, log entry 68. -/
def Dev.pllRefEdges (d : Dev) (pin : Nat) : Dev :=
  let d := { d with pin := { d.pin with refEdges := d.pin.refEdges ||| BitVec.ofNat 8 (2 ^ pin) } }
  if d.gf F.PLL_REFIN_FMT pin = 0 then d
  else d.each (List.range 8) (fun d n =>
    if d.gb F.PLL_CTRL_EN n && d.gf F.PLL_CTRL_REF_SEL n == pin then
      d.sf F.PLL_STAT_REF_OK n 0 1
    else d)

/-- PLL_REF_EDGES (R331). -/
def execPllRefEdges (pin : Nat) (s : State) : Out := .next (s.onDev (fun d => d.pllRefEdges pin))

/-- PLL_REF_LOSS (R331): no edge for 1 µs; every PLL that had the reference goes into holdover. -/
def Dev.pllRefLoss (d : Dev) (pin : Nat) : Dev :=
  let d := { d with pin := { d.pin with refEdges := d.pin.refEdges &&& ~~~(BitVec.ofNat 8 (2 ^ pin)) } }
  d.each (List.range 8) (fun d n =>
    if d.gb F.PLL_CTRL_EN n && d.gf F.PLL_CTRL_REF_SEL n == pin && d.gb F.PLL_STAT_REF_OK n then
      let d := (d.pllUnlocked n).onPll n (fun x => { x with lossPending := false })
      ((d.sf F.PLL_STAT_REF_OK n 0 0).sf F.PLL_STAT_HOLDOVER n 0 1).fault 0x77 pin
    else d)

/-- PLL_REF_LOSS (R331). -/
def execPllRefLoss (pin : Nat) (s : State) : Out := .next (s.onDev (fun d => d.pllRefLoss pin))

/-- A write of PLL_n_STEP (R333): OUT and COUNT, then GO, reserved while BUSY and outside stepping mode. -/
def Dev.pllStepWrite (d : Dev) (n : Nat) (v : Word) : Dev :=
  let d := (d.sf F.PLL_STEP_OUT n 0 (bits v 28 2)).sf F.PLL_STEP_COUNT n 0 (bits v 0 8)
  if bits v 31 1 = 0 then d
  else if d.gb F.PLL_STEP_BUSY n || d.gf F.PLL_CTRL_MODE n != 2 || !d.gb F.PLL_CTRL_EN n then
    d.refused 0x75 (pllAddr n + 0x24)
  else
    (d.sf F.PLL_STEP_BUSY n 0 1).onPll n (fun x => { x with move := some (bits v 28 2, signed 8 (bits v 0 8)) })

/-- PLL_STEP_GO (R333). -/
def execPllStepGo (n : Nat) (v : Word) (s : State) : Out :=
  .next (s.onDev (fun d => d.pllStepWrite n (v ||| 0x80000000)))

/-- PLL_STEP_DONE (R333): the last step is applied. -/
def Dev.pllStepDone (d : Dev) (n : Nat) : Dev :=
  match (d.pll n).move with
  | none => d
  | some (k, c) =>
    (d.onPll n (fun x => { x with
      move := none, steps := Map.put (fun _ => 0) x.steps k (Map.get (fun _ => 0) x.steps k + c) })).sf F.PLL_STEP_BUSY n 0 0

/-- PLL_STEP_DONE (R333). -/
def execPllStepDone (n : Nat) (s : State) : Out := .next (s.onDev (fun d => d.pllStepDone n))

/-- The segments a ramp would run: up to the first with LAST set (R336). -/
def Dev.rampSegs (d : Dev) (n : Nat) : List Nat :=
  match (List.range 32).find? (fun k => d.gb F.PLL_SEG_W0_LAST n k) with
  | some k => List.range (k + 1)
  | none => List.range 32

/-- A ramp may start (R336). -/
def Dev.rampOk (d : Dev) (n : Nat) : Bool :=
  d.gb F.PLL_CTRL_EN n && !d.gb F.PLL_RAMP_CTRL_RUN n && d.gf F.PLL_CTRL_MODE n != 1 && !d.pllUsed n &&
    !d.pllServesBank n &&
    (d.rampSegs n).all (fun k =>
      decide (2400000 ≤ d.gf F.PLL_SEG_W0_TARGET n k) && decide (d.gf F.PLL_SEG_W0_TARGET n k ≤ 4800000) &&
        decide (1 ≤ d.gf F.PLL_SEG_W1_SLOPE n k) && decide (d.gf F.PLL_SEG_W1_SLOPE n k ≤ 500))

/-- N and FRAC, to the nearest step, for a target f_VCO in kHz. DEDUCED, log entry 68. -/
def Dev.ratioFor (d : Dev) (n target : Nat) : Nat :=
  match d.pinFreq (d.gf F.PLL_CTRL_REF_SEL n) with
  | none => d.pllRatio n
  | some f => roundDiv (target * d.pllRdiv n * 2 ^ 24) f % 2 ^ 33

/-- Segment `k` of a ramp begins: its words are used as they stand now (R339). -/
def Dev.rampSegment (d : Dev) (n k : Nat) : Dev :=
  (d.onPll n (fun x => { x with
    rampTo := d.ratioFor n (d.gf F.PLL_SEG_W0_TARGET n k), rampLast := k == 31 || d.gb F.PLL_SEG_W0_LAST n k })).sf
    F.PLL_RAMP_CTRL_SEG n 0 k

/-- PLL_RAMP_GO (R336). The GO of a ramp for a PLL that R327 names is refused as reserved too (Table 15.4).
DEDUCED, log entry 38. -/
def Dev.pllRampGo (d : Dev) (n : Nat) : Dev :=
  if d.rampOk n then ((d.sf F.PLL_RAMP_CTRL_RUN n 0 1).rampSegment n 0).sf F.PLL_STAT_RAMPING n 0 1
  else (d.sf F.PLL_RAMP_CTRL_RESULT n 0 1).when (d.pllUsed n) (fun d => d.refused 0x75 (pllAddr n + 0x28))

/-- PLL_RAMP_GO (R336). -/
def execPllRampGo (n : Nat) (s : State) : Out := .next (s.onDev (fun d => d.pllRampGo n))

/-- PLL_RAMP_STOP (R337): `reached` is N and FRAC at the frequency reached, or the nearest that the segment under way
passes. -/
def Dev.pllRampStop (d : Dev) (n reached : Nat) : Dev :=
  if d.gb F.PLL_RAMP_CTRL_RUN n then d.endRamp n 2 (d.rampReach n reached) else d

/-- PLL_RAMP_STOP (R337). -/
def execPllRampStop (n : Nat) (reached : BitVec 33) (s : State) : Out :=
  .next (s.onDev (fun d => d.pllRampStop n reached.toNat))

/-- PLL_RAMP_SEGMENT_END (R336): target reached and held; the next segment, or the end with OK. -/
def Dev.pllSegmentEnd (d : Dev) (n : Nat) : Dev :=
  if !d.gb F.PLL_RAMP_CTRL_RUN n then d
  else
    let x := d.pll n
    if x.rampLast then d.endRamp n 0 x.rampTo
    else (d.setPllRatio n x.rampTo).rampSegment n (d.gf F.PLL_RAMP_CTRL_SEG n + 1)

/-- PLL_RAMP_SEGMENT_END (R336). -/
def execPllRampSegmentEnd (n : Nat) (s : State) : Out := .next (s.onDev (fun d => d.pllSegmentEnd n))

/-- One step of the dither LFSR, x^16 + x^14 + x^13 + x^11 + 1 (R329). -/
def lfsrStep (x : BitVec 16) : BitVec 16 :=
  let b := x.getLsbD 0 ^^ x.getLsbD 2 ^^ x.getLsbD 3 ^^ x.getLsbD 5
  (x >>> 1) ||| (if b then 0x8000 else 0)

/-- A PFD cycle of every PLL that has its reference (R329): with DITHER, bit 0 of the LFSR says whether 2^DAMP is added to
FRAC or taken from it, and the LFSR steps. With 1 for the sum, its period adds 2^DAMP once. DEDUCED, log entry 68. -/
def Dev.pfdCycle (d : Dev) : Dev :=
  d.each (List.range 8) (fun d n =>
    if d.gb F.PLL_CTRL_EN n && d.gb F.PLL_STAT_REF_OK n && d.gb F.PLL_CTRL_DITHER n then
      let a : Int := 2 ^ d.gf F.PLL_CTRL_DAMP n
      d.onPll n (fun x => { x with dither := if x.lfsr.getLsbD 0 then a else -a, lfsr := lfsrStep x.lfsr })
    else d)

/-- The ratio that the modulator applies in the present PFD cycle, in units of 2^-24 (R328, R329). -/
def Dev.modulated (d : Dev) (n : Nat) : Int :=
  (d.pllRatio n : Int) + (if d.gb F.PLL_CTRL_DITHER n then (d.pll n).dither else 0)

/-! ### Outputs (R332 to R335) -/

/-- Output `k` keeps a rising edge at the reference's (R332): aligned mode, locked, its frequency an integer multiple or
an integer fraction of the reference's. -/
def Dev.outAligned (d : Dev) (n k : Nat) : Bool :=
  d.gb F.PLL_CTRL_EN n && d.gf F.PLL_CTRL_MODE n == 1 && d.gb F.PLL_STAT_LOCKED n && d.gb F.PLL_OUT_EN n k &&
    (match d.pinFreq (d.gf F.PLL_CTRL_REF_SEL n), d.pllOut n k with
      | some r, some f => f.num % (f.den * r) == 0 || (f.num != 0 && f.den * r % f.num == 0)
      | _, _ => false)

/-- What a pin of an output pair does: without power, high-impedance with the weak pull-down, a steady level, or the
output's clock, inverted on the _N side of a differential format. -/
inductive PllPin where
  | unpowered | highZ | level (v : Bool) | clock (inverted : Bool)
  deriving DecidableEq, Repr

/-- Pin PLL_OUT_n_P or PLL_OUT_n_N (R334, R335): a disabled output is low, or at differential 0. -/
def Dev.pllPin (d : Dev) (n : Nat) (negative : Bool) : PllPin :=
  let fmt := d.gf F.PLL_OUT_FMT n 0
  if d.mode == mOff then .unpowered
  else if d.mode == mRamp || (2 ≤ fmt && negative) then .highZ
  else if !d.gb F.PLL_CTRL_EN n || !d.gb F.PLL_OUT_EN n 0 then .level negative
  else .clock negative

end Sys2Proof.Machine
end

