-- ==== Sys2Proof/Machine/Angle.lean ====
section
/-! DEFINITION. Device time (R207 to R210) and the angle units (R211 to R217). -/

namespace Sys2Proof.Machine

/-! ### Time base -/

/-- The time base's generator may lock: it is set and its PLL feeds it. -/
def Dev.tbFed (d : Dev) : Bool := d.gf F.EVT_TIME_CFG_MULT != 0 && d.pllFeeds (d.gf F.EVT_TIME_CFG_REF_SEL)

/-- Modes in which device time counts (R207). -/
def Dev.timeMode (d : Dev) : Bool :=
  d.mode != mOff && d.mode != mRamp &&
    ((d.mode != mDeep && !d.ev.stopped) || d.gov.sleep.any (fun x => x.waking && x.next ≤ 7))

/-- TIME_BASE_LOCK (R207): the generator reports lock and device time counts. -/
def Dev.timeBaseLock (d : Dev) : Dev :=
  if d.tbFed && d.timeMode && !d.gb F.EVT_TIME_STAT_TB_LOCKED then
    let d := { d with ev := { d.ev with tbEver := true } }
    (d.sf F.EVT_TIME_STAT_TB_LOCKED 0 0 1).sf F.EVT_TIME_STAT_COUNTING 0 0 1
  else d

/-- TIME_BASE_LOCK_LOSS (R208): time goes on counting. -/
def Dev.timeBaseLoss (d : Dev) : Dev :=
  if d.gb F.EVT_TIME_STAT_TB_LOCKED then
    ((d.sf F.EVT_TIME_STAT_TB_LOCKED 0 0 0).sf F.EVT_TIME_STAT_TB_UNLOCK_SEEN 0 0 1).fault 0x74 106
  else d

/-- TIME_BASE_LOCK (R207). -/
def execTimeBaseLock (s : State) : Out := .next (s.onDev Dev.timeBaseLock)

/-- TIME_BASE_LOCK_LOSS (R208). -/
def execTimeBaseLockLoss (s : State) : Out := .next (s.onDev Dev.timeBaseLoss)

/-- MULT gives the time base exactly 500 MHz from PLL `p` (R208, R418), or stops it. -/
def Dev.tbMultOk (d : Dev) (p m : Nat) : Bool :=
  m == 0 || (match d.pllOut p 1 with
    | none => false
    | some f => (f.scale m 64).eqK 500000)

/-- A write of EVT_TIME_CFG (R208): refused once the generator has locked; whether it was refused. -/
def Dev.timeCfgWrite (d : Dev) (v : Word) : Dev × Bool :=
  let ref := bits v 27 3
  let m := bits v 0 12
  let same := ref == d.gf F.EVT_TIME_CFG_REF_SEL && m == d.gf F.EVT_TIME_CFG_MULT
  if same then (d, false)
  else if d.ev.tbEver then (d, true)
  else
    let d := d.sf F.EVT_TIME_CFG_REF_SEL 0 0 ref
    if m = d.gf F.EVT_TIME_CFG_MULT then (d, false)
    else if d.tbMultOk ref m then (d.sf F.EVT_TIME_CFG_MULT 0 0 m, false)
    else (d, true)

/-! ### The event core's clock -/

/-- The event core runs: island 98 has its clock and the engine is not stopped for Deep hold. -/
def Dev.evOn (d : Dev) : Bool := d.gb F.CLK_ISL_STAT_RUN 98 && !d.ev.stopped

/-- Ticks from one event core cycle to the next, rounded up (R207). -/
def Dev.evPeriod (d : Dev) : Nat :=
  match d.pllOut (d.gf F.CLK_ISL_CTRL_REF_SEL 98) 1 with
  | none => 1
  | some f =>
    let f := f.scale (d.gf F.CLK_ISL_STAT_CUR 98) 64
    if f.num = 0 then 1 else max 1 ((500000 * f.den + f.num - 1) / f.num)

/-! ### Angle units -/

/-- N of R214. -/
def Dev.angN (d : Dev) (u : Nat) : Nat := d.gf F.EVT_ANG_CFG_HIST u + 1

/-- n_held and S of R214. -/
def Dev.angHeld (d : Dev) (u : Nat) : Nat × Nat :=
  let l := (d.angle u).hist.take (d.angN u)
  (l.length, l.sum)

/-- P_pred at device time `t` (R214, R216). DEDUCED, log entry 64. -/
def Dev.pPredAt (d : Dev) (u : Nat) (t : Nat) : BitVec 64 :=
  let x := d.angle u
  match x.frozen with
  | some p => p
  | none =>
    let h := d.angHeld u
    let inc := d.gf F.EVT_ANG_INC_INC u
    if h.1 = 0 then x.pos
    else x.pos + BitVec.ofNat 64 (min (inc * (t - x.tEdge.toNat) * h.1 / h.2) (inc - 1))

/-- P_pred now. -/
def Dev.pPred (d : Dev) (u : Nat) : BitVec 64 := d.pPredAt u d.now

/-- The interval history is cleared (R214). -/
def Dev.angClear (d : Dev) (u : Nat) : Dev := d.onAngle u (fun x => { x with hist := [], haveEdge := false })

/-- A transition of the quadrature pair that changes one input (R211): forward in the order in which A
leads B, judged by the state it comes from. -/
def quadForward (a b a' : Bool) : Bool := if a != a' then (if a' then !b else b) else (if b then !a else a)

/-- Whether MODE counts a transition (Table 10.1). -/
def quadCounted (mode : Nat) (aChanged rises : Bool) : Bool :=
  if mode = 0 then aChanged && rises else if mode = 1 then aChanged else true

/-- The prediction error of a new interval (R215). -/
def predErr (inc n s i : Nat) : Nat :=
  let diff := if s ≤ i * n then i * n - s else s - i * n
  min 255 (roundDiv (inc * diff) (4096 * s))

/-- PREDICTION_ERROR (R215). -/
def Dev.angErr (d : Dev) (u e : Nat) : Dev :=
  let d := (d.sf F.EVT_ANG_ERR_ERR_LAST u 0 e).sf F.EVT_ANG_ERR_ERR_MAX u 0 (max e (d.gf F.EVT_ANG_ERR_ERR_MAX u))
  let tol := d.gf F.EVT_ANG_ERR_PERR_TOL u
  if tol != 0 && tol < e then (d.sf F.EVT_ANG_STAT_PERR_SEEN u 0 1).notice 0x51 u else d

/-- A counted edge at time stamp `t` (R212, R214 to R216). DEDUCED, log entry 64. -/
def Dev.angEdge (d : Dev) (u : Nat) (fwd : Bool) (t : BitVec 64) : Dev :=
  let x := d.angle u
  let inc := BitVec.ofNat 64 (d.gf F.EVT_ANG_INC_INC u)
  let d := (d.sf F.EVT_ANG_STAT_STALL u 0 0).sf F.EVT_ANG_STAT_DIR u 0 (b2n (!fwd))
  if fwd then
    let i := t.toNat - x.tEdge.toNat
    let n := d.angN u
    let d := if x.haveEdge && n ≤ x.hist.length then d.angErr u (predErr inc.toNat n (x.hist.take n).sum i) else d
    d.onAngle u (fun y => { y with
      pos := y.pos + inc
      tEdge := t
      frozen := none
      hist := if x.haveEdge && 0 < i then (i :: y.hist).take 16 else y.hist
      haveEdge := true })
  else
    d.onAngle u (fun y => { y with pos := y.pos - inc, tEdge := t, frozen := none, hist := [], haveEdge := false })

/-- ENCODER_EDGE (R211): the filtered levels become `a` and `b`, FILT ticks after the raw change.
DEDUCED, log entry 64. -/
def Dev.encoderEdge (d : Dev) (u : Nat) (a b : Bool) : Dev :=
  let x := d.angle u
  let d := d.onAngle u (fun y => { y with a := a, b := b })
  if !d.evOn || !d.gb F.EVT_ANG_CFG_EN u || (a == x.a && b == x.b) then d
  else if a != x.a && b != x.b then (d.sf F.EVT_ANG_STAT_QERR_SEEN u 0 1).notice 0x52 u
  else
    let aChanged := a != x.a
    if quadCounted (d.gf F.EVT_ANG_CFG_MODE u) aChanged a then
      d.angEdge u (quadForward x.a x.b a ^^ d.gb F.EVT_ANG_CFG_DIR_INV u)
        (BitVec.ofNat 64 (d.now - d.gf F.EVT_ANG_CFG_FILT u))
    else d

/-- ENCODER_EDGE (R211). -/
def execEncoderEdge (u : Nat) (a b : Bool) (dt : Nat) (s : State) : Out :=
  .next (s.onDev (fun d => (d.tick dt).encoderEdge u a b))

/-- The Z correction e of R213. -/
def Dev.zErr (d : Dev) (u : Nat) : Int :=
  signed 32 (unsigned 32 ((d.gf F.EVT_ANG_LIM_ZOFF u * 65536 : Nat) - ((d.angle u).pos.toNat % 2 ^ 32 : Nat)))

/-- ENCODER_Z_EDGE (R213): a filtered rising edge of Z while the shaft turns forward.
DEDUCED, log entry 64. -/
def Dev.encoderZ (d : Dev) (u : Nat) : Dev :=
  if !d.evOn || !d.gb F.EVT_ANG_CFG_EN u || !d.gb F.EVT_ANG_CFG_Z_EN u || d.gb F.EVT_ANG_STAT_DIR u then d
  else
    let e := d.zErr u
    let adopt := fun (d : Dev) => d.onAngle u (fun x => { x with pos := x.pos + BitVec.ofInt 64 e })
    if !d.gb F.EVT_ANG_STAT_ZSYNC u then (adopt d).sf F.EVT_ANG_STAT_ZSYNC u 0 1
    else if e.natAbs ≤ d.gf F.EVT_ANG_CFG_Z_TOL u * 65536 then adopt d
    else (d.sf F.EVT_ANG_STAT_ZERR_SEEN u 0 1).notice 0x52 (0x10 + u)

/-- ENCODER_Z_EDGE (R213). -/
def execEncoderZEdge (u : Nat) (dt : Nat) (s : State) : Out :=
  .next (s.onDev (fun d => (d.tick dt).encoderZ u))

/-- ANGLE_STALL (R216): once no edge has been counted for STALL_TO × 1,024 ticks. DEDUCED, log entry 64. -/
def Dev.angleStall (d : Dev) (u : Nat) : Dev :=
  let lim := d.gf F.EVT_ANG_LIM_STALL_TO u
  if !d.evOn || !d.gb F.EVT_ANG_CFG_EN u || lim = 0 || d.gb F.EVT_ANG_STAT_STALL u ||
      d.now < (d.angle u).tEdge.toNat + lim * 1024 then d
  else
    let p := d.pPred u
    let d := (d.angClear u).onAngle u (fun x => { x with frozen := some p })
    ((d.sf F.EVT_ANG_STAT_STALL u 0 1).sf F.EVT_ANG_STAT_STALL_SEEN u 0 1).notice 0x50 u

/-- ANGLE_STALL (R216). -/
def execAngleStall (u : Nat) (dt : Nat) (s : State) : Out :=
  .next (s.onDev (fun d => (d.tick dt).angleStall u))

/-- Address of EVT_ANG_u_CFG. -/
def angAddr (u : Nat) : Nat := 0x90100 + 0x40 * u

/-- A write of EVT_ANG_u_CFG (R217, Table 10.1): whether a field was refused. DEDUCED, log entry 20. -/
def Dev.angCfgWrite (d : Dev) (u : Nat) (v : Word) : Dev × Bool :=
  let en := d.gf F.EVT_ANG_CFG_EN u
  let mode := bits v 27 2
  let bad := mode != d.gf F.EVT_ANG_CFG_MODE u && (mode == 3 || en == 1)
  let d := if bad then d else d.sf F.EVT_ANG_CFG_MODE u 0 mode
  let d := (((((d.sf F.EVT_ANG_CFG_EN u 0 (bits v 31 1)).sf F.EVT_ANG_CFG_Z_EN u 0 (bits v 30 1)).sf
    F.EVT_ANG_CFG_DIR_INV u 0 (bits v 29 1)).sf F.EVT_ANG_CFG_HIST u 0 (bits v 23 4)).sf
    F.EVT_ANG_CFG_FILT u 0 (bits v 8 8)).sf F.EVT_ANG_CFG_Z_TOL u 0 (bits v 0 8)
  if bits v 31 1 = en then (d, bad)
  else
    let d := ((d.angClear u).sf F.EVT_ANG_STAT_STALL u 0 0).sf F.EVT_ANG_STAT_ZSYNC u 0 0
    (d.onAngle u (fun x => { x with frozen := none, tEdge := d.ev.time }), bad)

/-- A write of EVT_ANG_u_ANGLE (R217): only while EN is 0; whether it was refused, which it is not where it leaves the
angle and fraction as they read (R11). DEDUCED, log entry 20. -/
def Dev.angPosWrite (d : Dev) (u : Nat) (v : Word) : Dev × Bool :=
  if d.gb F.EVT_ANG_CFG_EN u then (d, v != (d.pPred u).setWidth 32)
  else
    ((d.angClear u).onAngle u (fun x => { x with
      pos := (x.pendRev.setWidth 64 <<< 32) ||| v.setWidth 64, frozen := none }), false)

/-- A refusal under R11, where there was one. -/
def Dev.refuseIf (r : Dev × Bool) (src addr : Nat) : Dev := if r.2 then r.1.notice src addr else r.1

/-- ANGLE_UNIT_ENABLE (R217): a write of EVT_ANG_u_CFG; nothing is written while the island is off. -/
def execAngleUnitEnable (u : Nat) (v : Word) (s : State) : Out :=
  .next (s.onDev (fun d => if d.evOn then Dev.refuseIf (d.angCfgWrite u v) 0x75 (angAddr u) else d))

/-- ANGLE_POSITION_WRITE (R217). -/
def execAnglePositionWrite (u : Nat) (v : Word) (s : State) : Out :=
  .next (s.onDev (fun d => if d.evOn then Dev.refuseIf (d.angPosWrite u v) 0x75 (angAddr u + 0x10) else d))

/-- A read of EVT_ANG_u_ANGLE (R217): P_pred's low half, its revolution count latched into EVT_ANG_u_REV. -/
def Dev.angRead (d : Dev) (u : Nat) : Dev × Word :=
  let p := d.pPred u
  (d.setReg .EVT_ANG_REV u 0 ((p >>> 32).setWidth 32), p.setWidth 32)

/-- EVT_ANG_u_STAT as read: with the intervals held. -/
def Dev.angStat (d : Dev) (u : Nat) : Word := putBits (d.reg .EVT_ANG_STAT u) 20 5 (d.angle u).hist.length

/-- EVT_ANG_u_IVL as read: S / N in 1/16 tick. -/
def Dev.angIvl (d : Dev) (u : Nat) : Word :=
  let h := d.angHeld u
  if h.1 = 0 then 0 else BitVec.ofNat 32 (16 * h.2 / h.1)

/-- EVT_TIME_LO_READ (R209): bits [31:0], and bits [63:32] latched into EVT_TIME_HI. -/
def Dev.timeLoRead (d : Dev) : Dev × Word :=
  ({ d with ev := { d.ev with timeHi := (d.ev.time >>> 32).setWidth 32 } }, d.ev.time.setWidth 32)

end Sys2Proof.Machine
end

