-- ==== Sys2Proof/Machine/Channels.lean ====
section
/-! DEFINITION. Neighbour channels (R69 to R74) and the crossing of an unbonded bank (R66). -/

namespace Sys2Proof.Machine

/-- Where the channel of sending port (room, side, j) stands in `State.nch`. -/
def nchKey (n side j : Nat) : Nat := n * 16 + side * 4 + j

/-- The channel of a sending port. -/
def State.ch (s : State) (n side j : Nat) : Chan := Map.get (fun _ => {}) s.nch (nchKey n side j)

/-- Replace the channel of a sending port. -/
def State.setCh (s : State) (n side j : Nat) (c : Chan) : State :=
  { s with nch := Map.put (fun _ => {}) s.nch (nchKey n side j) c }

/-- Number of a sending port, 8 side + j, and of a receiving port, 8 side + j + 4 (R69). -/
def txPort (side j : Nat) : Nat := 8 * side + j
def rxPort (side j : Nat) : Nat := 8 * side + j + 4

/-- Bit `p` of ROOM_NCH_EN. -/
def Dev.portEn (d : Dev) (n p : Nat) : Bool := (d.reg .ROOM_NCH_EN n).getLsbD p

/-- ROOM_NCH_STAT.TX_REFUSED of a sending port. -/
def Dev.txRefused (d : Dev) (n side j : Nat) : Bool := (d.reg .ROOM_NCH_STAT n).getLsbD (4 * side + j)

/-- Set or clear the refused state of a sending port. -/
def Dev.setTxRefused (d : Dev) (n side j : Nat) (v : Bool) : Dev :=
  d.sf ⟨.ROOM_NCH_STAT, 4 * side + j, 1⟩ n 0 (b2n v)

/-- TX_READY (Table 3.3): a credit, the port enabled and not refused, not on the grid edge, and the
sending room running with its clamps open (Table 6.4). -/
def State.txReady (s : State) (n side j : Nat) : Bool :=
  (neighbour n side).isSome && s.dev.roomUp n && s.dev.portEn n (txPort side j) &&
    !s.dev.txRefused n side j && decide (0 < (s.ch n side j).credits)

/-- NCH_SEND (R70): a word is taken while TX_READY is 1; the credit is used and the word is on the wires. -/
def execNchSend (n side j : Nat) (data : BitVec 36) (s : State) : Out :=
  if s.txReady n side j then
    let c := s.ch n side j
    .next (s.setCh n side j { c with credits := c.credits - 1, wires := c.wires ++ [(data, false)] })
  else .next s

/-- Whether the receiving port of a channel refuses a word (R72): its room is down or clamped, the port
is disabled, or the sending port is in the refused state. -/
def State.rxRefuses (s : State) (m side j : Nat) (c : Chan) (mark : Bool) : Bool :=
  mark || c.rxRefusing || !s.dev.roomUp m || !s.dev.portEn m (rxPort (opposite side) j)

/-- NCH_WORD_ARRIVE (R70 to R72): the oldest word on the wires is stored in the receiving FIFO, or refused with a NACK
token. A word that finds the FIFO still full of words sent before the sender's reset (R73) stays on the wires. DESIGN
CHOICE, log entry 76. -/
def execNchWordArrive (n side j : Nat) (s : State) : Out :=
  match neighbour n side with
  | none => .next s
  | some m =>
    let c := s.ch n side j
    match c.wires with
    | [] => .next s
    | (w, mark) :: rest =>
      if s.rxRefuses m side j c mark then
        .next ((s.setCh n side j { c with wires := rest, nacks := c.nacks + 1, rxRefusing := true }).onDev
          (fun d => d.cnt F.ROOM_NCH_CNT_REFUSED m (rxPort (opposite side) j)))
      else if 4 ≤ c.fifo.length then .next s
      else .next (s.setCh n side j { c with wires := rest, fifo := c.fifo ++ [w] })

/-- NCH_TAKE (R70): the receiving fabric takes the oldest word; the acknowledge is on its way. -/
def execNchTake (n side j : Nat) (s : State) : Out :=
  match neighbour n side with
  | none => .next s
  | some m =>
    let c := s.ch n side j
    match c.fifo with
    | [] => .next s
    | _ :: rest =>
      if (s.dev.room m).gsr then .next s
      else .next (s.setCh n side j { c with fifo := rest, acks := c.acks + 1 })

/-- NCH_ACK_ARRIVE (R70): one credit returns, at most four in all. -/
def execNchAckArrive (n side j : Nat) (s : State) : Out :=
  let c := s.ch n side j
  if c.acks = 0 then .next s
  else .next (s.setCh n side j { c with acks := c.acks - 1, credits := min 4 (c.credits + 1) })

/-- NCH_NACK (R72): TX_NACK pulses, the credit returns, the word counts in REFUSED and the port enters
the refused state, also on the NACK of a word sent before a TX_RESYNC. DESIGN CHOICE, log entry 76. -/
def execNchNack (n side j : Nat) (s : State) : Out :=
  let c := s.ch n side j
  if c.nacks = 0 then .next s
  else .next ((s.setCh n side j { c with nacks := c.nacks - 1, credits := min 4 (c.credits + 1) }).onDev
    (fun d => (d.cnt F.ROOM_NCH_CNT_REFUSED n (txPort side j)).setTxRefused n side j true))

/-- NCH_LOSS_TOKEN (R73): TX_LOST pulses, all credits return, the token counts in FLUSHED and the port
enters the refused state. -/
def execNchLossToken (n side j : Nat) (s : State) : Out :=
  let c := s.ch n side j
  if c.loss = 0 then .next s
  else .next ((s.setCh n side j { c with loss := c.loss - 1, credits := 4, rxRefusing := true }).onDev
    (fun d => (d.cnt F.ROOM_NCH_CNT_FLUSHED n (txPort side j)).setTxRefused n side j true))

/-- TX_RESYNC (R72): leaves the refused state if PEER_UP of that side reads 1; words still on the wires
were sent in it and stay refused. -/
def execTxResync (n side j : Nat) (s : State) : Out :=
  let c := s.ch n side j
  if s.dev.txRefused n side j && bitOf (s.dev.peerUp n) side && !(s.dev.room n).gsr then
    .next ((s.setCh n side j { c with rxRefusing := false, wires := c.wires.map (fun w => (w.1, true)) }).onDev
      (fun d => d.setTxRefused n side j false))
  else .next s

/-! ### Rooms entering and leaving reset -/

/-- The words in the receiving FIFO of one channel of room `m` are discarded as `m` enters reset (R73):
counted in FLUSHED of the receiving port, one NOTICE, one loss token. DEDUCED, log entry 71. -/
def State.flushRx (s : State) (m side j : Nat) : State :=
  match neighbour m side with
  | none => s
  | some n =>
    let c := s.ch n (opposite side) j
    if c.fifo.isEmpty then s
    else (s.setCh n (opposite side) j { c with fifo := [], loss := c.loss + 1, rxRefusing := true }).onDev
      (fun d => (d.cnt F.ROOM_NCH_CNT_FLUSHED m (rxPort side j) c.fifo.length).noticeFree 0x60)

/-- Room `m` has entered reset (R73). DEDUCED, log entry 71. -/
def State.flushRoom (s : State) (m : Nat) : State :=
  txPorts.foldl (fun s p => s.flushRx m p.1 p.2) s

/-- Room `n` has left reset (R73): its sending ports have four credits and are not refused.
DEDUCED, log entry 71. -/
def State.freshTx (s : State) (n : Nat) : State :=
  txPorts.foldl (fun s p =>
    (s.setCh n p.1 p.2 { s.ch n p.1 p.2 with credits := 4, rxRefusing := false }).onDev
      (fun d => d.setTxRefused n p.1 p.2 false)) s

/-! ### The crossing of an unbonded bank (R66) -/

/-- The words that have crossed reach the registers at the far end, which show the last of them: data and output
enables of the bank, or what the room sees of its pins (R66). DEDUCED, log entry 71. -/
def Room.crossed (r : Room) (toPin : Bool) (drained : Nat) : Room :=
  match ((if toPin then r.crossOut else r.crossIn).take drained).getLast? with
  | none => r
  | some w =>
    if toPin then { r with bankOut := w.setWidth 400, bankOe := (w >>> 400).setWidth 40 } else { r with bankIn := w.setWidth 400 }

/-- BANK_CROSSING_WORD (R66): of the words waiting, `drained` have crossed; the word joins the FIFO of
8, or is discarded with an overflow. A bonded bank has no crossing. DEDUCED, log entry 71. -/
def Dev.bankCrossing (d : Dev) (b : Nat) (toPin : Bool) (word : BitVec 440) (drained : Nat) : Dev :=
  if d.gb F.CLK_ISL_CTRL_BOND (64 + b) then d
  else
    let n := facingRoom b
    let q := (if toPin then (d.room n).crossOut else (d.room n).crossIn).drop drained
    let q' := if q.length < 8 then q ++ [word] else q
    let d := d.onRoom n (fun r =>
      let r := r.crossed toPin drained
      if toPin then { r with crossOut := q' } else { r with crossIn := q' })
    if q.length < 8 then d
    else (if toPin then d.sf F.ROOM_BANK_OVF_OUT n 0 1 else d.sf F.ROOM_BANK_OVF_IN n 0 1).noticeFree 0x64

/-- BANK_CROSSING_WORD (R66). -/
def execBankCrossingWord (b : Nat) (toPin : Bool) (word : BitVec 440) (drained : Nat) (s : State) : Out :=
  .next (s.onDev (fun d => d.bankCrossing b toPin word drained))

end Sys2Proof.Machine
end

