-- ==== Sys2Proof/Machine/Cellar.lean ====
section
/-! DEFINITION. Images in the Cellar (R109 to R116): the header and its checks, records, digests, signatures. -/

namespace Sys2Proof.Machine

/-! ### Images -/

/-- First Cellar byte of a slot: 1 A, 2 B, 3 G (Table 5.1). -/
def slotBase (s : Nat) : Nat := 0x04000000 * s

/-- First Cellar byte of a pool block (R131). -/
def poolBase (b : Nat) : Nat := 0x00400000 + 0x10000 * b

/-- The 512-byte header of the image at an address (R109). -/
def Dev.header (d : Dev) (a : Nat) : List (BitVec 8) := d.cellarRange a 512

/-- Header fields (Table 5.4). -/
def hdrKind (h : List (BitVec 8)) : Nat := field4 h 0x10
def hdrMask (h : List (BitVec 8)) : Nat := leNat (slice h 0x14 8)
def hdrFlags (h : List (BitVec 8)) : Nat := field4 h 0x24
def hdrEncrypted (h : List (BitVec 8)) : Bool := bitOf (hdrFlags h) 0
def hdrVerified (h : List (BitVec 8)) : Bool := bitOf (hdrFlags h) 1
def hdrKeepBram (h : List (BitVec 8)) : Bool := bitOf (hdrFlags h) 2
def hdrKey (h : List (BitVec 8)) : Nat := hdrFlags h / 16 % 4

/-- Ones among bits 0 to n − 1 of a number. -/
def ones (v n : Nat) : Nat := ((List.range n).filter (fun i => bitOf v i)).length

/-- Records of one room in an image (R113). -/
def recsPerRoom (kind : Nat) (keepBram : Bool) : Nat :=
  if kind = 1 then 3024 else if keepBram then 2305 else 3025

/-- FRAME_COUNT that R113 requires. -/
def frameCountOf (h : List (BitVec 8)) : Nat :=
  if hdrKind h = 1 then 193536 else ones (hdrMask h) 64 * recsPerRoom 2 (hdrKeepBram h)

/-- All bytes of a range of a header are 0. -/
def allZero (l : List (BitVec 8)) : Bool := l.all (· == 0)

/-- The identity check shared by images and settings records: FAMILY, DEVICE, PACKAGE and revision (R111). -/
def identityOk (id8 : List (BitVec 8)) (rev : Nat) : Bool :=
  (id8.getD 0 0) == 0x13 && (id8.getD 1 0) == 0x10 && (id8.getD 2 0) == 0x2A &&
    (id8.getD 4 0).toNat ≤ rev && rev ≤ (id8.getD 5 0).toNat

/-- The error source a header is refused with, 0 for none (R111): MAGIC first, then the format, then
identity and revision. `room` is the region's end address. -/
def headerRefusal (h : List (BitVec 8)) (base regionEnd rev : Nat) : Nat :=
  if field4 h 0 != 0x5445554E || field4 h 4 != 1 || (h.getD 0xB 0) != 0 || !allZero (slice h 0xE 2) ||
      !allZero (slice h 0x6C 4) || !allZero (slice h 0xC0 320) then 2
  else if hdrKind h != 1 && hdrKind h != 2 then 2
  else if hdrKind h == 1 && (hdrMask h != 2 ^ 64 - 1 || hdrKeepBram h) then 2
  else if hdrKind h == 2 && hdrMask h == 0 then 2
  else if hdrFlags h / 64 != 0 || bitOf (hdrFlags h) 3 then 2
  else if field4 h 0x1C != frameCountOf h then 2
  else if field4 h 0x20 != field4 h 0x1C * 264 then 2
  else if base + 0xA00 + field4 h 0x20 > regionEnd then 2
  else if !identityOk (slice h 8 8) rev then 3
  else 0

/-- End of the region an image is loaded from (R111, R131). -/
def regionEnd (base : Nat) : Nat := if base < 0x04000000 then 0x04000000 else base / 0x04000000 * 0x04000000 + 0x04000000

/-- Records that stand before room `n`'s in an image body (R113, R131). -/
def recsBefore (h : List (BitVec 8)) (n : Nat) : Nat :=
  ones (hdrMask h) n * recsPerRoom (hdrKind h) (hdrKeepBram h)

/-- First Cellar byte of room `n`'s records in the image at `base`. -/
def roomRecords (h : List (BitVec 8)) (base n : Nat) : Nat := base + 0xA00 + 264 * recsBefore h n

/-- The frame address at a position of the canonical order (Tables 5.5, 5.6). -/
def frameAddr (roomImage : Bool) (n pos : Nat) : Nat :=
  let p := if roomImage then pos else pos + 1
  let ki := if p = 0 then (2, 0) else if p ≤ 2304 then (0, p - 1) else (1, p - 2305)
  n * 0x4000000 + ki.1 * 0x1000000 + ki.2 * 0x1000

/-- The 264 bytes of a frame record. -/
def Dev.record (d : Dev) (a : Nat) : List (BitVec 8) := d.cellarRange a 264

/-- The payload of a record, payload bit i in byte 4 + i / 8 at bit i % 8 (R113). -/
def recPayload (r : List (BitVec 8)) : BitVec 2048 := BitVec.ofNat 2048 (leNat (slice r 4 256))

/-- GCM_IV and GCM_TAG of a header (Table 5.4). -/
def hdrIv (h : List (BitVec 8)) : List (BitVec 8) := slice h 0x60 12
def hdrTag (h : List (BitVec 8)) : Nat := beNat (slice h 0x70 16)

/-- Block `j` of the key stream of frame record `k` (R116): counter 2 + 16 k + j, 32 bits, big-endian, after GCM_IV. -/
def gcmStream (key : BitVec 256) (iv : List (BitVec 8)) (k j : Nat) : List (BitVec 8) :=
  beBytes 16 (Config.aesBlock key (BitVec.ofNat 128 (beNat (iv ++ beBytes 4 (2 + 16 * k + j))))).toNat

/-- The payload in plaintext (R116): decrypted in line when the image is encrypted. -/
def Dev.plain (d : Dev) (h : List (BitVec 8)) (k : Nat) (r : List (BitVec 8)) : BitVec 2048 :=
  match hdrEncrypted h, d.sec.keyImg with
  | true, some key => recPayload r ^^^ BitVec.ofNat 2048 (leNat ((List.range 16).flatMap (gcmStream key (hdrIv h) k)))
  | _, _ => recPayload r

/-- A payload can be read: it is in plaintext, or the image key is held (Table 16.2). -/
def Dev.canDecrypt (d : Dev) (h : List (BitVec 8)) : Bool := !hdrEncrypted h || d.sec.keyImg.isSome

/-- The CRC of a frame: over address and plaintext payload (R114). -/
def frameCrc (addr : Nat) (p : BitVec 2048) : Word := crc32c (leBytes 4 addr ++ leBytes 256 p.toNat)

/-- The SHA-256 digest of room `n`'s records (R112). -/
def Dev.roomDigest (d : Dev) (h : List (BitVec 8)) (base n : Nat) : List (BitVec 8) :=
  sha256 (d.cellarRange (roomRecords h base n) (264 * recsPerRoom (hdrKind h) (hdrKeepBram h)))

/-- Entry `n` of the digest table (R112). -/
def Dev.digestEntry (d : Dev) (base n : Nat) : List (BitVec 8) := d.cellarRange (base + 0x200 + 32 * n) 32

/-- The rooms of an image whose digest differs from its table entry (R112, R120). -/
def Dev.badDigests (d : Dev) (base : Nat) : List Nat :=
  let h := d.header base
  roomIds.filter (fun n => bitOf (hdrMask h) n && d.roomDigest h base n != d.digestEntry base n)

/-- ROOT over the digest table equals the header's (R112). -/
def Dev.rootOk (d : Dev) (base : Nat) : Bool :=
  sha256 (d.cellarRange (base + 0x200) 2048) == slice (d.header base) 0x40 32

/-- Owner image key `k` is valid and not revoked (R353). -/
def Dev.oikUsable (d : Dev) (k : Nat) : Bool := bitOf (d.gf F.SEC_KEYS_OIK) k && !bitOf (d.gf F.SEC_KEYS_REVOKED) k

/-- The public key of slot `k` in the sector copy in use (Table 16.6). -/
def Dev.oikPub (d : Dev) (k : Nat) : List (BitVec 8) := slice d.sec.sector (0x80 + 64 * k) 64

/-- The image's signature verifies (R112, R353). -/
def Dev.imageSigOk (d : Dev) (base : Nat) : Bool :=
  let h := d.header base
  d.oikUsable (hdrKey h) && Config.ecdsaOk (d.oikPub (hdrKey h)) (sha256 (slice h 0 0x80)) (slice h 0x80 64)

/-- GCM_TAG matches the payloads of the body in order, with header bytes 0x000 to 0x05F as associated data, or the
image is not encrypted (R116). -/
def Dev.tagOk (d : Dev) (base : Nat) : Bool :=
  let h := d.header base
  !hdrEncrypted h ||
    match d.sec.keyImg with
    | some key =>
      let text := (List.range (field4 h 0x1C)).flatMap (fun k => slice (d.record (base + 0xA00 + 264 * k)) 4 256)
      (Config.gcmTag key (hdrIv h) (slice h 0 0x60) text).toNat == hdrTag h
    | none => false

end Sys2Proof.Machine
end

