-- ==== Sys2Proof/Machine/Bram.lean ====
section
/-! DEFINITION. Block RAM ports (R86 to R95) and the keep registers (R100 to R102). -/

namespace Sys2Proof.Machine

/-- A port configuration the guard admits (Tables 4.1, 4.2, R91). DESIGN CHOICE, log entry 15. -/
def bramCfgOk (c : BramCfg) : Bool :=
  c.widthA != 7 && c.widthB != 7 && c.modeA != 3 && c.modeB != 3 && c.ecc != 3

/-- ECC is on for a port at width 0x6 (R91). -/
def eccOn (c : BramCfg) (width : BitVec 3) : Bool := width == 6 && c.ecc != 0

/-- The width 512 × 72 of a port makes the block simple dual-port: port A reads and port B writes (R87). -/
def simpleDual (c : BramCfg) : Bool := c.widthA == 6 || c.widthB == 6

/-- Lanes that a port writes on an edge: none without EN or on port A of a simple dual-port block; the whole word under
ECC when lane 0 is enabled (R87, R89, R91). -/
def portLanes (portA : Bool) (c : BramCfg) (x : BramIn) : BitVec 8 :=
  let w := if portA then c.widthA else c.widthB
  if !x.en || (portA && simpleDual c) then 0
  else if eccOn c w then (if x.we.getLsbD 0 then 0xFF else 0)
  else x.we &&& BitVec.ofNat 8 (2 ^ bramLanes w.toNat - 1)

/-- The word a port writes: under ECC the check bits replace the parity bits (R91). -/
def portData (c : BramCfg) (w : BitVec 3) (x : BramIn) : BitVec 72 :=
  if eccOn c w then (x.din.setWidth 64).setWidth 72 ||| ((Config.secdedCheck (x.din.setWidth 64)).setWidth 72 <<< 64)
  else x.din

/-- What the checked read of port A gives: the finding and the word on DOUT (R91, R92). -/
def portCheck (c : BramCfg) (word flips : BitVec 72) : Ecc × BitVec 72 :=
  if eccOn c c.widthA then
    let r := bramCheck word flips
    if r.1 = .single && c.ecc == 1 then
      (.single, r.2.setWidth 72 ||| ((Config.secdedCheck r.2).setWidth 72 <<< 64))
    else (r.1, word)
  else (.good, word)

/-- The latch of a port after an edge: a read's word, or what the write mode shows (Table 4.2), or 0
under RSTOUT without an output register; RSTOUT acts on an edge on which EN is 1 (R89). DESIGN CHOICE, log entry 15. -/
def latchAfter (old read merged : BitVec 72) (mode : BitVec 2) (oreg writes : Bool) (x : BramIn) : BitVec 72 :=
  if !x.en then old
  else if x.rstout && !oreg then 0
  else if !writes then read
  else if mode == 0 then merged
  else if mode == 1 then read
  else old

/-- The output register after an edge: 0 under RSTOUT with EN, else the latch of the edge before under REGCE, whatever EN
(R89). DESIGN CHOICE, log entry 15. -/
def regAfter (old latch : BitVec 72) (oreg : Bool) (x : BramIn) : BitVec 72 :=
  if !oreg then old
  else if x.en && x.rstout then 0
  else if x.regce then latch
  else old

/-- A port reads on an edge: port B of a simple dual-port block only writes (R87). -/
def portReads (portA : Bool) (c : BramCfg) (x : BramIn) : Bool := x.en && (portA || !simpleDual c)

/-- One room clock edge at a block RAM (R87 to R92): both ports read what stood before the edge; where
both write a bit, port A's data stay. An error found on an edge whose RSTOUT clears the error outputs is still found.
DESIGN CHOICE, log entry 15. -/
def Bram.edge (b : Bram) (c : BramCfg) (pa pb : BramIn) : Bram × Ecc :=
  let wa := portLanes true c pa
  let wb := portLanes false c pb
  let ra := b.word c.widthA.toNat pa.addr.toNat
  let rb := b.word c.widthB.toNat pb.addr.toNat
  let da := portData c c.widthA pa
  let db := portData c c.widthB pb
  let found := if portReads true c pa && wa == 0 then portCheck c ra (b.flips pa.addr.toNat) else (.good, ra)
  let onlyA := b.put c.widthA.toNat pa.addr.toNat wa da
  let onlyB := b.put c.widthB.toNat pb.addr.toNat wb db
  let both := onlyB.put c.widthA.toNat pa.addr.toNat wa da
  let mA := onlyA.word c.widthA.toNat pa.addr.toNat
  let mB := onlyB.word c.widthB.toNat pb.addr.toNat
  let latchA := latchAfter b.latchA found.2 mA c.modeA c.oregA (wa != 0) pa
  let latchB := if simpleDual c then b.latchB else latchAfter b.latchB rb mB c.modeB c.oregB (wb != 0) pb
  let errNew : BitVec 2 := match found.1 with
    | .good => 0
    | .single => 1
    | .double => 2
  let errLatch := if pa.en then (if pa.rstout && !c.oregA then 0 else errNew) else b.errLatch
  let errOut := if !c.oregA then b.errOut else if pa.en && pa.rstout then 0 else if pa.regce then b.errLatch else b.errOut
  ({ both with
      latchA := latchA
      latchB := latchB
      outA := regAfter b.outA b.latchA c.oregA pa
      outB := regAfter b.outB b.latchB c.oregB pb
      errLatch := errLatch
      errOut := errOut }, found.1)

/-- Cells of the word under port A's address at width 0x6 that have flipped. DESIGN CHOICE, log entry 6. -/
def Bram.upset (b : Bram) (addr : Nat) (u : BitVec 72) : Bram :=
  let w := addr % 512
  let x := BitVec.ofNat 32768 ((u.toNat % 2 ^ 64) <<< (64 * w))
  let y := BitVec.ofNat 4096 ((u.toNat >>> 64) <<< (8 * w))
  { b with d := b.d ^^^ x, p := b.p ^^^ y, flipD := b.flipD ^^^ x, flipP := b.flipP ^^^ y }

/-- A double-bit error is offered to ROOM_BRAM_EADDR: the first since it was cleared stands, and of errors on one edge
that of the lowest index (R93). -/
def Dev.bramFirst (d : Dev) (n b addr : Nat) : Dev :=
  if d.gb F.ROOM_BRAM_EADDR_VALID n && !((d.room n).eccEdge && decide (b < d.gf F.ROOM_BRAM_EADDR_BRAM n)) then d
  else
    (((d.sf F.ROOM_BRAM_EADDR_VALID n 0 1).sf F.ROOM_BRAM_EADDR_BRAM n 0 b).sf F.ROOM_BRAM_EADDR_ADDR n 0 (addr % 512)).onRoom n
      (fun r => { r with eccEdge := true })

/-- Counting and logging of what an ECC read of BRAM `b` of room `n` finds (R93). The detail {room, BRAM index, word
address} has the word address in bits [8:0], the index in [14:9] and the room above them. DESIGN CHOICE, log entry 15. -/
def Dev.bramError (d : Dev) (n b addr : Nat) (e : Ecc) : Dev :=
  match e with
  | .good => d
  | .single => (d.cnt F.ROOM_BRAM_ECC_CORR n 0).noticeFree 0x65
  | .double =>
    ((d.cnt F.ROOM_BRAM_ECC_UNCORR n 0).fault 0x66 (n * 32768 + b * 512 + addr % 512)).bramFirst n b addr

/-- BRAM_PORT_OP: one room clock edge at one block RAM, `same` where an earlier command was the same edge at another.
Under the GSR both ports ignore EN (R95). -/
def Dev.bramPortOp (d : Dev) (n b : Nat) (c : BramCfg) (pa pb : BramIn) (upset : BitVec 72) (same : Bool) : Dev :=
  if !bramCfgOk c then d
  else
    let x := (Map.get (fun _ => {}) (d.room n).bram b).upset pa.addr.toNat upset
    let r := if (d.room n).gsr then (x, Ecc.good) else x.edge c pa pb
    let d := d.onRoom n (fun y => { y with bram := Map.put (fun _ => {}) y.bram b r.1, eccEdge := y.eccEdge && same })
    d.bramError n b pa.addr.toNat r.2

/-- BRAM_PORT_OP (R89). DESIGN CHOICE, log entry 15. -/
def execBramPortOp (n b : Nat) (c : BramCfg) (pa pb : BramIn) (upset : Upset) (s : State) : Out :=
  .next (s.onDev (fun d => d.bramPortOp n b c pa pb upset.flips upset.same))

/-- A room's keep registers are out of reach: the room is parked or off, or its clock is stopped (R101, R394). -/
def Dev.keepAsleep (d : Dev) (n : Nat) : Bool := d.parkedOrOff n || !d.gb F.CLK_ISL_STAT_RUN n

/-- A write of KEEP_k on a room clock edge (R101); `fabric` is what the fabric writes on that edge, which
it cannot while the GSR is asserted (R100). -/
def Dev.keepWrite (d : Dev) (n k : Nat) (v : Word) (fabric : Option Word) : Dev :=
  let old := d.reg .KEEP n k
  let new := match fabric with
    | some w => if (d.room n).gsr then v else w
    | none => v
  (d.setReg .KEEP n k new).onRoom n (fun r => { r with kpRdata := old })

/-- The fabric port of the keep registers on a room clock edge (R100): KP_RDATA takes what the addressed register held
before the edge, and a write with KP_WE is stored. -/
def Dev.keepPort (d : Dev) (n a : Nat) (we : Bool) (w : Word) : Dev :=
  let old := d.reg .KEEP n a
  ((if we then d.setReg .KEEP n a w else d)).onRoom n (fun r => { r with kpRdata := old })

/-- KEEP_HATCH_WRITE (R101). -/
def Dev.keepHatchWrite (d : Dev) (n k : Nat) (v : Word) (fabric : Option Word) : Dev :=
  if d.keepAsleep n then (d.asleepAccess (0x200400 + 0x1000 * n + 4 * k)).hatDone hAsleep 0
  else (d.keepWrite n k v fabric).hatDone hOk 0

/-- KEEP_HATCH_WRITE (R101). -/
def execKeepHatchWrite (n k : Nat) (v : Word) (fabric : Option Word) (s : State) : Out :=
  .next (s.onDev (fun d => d.keepHatchWrite n k v fabric))

end Sys2Proof.Machine
end

