-- ==== Sys2Proof/Machine/Tiles.lean ====
section
/-! DEFINITION. The fabric of a room (R33 to R48, R55, R57) and its multiply-accumulate blocks (R96 to R98): the cells as
functions, a tile's configuration read out of a plane's frames, and what every signal of a room carries. The places of
the bits and the wiring of the multiplexers, which the image tools alone know (R51), are constants of Config. -/

namespace Sys2Proof.Machine

/-! ### LUTs (R34, R35) -/

/-- idx of inputs A1 (bit 0) to A6 (bit 5). -/
def lutIdx (a : BitVec 6) : Nat := a.toNat

/-- O6 in the modes of Table 2.1: LUT6, Fractured (A6 held at 1), RAM64, SRL32 (tap A1 to A5).
DEDUCED, log entry 60. -/
def lutO6 (mode : BitVec 2) (tt : BitVec 64) (a : BitVec 6) : Bool :=
  if mode = 1 then tt.getLsbD (32 + lutIdx a % 32)
  else if mode = 3 then tt.getLsbD (lutIdx a % 32)
  else tt.getLsbD (lutIdx a)

/-- O5: the lower half addressed by A1 to A5 (R34). -/
def lutO5 (tt : BitVec 64) (a : BitVec 6) : Bool := tt.getLsbD (lutIdx a % 32)

/-! ### Flip-flops (R36 to R39) -/

/-- SR_MODE of a control set (R37). -/
inductive SrMode where
  | syncReset | syncSet | asyncReset | asyncSet
  deriving DecidableEq, Repr

/-- The codes of SR_MODE (R37). -/
def srModeOf (c : BitVec 2) : SrMode :=
  if c = 0 then .syncReset else if c = 1 then .syncSet else if c = 2 then .asyncReset else .asyncSet

/-- The value SR gives. -/
def srValue : SrMode → Bool
  | .syncReset => false
  | .syncSet => true
  | .asyncReset => false
  | .asyncSet => true

/-- SR acts without an edge. -/
def srAsync : SrMode → Bool
  | .syncReset => false
  | .syncSet => false
  | .asyncReset => true
  | .asyncSet => true

/-- A flip-flop after a rising edge (R38): the GSR, then SR, then D while CE is 1. DEDUCED, log entry 60. -/
def ffEdge (gsr : Bool) (m : SrMode) (sr ce d q : Bool) : Bool :=
  if gsr then false else if sr then srValue m else if ce then d else q

/-- A flip-flop between edges: the GSR, and an asynchronous SR once the flip-flops of the room have become active on the
third edge of Table 2.6. -/
def ffHeld (gsr active : Bool) (m : SrMode) (sr q : Bool) : Bool :=
  if gsr then false else if active && sr && srAsync m then srValue m else q

/-! ### Carry (R40) -/

/-- Carry output of a stage: CI where P is 1, G otherwise. -/
def carryBit (p g ci : Bool) : Bool := if p then ci else g

/-- Carry outputs CO[0] to CO[n - 1] and sums S[0] to S[n - 1] of propagate and generate bits from carry input
`ci`: the pairs (CO, S). DEDUCED, log entry 60. -/
def carryChain : Bool → List (Bool × Bool) → List (Bool × Bool)
  | _, [] => []
  | ci, (p, g) :: l => (carryBit p g ci, Bool.xor p ci) :: carryChain (carryBit p g ci) l

/-! ### Distributed memory (R42 to R44) -/

/-- RAM64 after an edge: BX stored at the write address while WE is 1; the GSR holds WE at 0 (R45). -/
def ram64Edge (gsr we bx : Bool) (wa : BitVec 6) (tt : BitVec 64) : BitVec 64 :=
  if gsr || !we then tt
  else (tt &&& ~~~(1#64 <<< wa.toNat)) ||| ((BitVec.ofBool bx).setWidth 64 <<< wa.toNat)

/-- SRL32 after an edge: bit 0 takes the data input, bit k bit k - 1. DEDUCED, log entry 60. -/
def srl32Edge (gsr we din : Bool) (tt : BitVec 64) : BitVec 64 :=
  if gsr || !we then tt
  else
    let low : BitVec 32 := (tt.setWidth 32 <<< 1) ||| (BitVec.ofBool din).setWidth 32
    (tt &&& 0xFFFFFFFF00000000#64) ||| low.setWidth 64

/-- The bit an SRL32 cascades (R44). -/
def srl32Out (tt : BitVec 64) : Bool := tt.getLsbD 31

/-! ### Wires (R46 to R48, R55) -/

/-- The input a multiplexer takes: the lowest set bit of its select (R55), none where no bit is set. -/
def muxSelected (sel : List Bool) : Option Nat := sel.findIdx? id

/-- Wires of a level that start in a tile in one direction (Table 2.2). -/
def wireCount : Level → Nat
  | .one => 16
  | .four => 8
  | .twelve => 4

/-- The taps of a wire, in tiles from its start (Table 2.2). -/
def wireTaps : Level → List Nat
  | .one => [1]
  | .four => [2, 4]
  | .twelve => [4, 8, 12]

/-- The tile a wire that passes tile (c, t) at tap `tap` starts in: none beyond the room's 32 columns and 40 rows, where
wires and taps end (R47). North is toward row 39. -/
def wireStart (dir : Dir) (tap c t : Nat) : Option (Nat × Nat) :=
  match dir with
  | .north => if tap ≤ t then some (c, t - tap) else none
  | .south => if t + tap < 40 then some (c, t + tap) else none
  | .east => if tap ≤ c then some (c - tap, t) else none
  | .west => if c + tap < 32 then some (c + tap, t) else none

/-- A long line (R48, R55): of the configured driver points the one nearest column or row 0 conducts, while its
output enable is 1; otherwise the keeper holds the last value, 0 after the GSR. A driver point is DRV_EN, its
enable and its value, in order of column or row. DEDUCED, log entry 60. -/
def longLine (gsr keeper : Bool) (points : List (Bool × Bool × Bool)) : Bool :=
  if gsr then false
  else match points.find? (fun p => p.1) with
    | some (_, oe, v) => if oe then v else keeper
    | none => keeper

/-! ### Multiply-accumulate blocks (R96 to R98) -/

/-- M: the 45-bit signed product. -/
def macProduct (a : BitVec 27) (b : BitVec 18) : BitVec 45 := BitVec.ofInt 45 (a.toInt * b.toInt)

/-- Z as ZSEL and SHIFT select it. -/
def macZ (zsel : BitVec 2) (shift : Bool) (p c pcin : BitVec 48) : BitVec 48 :=
  let z := if zsel = 0 then 0 else if zsel = 1 then p else if zsel = 2 then c else pcin
  if shift && (zsel = 1 || zsel = 3) then z.sshiftRight 17 else z

/-- P and CARRYOUT: Z plus or minus M modulo 2^48. With SUB the carry out of bit 47 is that of Z + ~M + 1, which is 1
where nothing is borrowed. DESIGN CHOICE, log entry 75. -/
def macSum (sub : Bool) (z : BitVec 48) (m : BitVec 45) : BitVec 48 × Bool :=
  let x := m.signExtend 48
  if sub then (z - x, decide (x.toNat ≤ z.toNat)) else (z + x, decide (2 ^ 48 ≤ z.toNat + x.toNat))

/-- The operands, controls, clock enables and synchronous resets of a block on an edge: A and B as the block takes them,
PCIN from the block below (R98). -/
structure MacIn where
  a : BitVec 27
  b : BitVec 18
  c : BitVec 48
  zsel : BitVec 2
  sub : Bool
  shift : Bool
  pcin : BitVec 48
  ce : MacStage → Bool
  rst : MacStage → Bool

/-- What a block shows: P with its carry, and ACOUT and BCOUT for the block above (R98). -/
structure MacOut where
  p : BitVec 48
  carry : Bool
  a : BitVec 27
  b : BitVec 18

/-- A register of a stage after an edge (R97): reset outranks the clock enable. -/
def stageEdge {α : Type} (rst ce : Bool) (zero d q : α) : α := if rst then zero else if ce then d else q

/-- A after AREG and B after BREG: what the multiplier and ACOUT, BCOUT see (R98). -/
def Mac.aOut (x : Mac) (k : MacCfg) (a : BitVec 27) : BitVec 27 := if k.areg.val = 0 then a else if k.areg.val = 1 then x.a1 else x.a2
def Mac.bOut (x : Mac) (k : MacCfg) (b : BitVec 18) : BitVec 18 := if k.breg.val = 0 then b else if k.breg.val = 1 then x.b1 else x.b2

/-- M after MREG. -/
def Mac.mOut (x : Mac) (k : MacCfg) (i : MacIn) : BitVec 45 :=
  if k.mreg then x.m else macProduct (x.aOut k i.a) (x.bOut k i.b)

/-- What enters PREG: the sum with its carry. -/
def Mac.sum (x : Mac) (k : MacCfg) (i : MacIn) : BitVec 48 × Bool :=
  let zsel := if k.opreg then x.zsel else i.zsel
  let shift := if k.opreg then x.shift else i.shift
  let c := if k.opreg then x.c else i.c
  let p := if k.preg then x.p else Config.macOpen.1
  macSum (if k.opreg then x.sub else i.sub) (macZ zsel shift p c i.pcin) (x.mOut k i)

/-- What a block shows in a cycle: P registered, or the sum where PREG is 0 (Table 4.3). -/
def Mac.out (x : Mac) (k : MacCfg) (i : MacIn) : MacOut :=
  let s := x.sum k i
  { p := if k.preg then x.p else s.1, carry := if k.preg then x.carry else s.2
    a := x.aOut k i.a, b := x.bOut k i.b }

/-- A block after an edge (R96, R97); the GSR outranks everything. DEDUCED, log entry 60. -/
def Mac.edge (x : Mac) (gsr : Bool) (k : MacCfg) (i : MacIn) : Mac :=
  if gsr then {}
  else
    let s := x.sum k i
    { a1 := stageEdge (i.rst .areg) (i.ce .areg) 0 i.a x.a1
      a2 := stageEdge (i.rst .areg) (i.ce .areg) 0 x.a1 x.a2
      b1 := stageEdge (i.rst .breg) (i.ce .breg) 0 i.b x.b1
      b2 := stageEdge (i.rst .breg) (i.ce .breg) 0 x.b1 x.b2
      zsel := stageEdge (i.rst .opreg) (i.ce .opreg) 0 i.zsel x.zsel
      sub := stageEdge (i.rst .opreg) (i.ce .opreg) false i.sub x.sub
      shift := stageEdge (i.rst .opreg) (i.ce .opreg) false i.shift x.shift
      c := stageEdge (i.rst .opreg) (i.ce .opreg) 0 i.c x.c
      m := stageEdge (i.rst .mreg) (i.ce .mreg) 0 (macProduct (x.aOut k i.a) (x.bOut k i.b)) x.m
      p := stageEdge (i.rst .preg) (i.ce .preg) 0 s.1 x.p
      carry := stageEdge (i.rst .preg) (i.ce .preg) false s.2 x.carry }

/-! ### A tile's configuration in the frames of a plane (R51, Table 2.5) -/

/-- Bit `b` of the slice of tile (c, t) in minor `minor`. -/
def Plane.bit (p : Plane) (c t minor b : Nat) : Bool := (Map.get (fun _ => 0) p.frames (72 * c + minor)).getLsbD (51 * t + b)

/-- A word whose bit `i` is `f i`. -/
def bitsWord (w : Nat) (f : Fin w → Bool) : BitVec w := (List.finRange w).foldl (fun v i => if f i then v ||| (1#w <<< i.val) else v) 0

/-- A configuration bit of LUT_i of tile (c, t). -/
def Plane.lutBit (p : Plane) (c t : Nat) (i : Fin 16) (x : LutBit) : Bool :=
  p.bit c t ((Config.lutBitAt i x).val / 51) ((Config.lutBitAt i x).val % 51)

/-- The truth table of LUT_i as the frames hold it (R34). -/
def Plane.lutTable (p : Plane) (c t : Nat) (i : Fin 16) : BitVec 64 := bitsWord 64 (fun k => p.lutBit c t i (.tt k))

/-- The mode code of LUT_i (Table 2.1). -/
def Plane.lutMode (p : Plane) (c t : Nat) (i : Fin 16) : BitVec 2 := bitsWord 2 (fun k => p.lutBit c t i (.mode k))

/-- LUT_i of tile (c, t) is a memory LUT in RAM64 or SRL32 mode (R33). -/
def Plane.lutStores (p : Plane) (c t : Nat) (i : Fin 16) : Bool := i.val < 8 && (p.lutMode c t i).getLsbD 1

/-- What minors 21 and 22 select in tile (c, t). -/
def Plane.ctl (p : Plane) (c t : Nat) : TileCtl := Config.tileCtl (bitsWord 102 (fun k => p.bit c t (21 + k.val / 51) (k.val % 51)))

/-- The input that the multiplexer before `x` takes in tile (c, t) (R46, R55). -/
def Plane.chosen (p : Plane) (c t : Nat) (x : Sink) : Option Nat :=
  muxSelected ((Config.selectAt x).2.map (fun b => p.bit c t (23 + (Config.selectAt x).1.val) b.val))

/-- DRV_EN and OE_SRC of tile (c, t) on horizontal long line k, or on vertical long line k (Table 2.5). -/
def Plane.drive (p : Plane) (c t : Nat) (vertical : Bool) (k : Fin 4) : Bool × Bool :=
  let lo := (if vertical then 8 else 0) + 2 * k.val
  (p.bit c t 71 lo, p.bit c t 71 (lo + 1))

/-- The truth-table bits of frame `idx` that belong to LUTs in RAM64 or SRL32 mode (R45, R149). -/
def Plane.memoryMask (p : Plane) (idx : Nat) : BitVec 2048 :=
  ((List.range 40).flatMap (fun t => (List.finRange 16).flatMap (fun i => (List.finRange 64).map (fun k => (t, i, k))))).foldl
    (fun v x =>
      let a := (Config.lutBitAt x.2.1 (.tt x.2.2)).val
      if a / 51 = idx % 72 && p.lutStores (idx / 72) x.1 x.2.1 then v ||| (1#2048 <<< (51 * x.1 + a % 51)) else v) 0

/-- The same bits as a source's payload `v` for frame `idx` has them: the modes are those of the plane with that frame. -/
def Plane.memoryMaskOf (p : Plane) (idx : Nat) (v : BitVec 2048) : BitVec 2048 :=
  ({ p with frames := Map.put (fun _ => 0) p.frames idx v } : Plane).memoryMask idx

/-! ### Signals of a room -/

/-- Number of tile (c, t). -/
def Room.tileOf (c t : Nat) : Nat := 40 * c + t

/-- The contents of LUT_i: the truth table as loaded, with what the design has stored since (R42 to R45). -/
def Room.lutTable (r : Room) (c t : Nat) (i : Fin 16) : BitVec 64 :=
  r.act.lutTable c t i ^^^ Map.get (fun _ => 0) r.mem (8 * Room.tileOf c t + i.val)

/-- A flip-flop as stored: FFA_i, or FFB_i. -/
def Room.ffBit (r : Room) (c t : Nat) (b : Bool) (i : Fin 16) : Bool :=
  (Map.get (fun _ => 0) r.ff (Room.tileOf c t)).getLsbD (if b then 16 + i.val else i.val)

/-- The control set of LUT_i (R37). -/
def Room.ctlSet (r : Room) (c t : Nat) (upper : Bool) : CtlSet := if upper then (r.act.ctl c t).upper else (r.act.ctl c t).lower

/-- Multiply-accumulate block m. -/
def Room.mac (r : Room) (m : Nat) : Mac := Map.get (fun _ => {}) r.macs m

/-- The configuration of block m. -/
def Room.macCfg (r : Room) (m : Nat) : MacCfg := Config.macCfg r.act.frames m

/-- The inputs of block m from the fabric's signals `f` and from the block below, none at the bottom of a column, where
PCIN reads 0 (R98). -/
def Room.macIn (r : Room) (f : BlockIn → Bool) (m : Fin 32) (below : Option MacOut) : MacIn :=
  let k := r.macCfg m.val
  { a := if k.aCasc then (match below with | some x => x.a | none => Config.macOpen.2.1) else bitsWord 27 (fun i => f (.macA m i))
    b := if k.bCasc then (match below with | some x => x.b | none => Config.macOpen.2.2) else bitsWord 18 (fun i => f (.macB m i))
    c := bitsWord 48 (fun i => f (.macC m i)), zsel := bitsWord 2 (fun i => f (.macZsel m i))
    sub := f (.macSub m), shift := f (.macShift m)
    pcin := match below with | some x => x.p | none => 0
    ce := fun x => f (.macCe m x), rst := fun x => f (.macRst m x) }

/-- What the block at height `h` of a column shows: the cascade runs upward from the bottom block (R98). -/
def Room.macAt (r : Room) (f : BlockIn → Bool) (col : Fin 2) : (h : Nat) → h < 16 → MacOut
  | 0, _ => (r.mac (16 * col.val)).out (r.macCfg (16 * col.val)) (r.macIn f ⟨16 * col.val, by omega⟩ none)
  | h + 1, q =>
    (r.mac (16 * col.val + h + 1)).out (r.macCfg (16 * col.val + h + 1))
      (r.macIn f ⟨16 * col.val + h + 1, by omega⟩ (some (r.macAt f col h (by omega))))

/-- The block below block m, where there is one. -/
def Room.macBelow (r : Room) (f : BlockIn → Bool) (m : Fin 32) : Option MacOut :=
  if h : m.val % 16 = 0 then none else some (r.macAt f ⟨m.val / 16, by omega⟩ (m.val % 16 - 1) (by omega))

/-- What block m shows (R96 to R98). -/
def Room.macShows (r : Room) (f : BlockIn → Bool) (m : Fin 32) : MacOut :=
  (r.mac m.val).out (r.macCfg m.val) (r.macIn f m (r.macBelow f m))

/-- A signal inside a tile: the output of a multiplexer, a signal that multiplexers take, or the carry input of a LUT. -/
inductive Node where
  | mux (x : Sink)
  | sig (x : Sig)
  | carry (i : Nat)

/-- SR of a control set of tile (c, t), `v` giving the tile's signals (R37). -/
def Room.srOf (r : Room) (c t : Nat) (upper : Bool) (v : Node → Bool) : Bool := (r.ctlSet c t upper).sr && v (.mux (.sr upper))

/-- CE of a control set of tile (c, t) (R37). -/
def Room.ceOf (r : Room) (c t : Nat) (upper : Bool) (v : Node → Bool) : Bool := !(r.ctlSet c t upper).ce || v (.mux (.ce upper))

/-- A1 to A6 of LUT_i. -/
def lutAddr (i : Fin 16) (v : Node → Bool) : BitVec 6 := bitsWord 6 (fun a => v (.mux (.lut i a)))

/-- The value of a signal of tile (c, t), `ext` giving what the blocks but the multiply-accumulate ones show. Each step
looks one cell further back; the first argument bounds the steps, and a signal that needs more of them lies in a
combinational loop. DEDUCED, log entry 60. -/
def Room.value (r : Room) (ext : BlockOut → Bool) : Nat → Nat → Nat → Node → Bool
  | 0, c, t, _ => Config.unsettled c t
  | n + 1, c, t, .mux x =>
    match r.act.chosen c t x with
    | none => false
    | some 0 => false
    | some j => r.value ext n c t (.sig (Config.muxInput x j))
  | n + 1, c, t, .carry 0 =>
    match (r.act.ctl c t).cin with
    | .below => if t = 0 then Config.absent else r.value ext n c (t - 1) (.carry 16)
    | .zero => false
    | .one => true
    | .by0 => r.value ext n c t (.mux (.by 0))
  | n + 1, c, t, .carry (i + 1) =>
    let l : Fin 16 := Fin.ofNat 16 i
    carryBit (r.value ext n c t (.sig (.o6 l)))
      (if (r.act.ctl c t).gBx l then r.value ext n c t (.mux (.bx l)) else r.value ext n c t (.sig (.o5 l)))
      (r.value ext n c t (.carry i))
  | n + 1, c, t, .sig (.o6 i) => lutO6 (r.act.lutMode c t i) (r.lutTable c t i) (lutAddr i (fun x => r.value ext n c t x))
  | n + 1, c, t, .sig (.o5 i) => lutO5 (r.lutTable c t i) (lutAddr i (fun x => r.value ext n c t x))
  | n + 1, c, t, .sig (.ffA i) =>
    ffHeld r.gsr r.started (srModeOf (r.ctlSet c t (8 ≤ i.val)).mode) (r.srOf c t (8 ≤ i.val) (fun x => r.value ext n c t x))
      (r.ffBit c t false i)
  | n + 1, c, t, .sig (.ffB i) =>
    ffHeld r.gsr r.started (srModeOf (r.ctlSet c t (8 ≤ i.val)).mode) (r.srOf c t (8 ≤ i.val) (fun x => r.value ext n c t x))
      (r.ffBit c t true i)
  | n + 1, c, t, .sig (.sum i) => Bool.xor (r.value ext n c t (.sig (.o6 i))) (r.value ext n c t (.carry i.val))
  | n + 1, c, t, .sig .co15 => r.value ext n c t (.carry 16)
  | n + 1, c, t, .sig (.wire l dir k tap) =>
    if (wireTaps l).contains tap && k.val < wireCount l then
      match wireStart dir tap c t with
      | some q => r.value ext n q.1 q.2 (.mux (.start l dir k))
      | none => Config.absent
    else Config.absent
  | n + 1, _, t, .sig (.hLine k) =>
    longLine r.gsr (r.keepers.getLsbD (4 * t + k.val)) ((List.range 32).map (fun x =>
      let e := r.act.drive x t false k
      (e.1, !e.2 || r.ceOf x t true (fun y => r.value ext n x t y), r.value ext n x t (.mux (.hDrive k)))))
  | n + 1, c, _, .sig (.vLine k) =>
    longLine r.gsr (r.keepers.getLsbD (160 + 4 * c + k.val)) ((List.range 40).map (fun y =>
      let e := r.act.drive c y true k
      (e.1, !e.2 || r.ceOf c y true (fun z => r.value ext n c y z), r.value ext n c y (.mux (.vDrive k)))))
  | n + 1, _, _, .sig (.block (.macP m i)) =>
    (r.macShows (fun x => r.value ext n (Config.blockTap x).1.val (Config.blockTap x).2.1.val (.sig (Config.blockTap x).2.2)) m).p.getLsbD i.val
  | n + 1, _, _, .sig (.block (.macCarry m)) =>
    (r.macShows (fun x => r.value ext n (Config.blockTap x).1.val (Config.blockTap x).2.1.val (.sig (Config.blockTap x).2.2)) m).carry
  | _ + 1, _, _, .sig (.block x) => ext x

/-- More steps than a room has cells: a signal that depends on no loop settles within them. -/
abbrev fabricDepth : Nat := 1000000

/-- A signal of tile (c, t) once it has settled. -/
def Room.settled (r : Room) (ext : BlockOut → Bool) (c t : Nat) (x : Node) : Bool := r.value ext fabricDepth c t x

/-- An input of a block, or a signal that leaves the fabric. -/
def Room.tapped (r : Room) (ext : BlockOut → Bool) (x : BlockIn) : Bool :=
  r.settled ext (Config.blockTap x).1.val (Config.blockTap x).2.1.val (.sig (Config.blockTap x).2.2)

/-! ### An edge of the room clock -/

/-- The tiles of a room, by column and row. -/
def tiles : List (Nat × Nat) := (List.range 32).flatMap (fun c => (List.range 40).map (fun t => (c, t)))

/-- The flip-flops of tile (c, t) after an edge (R36 to R38). -/
def Room.ffAfter (r : Room) (ext : BlockOut → Bool) (c t : Nat) : BitVec 32 :=
  bitsWord 32 (fun b =>
    let i : Fin 16 := Fin.ofNat 16 (b.val % 16)
    let v := r.settled ext c t
    let upper := decide (8 ≤ i.val)
    let d := if b.val < 16 then
        (match (r.act.ctl c t).dA i with
        | .o6 => v (.sig (.o6 i))
        | .sum => v (.sig (.sum i))
        | .bx => v (.mux (.bx i)))
      else
        (match (r.act.ctl c t).dB i with
        | .o5 => v (.sig (.o5 i))
        | .byIn => v (.mux (.by i)))
    ffEdge r.gsr (srModeOf (r.ctlSet c t upper).mode) (r.srOf c t upper v) (r.ceOf c t upper v) d (r.ffBit c t (decide (16 ≤ b.val)) i))

/-- The contents of memory LUT_i of tile (c, t) after an edge: WE and the write address, from A1 to A6 of LUT_7, are
shared (R42); a cascaded shift register takes bit 31 of the LUT below, LUT_0 that of LUT_7 of the tile below (R44). -/
def Room.memAfter (r : Room) (ext : BlockOut → Bool) (c t : Nat) (i : Fin 16) : BitVec 64 :=
  let v := r.settled ext c t
  let tt := r.lutTable c t i
  let we := v (.mux .we)
  if r.act.lutMode c t i = 2 then ram64Edge r.gsr we (v (.mux (.bx i))) (lutAddr 7 v) tt
  else if r.act.lutMode c t i = 3 then
    srl32Edge r.gsr we
      (if r.act.lutBit c t i .cascade then
        (if 0 < i.val then srl32Out (r.lutTable c t (i - 1)) else if 0 < t then srl32Out (r.lutTable c (t - 1) 7) else Config.absent)
      else v (.mux (.bx i))) tt
  else tt

/-- The flip-flops, memory LUTs, keepers and multiply-accumulate blocks of a room after an edge of its clock. -/
def Room.edge (r : Room) (ext : BlockOut → Bool) : Room :=
  { r with
    started := true
    ff := tiles.foldl (fun m x => Map.put (fun _ => 0) m (Room.tileOf x.1 x.2) (r.ffAfter ext x.1 x.2)) []
    mem := tiles.foldl (fun m x => (List.range 8).foldl (fun m i =>
      Map.put (fun _ => 0) m (8 * Room.tileOf x.1 x.2 + i)
        (r.memAfter ext x.1 x.2 (Fin.ofNat 16 i) ^^^ r.act.lutTable x.1 x.2 (Fin.ofNat 16 i))) m) []
    keepers := bitsWord 288 (fun l =>
      if l.val < 160 then r.settled ext 0 (l.val / 4) (.sig (.hLine (Fin.ofNat 4 l.val)))
      else r.settled ext ((l.val - 160) / 4) 0 (.sig (.vLine (Fin.ofNat 4 l.val))))
    macs := (List.finRange 32).foldl (fun l m =>
      Map.put (fun _ => {}) l m.val
        ((r.mac m.val).edge r.gsr (r.macCfg m.val) (r.macIn (r.tapped ext) m (r.macBelow (r.tapped ext) m)))) [] }

/-- Frame `idx` of the active plane as its cells stand: the truth tables of memory LUTs hold what the design has stored,
and what was loaded while the GSR keeps WE at 0 (R45). -/
def Room.liveFrame (r : Room) (idx : Nat) : BitVec 2048 :=
  ((List.range 40).flatMap (fun t => (List.finRange 16).flatMap (fun i => (List.finRange 64).map (fun k => (t, i, k))))).foldl
    (fun v x =>
      let a := (Config.lutBitAt x.2.1 (.tt x.2.2)).val
      if a / 51 = idx % 72 && x.2.1.val < 8 &&
          (Map.get (fun _ => 0) r.mem (8 * Room.tileOf (idx / 72) x.1 + x.2.1.val)).getLsbD x.2.2.val then
        v ^^^ (1#2048 <<< (51 * x.1 + a % 51)) else v)
    (Map.get (fun _ => 0) r.act.frames idx)

end Sys2Proof.Machine
end

