-- ==== Sys2Proof/Machine/Frames.lean ====
section
/-! DEFINITION. Frames on their way into a plane: the single-driver guard (R51 to R56), the checks of a
record in order (R119, R115), and the commit of a frame to its plane or block RAM (R94, R133, R134). -/

namespace Sys2Proof.Machine

/-! ### The guard -/

/-- A rule of R52 broken: RULE, PRIOR_POS and BIT of ROOM_GUARD. -/
structure GuardHit where
  rule : Nat
  prior : Nat := 0
  bit : Nat
  deriving DecidableEq, Repr

/-- The driver points of a minor-71 frame of column `col`, in ascending payload bit: payload bit, long
line (0 to 159 horizontal, 160 to 287 vertical), and position along it. -/
def driverPoints (col : Nat) (p : BitVec 2048) : List (Nat × Nat × Nat) :=
  ((List.range 40).flatMap (fun t =>
    (List.range 4).map (fun k => (51 * t + 2 * k, t * 4 + k, col)) ++
    (List.range 4).map (fun k => (51 * t + 8 + 2 * k, 160 + col * 4 + k, t)))).filter (fun x => p.getLsbD x.1)

/-- The first driver point that a line already driven refuses, or the map with all of them (R52 rule 2). -/
def addDrivers : List (Nat × Nat) → List (Nat × Nat × Nat) → Except GuardHit (List (Nat × Nat))
  | m, [] => .ok m
  | m, (bit, line, pos) :: l =>
    match m.find? (fun e => e.1 == line) with
    | some e => .error { rule := 2, prior := e.2, bit := bit }
    | none => addDrivers (m ++ [(line, pos)]) l

/-- The lowest of the bits of a list that are set in a payload. -/
def firstSet (p : BitVec 2048) (l : List Nat) : Option Nat := (l.filter (fun i => p.getLsbD i)).min?

/-- The pad bits (R51). -/
def padBits : List Nat := (List.range 8).map (· + 2040)

/-- The must-be-0 bits of minor 71. -/
def zeroBits71 : List Nat := (List.range 40).flatMap (fun t => (List.range 35).map (fun b => 51 * t + 16 + b))

/-- The routing multiplexers of a tile (R46, Table 2.2). -/
def sinks : List Sink :=
  (List.finRange 16).flatMap (fun i => (List.finRange 6).map (fun a => .lut i a) ++ [.bx i, .by i]) ++
  [.ce false, .ce true, .sr false, .sr true, .we] ++
  [Level.one, .four, .twelve].flatMap (fun l => [Dir.north, .east, .south, .west].flatMap (fun dir =>
    ((List.finRange 16).filter (fun k => k.val < wireCount l)).map (fun k => .start l dir k))) ++
  (List.finRange 4).flatMap (fun k => [.hDrive k, .vDrive k])

/-- The selects that lie in a minor, as payload bits: one in each tile's slice (R51). -/
def selectsOf (minor : Nat) : List (List Nat) :=
  (sinks.filter (fun x => 23 + (Config.selectAt x).1.val = minor)).flatMap (fun x =>
    (List.range 40).map (fun t => (Config.selectAt x).2.map (fun b => 51 * t + b.val)))

/-- Rule 1 of R52: the lowest bit of a select that has no bit set, or more than one. -/
def selectHit (minor : Nat) (p : BitVec 2048) : Option Nat :=
  if minor < 23 || 71 ≤ minor then none
  else ((selectsOf minor).filterMap (fun l => if (l.filter (fun b => p.getLsbD b)).length = 1 then none else l.min?)).min?

/-- The bits that make a mode code of LUT_8 to LUT_15 0b10 or 0b11, in a minor (R52 rule 3). -/
def upperModeBits (minor : Nat) : List Nat :=
  ((List.finRange 16).filter (fun i => 8 ≤ i.val && (Config.lutBitAt i (.mode 1)).val / 51 = minor)).flatMap (fun i =>
    (List.range 40).map (fun t => 51 * t + (Config.lutBitAt i (.mode 1)).val % 51))

/-- Rule 3 of R52, with the codes of blocks that count as a format failure (R87, R89, R91, R97): the lowest bit that
breaks it. -/
def formatHit (idx : Nat) (p : BitVec 2048) : Option Nat :=
  let minor := idx % 72
  let block : List Nat := if minor = 71 then [] else match Config.blockFormat idx p with
    | some b => [b.val]
    | none => []
  (block ++ (firstSet p (padBits ++ (if minor = 71 then zeroBits71 else if minor < 21 then upperModeBits minor else []))).toList).min?

/-- The guard's judgement of logic frame `idx` against driver map `m`: the rule broken, or the new map. Rules are
judged in the order of R52, and of the bits that break a rule the lowest is offending. DESIGN CHOICE, log entry 14. -/
def guardCheck (m : List (Nat × Nat)) (idx : Nat) (p : BitVec 2048) : Except GuardHit (List (Nat × Nat)) :=
  match selectHit (idx % 72) p with
  | some b => .error { rule := 1, bit := b }
  | none =>
    match (if idx % 72 = 71 then addDrivers m (driverPoints (idx / 72) p) else .ok m) with
    | .error h => .error h
    | .ok m' =>
      match formatHit idx p with
      | some b => .error { rule := 3, bit := b }
      | none => .ok m'

/-- The driver points that frame `idx` itself holds, left out of a repair's check (R53). -/
def withoutFrame (m : List (Nat × Nat)) (idx : Nat) : List (Nat × Nat) :=
  if idx % 72 = 71 then
    let col := idx / 72
    m.filter (fun e => !(decide (e.1 < 160) && e.2 == col) && !(decide (160 ≤ e.1) && (e.1 - 160) / 4 == col))
  else m

/-- The first refusal in a room is held in ROOM_GUARD (R56). -/
def Dev.guardRecord (d : Dev) (n idx : Nat) (h : GuardHit) : Dev :=
  if d.gb F.ROOM_GUARD_VALID n then d
  else ((((d.sf F.ROOM_GUARD_VALID n 0 1).sf F.ROOM_GUARD_RULE n 0 h.rule).sf F.ROOM_GUARD_PRIOR_POS n 0 h.prior).sf
    F.ROOM_GUARD_FRAME_INDEX n 0 idx).sf F.ROOM_GUARD_BIT n 0 h.bit

/-- GUARD_REFUSAL (R54, R56): FAULT 0x05 with the frame address, and ROOM_GUARD. -/
def Dev.guardRefused (d : Dev) (n idx addr : Nat) (h : GuardHit) : Dev := (d.fault 5 addr).guardRecord n idx h

/-! ### Records -/

/-- The write list of a kind 2 frame: pairs of offset and value (R115). -/
def kind2List (p : BitVec 2048) : List (Nat × Word) :=
  ((List.range 32).map (fun k => ((p.extractLsb' (64 * k) 32).toNat, p.extractLsb' (64 * k + 32) 32))).takeWhile
    (fun e => e.1 != 0xFFFFFFFF)

/-- The content rule of a kind 2 frame (R115). -/
def kind2Ok (l : List (Nat × Word)) : Bool :=
  l.all (fun e => e.1 % 4 == 0 && decide (0x100 ≤ e.1) && decide (e.1 ≤ 0x3FC))

/-- What checks 1 to 3 of R119 find of the record at Cellar address `a`: the refusing source and its detail,
or the payload in plaintext. `disturbed` reads of it came back wrong. -/
def Dev.recordCheck (d : Dev) (h : List (BitVec 8)) (k a expected disturbed : Nat) : Except (Nat × Nat) (BitVec 2048) :=
  let r := d.record a
  let addr := field4 r 0
  let p := d.plain h k r
  if addr = 0xFFFFFFFF || addr != expected then .error (6, expected)
  else if disturbed = 2 || !d.canDecrypt h || field4 r 260 != (frameCrc addr p).toNat then .error (4, addr)
  else .ok p

/-- Number of a record within its image's body. -/
def recNumber (base a : Nat) : Nat := (a - base - 0xA00) / 264

/-! ### Commit -/

/-- Block RAM `b` of a room, as stored. -/
def Dev.bramOf (d : Dev) (n b : Nat) : Bram := Map.get (fun _ => {}) (d.room n).bram b

/-- A kind 1 frame is committed to the room's block RAM (R94). -/
def Dev.commitBram (d : Dev) (n idx : Nat) (p : BitVec 2048) : Dev :=
  let b := idx / 18
  let f := idx % 18
  let x := d.bramOf n b
  let all := 2 ^ 2048 - 1
  let x := if f < 16 then { x with d := setMasked x.d (2048 * f) all p.toNat, flipD := setMasked x.flipD (2048 * f) all 0 }
    else { x with p := setMasked x.p (2048 * (f - 16)) all p.toNat, flipP := setMasked x.flipP (2048 * (f - 16)) all 0 }
  d.onRoom n (fun r => { r with bram := Map.put (fun _ => {}) r.bram b x })

/-- Change the plane a load goes into. -/
def Dev.onPlane (d : Dev) (n : Nat) (active : Bool) (f : Plane → Plane) : Dev :=
  d.onRoom n (fun r => if active then { r with act := f r.act } else { r with shd := f r.shd })

/-- A logic frame and the new driver map are committed. -/
def Plane.commit (p : Plane) (idx : Nat) (v : BitVec 2048) (m : List (Nat × Nat)) : Plane :=
  { p with frames := Map.put (fun _ => 0) p.frames idx v, drivers := m }

/-- A frame that has passed checks 1 to 3: checked by its content and committed (R119 step 4, R133). -/
def Dev.commitFrame (d : Dev) (n addr : Nat) (active : Bool) (p : BitVec 2048) : Except (Dev × Nat) Dev :=
  let idx := frameIndex addr
  if frameKind addr = 0 then
    let pl := if active then (d.room n).act else (d.room n).shd
    match guardCheck pl.drivers idx p with
    | .error h => .error (d.guardRefused n idx addr h, 5)
    | .ok m => .ok (d.onPlane n active (fun x => x.commit idx p m))
  else if frameKind addr = 1 then .ok (if active then d.commitBram n idx p else d)
  else
    let l := kind2List p
    if kind2Ok l then .ok (d.onPlane n active (fun x => { x with kind2 := l })) else .error (d.fault 0x0A addr, 0x0A)

/-- The next frame record of a load (R119): committed, or the refusing source after its FAULT is logged. -/
def Dev.linkFrame (d : Dev) (n : Nat) (l : Load) (disturbed : Nat) : Except (Dev × Nat) Dev :=
  let h := d.header l.image
  let a := l.records + 264 * l.pos
  match d.recordCheck h (recNumber l.image a) a (frameAddr (!l.full && hdrKind h == 2) n l.pos) disturbed with
  | .error (src, detail) => .error (d.fault src detail, src)
  | .ok p =>
    match d.commitFrame n (frameAddr (!l.full && hdrKind h == 2) n l.pos) l.active p with
    | .error e => .error e
    | .ok d => .ok (d.onRoom n (fun r => { r with load := some { l with pos := l.pos + 1 } }))

/-- The 720 block RAM frames of room `n` read from an image, checked by R119 steps 1 to 3 and committed (R143,
R316): the refusing source after its FAULT is logged. -/
def Dev.reloadBram (d : Dev) (n base : Nat) : Except (Dev × Nat) Dev :=
  let h := d.header base
  let kind2 := hdrKind h == 2
  let first := if kind2 then 2305 else 2304
  (List.range 720).foldlM (fun d i =>
    let a := roomRecords h base n + 264 * (first + i)
    match d.recordCheck h (recNumber base a) a (frameAddr kind2 n (first + i)) 0 with
    | .error (src, detail) => .error (d.fault src detail, src)
    | .ok p => .ok (d.commitBram n i p)) d

/-! ### Sources (R130, R131, R136, R145) -/

/-- First Cellar byte of a source: SRC and BLOCK. -/
def srcBase (src block : Nat) : Nat := if src = 0 then poolBase block else slotBase src

/-- Record the room's block RAM source (R145). DEDUCED, log entry 43. -/
def Dev.setBramSrc (d : Dev) (n src block : Nat) : Dev :=
  ((d.sf F.ROOM_BRAM_SRC_VALID n 0 1).sf F.ROOM_BRAM_SRC_SRC n 0 src).sf F.ROOM_BRAM_SRC_BLOCK n 0 (if src = 0 then block else 0)

/-- The source and flags of a plane (R130). -/
def Dev.setPlaneSrc (d : Dev) (n : Nat) (active : Bool) (src block keep verified : Nat) : Dev :=
  let b := if src = 0 then block else 0
  let d := d.onPlane n active (fun x => { x with keep := keep == 1, src := true })
  if active then
    ((d.sf F.ROOM_PLANE_STAT_ACT_SRC n 0 src).sf F.ROOM_PLANE_STAT_ACT_BLOCK n 0 b).sf F.ROOM_PLANE_STAT_ACT_VERIFIED n 0 verified
  else
    (((d.sf F.ROOM_PLANE_STAT_SH_SRC n 0 src).sf F.ROOM_PLANE_STAT_SH_BLOCK n 0 b).sf
      F.ROOM_PLANE_STAT_SH_VERIFIED n 0 verified).sf F.ROOM_PLANE_STAT_SH_KEEP_BRAM n 0 keep

/-- State of the plane a load goes into. -/
def Dev.setPlaneState (d : Dev) (n : Nat) (active : Bool) (sh act : Nat) : Dev :=
  if active then d.sf F.ROOM_PLANE_STAT_ACT_STATE n 0 act else d.sf F.ROOM_PLANE_STAT_SH_STATE n 0 sh

end Sys2Proof.Machine
end

