-- ==== Sys2Proof/Machine/Queues.lean ====
section
/-! DEFINITION. Event queues (R218 to R236): descriptors, groups, echo rings, the head record, faults and
internal appends; and the registers of placement whose writes are checked (R241, R243, R252, R257). -/

namespace Sys2Proof.Machine

/-! ### Descriptors -/

/-- Address of word `w` of descriptor `q` (R222). -/
def qAddr (q w : Nat) : Nat := 0x100000 + 16 * q + 4 * w

/-- STATE of a queue. -/
def Dev.qState (d : Dev) (q : Nat) : Nat := d.gf F.QUEUE_W0_STATE q

/-- N of a SIZE (R223). -/
def ringSize (size : Nat) : Nat := 2 ^ (size + 2)

/-- Capacity of a SIZE (R223). -/
def ringCap (size : Nat) : Nat := if size = 14 then 65535 else ringSize size

/-- Records between two indices (R223). -/
def ringCount (tail head : Nat) : Nat := (tail + 65536 - head) % 65536

/-- Records in queue `q`. -/
def Dev.qCount (d : Dev) (q : Nat) : Nat := ringCount (d.gf F.QUEUE_W1_TAIL q) (d.gf F.QUEUE_W1_HEAD q)

/-- Capacity of queue `q`. -/
def Dev.qCap (d : Dev) (q : Nat) : Nat := ringCap (d.gf F.QUEUE_W0_SIZE q)

/-- Larder word address of the slot that index `i` names (R223). -/
def Dev.qSlot (d : Dev) (q i : Nat) : Nat := d.gf F.QUEUE_W0_BASE q + i % ringSize (d.gf F.QUEUE_W0_SIZE q)

/-- EVT_QSUM.ENTRIES: the sum of N over queues not in IDLE (R228). -/
def Dev.qSum (d : Dev) : Nat := (d.liveQueues.map (fun q => ringSize (d.gf F.QUEUE_W0_SIZE q))).sum

/-- The event core's limit of ring entries (R228). -/
abbrev maxEntries : Nat := 1048576

/-- TARGET's type and index. -/
def Dev.qType (d : Dev) (q : Nat) : Nat := d.gf F.QUEUE_W2_TARGET q / 16384
def Dev.qIndex (d : Dev) (q : Nat) : Nat := d.gf F.QUEUE_W2_TARGET q % 16384

/-- The target checks of Table 10.3 (R252, R260). -/
def Dev.targetOk (d : Dev) (q : Nat) : Bool :=
  let ty := d.qType q
  let i := d.qIndex q
  if ty = 0 then d.gb F.STG_CFG_EN (i / 256)
  else if ty = 1 then d.gb F.EVT_DPIN_EN (i % 256) && i / 256 == 0
  else if ty = 2 then i % 256 / 2 == 0
  else i == 0

/-- Queue `q` may leave IDLE for a state in which its ring counts (R228). -/
def Dev.sumKept (d : Dev) (q : Nat) : Bool :=
  d.qSum + (if d.qState q == qIdle then ringSize (d.gf F.QUEUE_W0_SIZE q) else 0) ≤ maxEntries

/-- The conditions of a change to RUN (Table 10.3). -/
def Dev.runOk (d : Dev) (q : Nat) : Bool :=
  d.gf F.QUEUE_W0_BASE q % ringSize (d.gf F.QUEUE_W0_SIZE q) == 0 && d.targetOk q && d.sumKept q

/-- A queue enters RUN: the BASE 0b10 reference is taken and the head record compared afresh (R221).
DEDUCED, log entry 65. -/
def Dev.enterRun (d : Dev) (q : Nat) : Dev :=
  (d.onQueue q (fun x => { x with cur := none, ref := d.ev.time })).sf F.QUEUE_W0_STATE q 0 qRun

/-- A field of a descriptor, written: refused where it changes and `bad` holds. -/
def Dev.qField (r : Dev × Bool) (q : Nat) (f : Fld) (v : Nat) (bad : Bool) : Dev × Bool :=
  if v = r.1.gf f q then r else if bad then (r.1, true) else (r.1.sf f q 0 v, r.2)

/-- A write of descriptor word 1 (R224): HEAD and TAIL are judged as one field. -/
def Dev.word1Write (d : Dev) (q : Nat) (v : Word) : Dev × Bool :=
  let run := d.qState q == qRun
  let head := if run then d.gf F.QUEUE_W1_HEAD q else bits v 0 16
  let tail := bits v 16 16
  let c := ringCount tail head
  if tail = d.gf F.QUEUE_W1_TAIL q ∧ head = d.gf F.QUEUE_W1_HEAD q then (d, false)
  else if d.qCap q < c || (run && c < d.qCount q) then (d, true)
  else ((d.sf F.QUEUE_W1_TAIL q 0 tail).sf F.QUEUE_W1_HEAD q 0 head, false)

/-- A write of descriptor word 2 (R224): outside RUN and FAULT. -/
def Dev.word2Write (d : Dev) (q : Nat) (v : Word) : Dev × Bool :=
  if v = d.reg .QUEUE_W2 q then (d, false)
  else if d.qState q == qRun || d.qState q == qFault then (d, true)
  else (d.setReg .QUEUE_W2 q 0 v, false)

/-- A write of descriptor word 3 (R222): the fields are replaced and counts of the same cycle added.
DEDUCED, log entry 65. -/
def Dev.word3Write (d : Dev) (q : Nat) (v : Word) (fired late forced : Bool) : Dev :=
  let d := d.setReg .QUEUE_W3 q 0 v
  ((d.cntWrap F.QUEUE_W3_FIRED q 0 (b2n fired)).cnt F.QUEUE_W3_LATE q 0 (b2n late)).cnt F.QUEUE_W3_FORCED q 0 (b2n forced)

/-- A write to a register of island 98: nothing is written while the island is off. -/
def State.evWrite (s : State) (src addr : Nat) (f : Dev → Dev × Bool) : Out :=
  .next (s.onDev (fun d => if d.evOn then Dev.refuseIf (f d) src addr else d))

/-- QUEUE_WORD1_WRITE (R224). -/
def execQueueWord1Write (q : BitVec 14) (v : Word) (s : State) : Out :=
  s.evWrite 0x56 (qAddr q.toNat 1) (fun d => d.word1Write q.toNat v)

/-- QUEUE_WORD2_WRITE (R224). -/
def execQueueWord2Write (q : BitVec 14) (v : Word) (s : State) : Out :=
  s.evWrite 0x56 (qAddr q.toNat 2) (fun d => d.word2Write q.toNat v)

/-- QUEUE_WORD3_WRITE (R222). -/
def execQueueWord3Write (q : BitVec 14) (v : Word) (fired late forced : Bool) (s : State) : Out :=
  s.evWrite 0x56 (qAddr q.toNat 3) (fun d => (d.word3Write q.toNat v fired late forced, false))

/-! ### Faults of a queue (R219, R229) -/

/-- The queue enters FAULT: recorded in EVT_QFAULT if VALID reads 0, and logged. -/
def Dev.queueFault (d : Dev) (q cause : Nat) : Dev :=
  let d := (d.onQueue q (fun x => { x with cur := none })).sf F.QUEUE_W0_STATE q 0 qFault
  let d := if d.gb F.EVT_QFAULT_VALID then d
    else ((d.sf F.EVT_QFAULT_VALID 0 0 1).sf F.EVT_QFAULT_CAUSE 0 0 cause).sf F.EVT_QFAULT_QUEUE 0 0 q
  d.fault 0x53 q

/-- Cause of a Larder answer other than OK (R229): ECC_UNCORR, QUAD_DOWN, FENCED. DEDUCED, log entry 65. -/
def larCause (st : Nat) : Nat := if st = stEccUncorr then 2 else if st = stQuadDown then 3 else 4

/-- Requester ID of the event core. -/
abbrev evId : Nat := 78

/-- The event core reads one word through port T. -/
def Dev.evRead (d : Dev) (wa : Nat) (u : BitVec 72) : Dev × Nat × BitVec 64 :=
  let d := d.larNow evId { op := opRead, addr := wa, len := 0 } [u]
  (d, d.lar.answer.status, d.lar.answer.data.headD 0)

/-- The event core writes one word through port T. -/
def Dev.evWrite (d : Dev) (wa : Nat) (v : BitVec 64) : Dev × Nat :=
  let d := d.larNow evId { op := opWrite, addr := wa, len := 0, data := [v] } []
  (d, d.lar.answer.status)

/-! ### The record (Table 10.2) -/

def recBase (w : BitVec 64) : Nat := (w.extractLsb' 62 2).toNat
def recDue (w : BitVec 64) : Nat := (w.extractLsb' 32 30).toNat
def recSlack (w : BitVec 64) : Nat := (w.extractLsb' 24 8).toNat
def recAction (w : BitVec 64) : Nat := (w.extractLsb' 20 4).toNat
def recProfile (w : BitVec 64) : Nat := (w.extractLsb' 14 6).toNat
def recArg (w : BitVec 64) : Nat := (w.extractLsb' 0 14).toNat

/-- Codes of ACTION. -/
abbrev acNop : Nat := 0
abbrev acSet : Nat := 1
abbrev acClear : Nat := 2
abbrev acPulse : Nat := 3
abbrev acDrive : Nat := 4
abbrev acToggle : Nat := 5
abbrev acMark : Nat := 6

/-- A record is invalid (R219). -/
def recInvalid (w : BitVec 64) : Bool :=
  recBase w == 3 || 6 < recAction w || (recBase w == 2 && w.getLsbD 61)

/-- Run, Quiet or Hold, with the event core running (R233). -/
def Dev.queuesRun (d : Dev) : Bool := d.evOn && d.ready

/-- QUEUE_HEAD_FETCH (R219, R226, R229): the record at HEAD becomes current. DEDUCED, log entry 65. -/
def Dev.headFetch (d : Dev) (q : Nat) (u : BitVec 72) : Dev :=
  if !d.queuesRun || d.qState q != qRun || d.qCount q = 0 || (d.queue q).cur.isSome ||
      d.larWaits (d.qSlot q (d.gf F.QUEUE_W1_HEAD q)) evId then d
  else
    let r := d.evRead (d.qSlot q (d.gf F.QUEUE_W1_HEAD q)) u
    if r.2.1 != stOk then r.1.queueFault q (larCause r.2.1)
    else if recInvalid r.2.2 then r.1.queueFault q 1
    else r.1.onQueue q (fun x => { x with cur := some { word := r.2.2 } })

/-- QUEUE_HEAD_FETCH (R226). -/
def execQueueHeadFetch (q : BitVec 14) (u : BitVec 72) (s : State) : Out :=
  .next (s.onDev (fun d => d.headFetch q.toNat u))

/-! ### Internal appends (R228) -/

/-- A refused append: counted, with a NOTICE. -/
def Dev.appendRefused (d : Dev) (q : Nat) (full : Bool) : Dev :=
  (if full then d.cnt F.EVT_POST_CNT_FULL 0 0 else d.cnt F.EVT_POST_CNT_STATE 0 0).notice 0x54 q

/-- How an append to a queue stands: it can be made, must wait for one under way or a frozen arbiter, or is refused. -/
inductive Accept where
  | go | wait | full | fault
  deriving DecidableEq, Repr

/-- Judge an append to queue `q` (R228). DEDUCED, log entry 29. -/
def Dev.appendJudge (d : Dev) (q : Nat) : Accept :=
  if d.qState q == qFault then .fault
  else if (d.queue q).append.isSome || d.larWaits (d.qSlot q (d.gf F.QUEUE_W1_TAIL q)) evId then .wait
  else if d.qCap q ≤ d.qCount q then .full
  else .go

/-- Write a record into slot TAIL % N; TAIL advances at the acknowledge. -/
def Dev.appendStart (d : Dev) (q : Nat) (w : BitVec 64) (poster : Nat) : Dev :=
  let r := d.evWrite (d.qSlot q (d.gf F.QUEUE_W1_TAIL q)) w
  r.1.onQueue q (fun x => { x with append := some { status := r.2, poster := poster } })

/-! ### Echo rings (R231) -/

/-- SIZE of echo ring `r`, full at `ringCap` records. DEDUCED, log entry 66. -/
def Dev.echoFull (d : Dev) (r : Nat) : Bool :=
  ringCap (d.gf F.EVT_ECHO_CFG_SIZE r) ≤ ringCount (d.gf F.EVT_ECHO_STAT_TAIL r) (Map.get (fun _ => 0) d.ev.echoHead r)

/-- An echo is discarded: counted and logged. DEDUCED, log entry 66. -/
def Dev.echoLost (d : Dev) (r : Nat) : Dev := (d.cnt F.EVT_ECHO_STAT_OVERRUN r 0).notice 0x55 r

/-- Re-read the HEAD word of a full ring. -/
def Dev.echoReread (d : Dev) (r : Nat) : Dev :=
  if !d.echoFull r then d
  else
    let x := d.evRead (d.gf F.EVT_ECHO_CTL_CTRL_WA r + 1) 0
    if x.2.1 = stOk then
      { x.1 with ev := { x.1.ev with echoHead := Map.put (fun _ => 0) x.1.ev.echoHead r (x.2.2.toNat % 65536) } }
    else x.1

/-- ECHO_RECORD (R231): a record and then the TAIL word are written, or the echo is discarded. -/
def Dev.echoPut (d : Dev) (r : Nat) (w : BitVec 64) : Dev :=
  if !d.gb F.EVT_ECHO_CFG_EN r then d
  else
    let d := d.echoReread r
    if d.echoFull r then d.echoLost r
    else
      let tail := d.gf F.EVT_ECHO_STAT_TAIL r
      let a := d.evWrite (d.gf F.EVT_ECHO_CFG_BASE r + tail % ringSize (d.gf F.EVT_ECHO_CFG_SIZE r)) w
      if a.2 != stOk then a.1.echoLost r
      else
        let t := (tail + 1) % 65536
        let b := a.1.evWrite (d.gf F.EVT_ECHO_CTL_CTRL_WA r) (BitVec.ofNat 64 t)
        if b.2 != stOk then b.1.echoLost r else b.1.sf F.EVT_ECHO_STAT_TAIL r 0 t

/-- The echo record of Table 10.4. -/
def echoWord (q outcome action angle time : Nat) : BitVec 64 :=
  BitVec.ofNat 64 (q * 2 ^ 50 + outcome * 2 ^ 48 + action * 2 ^ 44 + angle % 2 ^ 14 * 2 ^ 30 + time % 2 ^ 30)

/-- The angle unit and echo ring of a queue's group (R230). -/
def Dev.qUnit (d : Dev) (q : Nat) : Nat := d.gf F.EVT_QGRP_UNIT (q / 64)
def Dev.qRing (d : Dev) (q : Nat) : Nat := d.gf F.EVT_QGRP_ECHO_RING (q / 64)

/-- Echo an event fired or dropped at time `t`, if the queue asks for it (R231, R232).
DEDUCED, log entry 66. -/
def Dev.echoEvent (d : Dev) (q outcome action t : Nat) : Dev :=
  if d.gb F.QUEUE_W0_ECHO q then
    d.echoPut (d.qRing q) (echoWord q outcome action ((d.pPredAt (d.qUnit q) t).toNat / 2 ^ 18) t)
  else d

/-! ### Firing (R247, R248) -/

/-- HEAD advances past the record; `t` is the BASE 0b10 reference (R221). -/
def Dev.headAdvance (d : Dev) (q t : Nat) : Dev :=
  (d.onQueue q (fun x => { x with cur := none, ref := BitVec.ofNat 64 t })).cntWrap F.QUEUE_W1_HEAD q 0

/-- An event fires at time `t` with an OUTCOME of Table 10.4: counted, echoed, HEAD advances (R247, R248). -/
def Dev.fireEvent (d : Dev) (q : Nat) (w : BitVec 64) (outcome t : Nat) : Dev :=
  let d := d.cntWrap F.QUEUE_W3_FIRED q 0
  let d := if outcome = 1 then d.cnt F.QUEUE_W3_LATE q 0 else d
  let d := if outcome = 2 then (d.cnt F.QUEUE_W3_FORCED q 0).cnt F.EVT_FEED_CNT_FORCED (d.gf F.QUEUE_W2_FEED q) 0 else d
  (d.echoEvent q outcome (recAction w) t).headAdvance q t

/-- An event is dropped at time `t`: OUTCOME 0b11 (R248, R250). -/
def Dev.dropEvent (d : Dev) (q : Nat) (w : BitVec 64) (t : Nat) : Dev :=
  (d.echoEvent q 3 (recAction w) t).headAdvance q t

/-! ### Writes of STATE (R225, R235) -/

/-- RUN to STOPPED by a write (Table 10.3): a record already handed to its string's engine fires, HEAD advances, and
STOPPED applies then; its channel changes at its frame (R235, R239). DEDUCED, log entry 65. -/
def Dev.stopWrite (d : Dev) (q : Nat) : Dev :=
  match (d.queue q).cur with
  | none => d.stopQueue q
  | some c => match c.commit with
    | none => d.stopQueue q
    | some k =>
      let d := { d with ev := { d.ev with handed := d.ev.handed ++ [(d.qIndex q, k)] } }
      (d.fireEvent q c.word k.outcome k.frame).stopQueue q

/-- Every RUN queue is stopped by a write (R236). -/
def Dev.stopAllWrite (d : Dev) : Dev := d.each d.liveQueues Dev.stopWrite

/-- A change of STATE by a write (Table 10.3): none where it is not in the table or refused. -/
def Dev.stateWrite (d : Dev) (q st : Nat) : Option Dev :=
  let old := d.qState q
  if st = qRun then
    if (old == qIdle || old == qStopped) && d.runOk q then some (d.enterRun q) else none
  else if st = qStopped then
    if old = qIdle then (if d.sumKept q then some (d.sf F.QUEUE_W0_STATE q 0 qStopped) else none)
    else if old = qRun then some (d.stopWrite q)
    else some (d.sf F.QUEUE_W0_STATE q 0 qStopped)
  else if st = qIdle then
    if old = qStopped || old = qFault then some (d.sf F.QUEUE_W0_STATE q 0 qIdle) else none
  else none

/-- A write of descriptor word 0 (R224, R225): the other fields first, then STATE. -/
def Dev.word0Write (d : Dev) (q : Nat) (v : Word) : Dev × Bool :=
  let st := d.qState q
  let locked := st == qRun || st == qFault
  let size := bits v 21 4
  let tooBig := st == qStopped && maxEntries < d.qSum - ringSize (d.gf F.QUEUE_W0_SIZE q) + ringSize size
  let r := Dev.qField (d, false) q F.QUEUE_W0_ECHO (bits v 28 1) locked
  let r := Dev.qField r q F.QUEUE_W0_LATE (bits v 25 3) (locked || 2 < bits v 25 3)
  let r := Dev.qField r q F.QUEUE_W0_SIZE size (locked || size == 15 || tooBig)
  let r := Dev.qField r q F.QUEUE_W0_BASE (bits v 0 21) locked
  if bits v 30 2 = st then r
  else match r.1.stateWrite q (bits v 30 2) with
    | some d => (d, r.2)
    | none => (r.1, true)

/-- QUEUE_WORD0_WRITE (R225). -/
def execQueueWord0Write (q : BitVec 14) (v : Word) (s : State) : Out :=
  s.evWrite 0x56 (qAddr q.toNat 0) (fun d => d.word0Write q.toNat v)

/-- STOP_ALL (R236): every RUN queue is STOPPED in one cycle, so the bit reads 0 again. -/
def execStopAll (s : State) : Out := .next (s.onDev (fun d => if d.evOn then d.stopAllWrite else d))

/-! ### Checked registers -/

/-- Address of EVT_ECHO_r_CFG. -/
def echoAddr (r : Nat) : Nat := 0x90200 + 0x10 * r

/-- A write of EVT_ECHO_r_CFG (R231, R236): locked while EN is 1 and stays so; setting EN clears both index copies and
the TAIL word. DEDUCED, log entry 66. -/
def Dev.echoCfgWrite (d : Dev) (r : Nat) (v : Word) : Dev × Bool :=
  let en := d.gb F.EVT_ECHO_CFG_EN r
  let lock := en && v.getLsbD 31
  let x := Dev.qField (d, false) r F.EVT_ECHO_CFG_SIZE (bits v 21 4) (lock || bits v 21 4 == 15)
  let x := Dev.qField x r F.EVT_ECHO_CFG_BASE (bits v 0 21) lock
  if bits v 31 1 = b2n en then x
  else
    let d := x.1.sf F.EVT_ECHO_CFG_EN r 0 (bits v 31 1)
    if en then (d, x.2)
    else
      let d := { d with ev := { d.ev with echoHead := Map.put (fun _ => 0) d.ev.echoHead r 0 } }
      (((d.sf F.EVT_ECHO_STAT_TAIL r 0 0).evWrite (d.gf F.EVT_ECHO_CTL_CTRL_WA r) 0).1, x.2)

/-- ECHO_RING_ENABLE (R236). -/
def execEchoRingEnable (r : Nat) (v : Word) (s : State) : Out :=
  s.evWrite 0x56 (echoAddr r) (fun d => d.echoCfgWrite r v)

/-- A write of EVT_ECHO_r_CTL (R236). -/
def Dev.echoCtlWrite (d : Dev) (r : Nat) (v : Word) : Dev × Bool :=
  Dev.qField (d, false) r F.EVT_ECHO_CTL_CTRL_WA (bits v 0 21) (d.gb F.EVT_ECHO_CFG_EN r)

/-- A write of EVT_QGRP_g (R230). -/
def Dev.groupWrite (d : Dev) (g : Nat) (v : Word) : Dev × Bool :=
  let busy := d.liveQueues.any (fun q => q / 64 == g && (d.qState q == qRun || d.qState q == qFault))
  Dev.qField (Dev.qField (d, false) g F.EVT_QGRP_ECHO_RING (bits v 2 2) busy) g F.EVT_QGRP_UNIT (bits v 0 2) busy

/-- A write of EVT_PROF_p_CUR (R241): PULL_I is not to be smaller than HOLD_I. -/
def Dev.profWrite (d : Dev) (p : Nat) (v : Word) : Dev × Bool :=
  let pull := bits v 16 12
  let hold := bits v 0 10
  let d := d.sf F.EVT_PROF_CUR_PW_SCALE p 0 (bits v 28 4)
  if pull = d.gf F.EVT_PROF_CUR_PULL_I p ∧ hold = d.gf F.EVT_PROF_CUR_HOLD_I p then (d, false)
  else if pull < hold then (d, true)
  else ((d.sf F.EVT_PROF_CUR_PULL_I p 0 pull).sf F.EVT_PROF_CUR_HOLD_I p 0 hold, false)

/-- The string step whose decision interval device time is in (R238). -/
def Dev.stepNow (d : Dev) : Nat := (d.now / 640 + 1) * 640

/-- BUDGET in force for a string step (R243). -/
def Dev.budgetFor (d : Dev) (f step : Nat) : Nat :=
  if (d.feed f).budgetStep = step then (d.feed f).budget else d.gf F.EVT_FEED_CFG_BUDGET f

/-- OFS in force for a string step (R243). -/
def Dev.ofsFor (d : Dev) (f step : Nat) : Nat :=
  if !d.gb F.EVT_FEED_STAT_MEAS_VALID f then 0
  else if (d.feed f).ofsStep = step then (d.feed f).ofs else d.gf F.EVT_FEED_MEAS_OFS f

/-- A new OFS is set: the step under way keeps the one it began with (R243). -/
def Dev.setOfs (d : Dev) (f ofs : Nat) : Dev :=
  let step := d.stepNow
  let old := d.ofsFor f step
  (d.onFeed f (fun x => { x with ofsStep := step, ofs := old })).sf F.EVT_FEED_MEAS_OFS f 0 ofs

/-- MEAS_VALID of one feed falls, and OFS is 0 (R243). -/
def Dev.measDrop (d : Dev) (f : Nat) : Dev :=
  ((d.sf F.EVT_FEED_STAT_MEAS_VALID f 0 0).sf F.EVT_FEED_MEAS_OFS f 0 0).onFeed f (fun x => { x with ofsStep := 0 })

/-- A write of EVT_FEED_f_CFG (R243): a step under way keeps its budget; without its string's telemetry
the measurement is not in use. -/
def Dev.feedWrite (d : Dev) (f : Nat) (v : Word) : Dev :=
  let step := d.stepNow
  let old := d.budgetFor f step
  let en := bits v 31 1
  let src := bits v 25 6
  let d := if en = 0 || src != d.gf F.EVT_FEED_CFG_SRC f then d.measDrop f else d
  let d := ((d.sf F.EVT_FEED_CFG_MEAS_EN f 0 en).sf F.EVT_FEED_CFG_SRC f 0 src)
  if bits v 0 16 = d.gf F.EVT_FEED_CFG_BUDGET f then d
  else (d.onFeed f (fun x => { x with budgetStep := step, budget := old })).sf F.EVT_FEED_CFG_BUDGET f 0 (bits v 0 16)

/-- MEAS_TIMEOUT (R243): no telemetry for 64 frame periods. -/
def Dev.measTimeout (d : Dev) (f : Nat) : Dev :=
  if d.gb F.EVT_FEED_STAT_MEAS_VALID f && (d.str (d.gf F.EVT_FEED_CFG_SRC f)).telemAt + 64 * 640 ≤ d.now then d.measDrop f
  else d

/-- MEAS_TIMEOUT (R243). -/
def execMeasTimeout (f : Nat) (s : State) : Out := .next (s.onDev (fun d => d.measTimeout f))

/-- A write of EVT_DPIN_n (R252): the sources of its refusals are 0x56 for R252's two cases, and 0x75 for a
reserved BANK or PIN. -/
def Dev.dpinWrite (d : Dev) (n : Nat) (v : Word) : Dev × Bool × Nat :=
  let bank := bits v 6 5
  let pin := bits v 0 6
  let en := bits v 31 1
  let used := d.liveQueues.any (fun q =>
    (d.qState q == qRun || d.qState q == qFault) && d.qType q == 1 && d.qIndex q % 256 == n)
  let same := (v &&& 0xFE0007FF) = d.reg .EVT_DPIN n
  if same then (d, false, 0)
  else if used then (d, true, 0x56)
  else
    let d := (d.sf F.EVT_DPIN_INV n 0 (bits v 30 1)).sf F.EVT_DPIN_FINE n 0 (bits v 25 5)
    let bank' := if 17 < bank then d.gf F.EVT_DPIN_BANK n else bank
    let pin' := if 39 < pin then d.gf F.EVT_DPIN_PIN n else pin
    let taken := en == 1 && (List.range 256).any (fun m => m != n && d.gb F.EVT_DPIN_EN m &&
      d.gf F.EVT_DPIN_BANK m == bank' && d.gf F.EVT_DPIN_PIN m == pin')
    if taken then (d, true, 0x56)
    else
      let d := if en = 1 && !d.gb F.EVT_DPIN_EN n then d.onChan (.pin (BitVec.ofNat 8 n)) (fun _ => {}) else d
      let d := ((d.sf F.EVT_DPIN_BANK n 0 bank').sf F.EVT_DPIN_PIN n 0 pin').sf F.EVT_DPIN_EN n 0 en
      let d := d.when (en == 1) (fun d => d.leaveSafe (fun k => k == 64 * bank' + pin'))
      (d, bank' != bank || pin' != pin, 0x75)

/-- A write of EVT_EVP_n (R253): QLO greater than QHI is reserved. -/
def Dev.evpWrite (d : Dev) (n : Nat) (v : Word) : Dev × Bool :=
  let lo := bits v 0 14
  let hi := bits v 16 14
  let d := d.sf F.EVT_EVP_EN n 0 (bits v 31 1)
  if lo = d.gf F.EVT_EVP_QLO n ∧ hi = d.gf F.EVT_EVP_QHI n then (d, false)
  else if hi < lo then (d, true)
  else ((d.sf F.EVT_EVP_QLO n 0 lo).sf F.EVT_EVP_QHI n 0 hi, false)

end Sys2Proof.Machine
end

