-- ==== Sys2Proof/Machine/Swap.lean ====
section
/-! DEFINITION. Operations of ROOM_LOAD_CTRL on a room's planes (R131, R133 to R138, R152), swap triggers and
the drain (R139 to R142, R146). The exchange and the checks that end a load stand in Boot.lean, where
settings are applied. -/

namespace Sys2Proof.Machine

/-- Loads and arms are accepted in this mode and power state (R135). -/
def Dev.roomOpsUp (d : Dev) (n : Nat) : Bool := (d.ready || d.mode == mTest) && !d.parkedOrOff n

/-- A load or swap of the room is under way, or its shadow is ARMED (R135). -/
def Dev.roomOpBusy (d : Dev) (n : Nat) : Bool :=
  (d.room n).load.isSome || d.act n == actLoading || d.act n == actChecking || d.sh n == shLoading ||
    d.sh n == shChecking || d.sh n == shArmed || d.sh n == shSwapping

/-! ### Starting a load (R131, R133, R134) -/

/-- A slot is the running one, or may stand for it in Test (R131); its KIND is judged with the header. -/
def Dev.slotUsable (d : Dev) (src : Nat) : Bool :=
  src == d.gf F.CFG_STATUS_SLOT || (d.mode == mTest && d.gf F.CFG_STATUS_SLOT == 0)

/-- The error source that refuses a room load at its header, 0 for none (R111, R131). -/
def Dev.roomHeaderRefusal (d : Dev) (n src base : Nat) : Nat :=
  let h := d.header base
  let r := headerRefusal h base (regionEnd base) (d.gf F.GBL_IDCODE_REV)
  if r != 0 then r
  else if hdrKind h != (if src = 0 then 2 else 1) || !bitOf (hdrMask h) n then 2
  else 0

/-- The plane a load goes into is refused (R132 to R134, R54) and releases its source at once (R136). -/
def Dev.refuseLoad (d : Dev) (n : Nat) (active : Bool) (src : Nat) : Dev :=
  let d := (d.onRoom n (fun r => { r with load := none })).onPlane n active (fun x => { x with src := false })
  (d.setPlaneState n active shInvalid actDown).roomResult n rRefused src

/-- A load starts: the plane's map is cleared (R53), its state is LOADING, and the header is checked. -/
def Dev.beginLoad (d : Dev) (n : Nat) (active : Bool) (src block : Nat) : Dev :=
  let base := srcBase src block
  let d := if active then (d.roomReset n false).onRoom n (fun r => { r with stage := .idle }) else d
  let d := (d.setPlaneState n active shLoading actLoading).onPlane n active (fun x => { x with drivers := [], kind2 := [] })
  let h := d.header base
  let bad := d.roomHeaderRefusal n src base
  if bad != 0 then (d.fault bad base).refuseLoad n active bad
  else
    let keep := hdrKind h == 2 && hdrKeepBram h
    let d := d.setPlaneSrc n active src block (b2n keep) 0
    d.onRoom n (fun r => { r with load := some {
      active := active, image := base, records := roomRecords h base n,
      total := recsPerRoom (hdrKind h) (hdrKeepBram h), keepBram := keep, encrypted := hdrEncrypted h } })

/-- LOAD_SHADOW and LOAD_ACTIVE (R131, R133 to R135). -/
def Dev.loadPlane (d : Dev) (n : Nat) (active : Bool) : Dev :=
  let src := d.gf F.ROOM_LOAD_SRC_SRC n
  let block := d.gf F.ROOM_LOAD_SRC_BLOCK n
  if !d.roomOpsUp n then d.roomResult n rNotUp 0
  else if d.roomOpBusy n then d.roomResult n rBusy 0
  else if (src == 0 && 959 < block) || (src != 0 && !d.slotUsable src) then d.roomResult n rBadSource 0
  else d.beginLoad n active src block

/-! ### Arming and triggers (R138 to R140) -/

/-- The trigger fires: SH_STATE SWAPPING, the clamps engage, the drain starts (Table 6.4). -/
def Dev.swapFire (d : Dev) (n : Nat) : Dev :=
  if d.sh n == shArmed then
    ((d.sf F.ROOM_PLANE_STAT_SH_STATE n 0 shSwapping).onRoom n (fun r => { r with arm := none, stage := .swapDrain })).clamp n true
  else d

/-- The condition d ≥ 32,768 of R139. -/
def Dev.markAhead (d : Dev) (u m : Nat) : Bool :=
  decide (32768 ≤ ((d.pPred u).toNat / 65536 % 65536 + 65536 - m) % 65536)

/-- ARM (R138, R139). DEDUCED, log entry 16. -/
def Dev.armSwap (d : Dev) (n : Nat) : Dev :=
  if !d.roomOpsUp n then d.roomResult n rNotUp 0
  else if d.roomOpBusy n then d.roomResult n rBusy 0
  else if d.sh n != shReady then d.roomResult n rNoShadow 0
  else
    let trig := d.gf F.ROOM_SWAP_ARM_TRIG n
    let u := d.gf F.ROOM_SWAP_ARM_UNIT n
    let m := d.gf F.ROOM_SWAP_AT_ANGLE n
    let arm : Arm := {
      trig := BitVec.ofNat 2 trig, unit := BitVec.ofNat 2 u
      code := BitVec.ofNat 14 (d.gf F.ROOM_SWAP_ARM_CODE n)
      revEn := d.gb F.ROOM_SWAP_AT_REV_EN n
      rev := BitVec.ofNat 14 (d.gf F.ROOM_SWAP_AT_REV n)
      angle := BitVec.ofNat 16 m, ahead := d.markAhead u m }
    let d := (d.sf F.ROOM_PLANE_STAT_SH_STATE n 0 shArmed).onRoom n (fun r => { r with arm := some arm })
    if trig = 0 then d.swapFire n else d

/-- DISARM (R138). -/
def Dev.disarmSwap (d : Dev) (n : Nat) : Dev :=
  if d.sh n == shArmed then
    ((d.sf F.ROOM_PLANE_STAT_SH_STATE n 0 shReady).onRoom n (fun r => { r with arm := none })).roomResult n rOk 0
  else d.roomResult n (if d.sh n == shSwapping then rBusy else rOk) 0

/-- ABORT_LOAD (R152): only a room load; a full configuration is no operation of the room. -/
def Dev.abortLoad (d : Dev) (n : Nat) : Dev :=
  if (d.room n).load.any (fun l => !l.full) then d.dropLoad n rAbandoned 0 else d.roomResult n rOk 0

/-- DISCARD_SHADOW (R152). -/
def Dev.discardShadow (d : Dev) (n : Nat) : Dev :=
  let st := d.sh n
  if st == shReady || st == shInvalid then (d.emptyShadow n).roomResult n rOk 0
  else d.roomResult n (if st == shEmpty then rOk else rBusy) 0

/-- The cycle's angle condition of an armed swap (R139): fires, and what the next cycle sees.
DEDUCED, log entry 16. -/
def Dev.angleCycle (d : Dev) (n : Nat) (a : Arm) : Dev :=
  let u := a.unit.toNat
  let now := d.markAhead u a.angle.toNat
  let rev := (d.pPred u).toNat / 2 ^ 32 % 2 ^ 14
  let d := d.onRoom n (fun r => { r with arm := some { a with ahead := now } })
  if a.ahead && !now && (!a.revEn || rev == a.rev.toNat) && !d.gb F.EVT_ANG_STAT_STALL u then d.swapFire n else d

/-- SWAP_TRIGGER_ANGLE (R139): an event core cycle in which the room's angle trigger is evaluated.
DEDUCED, log entry 16. -/
def Dev.swapTriggerAngle (d : Dev) (n : Nat) : Dev :=
  match (d.room n).arm with
  | some a => if a.trig == 1 && d.sh n == shArmed && d.evOn then d.angleCycle n a else d
  | none => d

/-- SWAP_TRIGGER_MARK (R140): a MARK with this code fires. -/
def Dev.swapTriggerMark (d : Dev) (code : Nat) : Dev :=
  d.each roomIds (fun d n => match (d.room n).arm with
    | some a => if a.trig == 2 && a.code.toNat == code && d.sh n == shArmed then d.swapFire n else d
    | none => d)

/-! ### Drain (R141, R146) -/

/-- No endpoint slot and no event-port post of the room waits for its response (Table 6.4). -/
def Dev.drained (d : Dev) (n : Nat) : Bool :=
  (List.range 4).all (fun e => ((d.room n).ep e).slots.all (fun x => !x.2.busy)) && d.ev.mesh.all (fun p => p.room != n)

/-- The room's GSR is asserted for the swap. -/
def Dev.swapReset (d : Dev) (n : Nat) : Dev := (d.roomReset n true).onRoom n (fun r => { r with stage := .swapHold })

/-- SWAP_DRAIN_DONE (R141). -/
def Dev.swapDrainDone (d : Dev) (n : Nat) : Dev :=
  if (d.room n).stage = .swapDrain && d.drained n then d.swapReset n else d

/-- The scrubber goes on where it stood after a pause that was no reset (R151); a pass that continuous mode asked for
meanwhile begins. -/
def Dev.scrubResume (d : Dev) (n : Nat) : Dev :=
  if d.gf F.ROOM_SCRUB_CFG_MODE n == 1 && !d.gb F.ROOM_SCRUB_STAT_RUNNING n then
    ((d.sf F.ROOM_SCRUB_STAT_POSITION n 0 0).sf F.ROOM_SCRUB_STAT_PLANE n 0 0).sf F.ROOM_SCRUB_STAT_RUNNING n 0 1
  else d

/-- SWAP_DRAIN_TIMEOUT (R146). A room that was held by the GSR stays so when the swap is abandoned. -/
def Dev.swapDrainTimeout (d : Dev) (n : Nat) : Dev :=
  if (d.room n).stage ≠ .swapDrain then d
  else if d.drained n then d.swapReset n
  else if d.gb F.ROOM_SWAP_CFG_DRAIN_ABORT n then
    let d := d.onRoom n (fun r => { r with clamps := r.gsr, down := r.gsr, stage := .idle })
    ((((d.sf F.ROOM_PLANE_STAT_SH_STATE n 0 shReady).roomResult n rDrainAbort 0).scrubResume n).fault 0x68 n)
  else (d.notice 0x67 n).swapReset n

end Sys2Proof.Machine
end

