-- ==== Sys2Proof/Machine/Placement.lean ====
section
/-! DEFINITION. What events do at their targets and how they are placed (R237 to R252): channels and their
phases, drive profiles, feeds and headroom, the placement step, MARK words and the delivery FIFOs. -/

namespace Sys2Proof.Machine

/-! ### Channels (R240 to R242) -/

/-- Charge of a channel (R240). -/
def Channel.charge (c : Channel) : Nat :=
  match c.phase with
  | .off => 0
  | .pull => c.pullI
  | .hold => c.holdI
  | .driven k => if k = 0 then 0 else if k = 1 then c.holdI else c.pullI

/-- Command code of a channel (R240). -/
def Channel.code (c : Channel) : BitVec 2 :=
  match c.phase with
  | .off => 0
  | .pull => c.pullCode
  | .hold => c.holdCode
  | .driven k => k

/-- A phase ends by its duration: pull-in goes to hold, hold to off. -/
def Channel.endPhase (c : Channel) : Channel :=
  match c.phase, c.phaseEnd with
  | .pull, some e => { c with phase := .hold, phaseEnd := if c.holdTicks = 0 then none else some (e + c.holdTicks) }
  | .hold, some _ => {}
  | _, _ => c

/-- One end that falls at or before `t`: the pulse's, or the phase's. -/
def Channel.oneEnd (c : Channel) (t : Nat) : Channel :=
  if c.pulseEnd.any (· ≤ t) then {} else if c.phaseEnd.any (· ≤ t) then c.endPhase else c

/-- A channel at time `t`: with every end at or before it (R242). -/
def Channel.at (c : Channel) (t : Nat) : Channel := (c.oneEnd t).oneEnd t

/-- Drive profile of a record (R241): its own, or the queue's. -/
def Dev.profileOf (d : Dev) (q : Nat) (w : BitVec 64) : Nat :=
  if recProfile w = 0 then d.gf F.QUEUE_W2_DEF_PROFILE q else recProfile w

/-- A channel without phase, with the values a profile gives it at admission (R241, R242). -/
def Dev.profiled (d : Dev) (q p : Nat) : Channel :=
  { pullCode := BitVec.ofNat 2 (d.gf F.EVT_PROF_DRV_PULL_CODE p)
    holdCode := BitVec.ofNat 2 (d.gf F.EVT_PROF_DRV_HOLD_CODE p)
    pullI := d.gf F.EVT_PROF_CUR_PULL_I p
    holdI := d.gf F.EVT_PROF_CUR_HOLD_I p
    holdTicks := d.gf F.EVT_PROF_DRV_HOLD_DUR p * 2 ^ d.gf F.EVT_PROF_DRV_TSCALE p * 640
    feed := d.gf F.QUEUE_W2_FEED q }

/-- SET at time `t` (Table 11.1). -/
def Dev.setAt (d : Dev) (q p t : Nat) : Channel :=
  let c := d.profiled q p
  let pull := d.gf F.EVT_PROF_DRV_PULL_DUR p * 2 ^ d.gf F.EVT_PROF_DRV_TSCALE p * 640
  if pull = 0 then
    { c with phase := .hold, phaseEnd := if c.holdTicks = 0 then none else some (t + c.holdTicks) }
  else { c with phase := .pull, phaseEnd := some (t + pull) }

/-- Width of a PULSE in ticks (Table 11.1): whole frames for a string. -/
def Dev.pulseWidth (d : Dev) (p arg : Nat) (str : Bool) : Nat :=
  let w := max 1 arg * 2 ^ d.gf F.EVT_PROF_CUR_PW_SCALE p
  if str then (w + 639) / 640 * 640 else w

/-- What a channel `old` becomes when a record of queue `q` acts on it at time `t` (Table 11.1). -/
def Dev.actOn (d : Dev) (q : Nat) (w : BitVec 64) (old : Channel) (t : Nat) (str : Bool) : Channel :=
  let p := d.profileOf q w
  let a := recAction w
  if a = acSet then d.setAt q p t
  else if a = acPulse then { d.setAt q p t with pulseEnd := some (t + d.pulseWidth p (recArg w) str) }
  else if a = acDrive then { d.profiled q p with phase := .driven (BitVec.ofNat 2 (recArg w)) }
  else if a = acToggle then (if old.phase = .off then d.setAt q p t else {})
  else if a = acClear then {}
  else old

/-- Commitments to string steps, by channel. -/
def Dev.commits (d : Dev) : List (Nat × Channel) :=
  d.ev.handed.map (fun x => (x.1, x.2.result)) ++ d.ev.queues.filterMap (fun (q, x) => (x.cur.bind (fun c => c.commit)).map (fun k => (d.qIndex q, k.result)))

/-- The commitment on a string channel. -/
def Dev.commitOn (d : Dev) (c : Nat) : Option Channel := (d.commits.find? (fun x => x.1 == c)).map Prod.snd

/-- A channel at a step: what is committed for it, or the channel with its ends (R242, R258). -/
def Dev.chanAt (d : Dev) (ch : ChanId) (t : Nat) : Channel :=
  match ch with
  | .str c => (d.commitOn c.toNat).getD ((d.chan ch).at t)
  | .pin _ => (d.chan ch).at t

/-- Sum of the charges that channels count against feed `f`. -/
def chargeOf (l : List Channel) (f : Nat) : Nat :=
  (l.map (fun c => if c.feed = f then c.charge else 0)).sum

/-- Charges of feed `f` at time `t`, without commitments (R242, EVT_FEED_f_STAT.MODEL). -/
def Dev.chargeAt (d : Dev) (f t : Nat) : Nat :=
  chargeOf (d.ev.chans.map (fun x => x.2.at t)) f + chargeOf (d.ev.pins.map (fun x => x.2.at t)) f

/-- MODEL_f for string step `step` (R242), with what is committed to it and the ends that fall at or before it. -/
def Dev.model (d : Dev) (f step : Nat) : Nat :=
  let k := d.commits
  let rest := d.ev.chans.filter (fun x => !k.any (fun y => y.1 == x.1))
  chargeOf (rest.map (fun x => x.2.at step)) f + chargeOf (k.map Prod.snd) f +
    chargeOf (d.ev.pins.map (fun x => x.2.at step)) f

/-- Headroom H_f for the string step under decision, or for the cycle, which is the step of a direct pin (R238, R243). -/
def Dev.headroom (d : Dev) (f : Nat) (str : Bool) : Int :=
  if str then (d.budgetFor f d.stepNow : Int) - (d.model f d.stepNow : Int) - (d.ofsFor f d.stepNow : Int)
  else (d.gf F.EVT_FEED_CFG_BUDGET f : Int) - (d.chargeAt f d.now : Int) -
    (if d.gb F.EVT_FEED_STAT_MEAS_VALID f then (d.gf F.EVT_FEED_MEAS_OFS f : Int) else 0)

/-! ### Commitments -/

/-- A string event committed to a frame that has started fires (R239, R244). DESIGN CHOICE, log entry 26. -/
def Dev.fireCommit (d : Dev) (q : Nat) : Dev :=
  match (d.queue q).cur with
  | none => d
  | some c => match c.commit with
    | none => d
    | some k =>
      if k.frame ≤ d.now then
        (d.onChan (.str (BitVec.ofNat 14 (d.qIndex q))) (fun _ => k.result)).fireEvent q c.word k.outcome k.frame
      else d

/-- The channels of records that a stopped queue had handed over change at their frame (R235). -/
def Dev.fireHanded (d : Dev) : Dev :=
  let due := d.ev.handed.filter (fun x => x.2.frame ≤ d.now)
  let d := { d with ev := { d.ev with handed := d.ev.handed.filter (fun x => d.now < x.2.frame) } }
  d.each due (fun d x => d.onChan (.str (BitVec.ofNat 14 x.1)) (fun _ => x.2.result))

/-- Every commitment to a frame that has started fires. -/
def Dev.fireCommits (d : Dev) : Dev := d.fireHanded.each (d.ev.queues.map Prod.fst) Dev.fireCommit

/-! ### Delivery (R249, R250) -/

/-- A delivery word is lost for a room: counted and logged. DEDUCED, log entry 27. -/
def Dev.deliveryLost (d : Dev) (n : Nat) : Dev := (d.cnt F.EVT_EVP_CNT_DROPPED n 0).notice 0x5B n

/-- A room held by the GSR, parked or off takes no delivery words. -/
def Dev.noDelivery (d : Dev) (n : Nat) : Bool := (d.room n).gsr || d.parkedOrOff n

/-- The delivery FIFO of a port has a free place. -/
def Dev.evRoom (d : Dev) (n p : Nat) : Bool := decide (((d.room n).ev p).length < 16)

/-- Put a word into a delivery FIFO. DEDUCED, log entry 29. -/
def Dev.evPush (d : Dev) (n p : Nat) (w : BitVec 64) : Dev := d.onRoom n (fun r => r.setEv p (r.ev p ++ [w]))

/-- A delivery word of Table 11.2. -/
def deliveryWord (kind q action arg t : Nat) : BitVec 64 :=
  BitVec.ofNat 64 (kind * 2 ^ 62 + q * 2 ^ 48 + action * 2 ^ 44 + arg * 2 ^ 30 + t % 2 ^ 30)

/-- The MARK word goes to every room of EVT_MARK_ROOMS (R249). -/
def Dev.markRooms (d : Dev) (q code t : Nat) : Dev :=
  d.each roomIds (fun d n =>
    if !bitOf (if n < 32 then d.gf F.EVT_MARK_ROOMS_LO_ROOMS else d.gf F.EVT_MARK_ROOMS_HI_ROOMS) (n % 32) then d
    else if d.noDelivery n || !d.evRoom n 0 then d.deliveryLost n
    else d.evPush n 0 (deliveryWord 1 q 6 code t))

/-- DELIVERY_TAKE (R250): the fabric takes the oldest word. -/
def execDeliveryTake (n port : Nat) (s : State) : Out :=
  .next (s.onDev (fun d => if d.noDelivery n then d else d.onRoom n (fun r => r.setEv port (r.ev port).tail)))

/-! ### Windows and steps (R220, R237, R238) -/

/-- A record aimed at a string's channel (R270). -/
def Dev.aimsString (d : Dev) (q : Nat) (w : BitVec 64) : Bool := d.qType q == 0 && acSet ≤ recAction w && recAction w ≤ acToggle

/-- A record that changes a direct pin. -/
def Dev.aimsPin (d : Dev) (q : Nat) (w : BitVec 64) : Bool := d.qType q == 1 && acSet ≤ recAction w && recAction w ≤ acToggle

/-- A record that is delivered to a fabric port. -/
def Dev.aimsPort (d : Dev) (q : Nat) (w : BitVec 64) : Bool := d.qType q == 2 && acSet ≤ recAction w && recAction w ≤ acToggle

/-- Compare a BASE 0b00 or 0b10 due time with the present (R220, R221): E, once and for all. -/
def Dev.dueTicks (d : Dev) (q : Nat) (w : BitVec 64) : Int :=
  let due := if recBase w = 2 then (d.queue q).ref.toNat % 2 ^ 30 + recDue w else recDue w
  let x : Nat := (due + 2 ^ 30 - d.now % 2 ^ 30) % 2 ^ 30
  if x < 2 ^ 29 then (d.now : Int) + x else (d.now : Int) + x - 1073741824

/-- Distance of a BASE 0b01 due time (R220). -/
def Dev.dueAngle (d : Dev) (q : Nat) (w : BitVec 64) : Nat :=
  (recDue w + 2 ^ 30 - (d.pPred (d.qUnit q)).toNat / 2 ^ 16 % 2 ^ 30) % 2 ^ 30

/-- The cycle's comparison of a queue's current record. -/
def Dev.compare (d : Dev) (q : Nat) : Dev :=
  match (d.queue q).cur with
  | none => d
  | some c =>
    if c.due.isSome || c.behind then d
    else if recBase c.word != 1 then
      d.onQueue q (fun x => { x with cur := some { c with seen := true, due := some (d.dueTicks q c.word) } })
    else
      let x := d.dueAngle q c.word
      let c' := if x = 0 || (2 ^ 29 ≤ x && c.seen) then { c with seen := true, due := some (d.now : Int) }
        else if 2 ^ 29 ≤ x then { c with seen := true, behind := true }
        else { c with seen := true }
      d.onQueue q (fun y => { y with cur := some c' })

/-- Queues in RUN with a current record. -/
def Dev.running (d : Dev) : List Nat :=
  (d.ev.queues.map Prod.fst).filter (fun q => d.qState q == qRun && (d.queue q).cur.isSome)

/-- W of a record (R238): the first frame start strictly after D for a string, D otherwise. -/
def Dev.windowEnd (d : Dev) (q : Nat) (c : Cur) : Int :=
  match c.due with
  | none => (d.now : Int) - 1
  | some e =>
    let slack : Nat := recSlack c.word * 2 ^ d.gf F.QUEUE_W2_SLACK_SCALE q
    let x : Int := e + slack
    if d.aimsString q c.word then (x / 640 + 1) * 640 else x

/-- The record takes part in this cycle: its due time is reached, and it is not yet committed. -/
def Dev.takesPart (d : Dev) (q : Nat) : Bool :=
  match (d.queue q).cur with
  | none => false
  | some c => c.commit.isNone && (c.behind || c.due.any (fun e => e ≤ (d.now : Int)))

/-- The first step the record takes part in comes after W (R248). A time is reached in the first cycle, of `len`
ticks, that samples it or a later tick. DEDUCED, log entry 27. -/
def Dev.isLate (d : Dev) (len q : Nat) (c : Cur) : Bool :=
  c.behind || (if d.aimsString q c.word then d.windowEnd q c < (d.stepNow : Int) else d.windowEnd q c + len ≤ (d.now : Int))

/-- This is the last cycle of step W. -/
def Dev.isLast (d : Dev) (len q : Nat) (c : Cur) : Bool :=
  if d.aimsString q c.word then d.windowEnd q c == (d.stepNow : Int) && d.stepNow ≤ d.now + len
  else d.windowEnd q c ≤ (d.now : Int) && (d.now : Int) < d.windowEnd q c + len

/-- The channel a record changes, if any. -/
def Dev.target (d : Dev) (q : Nat) (w : BitVec 64) : Option ChanId :=
  if d.aimsString q w then some (.str (BitVec.ofNat 14 (d.qIndex q)))
  else if d.aimsPin q w then some (.pin (BitVec.ofNat 8 (d.qIndex q)))
  else none

/-- The time at which a record would act: the frame start, or now. DEDUCED, log entry 27. -/
def Dev.actTime (d : Dev) (q : Nat) (w : BitVec 64) : Nat := if d.aimsString q w then d.stepNow else d.now

/-- The channel a record would leave, and dI (R244). DEDUCED, log entry 27. -/
def Dev.effect (d : Dev) (q : Nat) (w : BitVec 64) : Channel × Int :=
  match d.target q w with
  | none => ({}, 0)
  | some ch =>
    let t := d.actTime q w
    let old := d.chanAt ch t
    let new := d.actOn q w old t (d.aimsString q w)
    (new, (new.charge : Int) - (old.charge : Int))

/-! ### The placement step (R244 to R248) -/

/-- One event core cycle of placement: the device, the headroom left per feed (2 f for direct pins, 2 f + 1 for the
string step), the events handled, the direct pins decided and the feeds counted in DEFERRED by its own steps, and
whether it has logged source 0x5C for its own step. -/
structure Cycle where
  d : Dev
  head : Map Int
  handled : Nat := 0
  pins : List Nat := []
  deferred : List Nat := []
  noted : Bool := false

/-- Headroom of a feed in the cycle. -/
def Cycle.h (c : Cycle) (f : Nat) (str : Bool) : Int := Map.get (fun _ => 0) c.head (2 * f + b2n str)

/-- Take dI from a feed's headroom. -/
def Cycle.take (c : Cycle) (f : Nat) (str : Bool) (di : Int) : Cycle :=
  { c with head := Map.put (fun _ => 0) c.head (2 * f + b2n str) (c.h f str - di) }

/-- What admitting a record takes: dI in its own step, and for a direct pin its charge at the string step too (R242). -/
def Cycle.takeFor (c : Cycle) (q : Nat) (w : BitVec 64) (new : Channel) (di : Int) : Cycle :=
  let f := c.d.gf F.QUEUE_W2_FEED q
  let str := c.d.aimsString q w
  let c' := c.take f str di
  if !c.d.aimsPin q w then c'
  else
    let old := c.d.chanAt (.pin (BitVec.ofNat 8 (c.d.qIndex q))) c.d.stepNow
    c'.take f true (((new.at c.d.stepNow).charge : Int) - (old.charge : Int))

/-- One event handled: a token and a place in the cycle (R246). DESIGN CHOICE, log entry 34. -/
def Cycle.spend (c : Cycle) : Cycle :=
  { c with d := { c.d with ev := { c.d.ev with tokens := c.d.ev.tokens - 1, stepCount := c.d.ev.stepCount + 1 } }
           handled := c.handled + 1 }

/-- OVER is set, and logged where it was clear (R247). -/
def Dev.setOver (d : Dev) (f : Nat) : Dev :=
  if d.gb F.EVT_FEED_STAT_OVER f then d else (d.sf F.EVT_FEED_STAT_OVER f 0 1).notice 0x58 f

/-- An event is admitted with an outcome: committed to frame F, or fired now (R239, R244, R249). -/
def Dev.admitRecord (d : Dev) (q : Nat) (w : BitVec 64) (outcome : Nat) (new : Channel) : Dev :=
  if d.aimsString q w then
    d.onQueue q (fun x => { x with cur := x.cur.map (fun c =>
      { c with commit := some { frame := d.stepNow, outcome := outcome, result := new } }) })
  else
    let t := d.now
    let d := match d.target q w with
      | some ch => d.onChan ch (fun _ => new)
      | none => d
    let d := if d.aimsPort q w then
        d.evPush (d.qIndex q / 256) (d.qIndex q % 2) (deliveryWord 0 q (recAction w) (recArg w) t) else d
    let d := if recAction w = acMark then (d.swapTriggerMark (recArg w)).markRooms q (recArg w) t else d
    d.fireEvent q w outcome t

/-- Admit in the cycle, with its headroom; a forced or late event may set OVER.
DESIGN CHOICE, log entry 26. -/
def Cycle.admitRecord (c : Cycle) (q : Nat) (w : BitVec 64) (outcome : Nat) (new : Channel) (di : Int) : Cycle :=
  let f := c.d.gf F.QUEUE_W2_FEED q
  let pin := c.d.aimsPin q w
  let idx := c.d.qIndex q
  let str := c.d.aimsString q w
  let c := (c.spend).takeFor q w new di
  let c := { c with d := c.d.admitRecord q w outcome new, pins := if pin then idx :: c.pins else c.pins }
  if outcome != 0 && c.h f str < 0 then { c with d := c.d.setOver f } else c

/-- Mark whether the throughput limit held the record back this cycle. -/
def Dev.setHeld (d : Dev) (q : Nat) (held capped : Bool) : Dev :=
  d.onQueue q (fun x => { x with cur := x.cur.map (fun c => { c with held := held, capped := c.capped || capped }) })

/-- An event made late by the throughput limit: counted once, and logged once per step (R246).
DESIGN CHOICE, log entry 34. -/
def Cycle.capLate (c : Cycle) (q : Nat) (w : BitVec 64) : Cycle :=
  let d := (c.d.cnt F.EVT_RATE_CAP_LATE 0 0).setHeld q true true
  if d.aimsString q w then
    if d.ev.capStep = d.stepNow then { c with d := d }
    else { c with d := { d with ev := { d.ev with capStep := d.stepNow } }.notice 0x5C (d.stepNow % 2 ^ 32) }
  else if c.noted then { c with d := d }
  else { c with d := d.notice 0x5C (d.now % 2 ^ 32), noted := true }

/-- The channel already has its event of this step (R245). -/
def Cycle.decided (c : Cycle) (q : Nat) (w : BitVec 64) : Bool :=
  (c.d.aimsString q w && (c.d.commitOn (c.d.qIndex q)).isSome) || (c.d.aimsPin q w && c.pins.contains (c.d.qIndex q))

/-- A fabric-port event is dropped because its room is not up (R250). -/
def Cycle.portDown (c : Cycle) (q : Nat) (w : BitVec 64) : Cycle :=
  let c := c.spend
  { c with d := (c.d.deliveryLost (c.d.qIndex q / 256)).dropEvent q w c.d.now }

/-- A late event, by its queue's LATE policy (R248). -/
def Cycle.late (c : Cycle) (q : Nat) (r : Cur) : Cycle :=
  let w := r.word
  let pol := c.d.gf F.QUEUE_W0_LATE q
  let port := c.d.aimsPort q w
  let c := if r.held && !r.capped then c.capLate q w else c
  if pol = 2 then { c with d := ((c.d.cnt F.QUEUE_W3_LATE q 0).stopQueue q).notice 0x57 q }
  else if pol = 1 then
    let c := c.spend
    { c with d := (c.d.cnt F.QUEUE_W3_LATE q 0).dropEvent q w c.d.now }
  else if c.decided q w then c
  else if port && !c.d.evRoom (c.d.qIndex q / 256) (c.d.qIndex q % 2) then
    let c := c.spend
    { c with d := ((c.d.cnt F.QUEUE_W3_LATE q 0).deliveryLost (c.d.qIndex q / 256)).dropEvent q w c.d.now }
  else
    let e := c.d.effect q w
    c.admitRecord q w 1 e.1 e.2

/-- State of the string a record aims at. -/
def Dev.aimedState (d : Dev) (q : Nat) : Nat := d.gf F.STG_STAT_STATE (d.qIndex q / 256)

/-- What a string that is not UP does to a record aimed at it (R270, R272): some step if it decides. -/
def Cycle.stringBars (c : Cycle) (len q : Nat) (r : Cur) : Option Cycle :=
  let st := c.d.aimedState q
  let pol := c.d.gf F.STG_CFG_FAULT_POL (c.d.qIndex q / 256)
  if !c.d.aimsString q r.word || st == sUp then none
  else if st == sFault && pol == 0 then some { c with d := c.d.queueFault q 5 }
  else if st == sFault && pol == 1 then some { c with d := c.d.stopQueue q }
  else if c.d.isLate len q r || c.d.isLast len q r then some (c.late q r)
  else some c

/-- An event is held back for lack of headroom: counted once per step and feed (R244).
DESIGN CHOICE, log entry 26. -/
def Cycle.defer (c : Cycle) (f : Nat) (str : Bool) : Cycle :=
  if str then
    if (c.d.feed f).deferredStep = c.d.stepNow then c
    else { c with d := (c.d.cnt F.EVT_FEED_CNT_DEFERRED f 0).onFeed f (fun x => { x with deferredStep := c.d.stepNow }) }
  else if c.deferred.contains f then c
  else { c with d := c.d.cnt F.EVT_FEED_CNT_DEFERRED f 0, deferred := f :: c.deferred }

/-- One record of the loop of R244. DESIGN CHOICE, log entry 26. -/
def Cycle.place (len : Nat) (c : Cycle) (q : Nat) : Cycle :=
  match (c.d.queue q).cur with
  | none => c
  | some r =>
    let w := r.word
    if c.d.qState q != qRun then c
    else if c.d.ev.tokens = 0 || c.handled = 2 then
      if c.d.isLate len q r || c.decided q w then c
      else if c.d.isLast len q r then c.capLate q w
      else { c with d := c.d.setHeld q true false }
    else
      let c := if r.held && !c.d.isLate len q r then { c with d := c.d.setHeld q false false } else c
      let f := c.d.gf F.QUEUE_W2_FEED q
      match c.stringBars len q r with
      | some c => c
      | none =>
        if c.d.aimsPort q w && c.d.noDelivery (c.d.qIndex q / 256) then c.portDown q w
        else if c.d.isLate len q r then c.late q r
        else if c.decided q w then c
        else if c.d.aimsPort q w && !c.d.evRoom (c.d.qIndex q / 256) (c.d.qIndex q % 2) then
          if c.d.isLast len q r then c.late q r else c
        else
          let e := c.d.effect q w
          if e.2 ≤ 0 || e.2 ≤ c.h f (c.d.aimsString q w) then c.admitRecord q w 0 e.1 e.2
          else if c.d.isLast len q r then c.admitRecord q w 2 e.1 e.2
          else c.defer f (c.d.aimsString q w)

/-- Key of the sort order of R244: ascending (W − t) % 2^30, then queue number. -/
def Dev.placeKey (d : Dev) (q : Nat) : Nat :=
  match (d.queue q).cur with
  | none => 0
  | some c => ((d.windowEnd q c - (d.now : Int)) % 1073741824).toNat * 16384 + q

/-- Put a queue in its place in the order. -/
def orderInsert (d : Dev) (q : Nat) : List Nat → List Nat
  | [] => [q]
  | p :: l => if d.placeKey q ≤ d.placeKey p then q :: p :: l else p :: orderInsert d q l

/-- The queues that take part, pass 1 (dI ≤ 0) before pass 2 (R244). -/
def Dev.placeOrder (d : Dev) : List Nat :=
  let l := (d.running.filter d.takesPart).foldr (orderInsert d) []
  let low := fun q => match (d.queue q).cur with
    | some c => decide ((d.effect q c.word).2 ≤ 0)
    | none => true
  l.filter low ++ l.filter (fun q => !low q)

/-- Tokens gained since they were last counted (R246); a new string step starts its own count of events.
DESIGN CHOICE, log entry 34. -/
def Dev.gainTokens (d : Dev) : Dev :=
  let f := d.stepNow
  { d with ev := { d.ev with
      tokens := min 750 (d.ev.tokens + (d.now / 2 - d.ev.tokenAt / 2)), tokenAt := d.now, stepF := f
      stepCount := if d.ev.stepF = f then d.ev.stepCount else 0 } }

/-- Feeds of the queues that take part. -/
def Dev.feedsOf (d : Dev) (l : List Nat) : List Nat := (l.map (fun q => d.gf F.QUEUE_W2_FEED q)).eraseDups

/-- EVT_RATE.PEAK follows the events handled in a string step. -/
def Dev.peak (d : Dev) : Dev := d.sf F.EVT_RATE_PEAK 0 0 (max (d.gf F.EVT_RATE_PEAK) (min 65535 d.ev.stepCount))

/-- PLACEMENT_STEP (R244, R246, R251): one event core cycle. In Hold records are compared and nothing is placed.
DESIGN CHOICE, log entry 26. -/
def Dev.placement (d : Dev) : Dev :=
  if !d.queuesRun then d
  else
    let d := (d.gainTokens).fireCommits
    let d := d.each d.running Dev.compare
    if d.mode = mHold then d
    else
      let len := d.evPeriod
      let l := d.placeOrder
      let put := fun (str : Bool) (m : Map Int) (f : Nat) => Map.put (fun _ => 0) m (2 * f + b2n str) (d.headroom f str)
      let head := (d.feedsOf l).foldl (fun m f => put true (put false m f) f) []
      (l.foldl (Cycle.place len) { d := d, head := head }).d.peak

/-- PLACEMENT_STEP (R244). -/
def execPlacementStep (dt : Nat) (s : State) : Out := .next (s.onDev (fun d => (d.tick dt).placement))

/-! ### Ends without placement (R240) -/

/-- PHASE_END: the duration of a channel's phase has passed. -/
def Dev.phaseEnd (d : Dev) (ch : ChanId) : Dev :=
  if (d.chan ch).phaseEnd.any (· ≤ d.now) && d.mode != mAlarm then d.onChan ch Channel.endPhase else d

/-- PULSE_END: the width of a pulse has passed. -/
def Dev.pulseEnd (d : Dev) (ch : ChanId) : Dev :=
  if (d.chan ch).pulseEnd.any (· ≤ d.now) && d.mode != mAlarm then d.onChan ch (fun _ => {}) else d

/-- PHASE_END (R240). -/
def execPhaseEnd (ch : ChanId) (dt : Nat) (s : State) : Out := .next (s.onDev (fun d => (d.tick dt).fireCommits.phaseEnd ch))

/-- PULSE_END (R240). -/
def execPulseEnd (ch : ChanId) (dt : Nat) (s : State) : Out := .next (s.onDev (fun d => (d.tick dt).fireCommits.pulseEnd ch))

end Sys2Proof.Machine
end

