-- ==== Sys2Proof/Machine/Strings.lean ====
section
/-! DEFINITION. Actuator strings (R259 to R276): forward frames, return frames, link training, faults. -/

namespace Sys2Proof.Machine

/-! ### Forward frames (R262 to R264) -/

/-- One bit of the PRBS-9 (R269): the bit sent and the register after it. -/
def prbsStep (r : BitVec 9) : Bool × BitVec 9 :=
  (r.getLsbD 8, (r <<< 1) ||| BitVec.ofNat 9 (b2n (r.getLsbD 8 ^^ r.getLsbD 4)))

/-- `n` bits of the PRBS, first bit most significant, after those in `acc`. -/
def prbsBits : Nat → BitVec 9 → Nat → Nat × BitVec 9
  | 0, r, acc => (acc, r)
  | n + 1, r, acc =>
    let x := prbsStep r
    prbsBits n x.2 (2 * acc + b2n x.1)

/-- Frame types (Table 12.3). -/
abbrev ftCommand : Nat := 1
abbrev ftTrain : Nat := 2
abbrev ftAllOff : Nat := 3

/-- A forward frame with its CRC (R262, R263). -/
def mkFrameWord (fcnt type flags cmd : Nat) : BitVec 560 :=
  let f : BitVec 560 := BitVec.ofNat 560
    (0xA5C * 2 ^ 548 + fcnt % 256 * 2 ^ 540 + type * 2 ^ 536 + flags * 2 ^ 528 + cmd * 2 ^ 16)
  f ||| (crc16Bits f 547 16).setWidth 560

/-- Channel of a string. -/
def strChan (s c : Nat) : ChanId := .str (BitVec.ofNat 14 (256 * s + c))

/-- The command codes of a string's channels, channel 0 first (R264); in Hold pull-in and boost are sent as
hold (Table 12.4). -/
def Dev.codes (d : Dev) (s t : Nat) : Nat :=
  (List.range 256).foldl (fun a c =>
    let k := ((d.chan (strChan s c)).at t).code
    4 * a + (if d.mode = mHold && 1 < k.toNat then 1 else k.toNat)) 0

/-- FLAGS of a forward frame. -/
def Dev.frameFlags (d : Dev) (s : Nat) (telem : Bool) : Nat :=
  b2n (d.mode == mHold) + 2 * b2n (d.mode == mAlarm) + 4 * b2n (d.gf F.STG_STAT_STATE s == sFault) + 8 * b2n telem

/-- The type of frame a string sends at a frame start (Table 12.4), if any. -/
def Dev.frameType (d : Dev) (s : Nat) : Option Nat :=
  let st := d.gf F.STG_STAT_STATE s
  let x := d.str s
  if !d.gb F.CLK_ISL_STAT_RUN (82 + s / 8) || !d.gb F.STG_CFG_EN s then none
  else if d.ready then
    if st == sUp || st == sFault then some ftCommand
    else if st == sTraining then (if x.train < 5 then some ftTrain else some ftCommand)
    else none
  else if d.mode == mFallback then (if x.fallOff && (st == sUp || st == sFault) then some ftAllOff else none)
  else if d.mode == mAlarm then (if 0 < x.allOff then some ftAllOff else none)
  else none

/-- One string at a frame start. -/
def Dev.stringFrame (d : Dev) (s : Nat) : Dev :=
  let n := d.now / 640
  match d.frameType s with
  | none =>
    let d := d.when (d.mode == mAlarm && d.gf F.STG_STAT_STATE s != sDown) (fun d => d.stringDown s)
    if (d.str s).lastFrame.isSome then d.onStr s (fun x => { x with lastFrame := none }) else d
  | some ty =>
    let telem := ty != ftTrain && n % 16 == 15
    let p := prbsBits 512 (d.str s).prbs 0
    let cmd := if ty = ftCommand then d.codes s d.now else if ty = ftTrain then p.1 else 0
    let f := mkFrameWord n ty (d.frameFlags s telem) cmd
    d.onStr s (fun x => { x with
      lastFrame := some f, sent := ({ n := n, type := ty, step := x.train } :: x.sent).take 10, prbs := if ty = ftTrain then p.2 else x.prbs
      allOff := if d.mode = mAlarm then x.allOff - 1 else x.allOff })

/-- STR_CK_g runs while any string of group `g` sends frames; it is held low otherwise (R261). -/
def Dev.strClock (d : Dev) (g : Nat) : Bool := (List.range 8).any (fun k => (d.str (8 * g + k)).lastFrame.isSome)

/-- MODEL of every feed at a TELEM frame is kept for the measurement that covers it (R271).
DEDUCED, log entry 28. -/
def Dev.saveModels (d : Dev) : Dev :=
  if d.now / 640 % 16 = 15 then
    let m := (List.range 64).foldl (fun m f => Map.put (fun _ => 0) m f (d.chargeAt f d.now)) []
    { d with ev := { d.ev with models := ((d.now / 640, m) :: d.ev.models).take 2 } }
  else d

/-- FORWARD_FRAME (R262, R264): at a multiple of 640 ticks each active string sends a frame.
DEDUCED, log entry 27. -/
def Dev.forwardFrame (d : Dev) : Dev :=
  if d.now % 640 = 0 && d.gb F.EVT_TIME_STAT_COUNTING then
    let d := d.fireCommits.saveModels
    d.each (List.range 64) Dev.stringFrame
  else d

/-- FORWARD_FRAME (R262). -/
def execForwardFrame (dt : Nat) (s : State) : Out := .next (s.onDev (fun d => (d.tick dt).forwardFrame))

/-! ### Return frames (R265 to R267) -/

/-- Fields of a return frame. -/
def retSync (f : BitVec 560) : Nat := (f.extractLsb' 548 12).toNat
def retFcnt (f : BitVec 560) : Nat := (f.extractLsb' 540 8).toNat
def retType (f : BitVec 560) : Nat := (f.extractLsb' 536 4).toNat
def retFlags (f : BitVec 560) : Nat := (f.extractLsb' 528 8).toNat
def retCurrent (f : BitVec 560) : Nat := (f.extractLsb' 512 16).toNat
def retTemp (f : BitVec 560) : Nat := (f.extractLsb' 504 8).toNat
def retBoard (f : BitVec 560) : Nat := (f.extractLsb' 472 32).toNat
def retBflags (f : BitVec 560) : Nat := (f.extractLsb' 456 16).toNat

/-- Status of channel `c` in a type A return. -/
def retStatus (f : BitVec 560) (c : Nat) : Nat := (f.extractLsb' (526 - 2 * c) 2).toNat

/-- A return frame to forward frame `n` is good (R267). DEDUCED, log entry 67. -/
def retGood (f : BitVec 560) (n : Nat) : Bool :=
  let b := n % 16 == 15
  retSync f == 0x3A5 && f.setWidth 16 == crc16Bits f 547 16 && retFcnt f == n % 256 &&
    retType f == (if b then 0xB else 0xA) && retFlags f / 8 == 0 &&
    (!b || (retBflags f / 16 % 16 == 0 && f.extractLsb' 16 440 == 0))

/-- The forward frame whose return ends now (R265). -/
def Dev.returnFor (d : Dev) (s : Nat) : Nat := d.now / 640 - d.gf F.STG_STAT_RDLY s - 1

/-- A reported coil sets its bit, and is logged if it was clear. -/
def Dev.coilReport (d : Dev) (s c : Nat) : Dev :=
  let w := d.gf F.STG_COIL_FAULT s (c / 32)
  if bitOf w (c % 32) then d
  else (d.sf F.STG_COIL_FAULT s (c / 32) (w + 2 ^ (c % 32))).notice 0x5E (256 * s + c)

/-- A good type A frame. -/
def Dev.goodA (d : Dev) (s : Nat) (f : BitVec 560) : Dev :=
  let d := d.each (List.range 16) (fun d k => d.setReg .STG_CHST s k
    (BitVec.ofNat 32 ((List.range 16).foldl (fun v i => v + retStatus f (16 * k + i) * 4 ^ i) 0)))
  d.each ((List.range 256).filter (fun c => 2 ≤ retStatus f c)) (fun d c => d.coilReport s c)

/-- The measurement of a feed from CURRENT of frame `n` (R243, R271). DEDUCED, log entry 28. -/
def Dev.measure (d : Dev) (s n current f : Nat) : Dev :=
  if d.gf F.EVT_FEED_CFG_SRC f == s && d.gb F.EVT_FEED_CFG_MEAS_EN f then
    let model := match d.ev.models.find? (fun x => x.1 == n) with
      | some x => Map.get (fun _ => 0) x.2 f
      | none => d.chargeAt f d.now
    let ofs := min (current - model) (d.gf F.EVT_FEED_CFG_BUDGET f)
    (d.setOfs f ofs).sf F.EVT_FEED_MEAS_MEAS f 0 current
  else d

/-- MEAS_VALID rises for the feeds of a string that is not in fault (R243). -/
def Dev.measValid (d : Dev) (s f : Nat) : Dev :=
  if d.gf F.EVT_FEED_CFG_SRC f == s && d.gb F.EVT_FEED_CFG_MEAS_EN f then d.sf F.EVT_FEED_STAT_MEAS_VALID f 0 1 else d

/-- A good type B frame for forward frame `n`. In FAULT, and DOWN in Alarm, MEAS is taken and not used. -/
def Dev.goodB (d : Dev) (s n : Nat) (f : BitVec 560) : Dev :=
  let d := ((d.sf F.STG_TELEM_CURRENT s 0 (retCurrent f)).sf F.STG_TELEM_TEMP s 0 (retTemp f)).sf
    F.STG_ID_BOARD_ID s 0 (retBoard f)
  let d := d.sf F.STG_BFLT_BFLAGS s 0 (retBflags f)
  let d := if retBflags f != 0 && !(d.str s).bfltNoted then
      (d.onStr s (fun x => { x with bfltNoted := true })).notice 0x5E (256 * s + 0xFF) else d
  let d := d.onStr s (fun x => { x with telemAt := d.now })
  if d.gf F.STG_STAT_STATE s == sFault || d.gf F.STG_STAT_STATE s == sDown then
    d.each (List.range 64) (fun d k =>
      if d.gf F.EVT_FEED_CFG_SRC k == s && d.gb F.EVT_FEED_CFG_MEAS_EN k then d.sf F.EVT_FEED_MEAS_MEAS k 0 (retCurrent f)
      else d)
  else d.each (List.range 64) (fun d k => (d.measure s n (retCurrent f) k).measValid s k)

/-- A good return frame (R267). DEDUCED, log entry 67. -/
def Dev.goodReturn (d : Dev) (s n : Nat) (f : BitVec 560) : Dev :=
  let d := d.onStr s (fun x => { x with bad := 0 })
  let d := if bitOf (retFlags f) 0 then d.cnt F.STG_CNT_FWD_REJ s 0 else d
  let d := if bitOf (retFlags f) 1 && !d.gb F.STG_BFLT_WDOG_SEEN s then
      (d.sf F.STG_BFLT_WDOG_SEEN s 0 1).notice 0x5E (256 * s + 0xFF) else d
  if n % 16 = 15 then d.goodB s n f else d.goodA s f

/-- A bad return frame (R267, R272), of a frame sent in training step `step`. DEDUCED, log entry 67. -/
def Dev.badReturn (d : Dev) (s step : Nat) : Dev :=
  let d := (d.cnt F.STG_CNT_BAD_RX s 0).onStr s (fun x => { x with badInStep := x.badInStep || (step == 5 && x.train == 5) })
  if d.gf F.STG_STAT_STATE s != sUp then d
  else
    let d := d.onStr s (fun x => { x with bad := x.bad + 1 })
    if (d.str s).bad < 3 then d
    else (((d.sf F.STG_STAT_STATE s 0 sFault).onStr s (fun x => { x with bad := 0 })).measFall s).fault 0x5D s

/-- The frame whose return ends now, where R267 judges its return: not a TRAIN frame. DEDUCED, log entry 67. -/
def Dev.returnJudged (d : Dev) (s : Nat) : Option SentFrame :=
  (d.str s).sent.find? (fun x => x.n == d.returnFor s && x.type != ftTrain)

/-- RETURN_FRAME (R267). -/
def Dev.returnFrame (d : Dev) (s : Nat) (f : BitVec 560) : Dev :=
  match d.returnJudged s with
  | none => d
  | some x => if retGood f x.n then d.goodReturn s x.n f else d.badReturn s x.step

/-- RETURN_FRAME (R267). DESIGN CHOICE, log entry 8. -/
def execReturnFrame (n : Nat) (f : BitVec 560) (dt : Nat) (s : State) : Out :=
  .next (s.onDev (fun d => (d.tick dt).returnFrame n f))

/-! ### Training (R268 to R270) -/

/-- Result of a training. -/
def Dev.trainResult (d : Dev) (s result step : Nat) : Dev :=
  ((d.sf F.STG_STAT_DONE s 0 1).sf F.STG_STAT_RESULT s 0 result).sf F.STG_STAT_FAIL_STEP s 0 step

/-- STRING_TRAIN (R268). -/
def Dev.stringTrain (d : Dev) (s : Nat) : Dev :=
  if d.gf F.STG_STAT_STATE s == sTraining || !d.gb F.STG_CFG_EN s || !d.ready then d.trainResult s 1 0
  else d.startTraining s

/-- STRING_TRAIN (R268). -/
def execStringTrain (n : Nat) (s : State) : Out := .next (s.onDev (fun d => d.stringTrain n))

/-- Runs of error-free phases among 16, as first phase and length; `cur` is the run under way. -/
def phaseRuns (m : BitVec 16) : Nat → Nat → Nat → List (Nat × Nat)
  | 0, start, len => if len = 0 then [] else [(start, len)]
  | n + 1, start, len =>
    if m.getLsbD (15 - n) then phaseRuns m n (if len = 0 then 15 - n else start) (len + 1)
    else (if len = 0 then [] else [(start, len)]) ++ phaseRuns m n 0 0

/-- The phases that are a centre of a longest run (Table 12.6): two where it has even length. -/
def phaseCentres (m : BitVec 16) : List Nat :=
  let l := phaseRuns m 16 0 0
  let best := (l.map Prod.snd).foldl max 0
  if best < 6 then []
  else (l.filter (fun r => r.2 == best)).flatMap (fun r =>
    if best % 2 = 1 then [r.1 + best / 2] else [r.1 + best / 2 - 1, r.1 + best / 2])

/-- One of several phases that the spec does not choose between: a free choice. -/
def Dev.choosePhase (d : Dev) (l : List Nat) : Nat × Dev :=
  if l.length ≤ 1 then (l.headD 0, d)
  else
    let f := d.takeFree
    (l.getD (f.1.toNat % l.length) 0, f.2)

/-- A training step fails (R269). -/
def Dev.trainFail (d : Dev) (s step : Nat) : Dev :=
  let st := if (d.str s).fromFault then sFault else sDown
  (((d.onStr s (fun x => { x with train := 0, bad := 0 })).sf F.STG_STAT_STATE s 0 st).trainResult s 2 step).fault
    0x5F (16 * s + step)

/-- The training goes on with a step. -/
def Dev.trainNext (d : Dev) (s step : Nat) : Dev := d.onStr s (fun x => { x with train := step, badInStep := false })

/-- TRAIN_STEP_DONE (R269, Table 12.6): what the engine has seen, for the step under way.
DEDUCED, log entry 67. -/
def Dev.trainStepDone (d : Dev) (s : Nat) (o : TrainObs) : Dev :=
  if d.gf F.STG_STAT_STATE s != sTraining then d
  else match o, (d.str s).train with
    | .lock, 1 => d.trainNext s 2
    | .phase m, 2 =>
      if (phaseCentres m).isEmpty then d.trainFail s 2
      else
        let p := d.choosePhase (phaseCentres m)
        (p.2.sf F.STG_STAT_PHASE s 0 p.1).trainNext s 3
    | .align none, 3 => d.trainFail s 3
    | .align (some a), 3 =>
      if a.1.val = 0 then d
      else ((d.sf F.STG_STAT_RDLY s 0 a.1.val).sf F.STG_STAT_OFFSET s 0 a.2.val).trainNext s 4
    | .verify e, 4 => if e then d.trainFail s 4 else d.trainNext s 5
    | .ident, 5 =>
      if (d.str s).badInStep || (d.gb F.STG_CFG_ID_LOCK s && d.gf F.STG_ID_BOARD_ID s != d.gf F.STG_ID_EXP_ID_EXP s) then
        d.trainFail s 5
      else ((d.onStr s (fun x => { x with train := 0, bad := 0 })).sf F.STG_STAT_STATE s 0 sUp).trainResult s 0 0
    | _, _ => d

/-- TRAIN_STEP_DONE (R269). DESIGN CHOICE, log entry 8. -/
def execTrainStepDone (n : Nat) (o : TrainObs) (s : State) : Out := .next (s.onDev (fun d => d.trainStepDone n o))

/-! ### Registers (R261, R273, R276) -/

/-- Island 82 + g is set to 437.5 MHz from the time base's PLL (R261). -/
def Dev.stringClockOk (d : Dev) (s : Nat) : Bool :=
  let n := 82 + s / 8
  let ref := d.gf F.EVT_TIME_CFG_REF_SEL
  d.gf F.CLK_ISL_CTRL_REF_SEL n == ref && (match d.pllOut ref 1 with
    | none => false
    | some f => (f.scale (d.gf F.CLK_ISL_CTRL_MULT n) 64).eqK 437500)

/-- Every channel of the string is off, and nothing is committed to one (R273). -/
def Dev.channelsOff (d : Dev) (s : Nat) : Bool :=
  d.ev.chans.all (fun x => x.1 / 256 != s || (x.2.at d.now).phase == .off) && d.commits.all (fun x => x.1 / 256 != s)

/-- EN goes to 0: the string's frames stop and it is DOWN (R273). -/
def Dev.stringStop (d : Dev) (s : Nat) : Dev :=
  ((d.sf F.STG_CFG_EN s 0 0).stringDown s).onStr s (fun x => { x with allOff := 0 })

/-- A write of STG_s_CFG: whether a field was refused. -/
def Dev.stgCfgWrite (d : Dev) (s : Nat) (v : Word) : Dev × Bool :=
  let d := (d.sf F.STG_CFG_AUTO_TRAIN s 0 (bits v 30 1)).sf F.STG_CFG_ID_LOCK s 0 (bits v 29 1)
  let badPol := bits v 24 2 == 3
  let d := if badPol then d else d.sf F.STG_CFG_FAULT_POL s 0 (bits v 24 2)
  if bits v 31 1 = d.gf F.STG_CFG_EN s then (d, badPol)
  else if bits v 31 1 = 1 then
    if d.stringClockOk s then (d.sf F.STG_CFG_EN s 0 1, badPol) else (d, true)
  else if d.channelsOff s then (d.stringStop s, badPol)
  else (d, true)

/-- Address of STG_s_CFG. -/
def stgAddr (s : Nat) : Nat := 0xA0000 + 0x100 * s

/-- STRING_DISABLE (R273): STG_s_CFG written with EN at 0 and the other fields unchanged. -/
def execStringDisable (n : Nat) (s : State) : Out :=
  .next (s.onDev (fun d => Dev.refuseIf (d.stgCfgWrite n (d.reg .STG_CFG n &&& 0x7FFFFFFF)) 0x75 (stgAddr n)))

/-- A key other than 0xC5: the write is ignored and logged with source 0x09. -/
def Dev.keyed (d : Dev) (v : Word) (f : Dev → Dev) : Dev := if bits v 24 8 = 0xC5 then f d else d.noticeFree 0x09

/-- A write of STG_s_CTRL (R276). -/
def Dev.stgCtrlWrite (d : Dev) (s : Nat) (v : Word) : Dev :=
  d.keyed v (fun d =>
    let op := bits v 0 2
    if op = 1 then d.stringTrain s else if op = 0 then d else d.notice 0x75 (stgAddr s + 4))

/-- STG_s_BFLT as read (R276): BFLAGS is cleared, and the next nonzero report logs again. -/
def Dev.bfltRead (d : Dev) (s : Nat) : Dev :=
  (d.sf F.STG_BFLT_BFLAGS s 0 0).onStr s (fun x => { x with bfltNoted := false })

end Sys2Proof.Machine
end

