-- ==== Sys2Proof/Machine/HostBus.lean ====
section
/-! DEFINITION. The host bus target (R277 to R288), the reflex crossbar (R289 to R297), and what follows a
command at once in other units: neighbour channels at a room's reset (R73) and the host's causes (R285). -/

namespace Sys2Proof.Machine

/-! ### Windows (R280, R281) -/

/-- The target answers the bus: powered and EN (R286). -/
def State.hbOn (s : State) : Bool := s.dev.gb F.HBT_CFG_EN

/-- An edge of HB_CLK has been seen (R286). -/
def State.hbEdge (s : State) : State :=
  if s.dev.mode = mOff || s.dev.mode = mRamp then s else s.onDev (fun d => d.sf F.HBT_STAT_CLK_RUN 0 0 1)

/-- Larder words of the mirrored region (R281). -/
def Dev.mirWords (d : Dev) : Nat := 2 ^ (d.gf F.HBT_CFG_MIR_SIZE + 8)

/-- Set bits of HB_INT_STAT. -/
def HostBus.cause (h : HostBus) (b : Nat) : HostBus := { h with intStat := h.intStat ||| BitVec.ofNat 32 (2 ^ b) }

/-- HB_INT_N is low (R285). -/
def State.hbIntPin (s : State) : Bool := s.hbOn && (s.hb.intStat &&& s.hb.intEn) != 0

/-- A status word (Table 13.4). Copies from other islands are read with an age of 0. -/
def State.hbStatus (s : State) (k : Nat) : Word :=
  if k = 0 then 0x213100D3
  else if k = 1 then s.dev.reg .GBL_MODE
  else if k = 2 then s.dev.ev.time.setWidth 32
  else if k = 3 then s.hb.intStat
  else if k = 4 then s.hb.intEn
  else if k = 5 then s.hb.accepted.setWidth 32 <<< 16 ||| s.hb.refused.setWidth 32
  else if k = 6 then s.hb.postLast
  else if k = 7 then BitVec.ofNat 32 (s.dev.gf F.HBT_CFG_MIR_EN * 2 ^ 31 + s.dev.gf F.HBT_STAT_PASSES)
  else if k = 8 then s.hb.age
  else if k = 9 then s.hb.drops.setWidth 32 <<< 16 ||| s.hb.unmapped.setWidth 32
  else if k = 10 then s.dev.reg .RFX_FIRED_LO
  else if k = 11 then s.dev.reg .RFX_FIRED_HI
  else 0

/-- What a host read returns (R280, R281). -/
def State.hbValue (s : State) (a : Nat) : Word :=
  if a < 0x4000 then
    if s.dev.gb F.HBT_CFG_MIR_EN && a < 2 * s.dev.mirWords then Map.get (fun _ => 0) s.hb.mirror a else 0
  else if a < 0x4010 then s.hbStatus (a - 0x4000)
  else 0

/-- A host read on one bus edge. -/
def State.hbRead (s : State) (a : Nat) : State :=
  let s := s.hbEdge
  if s.hbOn then { s with hb := { s.hb with out := s.hbValue a } } else s

/-- A write to an unmapped address (R280). -/
def State.hbUnmapped (s : State) : State :=
  ({ s with hb := { s.hb with unmapped := s.hb.unmapped + 1 } }).onDev (fun d => d.noticeFree 0x70)

/-- A host write to the mirror window (R281, R283). -/
def State.mirrorWrite (s : State) (a : Nat) (v : Word) : State :=
  if !s.dev.gb F.HBT_CFG_MIR_EN then s
  else if 2 * s.dev.mirWords ≤ a then s.hbUnmapped
  else if 16 ≤ s.hb.buffer.length then
    ({ s with hb := { s.hb with drops := s.hb.drops + 1 }.cause 2 }).onDev (fun d => d.noticeFree 0x70)
  else
    { s with hb := { s.hb with
        mirror := Map.put (fun _ => 0) s.hb.mirror a v
        buffer := s.hb.buffer ++ [(2 * s.dev.gf F.HBT_CFG_MIR_BASE + a, v)] } }

/-- A host write to a status word (Table 13.4). DEDUCED, log entry 21. -/
def State.statusWrite (s : State) (k : Nat) (v : Word) : State :=
  if k = 3 then { s with hb := { s.hb with intStat := s.hb.intStat &&& ~~~v } }
  else if k = 4 then { s with hb := { s.hb with intEn := v &&& 0x3F } }
  else if k = 6 then (if v.getLsbD 31 then { s with hb := { s.hb with postLast := 0 } } else s)
  else s

/-! ### Posts (R254, R284) -/

/-- A post is refused with a reason (R284). DEDUCED, log entry 30. -/
def HostBus.refusePost (h : HostBus) (q reason : Nat) : HostBus :=
  ({ h with
     refused := h.refused + 1
     postLast := if h.postLast.getLsbD 31 then h.postLast else BitVec.ofNat 32 (0x80000000 + reason * 65536 + q) }).cause 1

/-- An unpaired half: reason 2, and a NOTICE of source 0x5A (R254, R284). DEDUCED, log entry 30. -/
def State.unpaired (s : State) (q : Nat) : State :=
  ({ s with hb := s.hb.refusePost q 2 }).onDev (fun d => d.notice 0x5A (0x7F0000 + q))

/-- A write of half 0 (R284). -/
def State.postHalf0 (s : State) (q : Nat) (v : Word) : State :=
  let s := match s.hb.latch with
    | none => s
    | some l => s.unpaired l.1
  { s with hb := { s.hb with latch := some (q, v) } }

/-- A write of half 1 (R284). DEDUCED, log entry 30. -/
def State.postHalf1 (s : State) (q : Nat) (v : Word) : State :=
  match s.hb.latch with
  | none => s.unpaired q
  | some l =>
    if l.1 ≠ q then s.unpaired q
    else
      let s := { s with hb := { s.hb with latch := none } }
      if 16 ≤ s.hb.posts.length then
        ({ s with hb := s.hb.refusePost q 3 }).onDev (fun d => d.noticeFree 0x70)
      else if !s.dev.evOn then
        ({ s with hb := s.hb.refusePost q 4 }).onDev (fun d => d.noticeFree 0x70)
      else { s with hb := { s.hb with posts := s.hb.posts ++ [(q, v ++ l.2)] } }

/-- A host write on one bus edge (Table 13.3). -/
def State.hbWrite (s : State) (a : Nat) (v : Word) : State :=
  let s := s.hbEdge
  if !s.hbOn then s
  else if a < 0x4000 then s.mirrorWrite a v
  else if a < 0x4010 then s.statusWrite (a - 0x4000) v
  else if a < 0x8000 then s.hbUnmapped
  else if a % 2 = 0 then s.postHalf0 ((a - 0x8000) / 2) v
  else s.postHalf1 ((a - 0x8000) / 2) v

/-- HB_MIRROR_READ (R281). -/
def execHbMirrorRead (a : BitVec 16) (s : State) : Out := .next (s.hbRead a.toNat)

/-- HB_MIRROR_WRITE (R283). -/
def execHbMirrorWrite (a : BitVec 16) (v : Word) (s : State) : Out := .next (s.hbWrite a.toNat v)

/-- HB_STATUS_READ (R285). -/
def execHbStatusRead (a : BitVec 16) (s : State) : Out := .next (s.hbRead a.toNat)

/-- HB_STATUS_WRITE (R285). -/
def execHbStatusWrite (a : BitVec 16) (v : Word) (s : State) : Out := .next (s.hbWrite a.toNat v)

/-- HB_POST_HALF0 (R284). -/
def execHbPostHalf0 (q : BitVec 14) (v : Word) (s : State) : Out := .next (s.hbWrite (0x8000 + 2 * q.toNat) v)

/-- HB_POST_HALF1 (R284). -/
def execHbPostHalf1 (q : BitVec 14) (v : Word) (s : State) : Out := .next (s.hbWrite (0x8001 + 2 * q.toNat) v)

/-- HB_UNMAPPED_WRITE (R280). -/
def execHbUnmappedWrite (a : BitVec 16) (v : Word) (s : State) : Out := .next (s.hbWrite a.toNat v)

/-- HB_CLK_STOPPED (R286). -/
def execHbClkStopped (s : State) : Out := .next (s.onDev (fun d => d.sf F.HBT_STAT_CLK_RUN 0 0 0))

/-! ### Refresh and write-through (R282, R283) -/

/-- Requester ID of the host bus at port G. -/
abbrev hbId : Nat := 69

/-- The mirror is refreshed (R282): on an edge of HB_CLK, with MIR_EN at 1. -/
def State.mirRuns (s : State) : Bool := s.hbEdge.dev.gb F.HBT_CFG_MIR_EN && s.hbEdge.dev.gb F.HBT_STAT_CLK_RUN

/-- MIR_GAP × 16 ticks have passed since the end of the pass before; while device time stands still the gap is not
measured. DEDUCED, log entry 31. -/
def State.gapOver (s : State) : Bool :=
  match s.hb.passEnd with
  | none => true
  | some t => !s.dev.gb F.EVT_TIME_STAT_COUNTING || decide (16 * s.dev.gf F.HBT_MIR_GAP_GAP ≤ (s.dev.ev.time - t).toNat)

/-- MIRROR_PASS_START (R282). -/
def execMirrorPassStart (s : State) : Out :=
  .next (if s.mirRuns && s.hb.pass.isNone && s.gapOver then
    { s.hbEdge with hb := { s.hb with pass := some 0, passStart := s.dev.ev.time.setWidth 32 } } else s.hbEdge)

/-- A mirror failure: MIR_FAIL, and a NOTICE with the word address. DEDUCED, log entry 31. -/
def State.mirFail (s : State) (wa : Nat) : State :=
  ({ s with hb := s.hb.cause 5 }).onDev (fun d => d.notice 0x71 wa)

/-- Store refresh data from word `i` of the region on, but for words with a write-through entry (R283). -/
def HostBus.refresh (h : HostBus) (base i : Nat) : List (BitVec 64) → HostBus
  | [] => h
  | w :: l =>
    let h' := if h.buffer.any (fun e => e.1 / 2 == base + i) then h
      else { h with mirror := Map.put (fun _ => 0) (Map.put (fun _ => 0) h.mirror (2 * i) (halfOf w 0)) (2 * i + 1) (halfOf w 1) }
    h'.refresh base (i + 1) l

/-- The pass has read `i` words of the region: it goes on, or ends (R282). -/
def State.passAt (s : State) (i : Nat) : State :=
  if i < s.dev.mirWords then { s with hb := { s.hb with pass := some i } }
  else ({ s with hb := { s.hb with pass := none, age := s.hb.passStart, passEnd := some s.dev.ev.time } }).onDev
    (fun d => d.cntWrap F.HBT_STAT_PASSES 0 0)

/-- MIRROR_REFRESH_DATA (R282): one request of the pass is answered. DEDUCED, log entry 31. -/
def State.mirrorRefresh (s : State) (us : List (BitVec 72)) : State :=
  match s.hb.pass with
  | none => s
  | some i =>
    let base := s.dev.gf F.HBT_CFG_MIR_BASE
    let wa := base + i
    let n := min (s.dev.gf F.ARB_REQ_CFG_BURST (2 * larQuad wa + 1) hbId + 1) (s.dev.mirWords - i)
    if s.dev.larWaits wa hbId then s else
    let s := s.onDev (fun d => d.larNow hbId { op := opRead, addr := wa, len := n - 1 } us)
    let s := if s.dev.lar.answer.status = stOk then { s with hb := s.hb.refresh base i s.dev.lar.answer.data }
      else s.mirFail wa
    s.passAt (i + n)

/-- MIRROR_REFRESH_DATA (R282). -/
def execMirrorRefreshData (us : List (BitVec 72)) (s : State) : Out :=
  .next (if s.mirRuns then s.hbEdge.mirrorRefresh us else s.hbEdge)

/-- WRITE_THROUGH_DONE (R283): the oldest entry is written by read-modify-write (R157, R159), once a frozen arbiter
lets it. DEDUCED, log entry 31. -/
def State.writeThrough (s : State) (u : BitVec 72) : State :=
  match s.hb.buffer with
  | [] => s
  | e :: l =>
    let wa := e.1 / 2
    if s.dev.larWaits wa hbId then s else
    let s := ({ s with hb := { s.hb with buffer := l } }).onDev (fun d => d.larHalf wa (e.1 % 2) e.2 hbId u)
    if s.dev.lar.answer.status = stOk then s else s.mirFail wa

/-- WRITE_THROUGH_DONE (R283). -/
def execWriteThroughDone (u : BitVec 72) (s : State) : Out :=
  .next (if s.dev.gb F.HBT_STAT_CLK_RUN then s.writeThrough u else s)

/-- A write of HBT_CFG (R288): whether a field was refused. The mirror follows MIR_EN in `State.sync`. -/
def Dev.hbtCfgWrite (d : Dev) (v : Word) : Dev × Bool :=
  let on := d.gb F.HBT_CFG_MIR_EN
  let size := bits v 21 3
  let base := bits v 0 21
  let d := (d.sf F.HBT_CFG_EN 0 0 (bits v 31 1)).sf F.HBT_CFG_MIR_EN 0 0 (bits v 30 1)
  let badS := size != d.gf F.HBT_CFG_MIR_SIZE && (on || 5 < size)
  let d := if badS then d else d.sf F.HBT_CFG_MIR_SIZE 0 0 size
  let badB := base != d.gf F.HBT_CFG_MIR_BASE && (on || base % d.mirWords != 0)
  let d := if badB then d else d.sf F.HBT_CFG_MIR_BASE 0 0 base
  (d, badS || badB)

/-! ### Reflex crossbar (R289 to R294) -/

/-- States of a reflex cell. -/
abbrev xDisarmed : Nat := 0
abbrev xArmed : Nat := 1
abbrev xFired : Nat := 2

/-- The crossbar runs: every mode but Off and Supply ramp, with its island clocked (R295).
DESIGN CHOICE, log entry 32. -/
def Dev.rfxOn (d : Dev) : Bool := d.mode != mOff && d.mode != mRamp && d.gb F.CLK_ISL_STAT_RUN 99

/-- Level of input `i` at the crossbar (R289): 0 while the bank's receiver is disabled, with VCCIO at or below 0.6 V,
STD 0 or MISMATCH 1. -/
def Dev.rfxLevel (d : Dev) (lv : BitVec 64) (i : Nat) : Bool :=
  lv.getLsbD i && d.bankPowered (i / 32) && d.gf F.IOB_CFG_STD (i / 32) != 0 && !d.gb F.IOB_STAT_MISMATCH (i / 32)

/-- SEL of a cell, and RFX_IN_POL. -/
def Dev.rfxSel (d : Dev) (j : Nat) : Nat := d.gf F.RFX_CELL_SEL_LO_SEL j + d.gf F.RFX_CELL_SEL_HI_SEL j * 2 ^ 32
def Dev.rfxPol (d : Dev) : Nat := d.gf F.RFX_IN_POL_LO_POL + d.gf F.RFX_IN_POL_HI_POL * 2 ^ 32

/-- The active inputs that cell `j` selects, ascending (R290). -/
def Dev.rfxActive (d : Dev) (j : Nat) (lv : BitVec 64) : List Nat :=
  (List.range 64).filter (fun i => bitOf (d.rfxSel j) i && d.rfxLevel lv i == bitOf d.rfxPol i)

/-- The levels at the inputs are now `lv`. -/
def Dev.rfxIn (d : Dev) (lv : BitVec 64) : Dev := { d with pin := { d.pin with rfxIn := lv } }

/-- Edges in a row on which ARMED cell `j` has seen an active input (R290). -/
def Dev.rfxRun (d : Dev) (j : Nat) : Nat := Map.get (fun _ => 0) d.pin.rfxRun j
def Dev.setRfxRun (d : Dev) (j k : Nat) : Dev :=
  { d with pin := { d.pin with rfxRun := Map.put (fun _ => 0) d.pin.rfxRun j k } }

/-- Set or clear a bit of RFX_FIRED. -/
def Dev.setFired (d : Dev) (j : Nat) (v : Bool) : Dev :=
  d.sf ⟨if j < 32 then .RFX_FIRED_LO else .RFX_FIRED_HI, j % 32, 1⟩ 0 0 (b2n v)

/-- A cell fires, by input `i` (R294); FIRE_TIME lies 0 to 2 ticks back. DESIGN CHOICE, log entry 32. -/
def Dev.rfxFire (d : Dev) (j i : Nat) : Dev :=
  let f := d.takeFree
  let d := f.2
  let t := (d.ev.time - BitVec.ofNat 64 (f.1.toNat % 3)).toNat % 2 ^ 30
  let d := ((d.sf F.RFX_CELL_STAT_STATE j 0 xFired).sf F.RFX_CELL_STAT_FIRED_BY j 0 i).setFired j true
  ((((d.sf F.RFX_CELL_TIME_FIRE_TIME j 0 t).cntWrap F.RFX_CELL_STAT_FIRES j 0).notice 0x72 (64 * j + i))).leaveSafe
    (fun k => k == 64 * (2 + j / 32) + j % 32)

/-! ### Pins in their safe state (R68) -/

/-- The facing room is held by the GSR, parked or off (R405). -/
def Dev.bankHeld (d : Dev) (b : Nat) : Bool := (d.room (facingRoom b)).gsr || d.parkedOrOff (facingRoom b)

/-- The enabled direct event pin that names pin `m` of bank `b` (R252). -/
def Dev.eventPinOn (d : Dev) (b m : Nat) : Option Nat :=
  (List.range 256).find? (fun n => d.gb F.EVT_DPIN_EN n && d.gf F.EVT_DPIN_BANK n == b && d.gf F.EVT_DPIN_PIN n == m)

/-- The reflex output at pin `m` of bank `b` (R289). -/
def reflexOn (b m : Nat) : Option Nat := if (b = 2 ∨ b = 3) ∧ m < 32 then some (32 * (b - 2) + m) else none

/-- The FIRED reflex cell that drives a pin (R290). -/
def Dev.firedAt (d : Dev) (b m : Nat) : Option Nat :=
  (reflexOn b m).filter (fun j => d.gf F.RFX_CELL_STAT_STATE j == xFired)

/-- The event pin that drives a pin (R252): none in Alarm, Fallback load and Dormant, and no reflex output in Deep hold
(R295). -/
def Dev.eventDrive (d : Dev) (b m : Nat) : Option Nat :=
  (d.eventPinOn b m).filter (fun _ => d.mode != mAlarm && d.mode != mFallback && d.mode != mDormant &&
    !(d.mode == mDeep && (reflexOn b m).isSome))

/-- A pin is in its safe state (R68, R375, R405). -/
def Dev.pinSafe (d : Dev) (b m : Nat) : Bool :=
  d.mode != mOff && d.mode != mRamp && d.bankPowered b && d.gf F.IOB_CFG_STD b != 0 && !d.gb F.IOB_STAT_MISMATCH b &&
    d.bankHeld b && (d.firedAt b m).isNone && (d.eventDrive b m).isNone

/-- REFLEX_FIRE (R290): one edge of the crossbar's clock for cell `j`. An ARMED cell that sees an active input counts the
edge and fires on the last of FILT + 1 edges in a row; on an edge that sees none it counts anew. -/
def State.reflexFire (s : State) (j : Nat) (lv : BitVec 64) : State :=
  let s := s.onDev (fun d => d.rfxIn lv)
  if !s.dev.rfxOn || s.dev.gf F.RFX_CELL_STAT_STATE j != xArmed then s
  else match s.dev.rfxActive j lv with
    | [] => s.onDev (fun d => d.setRfxRun j 0)
    | i :: _ =>
      if s.dev.gf F.RFX_CELL_CTRL_FILT j ≤ s.dev.rfxRun j then
        { s with dev := (s.dev.rfxFire j i).setRfxRun j 0, hb := s.hb.cause 0 }
      else s.onDev (fun d => d.setRfxRun j (d.rfxRun j + 1))

/-- REFLEX_FIRE (R290). DESIGN CHOICE, log entry 32. -/
def execReflexFire (j : Nat) (lv : BitVec 64) (dt : Nat) (s : State) : Out :=
  .next ((s.onDev (fun d => d.tick dt)).reflexFire j lv)

/-- Address of RFX_CELL_j_SEL_LO. -/
def rfxAddr (j : Nat) : Nat := 0xB0100 + 0x20 * j

/-- A clear of cell `j` is refused: it is FIRED and a selected input is active (R291). -/
def Dev.rfxClearRefused (d : Dev) (j : Nat) : Bool :=
  d.gf F.RFX_CELL_STAT_STATE j == xFired && !(d.rfxActive j d.pin.rfxIn).isEmpty

/-- CLEAR written 1 (R291), with ARM as the same write leaves it. -/
def Dev.rfxClear (d : Dev) (j : Nat) : Dev :=
  if d.gf F.RFX_CELL_STAT_STATE j != xFired then d
  else if d.rfxClearRefused j then d.sf F.RFX_CELL_STAT_CLR_REFUSED j 0 1
  else (d.sf F.RFX_CELL_STAT_STATE j 0 (if d.gb F.RFX_CELL_CTRL_ARM j then xArmed else xDisarmed)).setFired j false

/-- ARM written (R292); an ARMED cell that is disarmed counts its edges anew. -/
def Dev.rfxArm (d : Dev) (j v : Nat) : Dev :=
  let d := d.sf F.RFX_CELL_CTRL_ARM j 0 v
  let st := d.gf F.RFX_CELL_STAT_STATE j
  if v = 1 && st == xDisarmed then d.sf F.RFX_CELL_STAT_STATE j 0 xArmed
  else if v = 0 && st == xArmed then (d.sf F.RFX_CELL_STAT_STATE j 0 xDisarmed).setRfxRun j 0
  else d

/-- Whether a cell is ARMED or FIRED (R292). -/
def Dev.rfxBusy (d : Dev) (j : Nat) : Bool := d.gf F.RFX_CELL_STAT_STATE j != xDisarmed

/-- A write of RFX_CELL_j_CTRL: whether a field was refused. A refused clear leaves the write no other effect (R291). -/
def Dev.rfxCtrlWrite (d : Dev) (j : Nat) (v : Word) : Dev × Bool :=
  if v.getLsbD 30 && d.rfxClearRefused j then (d.rfxClear j, false) else
  let busy := d.rfxBusy j
  let r := Dev.qField (d, false) j F.RFX_CELL_CTRL_FIRE_VAL (bits v 29 1) busy
  let r := Dev.qField r j F.RFX_CELL_CTRL_FILT (bits v 24 4) busy
  let d := r.1.rfxArm j (bits v 31 1)
  (if v.getLsbD 30 then d.rfxClear j else d, r.2)

/-- A write of RFX_IN_POL: bits of inputs that an ARMED or FIRED cell selects are refused (R292). -/
def Dev.rfxPolWrite (d : Dev) (f : Fld) (hi : Nat) (v : Word) : Dev × Bool :=
  let sel := ((List.range 64).filter d.rfxBusy).foldl (fun m j => m ||| (d.rfxSel j / 2 ^ (32 * hi) % 2 ^ 32)) 0
  let old := d.reg f.reg
  let lock := BitVec.ofNat 32 sel
  let new := (v &&& ~~~lock) ||| (old &&& lock)
  (d.setReg f.reg 0 0 new, new != v)

/-- REFLEX_CLEAR (R291). -/
def execReflexClear (j : Nat) (lv : BitVec 64) (s : State) : Out :=
  .next (s.onDev (fun d => (d.rfxIn lv).rfxClear j))

/-- REFLEX_ARM (R292). -/
def execReflexArm (j : Nat) (s : State) : Out := .next (s.onDev (fun d => d.rfxArm j 1))

/-- REFLEX_DISARM (R292). -/
def execReflexDisarm (j : Nat) (s : State) : Out := .next (s.onDev (fun d => d.rfxArm j 0))

/-! ### What follows a command at once -/

/-- Neighbour channels of the rooms that have entered or left reset since `old` (R73).
DEDUCED, log entry 71. -/
def State.syncRooms (s : State) (old : Dev) : State :=
  roomIds.foldl (fun s n =>
    let was := (old.room n).gsr
    let is := (s.dev.room n).gsr
    if !was && is then s.flushRoom n else if was && !is then s.freshTx n else s) s

/-- The host bus target after a change of the device (R281, R285, R286): reset in Off and Supply ramp, the
mirror cleared when MIR_EN changes, and the causes MODE and ALARM. -/
def State.syncHost (s : State) (old : Dev) : State :=
  let d := s.dev
  if d.mode = mOff || d.mode = mRamp then { s with hb := {} }
  else
    let s := if d.gf F.HBT_CFG_MIR_EN != old.gf F.HBT_CFG_MIR_EN then
        { s with hb := { s.hb with mirror := [], pass := none } } else s
    let s := if d.gf F.GBL_MODE_SEQ != old.gf F.GBL_MODE_SEQ then { s with hb := s.hb.cause 3 } else s
    if d.mode = mAlarm && old.mode != mAlarm then { s with hb := s.hb.cause 4 } else s

/-- The state after a device operation, with what follows at once in the other units. -/
def State.act (s : State) (f : Dev → Dev) : State := ((s.onDev f).syncRooms s.dev).syncHost s.dev

end Sys2Proof.Machine
end

