-- ==== Sys2Proof/Machine/Park.lean ====
section
/-! DEFINITION. Room classes and quiesce ports, parking and waking a room, and the tickets of user jobs
(R302, R313 to R317, R320, Tables 14.6 to 14.8). -/

namespace Sys2Proof.Machine

/-! ### Tickets -/

/-- Ticket states (GOV_TKT_t_W0). -/
abbrev tkFree : Nat := 0
abbrev tkPending : Nat := 1
abbrev tkRunning : Nat := 2
abbrev tkDone : Nat := 3
abbrev tkSuspended : Nat := 4
abbrev tkExpired : Nat := 5
abbrev tkFailed : Nat := 6

/-- First indices of the registers of a kind whose word is not at its reset value. -/
def Dev.listed (d : Dev) (k : RK) : List Nat :=
  d.regs.filterMap (fun e => if e.1 / 16777216 = k.ctorIdx then some (e.1 % 16777216 / 256) else none)

/-- STATE, KIND and TARGET of a ticket. -/
def Dev.tkState (d : Dev) (t : Nat) : Nat := d.gf F.GOV_TKT_W0_STATE t
def Dev.tkKind (d : Dev) (t : Nat) : Nat := d.gf F.GOV_TKT_W0_KIND t
def Dev.tkTarget (d : Dev) (t : Nat) : Nat := d.gf F.GOV_TKT_W0_TARGET t

/-- Set a ticket's STATE. -/
def Dev.setTk (d : Dev) (t st : Nat) : Dev := d.sf F.GOV_TKT_W0_STATE t 0 st

/-- Tickets in a state, ascending. -/
def Dev.ticketsIn (d : Dev) (st : Nat) : List Nat := (d.listed .GOV_TKT_W0).filter (fun t => d.tkState t == st)

/-- The RUNNING user-job tickets of a room. -/
def Dev.jobsOf (d : Dev) (n : Nat) : List Nat :=
  (d.ticketsIn tkRunning).filter (fun t => d.tkKind t == 5 && d.tkTarget t == n)

/-- QP_JOB of a room (Table 14.6). -/
def Dev.qpJob (d : Dev) (n : Nat) : Bool := !(d.jobsOf n).isEmpty

/-- A handshake attempt is under way; between attempts (PHASE 9) the governor parks and wakes rooms as ever. -/
def Dev.inHandshake (d : Dev) : Bool := d.gov.sleep.isSome && d.gf F.GOV_SLEEP_STAT_PHASE != 9

/-! ### Asking and parking (R314, R315, R317) -/

/-- Change a room's quiesce port. -/
def Dev.onQui (d : Dev) (n : Nat) (f : Quiesce → Quiesce) : Dev := d.onRoom n (fun r => { r with quiesce := f r.quiesce })

/-- Class, level or mode parks the room (Table 14.2, R305). -/
def Dev.wantPark (d : Dev) (n : Nat) : Bool :=
  let c := d.gf F.GOV_ROOM_CLASS n
  d.ready && (c == clParked ||
    (c == clJob && (!d.qpJob n || d.mode == mQuiet || 3 ≤ d.gf F.GOV_STAT_LEVEL)))

/-- A swap of the room is ARMED or SWAPPING: a park waits (Table 6.5). -/
def Dev.parkWaits (d : Dev) (n : Nat) : Bool := d.sh n == shArmed || d.sh n == shSwapping

/-- The clamps engage and the drain starts (Table 14.7); a park that waits for a swap begins later. -/
def Dev.parkBegin (d : Dev) (n : Nat) : Dev :=
  if d.parkWaits n then d else (d.clamp n false).onRoom n (fun r => { r with stage := .parkDrain })

/-- A park starts: PSTATE 0b01, the room's RUNNING user job SUSPENDED. -/
def Dev.parkStart (d : Dev) (n : Nat) : Dev :=
  let d := d.each (d.jobsOf n) (fun d t => d.setTk t tkSuspended)
  ((d.sf F.GOV_ROOM_PSTATE n 0 1).onQui n (fun q => { q with asked := false, delayed := false })).parkBegin n

/-- Rooms that a handshake has still to hear of: neither parked, parking nor agreed. -/
def Dev.unagreed (d : Dev) : List Nat :=
  roomIds.filter (fun n => d.pstate n != 1 && d.pstate n != 2 && !(d.room n).quiesce.agreed)

/-- Once every room has agreed, all park together (Table 14.9); they are the rooms a rollback wakes. -/
def Dev.parkAgreed (d : Dev) : Dev :=
  if !d.unagreed.isEmpty then d
  else
    let l := roomIds.filter (fun n => (d.room n).quiesce.agreed && d.pstate n == 0)
    let sl := d.gov.sleep.map (fun x : Sleep => { x with stopped := x.stopped ++ l.map Stopped.room })
    let d := { d with gov := { d.gov with sleep := sl } }
    d.each l Dev.parkStart

/-- A room agrees, or the device agrees for it. -/
def Dev.agree (d : Dev) (n : Nat) : Dev :=
  if (d.room n).quiesce.purpose = 1 then
    (d.onQui n (fun q => { q with asked := false, delayed := false, agreed := true })).parkAgreed
  else d.parkStart n

/-- The governor asks a room (R314); with AUTO_AGREE it is answered at once. -/
def Dev.askRoom (d : Dev) (n purpose : Nat) : Dev :=
  let d := d.onQui n (fun _ => { asked := !d.gb F.GOV_ROOM_AUTO_AGREE n, purpose := purpose })
  if d.gb F.GOV_ROOM_AUTO_AGREE n then d.agree n else d

/-- Class, level or mode parks the room: it is asked unless it is being asked, or has refused. -/
def Dev.considerPark (d : Dev) (n : Nat) : Dev :=
  let q := (d.room n).quiesce
  if d.pstate n != 0 || d.inHandshake then d
  else if !d.wantPark n then (if q = {} then d else d.onQui n (fun _ => {}))
  else if q.asked || q.delayed || q.refused then d
  else d.askRoom n 0

/-! ### The end of a handshake attempt (R320) -/

/-- REFUSED_BY is recorded; a further attempt follows after RETRY ms, or the request ends (R320). -/
def Dev.sleepEnd (d : Dev) (kind code index : Nat) : Dev :=
  let d := (((d.sf F.GOV_SLEEP_STAT_RVALID 0 0 1).sf F.GOV_SLEEP_STAT_RKIND 0 0 kind).sf
    F.GOV_SLEEP_STAT_RCODE 0 0 code).sf F.GOV_SLEEP_STAT_RINDEX 0 0 index
  let d := d.noticeFree 0x24
  if d.gf F.GOV_SLEEP_TRIES ≤ d.gov.attempts then
    (({ d with gov := { d.gov with sleep := none } }).endRequest 3).sf F.GOV_SLEEP_STAT_PHASE 0 0 0
  else ({ d with gov := { d.gov with sleep := some {} } }).sf F.GOV_SLEEP_STAT_PHASE 0 0 9

/-- A room refuses the handshake before anything was stopped. -/
def Dev.roomsRefuse (d : Dev) (n code : Nat) : Dev :=
  (d.each roomIds (fun d m => if d.pstate m == 0 then d.onQui m (fun _ => {}) else d)).sleepEnd 0 code n

/-- A room refuses, delays too often or does not answer (R317, R319). DEDUCED, log entry 35. -/
def Dev.roomRefuses (d : Dev) (n code : Nat) : Dev :=
  if (d.room n).quiesce.purpose = 1 then d.roomsRefuse n code
  else if d.gf F.GOV_ROOM_CLASS n == clJob && (d.mode == mQuiet || 3 ≤ d.gf F.GOV_STAT_LEVEL) &&
      d.gb F.GOV_ROOM_FORCE_PARK n then (d.parkStart n).fault 0x26 n
  else d.onQui n (fun q => { q with asked := false, delayed := false, refused := true })

/-- QUIESCE_ANSWER (R314): 0b01 AGREE, 0b10 DELAY, 0b11 REFUSE; counted only if the room was asked.
DEDUCED, log entry 35. -/
def Dev.quiesceAnswer (d : Dev) (n ans : Nat) : Dev :=
  let q := (d.room n).quiesce
  if !q.asked || (d.room n).gsr then d
  else if ans = 1 then d.agree n
  else if ans = 2 then
    if d.gf F.GOV_SLEEP_DELAY_MAX ≤ q.delays then d.roomRefuses n 2
    else d.onQui n (fun q => { q with asked := false, delayed := true, delays := q.delays + 1 })
  else if ans = 3 then d.roomRefuses n 1
  else d

/-- QUIESCE_ANSWER (R314). -/
def execQuiesceAnswer (n : Nat) (ans : BitVec 2) (_qpN : BitVec 8) (s : State) : Out :=
  .next (s.act (fun d => d.quiesceAnswer n ans.toNat))

/-- QUIESCE_TIMEOUT (R314): no answer within QP_TO. -/
def execQuiesceTimeout (n : Nat) (s : State) : Out :=
  .next (s.act (fun d => if (d.room n).quiesce.asked then d.roomRefuses n 3 else d))

/-- QUIESCE_DELAY_EXPIRY (R319): the governor asks again; with AUTO_AGREE the device answers (R314). -/
def Dev.askAgain (d : Dev) (n : Nat) : Dev :=
  if !(d.room n).quiesce.delayed then d
  else if d.gb F.GOV_ROOM_AUTO_AGREE n then d.agree n
  else d.onQui n (fun q => { q with asked := true, delayed := false })

/-- QUIESCE_DELAY_EXPIRY (R319). -/
def execQuiesceDelayExpiry (n : Nat) (s : State) : Out := .next (s.act (fun d => d.askAgain n))

/-- QP_DONE (R314): the room's user job is finished; its room may then be parked. -/
def Dev.qpDone (d : Dev) (n : Nat) : Dev :=
  if (d.room n).gsr || !d.qpJob n then d
  else (d.each (d.jobsOf n) (fun d t => d.setTk t tkDone)).considerPark n

/-- QP_DONE (R314). -/
def execQpDone (n : Nat) (s : State) : Out := .next (s.act (fun d => d.qpDone n))

/-- PARK_DRAIN_END (R315): the drain is complete, or its timeout is reached: the GSR is asserted. -/
def Dev.parkDrainEnd (d : Dev) (n : Nat) (timedOut : Bool) : Dev :=
  let drained := d.drained n
  if (d.room n).stage ≠ .parkDrain || (!drained && !timedOut) then d
  else
    let d := if drained then d else d.noticeFree 0x2A
    (d.roomReset n false).onRoom n (fun r => { r with stage := .parkSave })

/-- PARK_DRAIN_END (R315). -/
def execParkDrainEnd (n : Nat) (timedOut : Bool) (s : State) : Out := .next (s.act (fun d => d.parkDrainEnd n timedOut))

/-- All rooms are parked: the handshake goes on with the event engine (Table 14.9). -/
def Dev.roomsParked (d : Dev) : Dev :=
  match d.gov.sleep with
  | some x =>
    if x.next = 1 && roomIds.all (fun n => d.pstate n == 2) then
      ({ d with gov := { d.gov with sleep := some { x with next := 2, delays := 0 } } }).sf F.GOV_SLEEP_STAT_PHASE 0 0 2
    else d
  | none => d

/-- A room's wake is decided (Table 14.8). -/
def Dev.roomWake (d : Dev) (n : Nat) : Dev :=
  if d.pstate n == 2 then (d.sf F.GOV_ROOM_PSTATE n 0 3).onRoom n (fun r => { r with stage := .wakeSupply, quiesce := {} })
  else d

/-- A parked room of class MUST or ELASTIC is woken outside the sleep handshake and Deep hold.
DEDUCED, log entry 37. -/
def Dev.considerWake (d : Dev) (n : Nat) : Dev :=
  if d.ready && !d.inHandshake && d.pstate n == 2 && d.gf F.GOV_ROOM_CLASS n < 2 then d.roomWake n else d

/-- The governor sleeps: Deep hold, before a wake restarts island 101 (R321). DEDUCED, log entry 23. -/
def Dev.govAsleep (d : Dev) : Bool := d.mode == mDeep && !(d.gov.sleep.any (fun x => x.waking))

/-- PARK_SAVE_DONE (R315): keep registers and CUR are in the Attic, the clock is stopped, the switch open. -/
def Dev.parkSaveDone (d : Dev) (n : Nat) : Dev :=
  if (d.room n).stage ≠ .parkSave then d
  else
    let d := d.onRoom n (fun r => { r with
      saved := some { keep := d.keepRegs n, cur := d.gf F.CLK_ISL_STAT_CUR n }
      bram := [], crossIn := [], crossOut := [], stage := .idle, quiesce := {} })
    (((((d.setKeepRegs n []).setCur n 0).sf F.GOV_ROOM_PSTATE n 0 2).takeClass n).considerWake n).roomsParked

/-- PARK_SAVE_DONE (R315). -/
def execParkSaveDone (n : Nat) (s : State) : Out := .next (s.act (fun d => d.parkSaveDone n))

/-! ### Waking (R316, Table 14.8) -/

/-- The end of a room's wake: block RAM from the room's source, then release; a refused frame leaves the
room in reset with ACT_STATE DOWN (R316). -/
def Dev.wakeRelease (d : Dev) (n : Nat) : Dev :=
  let d := ((d.onRoom n (fun r => { r with stage := .idle, saved := none })).sf F.GOV_ROOM_PSTATE n 0 0).takeClass n
  let base := srcBase (d.gf F.ROOM_BRAM_SRC_SRC n) (d.gf F.ROOM_BRAM_SRC_BLOCK n)
  match (if d.gb F.ROOM_BRAM_SRC_VALID n then d.reloadBram n base else .ok d) with
  | .error (d, _) => d.sf F.ROOM_PLANE_STAT_ACT_STATE n 0 actDown
  | .ok d => if d.act n == actValid && (d.ready || d.mode == mTest || d.mode == mDeep) then d.roomRelease n else d

/-- Save-set row 1 of a room fails its check (R322): its items take the values they have without it. -/
def Dev.savedBad (d : Dev) (n : Nat) : Dev := (d.onRoom n (fun r => { r with saved := none })).fault 0x29 1

/-- The multiplier a room wakes at: the saved CUR or lower (Table 14.8); without it, what the governor has it run at. -/
def Dev.wakeMult (d : Dev) (n : Nat) : Nat :=
  match (d.room n).saved with
  | some x => min x.cur (d.roomTarget n)
  | none => d.roomTarget n

/-- ROOM_WAKE_STAGE_DONE (R316): supply, clock, restore, block RAM. `saveOk` is the check of save-set row 1, of which CUR
is needed first (R322). DEDUCED, log entry 37. -/
def Dev.roomWakeStage (d : Dev) (n : Nat) (saveOk : Bool) : Dev :=
  let r := d.room n
  let go := fun (d : Dev) (st : Stage) => d.onRoom n (fun r => { r with stage := st })
  let bad := !saveOk && r.saved.isSome
  match r.stage with
  | .wakeSupply =>
    let d := d.when bad (fun d => d.savedBad n)
    go (d.setCur n (d.allowedMult n 0 (d.wakeMult n))) .wakeClock
  | .wakeClock =>
    let fed := d.gb F.CLK_ISL_STAT_RUN n && d.pllFeeds (d.gf F.CLK_ISL_CTRL_REF_SEL n)
    go (d.when fed (fun d => d.sf F.CLK_ISL_STAT_LOCKED n 0 1)) .wakeRestore
  | .wakeRestore =>
    go (if bad then d.savedBad n else d.setKeepRegs n ((r.saved.map Saved.keep).getD [])) .wakeBram
  | .wakeBram => d.wakeRelease n
  | _ => d

/-- A write of GOV_ROOM_n.CLASS (R316): from PARKED to MUST or ELASTIC it wakes the room; while the room is
parking or waking it takes effect when that ends (Table 14.11). DEDUCED, log entry 37. -/
def Dev.classWrite (d : Dev) (n c : Nat) : Dev :=
  if d.pstate n == 1 || d.pstate n == 3 then
    d.onRoom n (fun r => { r with newClass := if c = d.gf F.GOV_ROOM_CLASS n then none else some (BitVec.ofNat 2 c) })
  else (d.sf F.GOV_ROOM_CLASS n 0 c).considerWake n

/-- ROOM_CLASS_WRITE (R316). GOV registers are asleep in Deep hold (R324). -/
def execRoomClassWrite (n : Nat) (c : BitVec 2) (s : State) : Out :=
  .next (s.act (fun d => if d.govAsleep then d else d.classWrite n c.toNat))

/-! ### Writes of a ticket's STATE (R313) -/

/-- Whether firmware may write STATE `st` over the present one. -/
def Dev.tkWriteOk (d : Dev) (t st : Nat) : Bool :=
  let old := d.tkState t
  if st = tkPending then old == tkFree || old == tkDone || old == tkExpired || old == tkFailed
  else if st = tkFree then old != tkRunning
  else if st = tkDone then old == tkRunning && d.tkKind t == 5
  else false

/-- A ticket is PENDING past its deadline (R313): bits [51:20] of device time have reached it. -/
def Dev.tkOverdue (d : Dev) (t : Nat) : Bool :=
  let dl := d.gf F.GOV_TKT_W3_DEADLINE t
  d.tkState t == tkPending && dl != 0 && decide (dl ≤ d.now / 2 ^ 20 % 2 ^ 32)

/-- A PENDING ticket past its deadline becomes EXPIRED, with a NOTICE of source 0x25 (R313). -/
def Dev.tkExpire (d : Dev) (t : Nat) : Dev := if d.tkOverdue t then (d.setTk t tkExpired).noticeFree 0x25 else d

/-- A permitted write of STATE; the room of a job that ends may be parked. -/
def Dev.tkPut (d : Dev) (t st : Nat) : Dev :=
  let old := d.tkState t
  let d := d.setTk t st
  if old == tkRunning then d.considerPark (d.tkTarget t) else d

/-- TICKET_STATE_WRITE (R313): any other write of STATE is a reserved encoding (R11). -/
def Dev.ticketStateWrite (d : Dev) (t st : Nat) : Dev :=
  if d.govAsleep || st = d.tkState t then d
  else if d.tkWriteOk t st then (d.tkPut t st).tkExpire t
  else d.notice 0x75 (0x41000 + 16 * t)

/-- TICKET_STATE_WRITE (R313). -/
def execTicketStateWrite (t : Nat) (st : BitVec 3) (s : State) : Out := .next (s.act (fun d => d.ticketStateWrite t st.toNat))

end Sys2Proof.Machine
end

