-- ==== Sys2Proof/Machine/Security.lean ====
section
/-! DEFINITION. The security monitor (R340 to R368): violations and their policies, the erase, the
secure sector, life-cycle transitions, key loading, owner commands, the debug exchange, attestation. -/

namespace Sys2Proof.Machine

/-! ### Life-cycle word -/

/-- The byte of a life-cycle code: the code and its complement (R342). -/
def lcByte (c : Nat) : BitVec 8 := BitVec.ofNat 8 (c + 16 * (15 - c))

/-- The state the eight copies hold, 0 Invalid (R342). DESIGN CHOICE, log entry 12. -/
def lcCode (copies : List (BitVec 8)) : Nat :=
  match [1, 2, 4, 8].find? (fun c => copies.length == 8 && copies.all (· == lcByte c)) with
  | some c => c
  | none => 0

/-- SEC_LCS.STATE. -/
def Dev.lcState (d : Dev) : Nat := d.gf F.SEC_LCS_STATE

/-- Work of the security monitor under way, which delays the end of Supply ramp (R347). -/
def Dev.secWorking (d : Dev) : Bool := d.sec.lc.isSome || d.sec.upd.isSome || d.sec.erasing

/-- SEC_LCS.BUSY follows that work. -/
def Dev.setSecBusy (d : Dev) : Dev := d.sf F.SEC_LCS_BUSY 0 0 (b2n d.secWorking)

/-! ### Erase (R363) -/

/-- The key partition is zeroed (R351): neither key is held any more. -/
def Dev.zeroKeys (d : Dev) : Dev :=
  let d := { d with sec := { d.sec with keyIdk := none, keyImg := none } }
  (List.range 8).foldl (fun d k => d.setReg .SEC_IDK_HASH k 0 0) ((d.sf F.SEC_KEYS_IDK 0 0 0).sf F.SEC_KEYS_IMG 0 0 0)

/-- No key is held any more: the sector counts as erased (R349). -/
def Dev.noKeys (d : Dev) : Dev :=
  let d := d.zeroKeys
  let d := { d with sec := { d.sec with sector := [] } }
  let ep := d.gf F.SEC_KEYS_ERASE_PENDING
  (d.setReg .SEC_KEYS 0 0 0).sf F.SEC_KEYS_ERASE_PENDING 0 0 ep

/-- The erase runs until ERASE_DONE, only with VPP_CEL good and no other security work under way (R363, R367); what its
steps 3 and 4 leave of the copies shows at its end or at a loss of power.
DEDUCED, log entry 70. -/
def Dev.startErase (d : Dev) : Dev :=
  if d.gb F.SEC_KEYS_ERASE_PENDING && d.vppGood && !d.secWorking then
    let d := d.zeroKeys
    ({ d with sec := { d.sec with erasing := true } }).setSecBusy
  else d

/-- The erase completes: both blocks erased, ERASE_PENDING clear, NOTICE 0x1D (R363); with the debug key gone, Test holds
level 3 again. DEDUCED, log entry 69. -/
def Dev.finishErase (d : Dev) : Dev :=
  let d := d.cellarErase 0x20000 0x20000
  let d := { d with sec := { d.sec with erasing := false } }
  (((d.noKeys.sf F.SEC_KEYS_ERASE_PENDING 0 0 0).setSecBusy).setLevel d.sec.granted).noticeFree 0x1D

/-- An ERASE policy acts (R363 steps 1 and 2). -/
def Dev.eraseNow (d : Dev) : Dev := ((d.sf F.SEC_KEYS_ERASE_PENDING 0 0 1).zeroKeys).startErase

/-! ### Violations (R361, R362) -/

/-- Policy of violation `v` in SEC_POL. -/
def Dev.policy (d : Dev) (v : Nat) : Nat := d.gf F.SEC_POL_POL / 4 ^ v % 4

/-- Record a violation in SEC_VSEEN and, if VALID reads 0, in SEC_VIOL (R362). DEDUCED, log entry 70. -/
def Dev.recordViol (d : Dev) (v pol detail : Nat) : Dev :=
  let d := d.sf F.SEC_VSEEN_SEEN 0 0 (d.gf F.SEC_VSEEN_SEEN ||| 2 ^ v)
  if d.gb F.SEC_VIOL_VALID then d
  else (((d.sf F.SEC_VIOL_VALID 0 0 1).sf F.SEC_VIOL_SRC 0 0 v).sf F.SEC_VIOL_POLICY 0 0 pol).sf
    F.SEC_VIOL_DETAIL 0 0 (detail % 0x10000)

/-- Violations V0 to V5 that arise in one cycle, as pairs of v and detail in ascending v (R362): each is
recorded and logged, and the strongest of their policies acts. Nothing acts in Off or Supply ramp.
DEDUCED, log entry 9. DEDUCED, log entry 70. -/
def Dev.violate (d : Dev) (l : List (Nat × Nat)) : Dev :=
  if l.isEmpty || d.mode == mOff || d.mode == mRamp then d
  else
    let pol := l.foldl (fun m x => max m (d.policy x.1)) 0
    let d := l.foldl (fun d x => d.recordViol x.1 pol x.2) d
    let d := d.raiseAll (l.map (fun x => (0x10 + x.1, if pol = 0 then Severity.notice else .alarm, x.2)))
    let d := if pol = 0 || d.mode == mAlarm || d.mode == mDormant then d
      else d.enterAlarm (if pol = 1 then 0x12 else 0x13)
    if 2 ≤ pol then d.eraseNow else d

/-! ### The secure sector (R348, R349) -/

/-- The part of a sector copy before the pages that stay erased. -/
def sectorBody : Nat := 0x2200

/-- A sector copy's CRC bytes, over bytes 0 to 0xFEFF as they read (R348). -/
def sectorCrc (body : List (BitVec 8)) : List (BitVec 8) :=
  leBytes 4 (crc32c (body ++ List.replicate (0xFF00 - body.length) 0xFF)).toNat

/-- A copy is valid: MAGIC, VERSION, CRC, and each valid public key matches its stored hash (R349). -/
def sectorValid (c : List (BitVec 8)) : Bool :=
  let flags := field4 c 0xC
  field4 c 0 == 0x5445554B && field4 c 4 == 1 && slice c 0xFF00 4 == leBytes 4 (crc32c (c.take 0xFF00)).toNat &&
    (List.range 4).all (fun k => !bitOf flags k || sha256 (slice c (0x80 + 64 * k) 64) == slice c (0x180 + 32 * k) 32) &&
    (!bitOf flags 8 || sha256 (slice c 0x200 64) == slice c 0x240 32)

/-- SEQUENCE a is greater than b, or they tie in favour of a (R105). -/
def seqGreater (a b : Nat) : Bool :=
  let x := (a + 2 ^ 32 - b) % 2 ^ 32
  x == 0 || (1 ≤ x && x ≤ 2 ^ 31)

/-- Entries of the room-image index in the copy in use (R354). -/
def indexRoots (c : List (BitVec 8)) : List (List (BitVec 8)) :=
  (List.range (field4 c 0x14)).map (fun i => slice c (0x400 + 32 * i) 32)

/-- The registers and keys that follow from the copy in use (R349, R351). With an erase pending no key is unwrapped
(R363). -/
def Dev.useSector (d : Dev) (c : List (BitVec 8)) (copy : Nat) : Dev :=
  let flags := field4 c 0xC
  let may := !d.gb F.SEC_KEYS_ERASE_PENDING
  let idk := if may && bitOf flags 10 then Config.unwrapKey (slice c 0x18 40) else none
  let img := if may && bitOf flags 9 then Config.unwrapKey (slice c 0x260 40) else none
  let failed := b2n (may && bitOf flags 10 && idk.isNone) + b2n (may && bitOf flags 9 && img.isNone)
  let d := { d with sec := { d.sec with sector := c.take sectorBody, keyIdk := idk, keyImg := img } }
  let d := ((d.sf F.SEC_KEYS_SEQUENCE 0 0 (field4 c 8 % 0x10000)).sf F.SEC_KEYS_COPY 0 0 (copy + 1)).sf
    F.SEC_KEYS_IDK 0 0 (b2n idk.isSome)
  let d := ((d.sf F.SEC_KEYS_IMG 0 0 (b2n img.isSome)).sf F.SEC_KEYS_DBG 0 0 (b2n (bitOf flags 8))).sf
    F.SEC_KEYS_REVOKED 0 0 (flags / 16 % 16)
  let d := d.sf F.SEC_KEYS_OIK 0 0 (flags % 16)
  let hash := if idk.isSome then sha256 (slice c 0x40 64) else List.replicate 32 0
  let d := (List.range 8).foldl (fun d k => d.setReg .SEC_IDK_HASH k 0 (BitVec.ofNat 32 (field4 hash (4 * k)))) d
  d.each (List.range failed) (fun d _ => d.faultFree 0x1B)

/-- The sector counts as erased: no key is held, and in Test and Production a FAULT 0x1B (R349). -/
def Dev.sectorErased (d : Dev) : Dev :=
  let d := d.noKeys
  if d.lcState == 2 || d.lcState == 4 then d.faultFree 0x1B else d

/-- SECTOR_READ (R349, R351, R363): both copies are read, one is used; one invalid copy logs 0x1A, none
valid counts as erased. With an erase pending neither is read, and the sector counts as erased too. -/
def Dev.sectorRead (d : Dev) : Dev :=
  if d.gb F.SEC_KEYS_ERASE_PENDING then d.sectorErased.startErase
  else
    let a := d.cellarRange 0x20000 0x10000
    let b := d.cellarRange 0x30000 0x10000
    let va := sectorValid a
    let vb := sectorValid b
    if va && vb then
      if seqGreater (field4 a 8) (field4 b 8) then d.useSector a 0 else d.useSector b 1
    else if va then (d.noticeFree 0x1A).useSector a 0
    else if vb then (d.noticeFree 0x1A).useSector b 1
    else d.sectorErased

/-- A fresh sector body, for a unit without a valid copy. -/
def freshSector : List (BitVec 8) :=
  leBytes 4 0x5445554B ++ leBytes 4 1 ++ List.replicate (0x400 - 8) 0 ++ List.replicate (sectorBody - 0x400) 0xFF

/-- The body a new update starts from. -/
def Dev.sectorBase (d : Dev) : List (BitVec 8) := if d.sec.sector.isEmpty then freshSector else d.sec.sector

/-- Replace bytes at an offset. -/
def splice (l : List (BitVec 8)) (off : Nat) (v : List (BitVec 8)) : List (BitVec 8) :=
  l.take off ++ v ++ l.drop (off + v.length)

/-- Set the FLAGS word of a sector body. -/
def orFlags (c : List (BitVec 8)) (m : Nat) : List (BitVec 8) := splice c 0xC (leBytes 4 (field4 c 0xC ||| m))

/-- Start a sector update that will hold body `c` (R349). -/
def Dev.startUpdate (d : Dev) (cmd : Nat) (c : List (BitVec 8)) : Dev :=
  let d := { d with sec := { d.sec with upd := some { cmd := BitVec.ofNat 4 cmd, bytes := c } } }
  (d.sf F.SEC_CMD_STAT_BUSY 0 0 1).setSecBusy

/-- Write body `c` with SEQUENCE one greater into the copy not in use, and use it (R349).
DEDUCED, log entry 69. -/
def Dev.writeSector (d : Dev) (c : List (BitVec 8)) : Dev :=
  let copy := if d.gf F.SEC_KEYS_COPY == 1 then 1 else 0
  let c := splice c 8 (leBytes 4 ((field4 c 8 + 1) % 2 ^ 32))
  let base := 0x20000 + 0x10000 * copy
  let d := d.cellarErase base 0x10000
  let d := d.cellarStore base (c.take 0x400)
  let pages := (field4 c 0x14 + 7) / 8
  let body := splice c 0x400 ((c.drop 0x400).take (256 * pages) ++ List.replicate (sectorBody - 0x400 - 256 * pages) 0xFF)
  let d := d.cellarStore (base + 0x400) ((body.drop 0x400).take (256 * pages))
  let d := d.cellarStore (base + 0xFF00) (sectorCrc body ++ List.replicate 252 0)
  d.useSector (body ++ List.replicate (0xFF00 - body.length) 0xFF ++ sectorCrc body) copy

/-! ### SEC_CMD operations -/

/-- The 256 bytes of SEC_BUF (R368). -/
def Dev.secBuf (d : Dev) : List (BitVec 8) :=
  (List.range 64).flatMap (fun k => leBytes 4 (d.reg .SEC_BUF k 0).toNat)

/-- Put bytes into SEC_BUF from byte 0 on. -/
def Dev.putSecBuf (d : Dev) (l : List (BitVec 8)) : Dev :=
  (List.range (l.length / 4)).foldl (fun d k => d.setReg .SEC_BUF k 0 (BitVec.ofNat 32 (field4 l (4 * k)))) d

/-- An operation of SEC_CMD ends with a result (R368). -/
def Dev.cmdEnd (d : Dev) (result : Nat) : Dev :=
  let d := { d with sec := { d.sec with cmd := none } }
  ((d.sf F.SEC_CMD_STAT_DONE 0 0 1).sf F.SEC_CMD_STAT_BUSY 0 0 0).sf F.SEC_CMD_STAT_RESULT 0 0 result

/-- An operation refused or denied also logs a NOTICE of source 0x18 (Table 16.13).
DEDUCED, log entry 69. -/
def Dev.cmdRefuse (d : Dev) (result : Nat) : Dev := (d.cmdEnd result).noticeFree 0x18

/-- SEC_CMD or SEC_LC_CTRL written while work is under way is ignored, with a NOTICE under R11 (Table 16.12). -/
def Dev.secBusyNow (d : Dev) : Bool := d.gb F.SEC_LCS_BUSY || d.gb F.SEC_CMD_STAT_BUSY

/-- The NOTICE of a SEC_CMD write that is ignored. -/
def Dev.cmdIgnored (d : Dev) : Dev := d.notice 0x75 0x20020

/-- Key loads need state Test and level 3 (R352). -/
def Dev.mayLoadKeys (d : Dev) : Bool := d.lcState == 2 && d.gf F.SEC_DBG_LEVEL == 3

/-- LOAD_OIK (R352). -/
def Dev.loadOik (d : Dev) (slot : Nat) : Dev :=
  if d.secBusyNow then d.cmdIgnored
  else if !d.mayLoadKeys then d.cmdRefuse 2
  else if 3 < slot || bitOf (d.gf F.SEC_KEYS_OIK) slot || bitOf (d.gf F.SEC_KEYS_REVOKED) slot then d.cmdRefuse 1
  else if !d.vppGood then d.cmdEnd 6
  else
    let k := d.secBuf.take 64
    d.startUpdate 1 (orFlags (splice (splice d.sectorBase (0x80 + 64 * slot) k) (0x180 + 32 * slot) (sha256 k)) (2 ^ slot))

/-- LOAD_DBG (R352). -/
def Dev.loadDbg (d : Dev) : Dev :=
  if d.secBusyNow then d.cmdIgnored
  else if !d.mayLoadKeys then d.cmdRefuse 2
  else if d.gb F.SEC_KEYS_DBG then d.cmdRefuse 1
  else if !d.vppGood then d.cmdEnd 6
  else
    let k := d.secBuf.take 64
    d.startUpdate 2 (orFlags (splice (splice d.sectorBase 0x200 k) 0x240 (sha256 k)) 0x100)

/-- LOAD_IMG (R352). -/
def Dev.loadImg (d : Dev) : Dev :=
  if d.secBusyNow then d.cmdIgnored
  else if !d.mayLoadKeys then d.cmdRefuse 2
  else if d.gb F.SEC_KEYS_IMG then d.cmdRefuse 1
  else if !d.vppGood then d.cmdEnd 6
  else d.startUpdate 3 (orFlags (splice d.sectorBase 0x260 (beBytes 40 (Config.wrapKey (BitVec.ofNat 256 (beNat (d.secBuf.take 32)))).toNat)) 0x200)

/-- The sector body after an owner command, none where the operation is not possible (R355, R356). -/
def ownerChange (c cmd : List (BitVec 8)) : Option (List (BitVec 8)) :=
  let op := field4 cmd 0
  let arg := field4 cmd 4
  let root := slice cmd 0x30 32
  let n := field4 c 0x14
  let flags := field4 c 0xC
  let roots := indexRoots c
  if op = 1 then
    if 3 < arg || !((List.range 4).any (fun k => k != arg && bitOf flags k && !bitOf flags (4 + k))) then none
    else some (orFlags c (2 ^ (4 + arg)))
  else if op = 2 then
    if 240 ≤ n || roots.contains root then none
    else
      let page := (0x400 + 32 * n) / 256 * 256
      let c := if n % 8 = 0 then splice c page (List.replicate 256 0) else c
      some (splice (splice c (0x400 + 32 * n) root) 0x14 (leBytes 4 (n + 1)))
  else if op = 3 then
    match roots.findIdx? (· == root) with
    | none => none
    | some i =>
      let c := splice c (0x400 + 32 * i) (roots.getD (n - 1) root)
      let c := splice c (0x400 + 32 * (n - 1)) (List.replicate 32 0)
      some (splice c 0x14 (leBytes 4 (n - 1)))
  else if op = 4 then
    let k := slice cmd 0x50 64
    some (orFlags (splice (splice c 0x200 k) 0x240 (sha256 k)) 0x100)
  else none

/-- OWNER (R355, R356). -/
def Dev.ownerCmd (d : Dev) : Dev :=
  if d.secBusyNow then d.cmdIgnored
  else
    let cmd := d.secBuf
    let signer := field4 cmd 0xC
    let c := d.sectorBase
    if d.lcState != 2 && d.lcState != 4 then d.cmdRefuse 1
    else if 3 < signer || !d.oikUsable signer then d.cmdRefuse 3
    else if !Config.ecdsaOk (d.oikPub signer) (sha256 (cmd.take 0xC0)) (slice cmd 0xC0 64) then d.cmdRefuse 3
    else if !d.gb F.SEC_KEYS_IDK || slice cmd 0x10 32 != sha256 (slice c 0x40 64) then d.cmdRefuse 1
    else if field4 cmd 8 ≤ field4 c 0x10 then d.cmdRefuse 1
    else match ownerChange c cmd with
      | none => d.cmdRefuse 1
      | some c => if !d.vppGood then d.cmdEnd 6 else d.startUpdate 4 (splice c 0x10 (slice cmd 8 4))

/-- Highest debug level that an exchange may grant in a state (Table 16.2). -/
def exchangeMax (lc : Nat) : Nat := if lc = 2 then 3 else if lc = 4 then 2 else 0

/-- End a live nonce (R358). -/
def Dev.endNonce (d : Dev) : Dev :=
  ({ d with sec := { d.sec with nonce := none } }).sf F.SEC_DBG_PENDING 0 0 0

/-- Start an operation that ends at SEC_CMD_DONE. DEDUCED, log entry 69. -/
def Dev.startCmd (d : Dev) (op arg : Nat) : Dev :=
  ({ d with sec := { d.sec with cmd := some (BitVec.ofNat 4 op, BitVec.ofNat 4 arg) } }).sf F.SEC_CMD_STAT_BUSY 0 0 1

/-- CHALLENGE (R358). -/
def Dev.challenge (d : Dev) (level : Nat) : Dev :=
  if d.secBusyNow then d.cmdIgnored
  else
    let d := d.endNonce
    if level = 0 || exchangeMax d.lcState < level then d.cmdRefuse 1
    else if !d.gb F.SEC_KEYS_DBG && d.lcState != 2 then d.cmdEnd 4
    else if !d.sec.entropyOk then d.cmdEnd 6
    else d.startCmd 5 level

/-- The 73 bytes a challenge signs (R358): "TEUNODBG", the unit's IDK hash, the nonce, the level. -/
def challengeBytes (idkHash : List (BitVec 8)) (nonce : BitVec 256) (level : Nat) : List (BitVec 8) :=
  [0x54, 0x45, 0x55, 0x4E, 0x4F, 0x44, 0x42, 0x47] ++ idkHash ++ beBytes 32 nonce.toNat ++ [BitVec.ofNat 8 level]

/-- RESPOND (R358): STALE without a live nonce; a nonce serves once. -/
def Dev.respondCmd (d : Dev) : Dev :=
  if d.secBusyNow then d.cmdIgnored
  else match d.sec.nonce with
    | none => d.cmdEnd 5
    | some n =>
      let level := d.gf F.SEC_DBG_PENDING
      if !d.gb F.SEC_KEYS_DBG then (d.endNonce).cmdEnd 4
      else
        let idk := sha256 (slice d.sectorBase 0x40 64)
        let ok := Config.ecdsaOk (slice d.sectorBase 0x200 64) (sha256 (challengeBytes idk n level)) (d.secBuf.take 64)
        let d := { d with sec := { d.sec with nonce := none, hold := [BitVec.ofNat 8 level] } }
        d.startCmd 6 (b2n ok)

/-- RELEASE (R359). DEDUCED, log entry 69. -/
def Dev.releaseCmd (d : Dev) : Dev :=
  if d.secBusyNow then d.cmdIgnored else (d.setLevel 0).cmdEnd 0

/-- ATTEST (R366): in Test and Production only (Table 16.2). -/
def Dev.attestCmd (d : Dev) : Dev :=
  if d.secBusyNow then d.cmdIgnored
  else if d.lcState != 2 && d.lcState != 4 then d.cmdRefuse 1
  else if !d.gb F.SEC_KEYS_IDK then d.cmdEnd 4
  else if !d.sec.entropyOk then d.cmdEnd 6
  else ({ d with sec := { d.sec with hold := d.secBuf.take 32 } }).startCmd 8 0

/-- ROOT of the image that room `n`'s active plane came from: source code and pool block (Table 6.2); with the plane not
VALID, an open field. DESIGN CHOICE, log entry 79. -/
def Dev.planeRoot (d : Dev) (n : Nat) : List (BitVec 8) :=
  let src := d.gf F.ROOM_PLANE_STAT_ACT_SRC n
  if d.gf F.ROOM_PLANE_STAT_ACT_STATE n != 3 then beBytes 32 (Config.reportOpen d.free n).toNat
  else slice (d.header (if src = 0 then poolBase (d.gf F.ROOM_PLANE_STAT_ACT_BLOCK n) else slotBase src)) 0x40 32

/-- The first 0xC0 bytes of the attestation report (Table 16.11). DESIGN CHOICE, log entry 79. -/
def Dev.reportBytes (d : Dev) : List (BitVec 8) :=
  let slot := d.gf F.CFG_STATUS_SLOT
  let h := d.header (slotBase slot)
  let run := slot != 0
  let rooms := roomIds.flatMap (fun n => leBytes 4 (d.reg .ROOM_PLANE_STAT n 0).toNat ++ d.planeRoot n)
  leBytes 4 0x54455541 ++ leBytes 4 1 ++ leBytes 4 0x213100D3 ++ leBytes 4 (d.reg .SEC_LCS 0 0).toNat ++
    d.sec.hold ++ sha256 (slice d.sectorBase 0x40 64) ++
    (if run then slice h 0x40 32 ++ slice h 0x28 24
     else beBytes 32 (Config.reportOpen d.free 64).toNat ++ (beBytes 32 (Config.reportOpen d.free 65).toNat).take 24) ++
    leBytes 4 (putBits (d.reg .CFG_STATUS 0 0) 30 1 (b2n d.vppGood)).toNat ++ leBytes 4 (d.reg .SEC_KEYS 0 0).toNat ++
    (let r := d.gf F.CFG_STATUS_RECORD
     if r = 0 then (beBytes 32 (Config.reportOpen d.free 66).toNat).take 4 else d.cellarRange (0x10000 * (r - 1) + 8) 4) ++
    leBytes 8 d.now ++ List.replicate 4 0 ++ sha256 rooms

/-- SEC_CMD_DONE: CHALLENGE, RESPOND or ATTEST ends (R358, R360, R366). -/
def Dev.secCmdDone (d : Dev) : Dev :=
  match d.sec.cmd with
  | none => d
  | some (op, arg) =>
    if op = 5 then
      let n := Config.entropy d.free
      let d := { d with free := d.free + 1, sec := { d.sec with nonce := some n } }
      ((d.putSecBuf (beBytes 32 n.toNat)).sf F.SEC_DBG_PENDING 0 0 arg.toNat).cmdEnd 0
    else if op = 6 then
      let level := (d.sec.hold.getD 0 0).toNat
      let d := d.sf F.SEC_DBG_PENDING 0 0 0
      if arg = 1 then
        let d := d.sf F.SEC_DBG_FAILS 0 0 0
        (d.setLevel level).cmdEnd 0
      else
        let d := (((d.cnt F.SEC_DBG_FAILS 0 0).cmdEnd 3).noticeFree 0x19)
        if d.gf F.SEC_DBG_LIMIT ≤ d.gf F.SEC_DBG_FAILS then d.violate [(4, d.gf F.SEC_DBG_FAILS)] else d
    else if op = 8 then
      let r := d.reportBytes
      let sig := beBytes 64 (Config.ecdsaSign (d.sec.keyIdk.getD 0) (sha256 r) d.free).toNat
      (({ d with free := d.free + 1 }).putSecBuf (r ++ sig)).cmdEnd 0
    else d.cmdEnd 0

/-- SECTOR_UPDATE_DONE: the update is written and the key load or owner command completes (R349, R352).
DEDUCED, log entry 69. -/
def Dev.sectorUpdateDone (d : Dev) : Dev :=
  match d.sec.upd with
  | none => d
  | some u =>
    let d := { d with sec := { d.sec with upd := none } }
    let d := (d.writeSector u.bytes).setSecBusy
    ((d.setLevel d.sec.granted).cmdEnd 0).startErase

/-! ### Life-cycle transitions (R343, R344) -/

/-- SEC_LC_STAT and SEC_LCS at the end of a transition request. -/
def Dev.lcEnd (d : Dev) (result : Nat) : Dev :=
  ((d.sf F.SEC_LC_STAT_DONE 0 0 1).sf F.SEC_LC_STAT_RESULT 0 0 result)

/-- A refused request changes nothing and logs a NOTICE of source 0x18 (R343). -/
def Dev.lcRefuse (d : Dev) (result : Nat) : Dev := (d.lcEnd result).noticeFree 0x18

/-- The result a transition request is refused with, none where it is accepted (Table 16.3). -/
def Dev.lcRefusal (d : Dev) (target : Nat) : Option Nat :=
  let st := d.lcState
  let lvl := d.gf F.SEC_DBG_LEVEL
  let keyOk := (List.range 4).any d.oikUsable
  let vpp : Option Nat := if d.vppGood then none else some 3
  if st = 0 then some 1
  else if target = 8 && (d.mode == mDormant || d.mode == mAlarm) then vpp
  else if st = 1 && target = 2 then if d.sec.entropyOk then vpp else some 4
  else if st = 2 && target = 4 then
    if lvl != 3 then some 2
    else if d.gb F.SEC_KEYS_IDK && keyOk && d.cfg.recordVerified then vpp else some 4
  else if st = 1 && target = 8 then vpp
  else if st = 2 && target = 8 then if lvl = 3 then vpp else some 2
  else if st = 4 && target = 8 then if 2 ≤ lvl then vpp else some 2
  else some 1

/-- A request with a permitted TARGET (R343): ignored while BUSY, refused, or started at phase P1. -/
def Dev.lcRequest (d : Dev) (target : Nat) : Dev :=
  if target != 2 && target != 4 && target != 8 then d.notice 0x75 0x20004
  else if d.secBusyNow then d.notice 0x75 0x20004
  else match d.lcRefusal target with
    | some r => d.lcRefuse r
    | none =>
      let d := { d with sec := { d.sec with lc := some { target := BitVec.ofNat 4 target, phase := 1 } } }
      (d.setSecBusy).sf F.SEC_LCS_TARGET 0 0 target

/-- Phase P2 ends (Table 16.4): the identity key is made for Test; both sector copies are gone for End of life. -/
def Dev.lcPhase2 (d : Dev) (target : Nat) : Dev :=
  if target = 2 then
    let k := Config.entropy d.free
    let d := { d with free := d.free + 1 }
    let pub := beBytes 64 (Config.publicKey k).toNat
    d.writeSector (orFlags (splice (splice d.sectorBase 0x18 (beBytes 40 (Config.wrapKey k).toNat)) 0x40 pub) 0x400)
  else if target = 8 then (d.cellarErase 0x20000 0x20000).noKeys
  else d

/-- DONE of a transition (R344): the new state, the levels granted by exchange dropped, NOTICE 0x17.
DEDUCED, log entry 69. -/
def Dev.lcDone (d : Dev) (target : Nat) : Dev :=
  let d := { d with sec := { d.sec with lc := none } }
  let d := (((d.sf F.SEC_LCS_STATE 0 0 target).sf F.SEC_LCS_TARGET 0 0 0).setSecBusy).lcEnd 0
  let d := (d.setLevel 0).noticeFree 0x17
  if target = 8 && d.gb F.SEC_KEYS_ERASE_PENDING then (d.sf F.SEC_KEYS_ERASE_PENDING 0 0 0).noticeFree 0x1D
  else d.startErase

/-- LC_PHASE_DONE (R344): a phase completes; `readbackOk` is P4's read-back. -/
def Dev.lcPhaseDone (d : Dev) (readbackOk : Bool) : Dev :=
  match d.sec.lc with
  | none => d
  | some w =>
    let t := w.target.toNat
    let go := fun (d : Dev) (p : Nat) => { d with sec := { d.sec with lc := some { w with phase := p } } }
    if w.phase = 1 then
      if t = 4 then go d 3 else go (if t = 8 then d.zeroKeys else d) 2
    else if w.phase = 2 then go (d.lcPhase2 t) 3
    else if w.phase = 3 then go { d with sec := { d.sec with lcCopies := List.replicate 8 0xFF } } 4
    else if readbackOk then ({ d with sec := { d.sec with lcCopies := List.replicate 8 (lcByte t) } }).lcDone t
    else if w.again then
      let u := d.free + 1
      let d := { d with free := u, sec := { d.sec with lc := none, lcCopies := (List.range 8).map (Config.cellarUndefined u) } }
      (((d.sf F.SEC_LCS_TARGET 0 0 0).setSecBusy).lcEnd 5).startErase
    else { d with sec := { d.sec with lc := some { w with again := true } } }

/-! ### Checks of the monitor -/

/-- MESH_CHECK (R361): MESH_OK, and V3 with detail 0 open, 1 short. -/
def Dev.meshCheck (d : Dev) (m : Mesh) : Dev :=
  if !d.on then d
  else match m with
    | .good => d.sf F.SEC_TAMP_MESH_OK 0 0 1
    | .open => (d.sf F.SEC_TAMP_MESH_OK 0 0 0).violate [(3, 0)]
    | .short => (d.sf F.SEC_TAMP_MESH_OK 0 0 0).violate [(3, 1)]

/-- VBAT_MESH_CHECK (R364): only while VCC_AO is off and VBAT is present. DEDUCED, log entry 70. -/
def Dev.vbatMeshCheck (d : Dev) (broken : Bool) : Dev :=
  if d.mode == mOff && d.pin.bat && broken then
    let d := d.sf F.SEC_TAMP_BAT_SEEN 0 0 1
    if d.gb F.SEC_TAMP_BAT_ERASE then d.sf F.SEC_KEYS_ERASE_PENDING 0 0 1 else d
  else d

/-- CLOCK_GLITCH (R361): any island but 100 and 103. -/
def Dev.clockGlitch (d : Dev) (island : Nat) : Dev :=
  if island = 100 || island = 103 then d else d.violate [(1, island)]

/-- DEEP_HOLD_SENSOR_CHECK (R361): a valid reading of sensor 70 in 1/16 °C, below −50 °C or above 125 °C.
DEDUCED, log entry 45. -/
def Dev.deepSensor (d : Dev) (t : Int) : Dev :=
  if d.mode == mDeep && decide (-880 ≤ t) && decide (t ≤ 2160) && (decide (t < -800) || decide (2000 < t)) then
    d.violate [(2, 70)]
  else d

/-- ENTROPY_HEALTH_TEST_FAIL (R368). -/
def Dev.entropyFail (d : Dev) : Dev :=
  if d.on then ({ d with sec := { d.sec with entropyOk := false } }).faultFree 0x1C else d

end Sys2Proof.Machine
end

