-- ==== Sys2Proof/Machine/Cw.lean ====
section
/-! DEFINITION. Cellar write operations and renewal (R123 to R127, R136). -/

namespace Sys2Proof.Machine

/-- Results of CFG_CW_STAT. -/
abbrev cwOk : Nat := 0
abbrev cwProtected : Nat := 1
abbrev cwAlign : Nat := 2
abbrev cwNoVpp : Nat := 3
abbrev cwVerifyFail : Nat := 4

/-- Size of a Cellar block. -/
abbrev cwBlock : Nat := 0x10000

/-! ### Protection (R123, R131, R136) -/

/-- Pool blocks of the room images a room reads or has as a source (R136): its load, its planes and its
block RAM source. -/
def Dev.roomPoolImages (d : Dev) (n : Nat) : List Nat :=
  let r := d.room n
  (match r.load with
    | some l => if l.image < 0x04000000 then [l.image / cwBlock - 0x40] else []
    | none => []) ++
  (if r.shd.src && d.gf F.ROOM_PLANE_STAT_SH_SRC n == 0 then [d.gf F.ROOM_PLANE_STAT_SH_BLOCK n] else []) ++
  (if r.act.src && d.gf F.ROOM_PLANE_STAT_ACT_SRC n == 0 then [d.gf F.ROOM_PLANE_STAT_ACT_BLOCK n] else []) ++
  (if d.gb F.ROOM_BRAM_SRC_VALID n && d.gf F.ROOM_BRAM_SRC_SRC n == 0 then [d.gf F.ROOM_BRAM_SRC_BLOCK n] else [])

/-- A Cellar address lies in the blocks of the image that starts at pool block `b`. -/
def Dev.inPoolImage (d : Dev) (b a : Nat) : Bool :=
  let base := poolBase b
  let last := base + 0xA00 + field4 (d.header base) 0x20 - 1
  base / cwBlock ≤ a / cwBlock && a / cwBlock ≤ last / cwBlock

/-- A slot that a plane of some room has as its source (R131, for Test). DEDUCED, log entry 36. -/
def Dev.slotInPlane (d : Dev) (s : Nat) : Bool :=
  roomIds.any (fun n =>
    ((d.room n).act.src && d.gf F.ROOM_PLANE_STAT_ACT_SRC n == s) ||
      ((d.room n).shd.src && d.gf F.ROOM_PLANE_STAT_SH_SRC n == s))

/-- A write operation may not touch address `a` (R123). A renewal may touch the running slot and the running
record, whose data it does not change (R126), slot G among them, but not the slots that stand for the running one in
Test, which are so for R123 only (R131). -/
def Dev.cwBarred (d : Dev) (renew : Bool) (a : Nat) : Bool :=
  let slot := a / 0x04000000
  let running := slot != 0 && slot == d.gf F.CFG_STATUS_SLOT
  (0x20000 ≤ a && a < 0x400000) ||
    (slot == 3 && d.lcState != 2 && !(renew && running)) ||
    (!renew && (running || (a < 0x20000 && a / cwBlock + 1 == d.gf F.CFG_STATUS_RECORD))) ||
    (slot != 0 && d.mode == mTest && d.gf F.CFG_STATUS_SLOT == 0 && d.slotInPlane slot) ||
    (slot == 0 && 0x400000 ≤ a && roomIds.any (fun n => (d.roomPoolImages n).any (fun b => d.inPoolImage b a)))

/-! ### Operations (R123) -/

/-- An operation of CFG_CW_CTRL ends; any result but OK logs a FAULT (R123). -/
def Dev.cwEnd (d : Dev) (a result : Nat) : Dev :=
  let d := (d.cwStat a result).sf F.CFG_STATUS_BUSY 0 0 0
  if result = cwOk then d else d.fault 0x0D a

/-- The 256 bytes of CFG_CW_BUF (R5). -/
def Dev.cwBuffer (d : Dev) : List (BitVec 8) := (List.range 64).flatMap (fun k => leBytes 4 (d.reg .CFG_CW_BUF k).toNat)

/-- A step of the configuration controller's write engine begins. DEDUCED, log entry 25. -/
def Dev.cwBegin (d : Dev) (w : CwWork) : Dev :=
  { d with cfg := { d.cfg with cw := some w } }.sf F.CFG_STATUS_BUSY 0 0 1

/-- CW_PROGRAM_PAGE, CW_ERASE_BLOCK, CW_RENEW_BLOCK (R123): the operation is refused or starts. Where several results
apply the spec names none of them: ALIGN stands before PROTECTED before NO_VPP. DESIGN CHOICE, log entry 77. -/
def Dev.cwStart (d : Dev) (op : Nat) : Dev :=
  let a := d.gf F.CFG_CW_ADDR_ADDR
  if d.gb F.CFG_STATUS_BUSY then d.notice 0x75 0x30100
  else if a % (if op = 1 then 256 else cwBlock) != 0 then d.cwEnd a cwAlign
  else if d.cwBarred (op == 3) a then d.cwEnd a cwProtected
  else if !d.vppGood then d.cwEnd a cwNoVpp
  else d.cwBegin { op := op, addr := a, page := if op = 1 then d.cwBuffer else [] }

/-- CW_PROGRAM_PAGE (R123). -/
def execCwProgramPage (s : State) : Out := .next (s.onDev (fun d => d.cwStart 1))

/-- CW_ERASE_BLOCK (R123). -/
def execCwEraseBlock (s : State) : Out := .next (s.onDev (fun d => d.cwStart 2))

/-- CW_RENEW_BLOCK (R126). -/
def execCwRenewBlock (s : State) : Out := .next (s.onDev (fun d => d.cwStart 3))

/-- An erase cycle of a block is counted. -/
def Dev.cycleBlock (d : Dev) (b : Nat) : Dev :=
  { d with cfg := { d.cfg with cycles := Map.put (fun _ => 0) d.cfg.cycles b (Map.get (fun _ => 0) d.cfg.cycles b + 1) } }

/-- A page that is erased and defined can be programmed. -/
def Dev.pageErased (d : Dev) (a : Nat) : Bool :=
  Map.get (fun _ => 0) d.cfg.undef (a / 256) == 0 && (d.cellarRange a 256).all (· == 0xFF)

/-- The program step ends with its verify: a page that was not erased, or did not take, is left undefined.
DEDUCED, log entry 24. -/
def Dev.programDone (d : Dev) (w : CwWork) (ok : Bool) : Dev × Nat :=
  if ok && d.pageErased w.addr then (d.cellarStore w.addr w.page, cwOk)
  else (d.cellarSpoil w.addr 256, cwVerifyFail)

/-- A renewal step ends: a block of low margin has been rewritten through the spare (R126). -/
def Dev.renewDone (d : Dev) (a : Nat) (marginLow : Bool) : Dev :=
  if marginLow then
    ((((d.renewCopy a).renewFinish a).cycleBlock (a / cwBlock)).cycleBlock 4).cnt F.CFG_RENEW_REWRITTEN 0 0 |>.notice 0x0E a
  else d

/-! ### The renewal pass (R126) -/

/-- The next block of a pass from block `b` on: all but the secure sector, the spare and the journal.
DEDUCED, log entry 25. -/
def passNext (b : Nat) : Nat := if 2 ≤ b && b < 6 then 6 else b

/-- The pass ends. DEDUCED, log entry 25. -/
def Dev.renewEnd (d : Dev) (failed : Bool) : Dev :=
  { d with cfg := { d.cfg with renewPass := none, renewFailed := failed } }.sf F.CFG_RENEW_ACTIVE 0 0 0

/-- A renewal step of block `b` that no CFG_CW_CTRL operation asked for. -/
def Dev.renewStep (d : Dev) (b : Nat) : Dev := d.cwBegin { op := 3, addr := b * cwBlock, ticket := true }

/-- The security monitor renews the secure sector (R126), which no pass covers: the spec names no time, and the model
has it follow a completed pass. DESIGN CHOICE, log entry 77. -/
def Dev.renewSector (d : Dev) (b : Nat) : Dev := if d.vppGood then d.renewStep b else d

/-- The pass goes on with block `b`; without VPP_CEL it fails. -/
def Dev.renewGo (d : Dev) (b : Nat) : Dev :=
  if 4096 ≤ passNext b then (d.renewEnd false).renewSector 2
  else if !d.vppGood then (d.renewEnd true).fault 0x0D (passNext b * cwBlock)
  else ({ d with cfg := { d.cfg with renewPass := some (passNext b) } }).renewStep (passNext b)

/-- What follows a renewal step of block `b`: the next of the pass, or of the two copies of the secure sector. -/
def Dev.renewNext (d : Dev) (b : Nat) : Dev :=
  if b = 2 then d.renewSector 3 else if b = 3 then d else d.renewGo (b + 1)

/-- A renewal pass starts under a ticket. DEDUCED, log entry 25. -/
def Dev.renewStart (d : Dev) : Dev := (d.sf F.CFG_RENEW_ACTIVE 0 0 1).renewGo 0

/-- CW_OP_DONE (R123, R126): the step under way ends. DEDUCED, log entry 25. -/
def Dev.cwDone (d : Dev) (physOk marginLow : Bool) : Dev :=
  match d.cfg.cw with
  | none => d
  | some w =>
    let d := { d with cfg := { d.cfg with cw := none } }
    if w.ticket then ((d.renewDone w.addr marginLow).sf F.CFG_STATUS_BUSY 0 0 0).renewNext (w.addr / cwBlock)
    else if w.op = 1 then
      let r := d.programDone w physOk
      r.1.cwEnd w.addr r.2
    else if w.op = 2 then ((d.cellarErase w.addr cwBlock).cycleBlock (w.addr / cwBlock)).cwEnd w.addr cwOk
    else (d.renewDone w.addr marginLow).cwEnd w.addr cwOk

/-- CW_OP_DONE (R123). -/
def execCwOpDone (physOk marginLow : Bool) (s : State) : Out := .next (s.onDev (fun d => d.cwDone physOk marginLow))

/-- RENEWAL_RESUME (R127): at the start of SETTINGS an open journal whose CRC matches the spare is completed,
or stays open without VPP_CEL; one whose CRC does not match is closed. The rewrite counts a cycle of the block and one
of the spare (R126). -/
def Dev.renewResume (d : Dev) : Dev :=
  match d.cfg.journal with
  | none => d
  | some j =>
    let ok := crc32c ((List.range cwBlock).map (fun i => d.cellarCell (0x40000 + i))) == j.crc
    if !ok then { d with cfg := { d.cfg with journal := none } }
    else if !d.vppGood then d
    else ((((d.renewFinish j.block).cycleBlock (j.block / cwBlock)).cycleBlock 4).sf F.CFG_RENEW_RESUMED 0 0 1).notice 0x0E j.block

end Sys2Proof.Machine
end

