-- ==== Sys2Proof/Machine/Posts.lean ====
section
/-! DEFINITION. Where events come from (R253 to R257): posts of rooms and of the host bus, internal appends
and their acknowledges, and the pattern players. -/

namespace Sys2Proof.Machine

/-! ### Posts of rooms (R253) -/

/-- A refusal word goes to the delivery side of the posting port (R253). DEDUCED, log entry 29. -/
def Dev.refusalWord (d : Dev) (n p q reason : Nat) : Dev :=
  if d.noDelivery n || !d.evRoom n p then d.deliveryLost n
  else d.evPush n p (deliveryWord 2 q reason 0 d.now)

/-- A record of a room is refused, for any reason. -/
def Dev.postRefused (d : Dev) (n p q reason : Nat) : Dev := (d.cnt F.EVT_EVP_CNT_REFUSED n 0).refusalWord n p q reason

/-- A room may not post to this queue (R253). -/
def Dev.postOutside (d : Dev) (n addr : Nat) : Bool :=
  let q := addr % 16384
  !d.gb F.EVT_EVP_EN n || q < d.gf F.EVT_EVP_QLO n || d.gf F.EVT_EVP_QHI n < q || addr / 16384 != 0

/-- The record buffer of an attachment. -/
def Dev.postBuf (d : Dev) (att : Nat) : List PostRec := if att = 0 then d.ev.post0 else d.ev.post1

/-- Replace the record buffer of an attachment. -/
def Dev.setPostBuf (d : Dev) (att : Nat) (l : List PostRec) : Dev :=
  if att = 0 then { d with ev := { d.ev with post0 := l } } else { d with ev := { d.ev with post1 := l } }

/-- The ACK of an event port. -/
def Room.setAck (r : Room) (p st : Nat) : Room := if p = 0 then { r with ack0 := some st } else { r with ack1 := some st }

/-- The event core has room for a packet; one outside the room's range takes none. -/
def Dev.postFits (d : Dev) (p : EvPost) : Bool :=
  d.evOn && (d.postOutside p.room p.addr || decide ((d.postBuf p.att).length + p.recs.length ≤ 64))

/-- A packet is answered OK (a room held by the GSR does not see it), and its records are buffered or refused. -/
def Dev.postTake (d : Dev) (p : EvPost) : Dev :=
  let q := p.addr % 16384
  let d := d.onRoom p.room (fun r => if r.gsr then r else r.setAck p.port stOk)
  if d.postOutside p.room p.addr then
    d.each p.recs (fun d _ => (d.notice 0x5A (q + p.room * 65536)).postRefused p.room p.port q 2)
  else d.setPostBuf p.att (d.postBuf p.att ++ p.recs.map (fun w => { room := p.room, port := p.port, queue := q, word := w }))

/-- Packets held back in the mesh come in, in the order of their attachment, as far as there is room. -/
def Dev.meshIn (d : Dev) (att : Nat) : Dev :=
  let r := d.ev.mesh.foldl (fun (x : Dev × List EvPost × Bool) p =>
    if p.att = att && !x.2.2 && x.1.postFits p then (x.1.postTake p, x.2.1, false)
    else (x.1, x.2.1 ++ [p], x.2.2 || p.att == att)) (d, [], false)
  { r.1 with ev := { r.1.ev with mesh := r.2.1 } }

/-- EVENT_POST (R253): a packet of 1 to 16 records is buffered or refused, and answered OK; without room in the buffer
it stays in the mesh. A room whose clamps are engaged issues none (Table 6.4). DEDUCED, log entry 29. -/
def Dev.eventPost (d : Dev) (n p att addr : Nat) (recs : List (BitVec 64)) : Dev :=
  if (d.room n).gsr || (d.room n).clamps || recs.isEmpty || 16 < recs.length then d
  else
    let x : EvPost := { room := n, port := p, att := att, addr := addr, recs := recs }
    ({ d with ev := { d.ev with mesh := d.ev.mesh ++ [x] } }).meshIn att

/-- EVENT_POST (R253). -/
def execEventPost (n port att : Nat) (addr : Word) (recs : List (BitVec 64)) (s : State) : Out :=
  .next (s.onDev (fun d => d.eventPost n port att addr.toNat recs))

/-! ### Internal appends (R228) -/

/-- The first record of an attachment's buffer is appended, refused, or waits. -/
def Dev.attFirst (d : Dev) (att : Nat) : Dev :=
  match d.postBuf att with
  | [] => d
  | r :: l =>
    match d.appendJudge r.queue with
    | .wait => d
    | .go => (d.setPostBuf att l).appendStart r.queue r.word (2 * r.room + r.port)
    | .full => ((d.setPostBuf att l).appendRefused r.queue true).postRefused r.room r.port r.queue 0
    | .fault => ((d.setPostBuf att l).appendRefused r.queue false).postRefused r.room r.port r.queue 1

/-- An internal append of an attachment; packets held back take the room it leaves. -/
def Dev.attAppend (d : Dev) (att : Nat) : Dev := ((d.meshIn att).attFirst att).meshIn att

/-- The first record of the host's post buffer is appended, refused, or waits (R284). -/
def State.hostAppend (s : State) : State :=
  match s.hb.posts with
  | [] => s
  | r :: l =>
    let out := { s with hb := { s.hb with posts := l } }
    match s.dev.appendJudge r.1 with
    | .wait => s
    | .go => out.onDev (fun d => d.appendStart r.1 r.2 128)
    | .full => ({ out with hb := out.hb.refusePost r.1 0 }).onDev (fun d => d.appendRefused r.1 true)
    | .fault => ({ out with hb := out.hb.refusePost r.1 1 }).onDev (fun d => d.appendRefused r.1 false)

/-- INTERNAL_APPEND (R228). -/
def execInternalAppend (src : PostSrc) (s : State) : Out :=
  .next (if !s.dev.evOn then s
    else match src with
      | .att i => s.onDev (fun d => d.attAppend i.val)
      | .host => if s.dev.gb F.HBT_STAT_CLK_RUN then s.hostAppend else s)

/-- What a poster sees when its append is answered OK. -/
def State.posted (s : State) (poster : Nat) : State :=
  if poster < 128 then s
  else if poster = 128 then { s with hb := { s.hb with accepted := s.hb.accepted + 1 } }
  else s.onDev (fun d => d.cnt F.EVT_PLY_CNT_EVENTS (poster - 129) 0)

/-- What a poster sees when its append fails: refused because the queue is in FAULT. -/
def State.postFailed (s : State) (q poster : Nat) : State :=
  if poster < 128 then s.onDev (fun d => d.postRefused (poster / 2) (poster % 2) q 1)
  else if poster = 128 then { s with hb := s.hb.refusePost q 1 }
  else s.onDev (fun d => d.cnt F.EVT_PLY_CNT_STALLS (poster - 129) 0)

/-- APPEND_ACK (R228, R229). -/
def State.appendAck (s : State) (q : Nat) : State :=
  match (s.dev.queue q).append with
  | none => s
  | some a =>
    let s := s.onDev (fun d => d.onQueue q (fun x => { x with append := none }))
    if a.status = stOk then (s.onDev (fun d => d.cntWrap F.QUEUE_W1_TAIL q 0)).posted a.poster
    else (s.onDev (fun d => (d.queueFault q (larCause a.status)).appendRefused q false)).postFailed q a.poster

/-- APPEND_ACK (R228). -/
def execAppendAck (q : BitVec 14) (s : State) : Out := .next (if s.dev.evOn then s.appendAck q.toNat else s)

/-! ### Pattern players (R255 to R257) -/

/-- STATE of a player. -/
def Dev.plyState (d : Dev) (k : Nat) : Nat := d.gf F.EVT_PLY_STAT_STATE k

/-- Set STATE of a player. -/
def Dev.setPly (d : Dev) (k st : Nat) : Dev := d.sf F.EVT_PLY_STAT_STATE k 0 st

/-- Address of EVT_PLY_k_CTRL. -/
def plyAddr (k : Nat) : Nat := 0x91400 + 0x20 * k

/-- RUN is set (R256): the image is cleared unless KEEP_IMAGE is 1. -/
def Dev.playerStart (d : Dev) (k : Nat) : Dev :=
  let keep := d.gb F.EVT_PLY_CTRL_KEEP_IMAGE k
  ((d.sf F.EVT_PLY_CTRL_RUN k 0 1).setPly k pWait).onPlayer k (fun p =>
    { p with image := if keep then p.image else 0, pick := [], index := 0 })

/-- RUN is cleared (R257): the player stops after its current append. DEDUCED, log entry 33. -/
def Dev.playerHalt (d : Dev) (k : Nat) : Dev :=
  ((d.sf F.EVT_PLY_CTRL_RUN k 0 0).setPly k pIdle).onPlayer k (fun p => { p with pick := [], index := 0 })

/-- A write of EVT_PLY_k_CTRL: refusals with source 0x56 (RUN at 1) and 0x75 (LEAD). -/
def Dev.plyCtrlWrite (d : Dev) (k : Nat) (v : Word) : Dev × Bool × Nat :=
  let run := d.gb F.EVT_PLY_CTRL_RUN k
  let lead := bits v 24 4
  let badLead := !run && lead != d.gf F.EVT_PLY_CTRL_LEAD k && (lead == 0 || 8 < lead)
  let r := Dev.qField (d, false) k F.EVT_PLY_CTRL_KEEP_IMAGE (bits v 30 1) run
  let r := Dev.qField r k F.EVT_PLY_CTRL_ANGLE_UNIT (bits v 28 2) run
  let r := Dev.qField r k F.EVT_PLY_CTRL_LEAD lead (run || badLead)
  let r := Dev.qField r k F.EVT_PLY_CTRL_CHAN (bits v 22 2) run
  let r := Dev.qField r k F.EVT_PLY_CTRL_QBASE (bits v 0 14) run
  let d := if v.getLsbD 31 = run then r.1 else if run then r.1.playerHalt k else r.1.playerStart k
  (d, r.2, if run then 0x56 else 0x75)

/-- PLAYER_RUN (R256): EVT_PLY_k_CTRL written with RUN 1. -/
def execPlayerRun (k : Nat) (v : Word) (s : State) : Out :=
  .next (s.onDev (fun d => if d.evOn then
    let r := d.plyCtrlWrite k (v ||| 0x80000000)
    Dev.refuseIf (r.1, r.2.1) r.2.2 (plyAddr k) else d))

/-- PLAYER_STOP (R257): EVT_PLY_k_CTRL written with RUN 0 and the other fields unchanged. -/
def execPlayerStop (k : Nat) (s : State) : Out :=
  .next (s.onDev (fun d => if d.evOn && d.gb F.EVT_PLY_CTRL_RUN k then d.playerHalt k else d))

/-- PLAYER_WAIT_END (R256): the unit has reached revolution REV − LEAD; in Hold no FETCH starts (R257). -/
def Dev.playerWaitEnd (d : Dev) (k : Nat) : Dev :=
  let rev := (d.pPred (d.gf F.EVT_PLY_CTRL_ANGLE_UNIT k)).toNat / 2 ^ 32
  let first := d.gf F.EVT_PLY_REV_REV k + 2 ^ 32 - d.gf F.EVT_PLY_CTRL_LEAD k
  if d.evOn && (d.mode == mRun || d.mode == mQuiet) && d.plyState k == pWait &&
      (rev + 2 ^ 33 - first) % 2 ^ 32 < 2 ^ 31 then d.setPly k pFetch
  else d

/-- PLAYER_WAIT_END (R256). -/
def execPlayerWaitEnd (k : Nat) (s : State) : Out := .next (s.onDev (fun d => d.playerWaitEnd k))

/-- Bursts `b` on, `n` of them, as bytes: none if one is uncorrectable. -/
def Dev.dramBytes (d : Dev) (e req : Nat) : Nat → Nat → Dev × Option (List (BitVec 8))
  | _, 0 => (d, some [])
  | b, n + 1 =>
    let x := d.dramNow e b req (n == 0)
    if x.2.1 = .double then (x.1, none)
    else
      let r := Dev.dramBytes x.1 e req (b + 1) n
      (r.1, r.2.map (fun l => leBytes 16 x.2.2.toNat ++ l))

/-- Words of one channel. -/
abbrev chanWords : Nat := 0x1000000

/-- Read `n` bursts of a player's channel at word address `wa`: none where a read is not answered OK.
DEDUCED, log entry 33. -/
def Dev.playerRead (d : Dev) (k wa n : Nat) : Dev × Option (List (BitVec 8)) :=
  let ch := d.gf F.EVT_PLY_CTRL_CHAN k
  let e := d.dramLead ch
  let req := 79 + k
  if !d.pairServes ch || chanWords < wa + 2 * n then (d, none)
  else if d.fenced (8 + e) req then (d.fenceHit (8 + e) req, none)
  else (d.dramAwake e).dramBytes e req (wa / 2) n

/-- Fields of a pick record (Table 11.3). -/
def pickBits (l : List (BitVec 8)) : Nat := leNat (slice l 8 2)
def pickFlags (l : List (BitVec 8)) : Nat := leNat (slice l 0xF 1)
def pickNext (l : List (BitVec 8)) : Nat := field4 l 0x14
def pickScale (l : List (BitVec 8)) : Nat := pickFlags l / 16
def pickOffsets (l : List (BitVec 8)) : Bool := bitOf (pickFlags l) 0
def pickLast (l : List (BitVec 8)) : Bool := bitOf (pickFlags l) 1

/-- Length of a record in bytes (R255). -/
def pickLen (l : List (BitVec 8)) : Nat := 64 + pickBits l / 8 + (if pickOffsets l then pickBits l else 0)

/-- The header passes the checks of CAUSE 0b001 (R257). -/
def pickHeaderOk (l : List (BitVec 8)) : Bool :=
  let b := pickBits l
  field4 l 0 == 0x4B434950 && b % 64 == 0 && 64 ≤ b && b ≤ 16384 && pickScale l ≤ 8 && pickFlags l / 4 % 4 == 0 &&
    leNat (slice l 0x10 1) < 64 && leNat (slice l 0x11 1) < 64 && leNat (slice l 0x12 2) == 0 &&
    leNat (slice l 0x1C 36) == 0 && (pickNext l == 0xFFFFFFFF || pickNext l % 8 == 0)

/-- CHECK is right (R114, Table 11.3). -/
def pickCheckOk (l : List (BitVec 8)) : Bool :=
  crc32c (slice l 0 0x18 ++ [0, 0, 0, 0] ++ slice l 0x1C (pickLen l - 0x1C)) == BitVec.ofNat 32 (field4 l 0x18)

/-- A player fault (R257). -/
def Dev.playerFault (d : Dev) (k cause : Nat) : Dev :=
  let d := ((d.sf F.EVT_PLY_CTRL_RUN k 0 0).setPly k pFault).sf F.EVT_PLY_STAT_CAUSE k 0 cause
  (d.onPlayer k (fun p => { p with pick := [], index := 0 })).fault 0x59 (16 * k + cause)

/-- Bitmap bit `i` of a record. -/
def pickBit (l : List (BitVec 8)) (i : Nat) : Bool := ((l.drop (0x40 + i / 8)).headD 0).getLsbD (i % 8)

/-- The channels from `index` on whose bitmap bit differs from the image. -/
def Player.left (p : Player) : List Nat :=
  ((List.range (pickBits p.pick)).drop p.index).filter (fun i => pickBit p.pick i != p.image.getLsbD i)

/-- The pick is posted (R256 step 4). -/
def Dev.pickDone (d : Dev) (k : Nat) : Dev :=
  let l := (d.player k).pick
  let d := (d.cntWrap F.EVT_PLY_STAT_PICKS k 0).cntWrap F.EVT_PLY_REV_REV k 0
  let d := (d.sf F.EVT_PLY_ADDR_WA k 0 (pickNext l % chanWords)).onPlayer k (fun p => { p with pick := [], index := 0 })
  if pickNext l = 0xFFFFFFFF || pickLast l then (d.sf F.EVT_PLY_CTRL_RUN k 0 0).setPly k pDone else d.setPly k pWait

/-- The next pick follows at once when no channel of this one is left. DEDUCED, log entry 33. -/
def Dev.pickGo (d : Dev) (k : Nat) : Dev := if (d.player k).left.isEmpty then d.pickDone k else d.setPly k pPost

/-- PLAYER_FETCH_DONE (R256, R257): header, its checks, the rest, CHECK, and the range of queues.
DEDUCED, log entry 33. -/
def Dev.playerFetchDone (d : Dev) (k : Nat) : Dev :=
  if !d.evOn || d.plyState k != pFetch || d.dramWaits (d.gf F.EVT_PLY_CTRL_CHAN k) (79 + k) then d
  else
    let wa := d.gf F.EVT_PLY_ADDR_WA k
    if wa % 8 != 0 then d.playerFault k 1
    else
      let h := d.playerRead k wa 4
      match h.2 with
      | none => h.1.playerFault k 3
      | some hd =>
        if !pickHeaderOk hd then h.1.playerFault k 1
        else
          let r := h.1.playerRead k wa ((pickLen hd + 15) / 16)
          match r.2 with
          | none => r.1.playerFault k 3
          | some l =>
            if !pickCheckOk l then r.1.playerFault k 2
            else if 16384 < r.1.gf F.EVT_PLY_CTRL_QBASE k + pickBits l then r.1.playerFault k 4
            else (r.1.onPlayer k (fun p => { p with pick := l.take (pickLen l), index := 0 })).pickGo k

/-- PLAYER_FETCH_DONE (R256). -/
def execPlayerFetchDone (k : Nat) (s : State) : Out := .next (s.onDev (fun d => d.playerFetchDone k))

/-- The record a player appends for channel `i` (R256 step 3). -/
def Dev.pickRecord (d : Dev) (k i : Nat) : BitVec 64 :=
  let l := (d.player k).pick
  let up := pickBit l i
  let a := leNat (slice l (if up then 0xA else 0xC) 2)
  let off : Int := if pickOffsets l then ((l.drop (0x40 + pickBits l / 8 + i)).headD 0).toInt * 2 ^ pickScale l else 0
  let due := ((d.gf F.EVT_PLY_REV_REV k * 65536 + a : Nat) + off) % 1073741824
  let prof := leNat (slice l (if up then 0x10 else 0x11) 1)
  BitVec.ofNat 64 (2 ^ 62 + due.toNat * 2 ^ 32 + leNat (slice l 0xE 1) * 2 ^ 24 +
    (if up then acSet else acClear) * 2 ^ 20 + prof * 2 ^ 14)

/-- Channel `i` is done: its image bit takes the bitmap bit. -/
def Dev.pickStep (d : Dev) (k i : Nat) : Dev :=
  (d.onPlayer k (fun p => { p with
    image := setMasked p.image i 1 (b2n (pickBit p.pick i)), index := i + 1 })).pickGo k

/-- The player appends the record of its next channel. -/
def Dev.playerPost (d : Dev) (k : Nat) : Dev :=
  match (d.player k).left with
  | [] => d.pickGo k
  | i :: _ =>
    let q := d.gf F.EVT_PLY_CTRL_QBASE k + i
    match d.appendJudge q with
    | .wait => d
    | .go => (d.appendStart q (d.pickRecord k i) (129 + k)).pickStep k i
    | .full => ((d.appendRefused q true).cnt F.EVT_PLY_CNT_STALLS k 0).setPly k pStalled
    | .fault => ((d.appendRefused q false).cnt F.EVT_PLY_CNT_STALLS k 0).pickStep k i

/-- PLAYER_APPEND (R256). -/
def execPlayerAppend (k : Nat) (s : State) : Out :=
  .next (s.onDev (fun d => if d.evOn && d.plyState k == pPost then d.playerPost k else d))

/-- PLAYER_STALL_RESUME (R257): the queue has room again, or is in FAULT. -/
def Dev.playerResume (d : Dev) (k : Nat) : Dev :=
  if !d.evOn || d.plyState k != pStalled then d
  else match (d.player k).left with
    | [] => d
    | i :: _ =>
      match d.appendJudge (d.gf F.EVT_PLY_CTRL_QBASE k + i) with
      | .full => d
      | .wait => d
      | _ => (d.setPly k pPost).playerPost k

/-- PLAYER_STALL_RESUME (R257). -/
def execPlayerStallResume (k : Nat) (s : State) : Out := .next (s.onDev (fun d => d.playerResume k))

end Sys2Proof.Machine
end

