-- ==== Sys2Proof/Machine/RegWrite.lean ====
section
/-! DEFINITION. Writes of registers as the Hatch, a settings record or a kind 2 list makes them (R8 to R11,
R107, R115): field by field, refused fields keeping their values, with what each register does when
written. Every function answers the device after the write, NOTICE included, and whether a field was
refused. GBL_MODE, GBL_REAPPLY and the rows of their own stand in later files. -/

namespace Sys2Proof.Machine

/-! ### Addresses (R391) -/

/-- The Hatch byte address of a register. -/
def RK.addr (k : RK) (i j : Nat) : Nat := k.desc.base + k.desc.st1 * i + k.desc.st2 * j

/-- The indices of the element of an array that lies at an address. -/
def RegDesc.index (x : RegDesc) (a : Nat) : Option (Nat × Nat) :=
  if a < x.base then none
  else
    let i := (a - x.base) / x.st1
    let r := (a - x.base) % x.st1
    if i < x.n1 && r % x.st2 == 0 && r / x.st2 < x.n2 then some (i, r / x.st2) else none

/-- The register at an address, none where no register description defines it (R392). Islands 100, 103 and
105 have no clock generator. DEDUCED, log entry 22. -/
def RK.find (a : Nat) : Option (RK × Nat × Nat) :=
  match RK.all.find? (fun k => (k.desc.index a).isSome) with
  | none => none
  | some k => (k.desc.index a).bind (fun ij =>
      if (k == .CLK_ISL_CTRL || k == .CLK_ISL_STAT) && !hasGen ij.1 then none else some (k, ij.1, ij.2))

/-- Words of a block that its description marks RSV as a whole: the rest of an arbiter entry (R187). -/
def rsvWord (a : Nat) : Bool :=
  a % 4 == 0 && 0x60000 ≤ a && a < 0x6C000 && 0x100 ≤ a % 0x1000 && a % 0x1000 < 0x100 + 0x20 * 96 && 0x14 ≤ a % 0x20

/-! ### Plain fields -/

/-- RW bits take the value written, W1C bits written 1 are cleared (Table 0.3). DEDUCED, log entry 22. -/
def Dev.maskWrite (d : Dev) (k : RK) (i j : Nat) (v : Word) : Dev :=
  let rw := BitVec.ofNat 32 k.desc.rw
  let w1c := BitVec.ofNat 32 k.desc.w1c
  d.setReg k i j (((d.reg k i j &&& ~~~rw) ||| (v &&& rw)) &&& ~~~(w1c &&& v))

/-- One field of a write, `bad` where its value is reserved or the register refuses it now (R11).
DEDUCED, log entry 20. -/
def Dev.fld (r : Dev × Bool) (i j : Nat) (f : Fld) (v : Word) (bad : Nat → Bool) : Dev × Bool :=
  let x := bits v f.lo f.width
  if x = r.1.gf f i j then r else if bad x then (r.1, true) else (r.1.sf f i j x, r.2)

/-- The fields of a write in turn. DEDUCED, log entry 20. -/
def Dev.flds (d : Dev) (i j : Nat) (v : Word) (l : List (Fld × (Nat → Bool))) : Dev × Bool :=
  l.foldl (fun r e => Dev.fld r i j e.1 v e.2) (d, false)

/-- A value outside a range. -/
def outside (lo hi x : Nat) : Bool := x < lo || hi < x

/-- Any value will do. -/
def anyVal : Nat → Bool := fun _ => false

/-- The NOTICE of a refusal, with the answer. DEDUCED, log entry 20. -/
def Dev.noted (r : Dev × Bool) (src a : Nat) : Dev × Bool := (Dev.refuseIf r src a, r.2)

/-- A register whose VALID bit, written 1, clears all its fields. DEDUCED, log entry 21. -/
def Dev.clearOnValid (d : Dev) (k : RK) (i j : Nat) (v : Word) : Dev × Bool :=
  (if v.getLsbD 31 then d.setReg k i j 0 else d, false)

/-- A key other than 0xC5 (R152, R206, R276, R368): the write is ignored and logged. -/
def Dev.keyedWrite (d : Dev) (v : Word) (f : Dev → Dev × Bool) : Dev × Bool :=
  if bits v 24 8 = 0xC5 then f d else (d.noticeFree 0x09, true)

/-! ### Rooms (R67 to R152) -/

/-- Items of 2 bits in a word: a reserved 0b11 keeps the old item (R11). DEDUCED, log entry 22. -/
def clampItems (old v : Word) (n : Nat) : Nat :=
  (List.range n).foldl (fun m i =>
    let x := bits v (2 * i) 2
    m + (if x = 3 then bits old (2 * i) 2 else x) * 4 ^ i) 0

/-- A write of ROOM_CLAMP_k (R142): pins of a facing bank only, 0b11 reserved pin by pin. -/
def Dev.clampWrite (d : Dev) (n k : Nat) (v : Word) : Dev × Bool :=
  if (bankOf n).isNone then (d, false)
  else
    let pins := if k = 2 then 8 else 16
    let old := d.reg .ROOM_CLAMP n k
    let new := BitVec.ofNat 32 (clampItems old v pins)
    Dev.noted (d.setReg .ROOM_CLAMP n k new, (List.range pins).any (fun i => bits v (2 * i) 2 == 3)) 0x75 (RK.ROOM_CLAMP.addr n k)

/-- A pass may be under way in a room: released, clamps open (R151). A load only pauses it. -/
def Dev.scrubFree (d : Dev) (n : Nat) : Bool := d.roomUp n && d.pstate n == 0

/-- A scrub pass starts at position 0 of the active plane. -/
def Dev.scrubStart (d : Dev) (n : Nat) : Dev :=
  ((d.sf F.ROOM_SCRUB_STAT_POSITION n 0 0).sf F.ROOM_SCRUB_STAT_PLANE n 0 0).sf F.ROOM_SCRUB_STAT_RUNNING n 0 1

/-- A write of ROOM_SCRUB_CFG (R150). DEDUCED, log entry 39. -/
def Dev.scrubCfgWrite (d : Dev) (n : Nat) (v : Word) : Dev × Bool :=
  let old := d.gf F.ROOM_SCRUB_CFG_MODE n
  let r := d.flds n 0 v [(F.ROOM_SCRUB_CFG_FAIL_RESET, anyVal), (F.ROOM_SCRUB_CFG_SHADOW_EN, anyVal), (F.ROOM_SCRUB_CFG_MODE, (· == 3))]
  let d := r.1
  let mode := d.gf F.ROOM_SCRUB_CFG_MODE n
  let d := if mode = old then d
    else if mode = 1 then (if d.scrubFree n then d.scrubStart n else d)
    else d.sf F.ROOM_SCRUB_STAT_RUNNING n 0 0
  Dev.noted (d, r.2) 0x75 (RK.ROOM_SCRUB_CFG.addr n 0)

/-- A write of ROOM_LOAD_CTRL (R152). -/
def Dev.loadCtrlWrite (d : Dev) (n : Nat) (v : Word) : Dev × Bool :=
  d.keyedWrite v (fun d =>
    match bits v 0 3 with
    | 0 => (d, false)
    | 1 => (d.loadPlane n false, false)
    | 2 => (d.loadPlane n true, false)
    | 3 => (d.armSwap n, false)
    | 4 => (d.disarmSwap n, false)
    | 5 => (d.abortLoad n, false)
    | 6 => (d.discardShadow n, false)
    | _ => Dev.noted (d, true) 0x75 (RK.ROOM_LOAD_CTRL.addr n 0))

/-- A write of CFG_CW_CTRL (R123). -/
def Dev.cwCtrlWrite (d : Dev) (v : Word) : Dev × Bool :=
  d.keyedWrite v (fun d => if bits v 0 2 = 0 then (d, false) else (d.cwStart (bits v 0 2), d.gb F.CFG_STATUS_BUSY))

/-! ### Larder, arbiters, DRAM -/

/-- A write of LAR_TEST_CTRL (R163, R166). -/
def Dev.testCtrlWrite (d : Dev) (v : Word) : Dev × Bool :=
  let d := d.sf F.LAR_TEST_CTRL_REGION 0 0 (bits v 0 14)
  let d := d.when (v.getLsbD 29) Dev.larTestStop
  let bad := (v.getLsbD 31 && d.gb F.LAR_TEST_STAT_BUSY) || (v.getLsbD 30 && (d.gb F.LAR_TEST_STAT_BUSY || v.getLsbD 31))
  let d := d.when (v.getLsbD 31) Dev.larTestPass
  (d.when (v.getLsbD 30) (fun d => d.larTestOne (bits v 0 14)), bad)

/-- A write of ARB_a_REQ_i_CFG (R179): fields RSV for timed IDs, all of it for a requester that does not reach. -/
def Dev.reqCfgWrite (d : Dev) (a i : Nat) (v : Word) : Dev × Bool :=
  if !arbReaches a i then (d, false)
  else if timedId i then (d.sf F.ARB_REQ_CFG_BURST a i (bits v 16 8), false)
  else (d.maskWrite .ARB_REQ_CFG a i v, false)

/-- OFF or UNTRAINED. -/
def Dev.dramUnused (d : Dev) (n : Nat) : Bool := d.dramState n == drOff || d.dramState n == drUntrained

/-- A write of DRC_n_CFG (Table 9.1, R201): DEVTYPE 0b00 has no self-refresh (R198). -/
def Dev.drcCfgWrite (d : Dev) (n : Nat) (v : Word) : Dev × Bool :=
  let mirror := if n % 2 = 0 then [(F.DRC_CFG_MIRROR, fun _ => !d.dramUnused n || !d.dramUnused (n + 1))] else []
  Dev.noted (d.flds n 0 v (mirror ++ [(F.DRC_CFG_WB_EN, anyVal), (F.DRC_CFG_LOSE_OK, anyVal),
    (F.DRC_CFG_DEVTYPE, fun x => 2 ≤ x || !d.dramUnused n || (x == 0 && d.gf F.DRC_REF_REF_MODE n == 1))])) 0x75 (RK.DRC_CFG.addr n 0)

/-- A write of DRC_n_TIMING. -/
def Dev.drcTimingWrite (d : Dev) (n : Nat) (v : Word) : Dev × Bool :=
  let r := d.flds n 0 v [(F.DRC_TIMING_TXS, (· == 0)), (F.DRC_TIMING_TRC, outside 4 16), (F.DRC_TIMING_RL, outside 3 16)]
  let trc := r.1.gf F.DRC_TIMING_TRC n
  let r := Dev.fld r n 0 F.DRC_TIMING_TRTW v (fun x => trc < x)
  Dev.noted (Dev.fld r n 0 F.DRC_TIMING_TWTR v (fun x => trc < x)) 0x75 (RK.DRC_TIMING.addr n 0)

/-- A write of DRC_n_REF (R198). -/
def Dev.drcRefWrite (d : Dev) (n : Nat) (v : Word) : Dev × Bool :=
  Dev.noted (d.flds n 0 v [
    (F.DRC_REF_REF_MODE, fun x => 2 ≤ x || (x == 1 && d.gf F.DRC_CFG_DEVTYPE n == 0)),
    (F.DRC_REF_REF_INT, (· == 0))]) 0x75 (RK.DRC_REF.addr n 0)

/-- A write of DRC_n_CTRL (R206). -/
def Dev.drcCtrlWrite (d : Dev) (n : Nat) (v : Word) : Dev × Bool :=
  d.keyedWrite v (fun d =>
    match bits v 0 3 with
    | 0 => (d, false)
    | 1 => (d.dramTrain n, false)
    | 2 => (d.dramOffline n, false)
    | 3 => (d.dramOnline n, false)
    | _ => Dev.noted (d, true) 0x75 (RK.DRC_CTRL.addr n 0))

/-! ### Event engine -/

/-- A write of EVT_CTRL (R236). -/
def Dev.evtCtrlWrite (d : Dev) (v : Word) : Dev × Bool :=
  let d := d.sf F.EVT_CTRL_FLUSH_OK 0 0 (bits v 1 1)
  (d.when (v.getLsbD 0) Dev.stopAllWrite, false)

/-- A write of EVT_PLY_k_ADDR or EVT_PLY_k_REV (R257): refused while RUN is 1. -/
def Dev.plyFieldWrite (d : Dev) (k : Nat) (f : Fld) (v : Word) (bad : Nat → Bool) : Dev × Bool :=
  if d.gb F.EVT_PLY_CTRL_RUN k then Dev.noted (d.flds k 0 v [(f, fun _ => true)]) 0x56 (f.reg.addr k 0)
  else Dev.noted (d.flds k 0 v [(f, bad)]) 0x75 (f.reg.addr k 0)

/-! ### Governor (R313, R324) -/

/-- A write of GOV_TLIM: a TJ_CRIT above 105 is kept out; then TJ_CRIT must stand above TJ_LIM, or the fields of
the pair that the write changes keep their values. DEDUCED, log entry 38. -/
def Dev.tlimWrite (d : Dev) (v : Word) : Dev × Bool :=
  let oldCrit := d.gf F.GOV_TLIM_TJ_CRIT
  let crit := bits v 24 8
  let high := crit != oldCrit && 105 < crit
  let bad := (if high then oldCrit else crit) ≤ bits v 16 8
  d.flds 0 0 v [(F.GOV_TLIM_TJ_CRIT, fun _ => high || bad), (F.GOV_TLIM_TJ_LIM, fun _ => bad),
    (F.GOV_TLIM_TJ_HYST, outside 1 20)]

/-- A write of GOV_AVS: the two rails differ. -/
def Dev.avsWrite (d : Dev) (v : Word) : Dev × Bool :=
  let same := bits v 28 4 == bits v 24 4
  d.flds 0 0 v [(F.GOV_AVS_RAIL_VCC, fun _ => same), (F.GOV_AVS_RAIL_SRAM, fun _ => same),
    (F.GOV_AVS_TO, (· == 0)), (F.GOV_AVS_TOL, anyVal), (F.GOV_AVS_DIV, (· < 3))]

/-- A write of GOV_ROOM_n. -/
def Dev.govRoomWrite (d : Dev) (n : Nat) (v : Word) : Dev × Bool :=
  let d := (d.sf F.GOV_ROOM_AUTO_AGREE n 0 (bits v 29 1)).sf F.GOV_ROOM_FORCE_PARK n 0 (bits v 28 1)
  (if bits v 30 2 = d.gf F.GOV_ROOM_CLASS n && (d.room n).newClass.isNone then d else d.classWrite n (bits v 30 2), false)

/-- A write of GOV_TKT_t_W0 (R313): STATE as firmware may change it, a reserved KIND refused.
DEDUCED, log entry 36. -/
def Dev.tkt0Write (d : Dev) (t : Nat) (v : Word) : Dev × Bool :=
  let st := bits v 29 3
  let bad := st != d.tkState t && !d.tkWriteOk t st
  let d := if st = d.tkState t || bad then d else d.tkPut t st
  let r := d.flds t 0 v [(F.GOV_TKT_W0_KIND, fun x => 6 ≤ x), (F.GOV_TKT_W0_PRIO, anyVal), (F.GOV_TKT_W0_TARGET, anyVal)]
  (r.1.tkExpire t, r.2 || bad)

/-- A write of another word of a ticket (R313): refused while RUNNING or SUSPENDED. -/
def Dev.tktWrite (d : Dev) (t : Nat) (f : Fld) (v : Word) : Dev × Bool :=
  let lock := d.tkState t == tkRunning || d.tkState t == tkSuspended
  let r := d.flds t 0 v [(f, fun _ => lock)]
  (r.1.tkExpire t, r.2)

/-! ### Clock synthesis (R325 to R339) -/

/-- A write of PLL_n_STEP (R333): whether GO was refused. -/
def Dev.stepWrite (d : Dev) (n : Nat) (v : Word) : Dev × Bool :=
  (d.pllStepWrite n v, v.getLsbD 31 && (d.gb F.PLL_STEP_BUSY n || d.gf F.PLL_CTRL_MODE n != 2 || !d.gb F.PLL_CTRL_EN n))

/-- A write of PLL_n_RAMP_CTRL (R336, R337): GO first, then STOP. DEDUCED, log entry 38. -/
def Dev.rampWrite (d : Dev) (n : Nat) (v : Word) : Dev × Bool :=
  let bad := v.getLsbD 31 && !d.rampOk n
  let d := d.when (v.getLsbD 31) (fun d => d.pllRampGo n)
  (d.when (v.getLsbD 30) (fun d => d.haltRamp n 2), bad)

/-- A write of PLL_n_REFIN (R418): refused while an enabled PLL uses the pin. -/
def Dev.refinWrite (d : Dev) (n : Nat) (v : Word) : Dev × Bool :=
  let used := (List.range 8).any (fun p => d.gb F.PLL_CTRL_EN p && d.gf F.PLL_CTRL_REF_SEL p == n)
  Dev.noted (d.flds n 0 v [(F.PLL_REFIN_FREQ, fun x => used || (x != 0 && outside 10000 200000 x)),
    (F.PLL_REFIN_FMT, fun x => used || x == 3)]) 0x75 (RK.PLL_REFIN.addr n 0)

/-- A write of PLL_n_DIV or PLL_n_FRAC (R334). DEDUCED, log entry 38. -/
def Dev.divWrite (d : Dev) (n : Nat) (k : RK) (v : Word) : Dev × Bool :=
  let en := d.gb F.PLL_CTRL_EN n
  let l := if k == .PLL_DIV then [(F.PLL_DIV_RDIV, fun _ => en), (F.PLL_DIV_N, fun _ => en)]
    else [(F.PLL_FRAC_FRAC, fun _ => en)]
  Dev.noted (d.flds n 0 v l) 0x75 (k.addr n 0)

/-! ### Security (R357, R365, R368) -/

/-- Codes of SEC_POL that a write would lower in Production (R365). DEDUCED, log entry 70. -/
def Dev.polLowered (d : Dev) (v : Word) : List Nat :=
  if d.lcState = 4 then (List.range 6).filter (fun x => bits v (2 * x) 2 < d.policy x) else []

/-- A write of SEC_POL, code by code: 0b11 is reserved, and a code that would be lowered in Production needs
level 2 (R357, R365). -/
def Dev.polWrite (d : Dev) (v : Word) (lvl2 : Bool) : Dev × Bool :=
  let low := if lvl2 then [] else d.polLowered v
  let new := (List.range 6).foldl (fun m x =>
    let c := bits v (2 * x) 2
    m + (if c = 3 || low.contains x then d.policy x else c) * 4 ^ x) 0
  let bad := (List.range 6).any (fun x => bits v (2 * x) 2 == 3)
  let d := d.sf F.SEC_POL_POL 0 0 new
  let d := if low.isEmpty then d else d.notice 0x18 RK.SEC_POL.desc.base
  Dev.noted (d, bad) 0x75 RK.SEC_POL.desc.base |> fun r => (r.1, r.2 || !low.isEmpty)

/-- An operation of SEC_CMD (R368). -/
def Dev.secCmdWrite (d : Dev) (v : Word) : Dev × Bool :=
  d.keyedWrite v (fun d =>
    let arg := bits v 4 4
    match bits v 0 4 with
    | 0 => (d, false)
    | 1 => (d.loadOik arg, false)
    | 2 => (d.loadDbg, false)
    | 3 => (d.loadImg, false)
    | 4 => (d.ownerCmd, false)
    | 5 => (d.challenge arg, false)
    | 6 => (d.respondCmd, false)
    | 7 => (d.releaseCmd, false)
    | 8 => (d.attestCmd, false)
    | _ => Dev.noted (d, true) 0x75 RK.SEC_CMD.desc.base)

/-! ### Error unit (R398, R399) -/

/-- ERR_ACK (R398): the oldest queued record moves into ERR_FIRST, or ERR_FIRST becomes invalid.
DEDUCED, log entry 72. -/
def Dev.errAck (d : Dev) : Dev :=
  if !d.gb F.ERR_FIRST_VALID then d
  else match d.err.queue with
    | [] => (d.sf F.ERR_FIRST_VALID 0 0 0).sf F.ERR_STAT_FIRST_VALID 0 0 0
    | r :: l => (({ d with err := { d.err with queue := l } }).sf F.ERR_STAT_QLEN 0 0 l.length).putFirst r

/-- ERR_ALARM_CLEAR (R399): the held alarm record is cleared. DEDUCED, log entry 21. -/
def Dev.errAlarmClear (d : Dev) : Dev :=
  (((d.setReg .ERR_ALARM 0 0 0).setReg .ERR_ALARM_TIME_LO 0 0 0).setReg .ERR_ALARM_TIME_HI 0 0 0).setReg .ERR_ALARM_DETAIL 0 0 0

/-- A write of ERR_STAT: OVF written 1 clears OVF, OVF_SEV and LOST. DEDUCED, log entry 21. -/
def Dev.errStatWrite (d : Dev) (v : Word) : Dev :=
  if v.getLsbD 30 then ((d.sf F.ERR_STAT_OVF 0 0 0).sf F.ERR_STAT_OVF_SEV 0 0 0).sf F.ERR_STAT_LOST 0 0 0 else d

/-! ### Banks (R405, R406) -/

/-- A rail is no longer good. -/
def Dev.railDown (d : Dev) (r : Nat) : Dev :=
  let g := d.gf F.GBL_RAIL_STAT_GOOD
  d.sf F.GBL_RAIL_STAT_GOOD 0 0 (if bitOf g r then g - 2 ^ r else g)

/-- A standard whose outputs have no 16 mA drive. -/
def lowStd (s : Nat) : Bool := 1 ≤ s && s ≤ 3

/-- IOB_STD_WRITE (R405): a write of IOB_Bnn_CFG. A change of STD makes the bank's rail not good (R370).
DEDUCED, log entry 22. DEDUCED, log entry 38. -/
def Dev.iobCfgWrite (d : Dev) (b : Nat) (v : Word) : Dev × Bool :=
  let old := d.gf F.IOB_CFG_STD b
  let held := d.bankHeld b
  let strong := (List.range 40).any (fun m => d.gf F.IOB_PIN_DRIVE b m == 3)
  let no := fun (_ : Nat) => !held
  let r := d.flds b 0 v [(F.IOB_CFG_STD, fun x => !held || 7 ≤ x || (lowStd x && strong)), (F.IOB_CFG_FCLK_EN, no),
    (F.IOB_CFG_FCLK_PLL, no), (F.IOB_CFG_FCLK_OUT, no)]
  let std := r.1.gf F.IOB_CFG_STD b
  let d := if std = old then r.1 else (r.1.railDown (10 + b)).bankLeaves b
  let d := if std = 0 then d.sf F.IOB_STAT_MISMATCH b 0 0 else d
  Dev.noted (d, r.2) 0x75 (RK.IOB_CFG.addr b 0)

/-- A write of IOB_Bnn_PIN_m (R406): a SAFE written while the pin is in its safe state applies at the next entry. -/
def Dev.iobPinWrite (d : Dev) (b m : Nat) (v : Word) : Dev × Bool :=
  let d := if d.pinSafe b m && bits v 30 2 != d.gf F.IOB_PIN_SAFE b m && bits v 30 2 != 3 then
      let old := Map.get (fun _ => d.gf F.IOB_PIN_SAFE b m) d.pin.safeOld (64 * b + m)
      { d with pin := { d.pin with safeOld := (d.pin.safeOld.erase (64 * b + m)).insert (64 * b + m) old } }
    else d
  let std := d.gf F.IOB_CFG_STD b
  let diff := if m % 2 = 0 then [(F.IOB_PIN_DIFF, fun x => x == 1 && std != 3 && std != 4)] else []
  Dev.noted (d.flds b m v ([(F.IOB_PIN_SAFE, (· == 3)), (F.IOB_PIN_DRIVE, fun x => x == 3 && lowStd std),
    (F.IOB_PIN_SLEW, anyVal), (F.IOB_PIN_PULL, (· == 3)), (F.IOB_PIN_SUBLVDS, anyVal), (F.IOB_PIN_TERM, anyVal),
    (F.IOB_PIN_SER, fun x => x == 1 || 11 ≤ x)] ++ diff)) 0x75 (RK.IOB_PIN.addr b m)

/-! ### All registers -/

/-- Fields of a write with an R11 refusal of source 0x75. -/
def Dev.plainFlds (d : Dev) (k : RK) (i j : Nat) (v : Word) (l : List (Fld × (Nat → Bool))) : Dev × Bool :=
  Dev.noted (d.flds i j v l) 0x75 (k.addr i j)

/-- The bits of a GOV register that its description marks RSV. -/
def govRsv (k : RK) : Word :=
  match k with
  | .GOV_CTRL => 0x00FFF000
  | .GOV_STAT => 0x00FF0000
  | .GOV_TLIM => 0x000000FF
  | .GOV_TMAX => 0xFF800000
  | .GOV_AVS => 0x000000E0
  | .GOV_SLEEP_STAT => 0x00000FFF
  | .GOV_TEMP => 0x7FFF0000
  | .GOV_ROOM => 0x03FF0000
  | .GOV_TKT_W0 => 0x003FFF00
  | .GOV_TKT_W2 => 0xFFFF0000
  | _ => 0

/-- The fields of a write of a GOV register (R324): whether one was refused, before its NOTICE. -/
def Dev.govFields (d : Dev) (k : RK) (i : Nat) (v : Word) : Dev × Bool :=
  match k with
  | .GOV_CTRL => d.flds 0 0 v [(F.GOV_CTRL_RELAX, (· == 0)), (F.GOV_CTRL_STEP, (· == 0))]
  | .GOV_TLIM => d.tlimWrite v
  | .GOV_VCC => d.flds 0 0 v [(F.GOV_VCC_MARGIN, fun x => 80 < x), (F.GOV_VCC_VSRAM_RUN, outside 800 900),
      (F.GOV_VCC_VSRAM_RET, outside 800 900)]
  | .GOV_AVS => d.avsWrite v
  | .GOV_SLEEP => d.flds 0 0 v [(F.GOV_SLEEP_DELAY_MAX, (· == 0)), (F.GOV_SLEEP_QP_TO, (· == 0)),
      (F.GOV_SLEEP_TRIES, (· == 0)), (F.GOV_SLEEP_RETRY, (· == 0))]
  | .GOV_SLEEP_STAT => (if v.getLsbD 23 then d.sf ⟨.GOV_SLEEP_STAT, 12, 12⟩ 0 0 0 else d, false)
  | .GOV_ROOM => d.govRoomWrite i v
  | .GOV_TKT_W0 => d.tkt0Write i v
  | .GOV_TKT_W1 => d.tktWrite i F.GOV_TKT_W1_ENERGY v
  | .GOV_TKT_W2 => d.tktWrite i F.GOV_TKT_W2_THERMAL v
  | .GOV_TKT_W3 => d.tktWrite i F.GOV_TKT_W3_DEADLINE v
  | k => (d.maskWrite k i 0 v, false)

/-- A write of a GOV register (R324): a 1 written to a field marked reserved counts as a reserved encoding, of
which the write logs one NOTICE (R11). DEDUCED, log entry 38. -/
def Dev.govWrite (d : Dev) (k : RK) (i : Nat) (v : Word) : Dev × Bool :=
  let r := d.govFields k i v
  Dev.noted (r.1, r.2 || v &&& govRsv k != 0) 0x75 (k.addr i 0)

/-- A write of a register of the event engine's island (R224, R236, R241, R252, R253, R257). -/
def Dev.evtWrite (d : Dev) (k : RK) (i : Nat) (v : Word) : Dev × Bool :=
  let a := k.addr i 0
  match k with
  | .EVT_ANG_CFG => Dev.noted (d.angCfgWrite i v) 0x75 a
  | .EVT_ANG_INC => d.plainFlds k i 0 v [(F.EVT_ANG_INC_INC, fun x => x == 0 || d.gb F.EVT_ANG_CFG_EN i)]
  | .EVT_ANG_ANGLE => Dev.noted (d.angPosWrite i v) 0x75 a
  | .EVT_ANG_REV => (d.onAngle i (fun x => { x with pendRev := v }), false)
  | .QUEUE_W0 => Dev.noted (d.word0Write i v) 0x56 a
  | .QUEUE_W1 => Dev.noted (d.word1Write i v) 0x56 a
  | .QUEUE_W2 => Dev.noted (d.word2Write i v) 0x56 a
  | .QUEUE_W3 => (d.word3Write i v false false false, false)
  | .EVT_CTRL => d.evtCtrlWrite v
  | .EVT_QFAULT => d.clearOnValid k 0 0 v
  | .EVT_ECHO_CFG => Dev.noted (d.echoCfgWrite i v) 0x56 a
  | .EVT_ECHO_CTL => Dev.noted (d.echoCtlWrite i v) 0x56 a
  | .EVT_QGRP => Dev.noted (d.groupWrite i v) 0x56 a
  | .EVT_PROF_CUR => Dev.noted (d.profWrite i v) 0x56 a
  | .EVT_FEED_CFG => (d.feedWrite i v, false)
  | .EVT_DPIN =>
    let r := d.dpinWrite i v
    Dev.noted (r.1, r.2.1) r.2.2 a
  | .EVT_EVP => Dev.noted (d.evpWrite i v) 0x75 a
  | .EVT_PLY_CTRL =>
    let r := d.plyCtrlWrite i v
    Dev.noted (r.1, r.2.1) r.2.2 a
  | .EVT_PLY_ADDR => d.plyFieldWrite i F.EVT_PLY_ADDR_WA v (fun x => x % 8 != 0)
  | .EVT_PLY_REV => d.plyFieldWrite i F.EVT_PLY_REV_REV v anyVal
  | k => (d.maskWrite k i 0 v, false)

/-- A write of SEC registers (R368). -/
def Dev.secWrite (d : Dev) (k : RK) (i : Nat) (v : Word) (lvl2 : Bool) : Dev × Bool :=
  match k with
  | .SEC_LC_CTRL => d.keyedWrite v (fun d => (d.lcRequest (bits v 0 4), false))
  | .SEC_CMD => d.secCmdWrite v
  | .SEC_DBG => d.plainFlds k 0 0 v [(F.SEC_DBG_LIMIT, (· == 0))]
  | .SEC_POL => d.polWrite v lvl2
  | .SEC_VIOL => d.clearOnValid k 0 0 v
  | k => (d.maskWrite k i 0 v, false)

/-- Writes of the registers of rooms. -/
def Dev.roomWrite (d : Dev) (k : RK) (n j : Nat) (v : Word) : Dev × Bool :=
  match k with
  | .ROOM_GUARD => d.clearOnValid k n 0 v
  | .ROOM_BRAM_EADDR => d.clearOnValid k n 0 v
  | .KEEP => (d.keepWrite n j v none, false)
  | .ROOM_CLAMP => d.clampWrite n j v
  | .ROOM_SCRUB_CFG => d.scrubCfgWrite n v
  | .ROOM_LOAD_CTRL => d.loadCtrlWrite n v
  | .ROOM_SWAP_ARM => d.plainFlds k n 0 v [(F.ROOM_SWAP_ARM_TRIG, (· == 3)), (F.ROOM_SWAP_ARM_UNIT, anyVal), (F.ROOM_SWAP_ARM_CODE, anyVal)]
  | k => (d.maskWrite k n j v, false)

/-- Writes of the registers of the Larder, the arbiters and the DRAM channels. -/
def Dev.memWrite (d : Dev) (k : RK) (i j : Nat) (v : Word) : Dev × Bool :=
  match k with
  | .LAR_EADDR => d.clearOnValid k 0 0 v
  | .LAR_TEST_CTRL => d.testCtrlWrite v
  | .ARB_FENCE_LOG => d.clearOnValid k i 0 v
  | .ARB_REQ_CFG => d.reqCfgWrite i j v
  | .ARB_REQ_STAT => (if v.getLsbD 31 then d.fenceLift i j else d, false)
  | .DRC_CFG => d.drcCfgWrite i v
  | .DRC_TIMING => d.drcTimingWrite i v
  | .DRC_REF => d.drcRefWrite i v
  | .DRC_REF_AUX => d.plainFlds k i 0 v [(F.DRC_REF_AUX_IDLE_SR, (· == 0)), (F.DRC_REF_AUX_REF_INT_HOT, (· == 0))]
  | .DRC_CTRL => d.drcCtrlWrite i v
  | .DRC_EADDR => d.clearOnValid k i 0 v
  | .DRC_RESYNC => d.plainFlds k i 0 v [(F.DRC_RESYNC_SHARE, (· == 0))]
  | k => (d.maskWrite k i j v, false)

/-- Writes of the registers of clocks, strings, the host bus target, the crossbar, banks and the error unit. -/
def Dev.otherWrite (d : Dev) (k : RK) (i j : Nat) (v : Word) : Dev × Bool :=
  let a := k.addr i j
  match k with
  | .CLK_ISL_CTRL => Dev.noted (d.islandFields i v) 0x75 a
  | .PLL_CTRL => d.pllCtrlFieldsEn i v
  | .PLL_DIV => d.divWrite i k v
  | .PLL_FRAC => d.divWrite i k v
  | .PLL_LOCK => d.plainFlds k i 0 v [(F.PLL_LOCK_LOCK_WIN, anyVal), (F.PLL_LOCK_LOCK_N, (· < 16))]
  | .PLL_OUT => d.pllOutFields i j v
  | .PLL_STEP => d.stepWrite i v
  | .PLL_RAMP_CTRL => d.rampWrite i v
  | .PLL_REFIN => d.refinWrite i v
  | .EVT_TIME_CFG => Dev.noted (d.timeCfgWrite v) 0x75 a
  | .CFG_CW_CTRL => d.cwCtrlWrite v
  | .STG_CFG => Dev.noted (d.stgCfgWrite i v) 0x75 a
  | .STG_CTRL => (d.stgCtrlWrite i v, false)
  | .HBT_CFG => Dev.noted (d.hbtCfgWrite v) 0x70 a
  | .RFX_IN_POL_LO => Dev.noted (d.rfxPolWrite F.RFX_IN_POL_LO_POL 0 v) 0x70 a
  | .RFX_IN_POL_HI => Dev.noted (d.rfxPolWrite F.RFX_IN_POL_HI_POL 1 v) 0x70 a
  | .RFX_CELL_SEL_LO => Dev.noted (d.flds i 0 v [(F.RFX_CELL_SEL_LO_SEL, fun _ => d.rfxBusy i)]) 0x70 a
  | .RFX_CELL_SEL_HI => Dev.noted (d.flds i 0 v [(F.RFX_CELL_SEL_HI_SEL, fun _ => d.rfxBusy i)]) 0x70 a
  | .RFX_CELL_CTRL => Dev.noted (d.rfxCtrlWrite i v) 0x70 a
  | .ERR_STAT => (d.errStatWrite v, false)
  | .ERR_ACK => (if v.getLsbD 0 then d.errAck else d, false)
  | .ERR_ALARM => (if v.getLsbD 31 then d.errAlarmClear else d, false)
  | .IOB_CFG => d.iobCfgWrite i v
  | .IOB_PIN => d.iobPinWrite i j v
  | k => (d.maskWrite k i j v, false)

/-- The Hatch address of a register lies in the blocks of a family. -/
def RK.within (k : RK) (lo hi : Nat) : Bool := lo ≤ k.desc.base && k.desc.base < hi

/-- The registers of the event engine's island (R222, R236). -/
def RK.inEvt (k : RK) : Bool := k.within 0x90010 0xA0000 || k.within 0x100000 0x140000

/-- A write of any register but GBL_MODE and GBL_REAPPLY. `lvl2` stands for debug level 2 (R365). -/
def Dev.regWrite (d : Dev) (k : RK) (i j : Nat) (v : Word) (lvl2 : Bool) : Dev × Bool :=
  if k.within 0x200000 0x240000 then d.roomWrite k i j v
  else if k.within 0x60000 0x90000 then d.memWrite k i j v
  else if k.within 0x40000 0x50000 then d.govWrite k i v
  else if k.inEvt then d.evtWrite k i v
  else if k.within 0x20000 0x30000 then d.secWrite k i v lvl2
  else d.otherWrite k i j v

/-- A register access finds its target asleep (Table 18.6). The event engine is stopped in Deep hold.
DEDUCED, log entry 23. -/
def Dev.asleep (d : Dev) (k : RK) (n : Nat) : Bool :=
  if k == .KEEP then d.keepAsleep n
  else if k.inEvt then !d.evOn
  else k.within 0x40000 0x50000 && d.govAsleep

/-- ISLAND_CLOCK_WRITE (R61). -/
def execIslandClockWrite (n : Nat) (v : Word) (s : State) : Out := .next (s.act (fun d => d.islandWrite n v))

end Sys2Proof.Machine
end

