-- ==== Sys2Proof/Machine/Settings.lean ====
section
/-! DEFINITION. Settings records: their checks and selection (R104 to R106, R341), write lists and sections
(R107, R108), the settings that go with a plane (R134, R141), and re-applying while running (R380, R381). -/

namespace Sys2Proof.Machine

/-! ### Sections (Table 5.2) -/

/-- The sections of a settings record, in the order they are applied. -/
inductive Section where
  | clock | io | control | dram | engine | room
  deriving DecidableEq, Repr

/-- All sections in order; a section's place is its bit in GBL_REAPPLY.SECTION. -/
def Section.all : List Section := [.clock, .io, .control, .dram, .engine, .room]

/-- Offset of a section in its record, and its number of entries. -/
def Section.offset (x : Section) : Nat := 0x400 + 0x800 * x.ctorIdx
def Section.entries (x : Section) : Nat := if x = .room then 512 else 256

/-- The registers a section may write (Table 5.2). -/
def Section.covers (x : Section) (a : Nat) : Bool :=
  let within := fun (lo hi : Nat) => decide (lo ≤ a) && decide (a < hi)
  match x with
  | .clock => within 0x50000 0x60000 || a == 0x90008
  | .io => within 0xD0000 0xE0000
  | .control => within 0x40000 0x50000 || within 0x60000 0x70000 || within 0xE0000 0xF0000 || within 0x20000 0x30000
  | .dram => within 0x80000 0x90000
  | .engine => (within 0x90000 0xD0000 && a != 0x90008) || within 0x100000 0x140000
  | .room => within 0x200000 0x240000 && decide (0x100 ≤ a % 0x1000) && decide (a % 0x1000 ≤ 0x3FC)

/-! ### Write lists (R107) -/

/-- The write list at a Cellar address: at most `n` entries, up to the end mark. -/
def Dev.writeList (d : Dev) (a n : Nat) : List (Nat × Word) :=
  ((List.range n).map (fun k =>
    (leNat (d.cellarRange (a + 8 * k) 4), BitVec.ofNat 32 (leNat (d.cellarRange (a + 8 * k + 4) 4))))).takeWhile
    (fun e => e.1 != 0xFFFFFFFF)

/-- WRITE_LIST_ENTRY (R107): one entry, applied as a Hatch write or skipped. The Bool says that it was
skipped or refused. DEDUCED, log entry 40. -/
def Dev.applyEntry (d : Dev) (x : Section) (e : Nat × Word) (lvl2 : Bool) : Dev × Bool :=
  if e.1 % 4 != 0 || !x.covers e.1 then (d.notice 0x09 e.1, true)
  else match RK.find e.1 with
    | none => if rsvWord e.1 then (d, false) else (d.noReg e.1, true)
    | some (k, i, j) => if d.asleep k i then (d.asleepAccess e.1, true) else d.regWrite k i j e.2 lvl2

/-- Entries in turn, counting those skipped or refused. -/
def Dev.applyList (d : Dev) (x : Section) (lvl2 : Bool) (l : List (Nat × Word)) : Dev × Nat :=
  l.foldl (fun r e => let q := r.1.applyEntry x e lvl2; (q.1, r.2 + b2n q.2)) (d, 0)

/-- First Cellar byte of settings record A (0) or B (1). -/
def recordBase (r : Nat) : Nat := 0x10000 * r

/-- The write list of a section of the record in use; none without a record. -/
def Dev.sectionList (d : Dev) (x : Section) : List (Nat × Word) :=
  let r := d.gf F.CFG_STATUS_RECORD
  if r = 0 then [] else d.writeList (recordBase (r - 1) + x.offset) x.entries

/-- Apply a section of the record in use. -/
def Dev.applySection (d : Dev) (x : Section) (lvl2 : Bool) : Dev × Nat := d.applyList x lvl2 (d.sectionList x)

/-- An entry of the ROOM section names room `n`'s block. -/
def entryOfRoom (n : Nat) (e : Nat × Word) : Bool := 0x200000 + 0x1000 * n ≤ e.1 && e.1 < 0x201000 + 0x1000 * n

/-- The ROOM section entries for room `n` (R108 step 4). -/
def Dev.roomEntries (d : Dev) (n : Nat) : List (Nat × Word) := (d.sectionList .room).filter (entryOfRoom n)

/-- The entries of the ROOM section that name no room (skipped under R107). -/
def Dev.strayEntries (d : Dev) : List (Nat × Word) :=
  (d.sectionList .room).filter (fun e => !roomIds.any (fun n => entryOfRoom n e))

/-- Apply the ROOM section entries for room `n`. DEDUCED, log entry 40. -/
def Dev.applyRoomEntries (d : Dev) (n : Nat) : Dev := (d.applyList .room true (d.roomEntries n)).1

/-- The border-block settings that go with the active plane (R134, R141): its kind 2 list, or the record's
entries for a plane from a slot. -/
def Dev.applyPlane (d : Dev) (n : Nat) : Dev :=
  if d.gf F.ROOM_PLANE_STAT_ACT_SRC n = 0 then
    (d.applyList .room true ((d.room n).act.kind2.map (fun e => (0x200000 + 0x1000 * n + e.1, e.2)))).1
  else d.applyRoomEntries n

/-! ### Records (R104, R105, R341) -/

/-- What the check of a record finds: valid (with a verified signature or not), invalid, or invalid by its
signature in Production. -/
inductive RecFind where
  | valid (signed : Bool)
  | invalid
  | badSig
  deriving DecidableEq, Repr

/-- FLAGS of a record. -/
def recFlags (c : List (BitVec 8)) : Nat := field4 c 0x18

/-- MAGIC, VERSION and IDENTITY (R105, R111). DEDUCED, log entry 40. -/
def recFormOk (c : List (BitVec 8)) (rev : Nat) : Bool :=
  let id8 := slice c 0x10 8
  field4 c 0 == 0x54455553 && field4 c 4 == 1 && identityOk id8 rev && (id8.getD 3 0) == 0 && allZero (slice id8 6 2)

/-- The CRC of a record. -/
def recCrcOk (c : List (BitVec 8)) : Bool := field4 c 0xFF00 == (crc32c (c.take 0xFF00)).toNat

/-- The signature of a record under the owner image key it names (R353). -/
def Dev.recSigOk (d : Dev) (c : List (BitVec 8)) : Bool :=
  let k := recFlags c / 16 % 4
  d.oikUsable k && Config.ecdsaOk (d.oikPub k) (sha256 (c.take 0xFF40)) (slice c 0xFF40 64)

/-- The bytes of record A (0) or B (1). -/
def Dev.recordBytes (d : Dev) (r : Nat) : List (BitVec 8) := d.cellarRange (recordBase r) 0x10000

/-- The check of a record (R105, R341). DEDUCED, log entry 41. -/
def Dev.checkRecord (d : Dev) (r : Nat) : RecFind :=
  let c := d.recordBytes r
  let form := recFormOk c (d.gf F.GBL_IDCODE_REV)
  let signed := bitOf (recFlags c) 0
  let lc := d.lcState
  if !recCrcOk c then .invalid
  else if lc = 8 then (if form then .valid false else .invalid)
  else if !signed then (if form && lc != 4 then .valid false else .invalid)
  else if d.recSigOk c then (if form then .valid true else .invalid)
  else if lc = 4 then .badSig
  else .invalid

/-- The finding counts as valid. -/
def RecFind.ok (x : RecFind) : Bool :=
  match x with
  | .valid _ => true
  | _ => false

/-- The record's signature was verified. -/
def RecFind.signed (x : RecFind) : Bool := x == .valid true

/-- The record used, of findings for A and B and the bytes of their SEQUENCE (R105). -/
def chooseRecord (a b : RecFind) (sa sb : Nat) : Option Nat :=
  if a.ok && b.ok then some (if seqGreater sa sb then 0 else 1)
  else if a.ok then some 0
  else if b.ok then some 1
  else none

/-- The boot order that BOOT_ORDER gives, and the codes that R106 logs. -/
def bootOrder (c : List (BitVec 8)) : List Nat × List Nat :=
  let codes := (slice c 0x40 3).map BitVec.toNat
  let l := (codes.takeWhile (fun x => x != 0 && x < 4)).eraseDups
  let bad := (codes.dropWhile (fun x => x != 0 && x < 4)).take 1 |>.filter (· != 0)
  let byte3 := (slice c 0x43 1).map BitVec.toNat |>.filter (· != 0)
  (if l.isEmpty then [1, 2, 3] else l, bad ++ byte3)

/-- Each invalid record logs a NOTICE (R105); V5 for a bad signature in Production (R341).
DEDUCED, log entry 40. -/
def Dev.recordNotices (d : Dev) (a b : RecFind) : Dev :=
  let l := [(a, 0), (b, 1)]
  let d := d.each (l.filter (fun x => !x.1.ok)) (fun d x => d.notice 0x00 x.2)
  d.violate ((l.filter (fun x => x.1 == .badSig)).map (fun x => (5, x.2)))

/-- No valid record (R105): FAULT 0x01, Dormant with CAUSE 0x15. -/
def Dev.noRecord (d : Dev) : Dev :=
  let d := ((d.sf F.CFG_STATUS_RECORD 0 0 0).sf F.CFG_STATUS_SLOT 0 0 0).sf F.CFG_STATUS_STATE 0 0 0
  (d.fault 0x01 0).enterDormant 0x15

/-- Record `r` is taken into use (R105, R106): its boot policy is read, its CLOCK section applied, and the wait
of R108 step 1 begins. -/
def Dev.useRecord (d : Dev) (r : Nat) (signed : Bool) : Dev :=
  let c := d.recordBytes r
  let o := bootOrder c
  let d := { d with cfg := { d.cfg with
    order := o.1, verReq := bitOf (field4 c 0x44) 0, recordVerified := signed, clockWait := true } }
  let d := d.each o.2 (fun d _ => d.noticeFree 0x09)
  ((d.sf F.CFG_STATUS_RECORD 0 0 (r + 1)).applySection .clock true).1

/-- SETTINGS_SELECT (R105). -/
def Dev.selectRecord (d : Dev) : Dev :=
  let a := d.checkRecord 0
  let b := d.checkRecord 1
  let d := d.recordNotices a b
  if d.mode != mLoad then d
  else match chooseRecord a b (field4 (d.recordBytes 0) 8) (field4 (d.recordBytes 1) 8) with
    | none => d.noRecord
    | some r => d.useRecord r (if r = 0 then a.signed else b.signed)

/-- CELLAR_LOAD_START (R117): SETTINGS begins in Cellar load: the boot log is cleared, an interrupted renewal
is completed, the secure sector is read, and a record is selected. -/
def Dev.settingsStart (d : Dev) : Dev :=
  let d := (d.setReg .CFG_BOOT_LOG 0 0 0).sf F.CFG_STATUS_STATE 0 0 1
  let d := { d with cfg := { d.cfg with sectionsDone := false } }
  let d := (d.renewResume.sectorRead).setLevel 0
  d.selectRecord

/-! ### Re-applying (R380, R381) -/

/-- A re-apply that is not accepted ends at once: 1 BUSY, 2 NOT_UP, 3 BAD_RECORD. DEDUCED, log entry 44. -/
def Dev.reapplyRefused (d : Dev) (result : Nat) : Dev :=
  (d.sf F.GBL_REAPPLY_STAT_DONE 0 0 1).sf F.GBL_REAPPLY_STAT_RESULT 0 0 result

/-- The entries of a section that a re-apply applies; those of ROOM to rooms whose active plane is VALID and comes from a
slot. -/
def Dev.reapplyList (d : Dev) (x : Section) : List (Nat × Word) :=
  if x = .room then
    d.strayEntries ++ (roomIds.filter (fun n => d.act n == actValid && d.gf F.ROOM_PLANE_STAT_ACT_SRC n != 0)).flatMap
      (fun n => d.roomEntries n)
  else d.sectionList x

/-- Apply entries of a re-apply in turn, counting those skipped or refused. -/
def Dev.reapplyEntries (d : Dev) (lvl2 : Bool) (l : List (Nat × Nat × Word)) : Dev × Nat :=
  l.foldl (fun r e => let q := r.1.applyEntry (Section.all.getD e.1 .room) e.2 lvl2; (q.1, r.2 + b2n q.2)) (d, 0)

/-- The work of an accepted re-apply: the entries of its sections in order. A free number of them is applied at once, the
rest when the work ends, so that a re-apply that is abandoned between (R381) is left partly applied.
DESIGN CHOICE, log entry 79. -/
def Dev.reapplyWork (d : Dev) (l : List Section) (lvl2 : Bool) : Dev :=
  let es := l.flatMap (fun x => (d.reapplyList x).map (fun e => (x.ctorIdx, e)))
  let k := d.takeFree.1.toNat % (es.length + 1)
  let r := d.takeFree.2.reapplyEntries lvl2 (es.take k)
  let m := l.foldl (fun m x => m + 2 ^ x.ctorIdx) 0
  { r.1 with cfg := { r.1.cfg with reapply := some {
    sections := BitVec.ofNat 6 m, lvl2 := lvl2, skipped := r.2, rest := es.drop k } } }.sf
    F.GBL_REAPPLY_STAT_BUSY 0 0 1

/-- The entries left of a re-apply are applied and it ends with OK (R381). -/
def Dev.reapplyDone (d : Dev) : Dev :=
  match d.cfg.reapply with
  | none => d
  | some w =>
    let r := d.reapplyEntries w.lvl2 w.rest
    { r.1 with cfg := { r.1.cfg with reapply := some { w with skipped := w.skipped + r.2, rest := [] } } }.endReapply 0

/-- The check of the record in use before a re-apply. -/
def Dev.runningRecord (d : Dev) : RecFind :=
  let r := d.gf F.CFG_STATUS_RECORD
  if r = 0 then .invalid else d.checkRecord (r - 1)

/-- A write of GBL_REAPPLY with its KEY (R380, R381). DEDUCED, log entry 44. -/
def Dev.reapplyStart (d : Dev) (l : List Section) : Dev :=
  if l.isEmpty then d
  else if !d.ready then d.reapplyRefused 2
  else if d.cfg.reapply.isSome || d.inHandshake then d.reapplyRefused 1
  else
    let f := d.runningRecord
    if f.ok then d.reapplyWork l f.signed
    else
      let r := d.gf F.CFG_STATUS_RECORD - 1
      let d := (d.notice 0x00 r).violate (if f == .badSig then [(5, r)] else [])
      d.reapplyRefused 3

/-- REAPPLY_CLOCK (R380). -/
def execReapplyClock (s : State) : Out := .next (s.act (fun d => d.reapplyStart [.clock]))

/-- REAPPLY_IO (R380). -/
def execReapplyIo (s : State) : Out := .next (s.act (fun d => d.reapplyStart [.io]))

/-- REAPPLY_CONTROL (R380). -/
def execReapplyControl (s : State) : Out := .next (s.act (fun d => d.reapplyStart [.control]))

/-- REAPPLY_DRAM (R380). -/
def execReapplyDram (s : State) : Out := .next (s.act (fun d => d.reapplyStart [.dram]))

/-- REAPPLY_ENGINE (R380). -/
def execReapplyEngine (s : State) : Out := .next (s.act (fun d => d.reapplyStart [.engine]))

/-- REAPPLY_ROOM (R380). -/
def execReapplyRoom (s : State) : Out := .next (s.act (fun d => d.reapplyStart [.room]))

/-- REAPPLY_DONE (R381). -/
def execReapplyDone (s : State) : Out := .next (s.act Dev.reapplyDone)

end Sys2Proof.Machine
end

