-- ==== Sys2Proof/Machine/Boot.lean ====
section
/-! DEFINITION. Loading and releasing a full image (R108, R111, R117 to R122), the checks that end a room
load (R132 to R134, R354), the exchange of a swap (R141, R143 to R145), and the scrubber (R148 to R151). -/

namespace Sys2Proof.Machine

/-! ### The boot order (R121) -/

/-- Codes of Table 5.7. -/
abbrev stSettings : Nat := 1
abbrev stHeader : Nat := 2
abbrev stLoad : Nat := 3
abbrev stHash : Nat := 4
abbrev stSign : Nat := 5
abbrev stHashAfter : Nat := 6
abbrev stSignAfter : Nat := 7
abbrev stRunning : Nat := 8
abbrev stExhausted : Nat := 9

/-- CFG_STATUS.STATE. -/
def Dev.loadState (d : Dev) : Nat := d.gf F.CFG_STATUS_STATE

/-- Set CFG_STATUS.STATE. -/
def Dev.setLoadState (d : Dev) (st : Nat) : Dev := d.sf F.CFG_STATUS_STATE 0 0 st

/-- Field TRY_k of CFG_BOOT_LOG. -/
def tryFld (k : Nat) : Fld := ⟨.CFG_BOOT_LOG, 8 * k, 8⟩

/-- The outcome of a try is logged: 0x3F accepted, otherwise the refusing source. -/
def Dev.logTry (d : Dev) (outcome : Nat) : Dev :=
  let k := d.gf F.CFG_BOOT_LOG_TRIES
  if 3 ≤ k then d
  else (d.sf (tryFld k) 0 0 (64 * d.cfg.slot + outcome)).sf F.CFG_BOOT_LOG_TRIES 0 0 (k + 1)

/-- The outcome of an accepted try is replaced by the source that refused it later. -/
def Dev.replaceTry (d : Dev) (outcome : Nat) : Dev :=
  let k := d.gf F.CFG_BOOT_LOG_TRIES - 1
  d.sf (tryFld k) 0 0 (d.gf (tryFld k) / 64 * 64 + outcome)

/-- SLOTS_EXHAUSTED (R121): no slot is left. DEDUCED, log entry 42. -/
def Dev.exhausted (d : Dev) : Dev :=
  ((d.setLoadState stExhausted).raiseFree 0x0C .alarm).enterDormant 0x09

/-- HEADER for the next slot of the boot order, or the end of it. -/
def Dev.nextHeader (d : Dev) : Dev :=
  match d.cfg.order with
  | [] => d.exhausted
  | s :: l => ({ d with cfg := { d.cfg with slot := s, order := l } }).setLoadState stHeader

/-- IMAGE_REFUSED (R121, R122): by source `src`, before release (CAUSE 0x07) or after it (CAUSE 0x08). From
Fallback load with no slot left the device goes to Dormant at once (R31). DEDUCED, log entry 42. -/
def Dev.refuseImage (d : Dev) (src cause : Nat) : Dev :=
  let d := if cause = 8 then
      (((d.replaceTry src).sf F.CFG_STATUS_SLOT 0 0 0).sf F.CFG_STATUS_VERIFIED 0 0 0).sf F.CFG_STATUS_ENCRYPTED 0 0 0
    else d.logTry src
  if d.mode == mFallback && d.cfg.order.isEmpty then d.clearForFull.exhausted
  else (d.enterFallback cause).nextHeader

/-! ### SETTINGS ends, HEADER, LOAD -/

/-- Islands that run unlocked. -/
def Dev.unlockedIslands (d : Dev) : List Nat :=
  (List.range 106).filter (fun n => hasGen n && d.gb F.CLK_ISL_STAT_RUN n && !d.gb F.CLK_ISL_STAT_LOCKED n)

/-- CLOCK_LOCK_WAIT_END (R108 steps 1 to 3): islands still unlocked are handled by R64, the IO and CONTROL
sections are applied, and HEADER starts. -/
def Dev.clockWaitEnd (d : Dev) : Dev :=
  if d.loadState != stSettings || !d.cfg.clockWait || d.mode != mLoad then d
  else
    let d := { d with cfg := { d.cfg with clockWait := false } }
    let d := d.each d.unlockedIslands Dev.islandUnlocked
    (((d.applySection .io true).1.leaveSafe (fun _ => true)).applySection .control true).1.nextHeader

/-- CLOCK_LOCK_WAIT_END (R108). -/
def execClockLockWaitEnd (s : State) : Out := .next (s.act Dev.clockWaitEnd)

/-- A Cellar load or Fallback load is under way. -/
def Dev.loading (d : Dev) : Bool := d.mode == mLoad || d.mode == mFallback

/-- LOAD starts (R117, R53, R108 step 3): the GSR device-wide, the maps cleared, a load of every room's active
plane; the DRAM and ENGINE sections once in a Cellar load. -/
def Dev.startFullLoad (d : Dev) : Dev :=
  let base := slotBase d.cfg.slot
  let h := d.header base
  let d := ({ d.clearForFull with cfg := { d.cfg with hashBad := false } }).setLoadState stLoad
  let d := d.each roomIds (fun d n => d.onRoom n (fun r => { r with load := some {
    active := true, full := true, image := base, records := roomRecords h base n, total := 3024,
    encrypted := hdrEncrypted h } }))
  if d.cfg.sectionsDone then d
  else ((({ d with cfg := { d.cfg with sectionsDone := true } }).applySection .dram true).1.applySection .engine true).1

/-- The source that refuses a slot's header, 0 for none: a slot holds a full image (R109, R111).
DEDUCED, log entry 41. -/
def Dev.slotHeaderRefusal (d : Dev) (base : Nat) : Nat :=
  let h := d.header base
  let r := headerRefusal h base (regionEnd base) (d.gf F.GBL_IDCODE_REV)
  if r != 0 then r else if hdrKind h != 1 then 2 else 0

/-- HEADER_DONE (R111, R117). -/
def Dev.headerDone (d : Dev) : Dev :=
  if d.loadState != stHeader || !d.loading then d
  else
    let base := slotBase d.cfg.slot
    let bad := d.slotHeaderRefusal base
    if bad != 0 then (d.fault bad base).refuseImage bad 7 else d.startFullLoad

/-- HEADER_DONE (R111). -/
def execHeaderDone (s : State) : Out := .next (s.act Dev.headerDone)

/-! ### Release (R118) -/

/-- Room `n` of a released image: its plane is VALID with the slot as source, and it is released unless parked.
DEDUCED, log entry 42. -/
def Dev.releaseRoom (d : Dev) (n : Nat) : Dev :=
  let s := d.cfg.slot
  let d := (d.setPlaneSrc n true s 0 0 (d.gf F.CFG_STATUS_VERIFIED)).sf F.ROOM_PLANE_STAT_ACT_STATE n 0 actValid
  let d := (d.onPlane n true (fun x => { x with kind2 := [] })).setBramSrc n s 0
  if d.pstate n == 0 then d.roomRelease n else d

/-- The image is accepted and released with a CAUSE of Table 1.6. DEDUCED, log entry 41. -/
def Dev.releaseImage (d : Dev) (cause : Nat) : Dev :=
  let s := d.cfg.slot
  let d := ((d.logTry 0x3F).sf F.CFG_STATUS_SLOT 0 0 s).sf F.CFG_STATUS_ENCRYPTED 0 0 (b2n (hdrEncrypted (d.header (slotBase s))))
  (d.each roomIds Dev.releaseRoom).enterRunOrHold cause

/-- The last frame of every room is committed: HASH for a verified release, in which strings are DOWN (Table 12.4),
release and HASH_AFTER otherwise. -/
def Dev.fullLoadEnd (d : Dev) : Dev :=
  if hdrVerified (d.header (slotBase d.cfg.slot)) || d.cfg.verReq then ((d.setLoadState stHash).stringsDown).putMode mVerify 0x04
  else (d.setLoadState stHashAfter).releaseImage 0x05

/-- Room `n`'s last frame is committed (R108 step 4); entries that name no room go with Room 0.
DEDUCED, log entry 42. -/
def Dev.fullRoomDone (d : Dev) (n : Nat) : Dev :=
  let d := d.onRoom n (fun r => { r with load := none })
  let d := if n = 0 then (d.applyList .room true d.strayEntries).1 else d
  let d := d.applyRoomEntries n
  if roomIds.all (fun m => (d.room m).load.isNone) then d.fullLoadEnd else d

/-- FRAME_CHECK (R119, R120, R132): the next record of the room's load; `disturbed` reads of it come back wrong.
DESIGN CHOICE, log entry 14. -/
def Dev.frameCheck (d : Dev) (n disturbed : Nat) : Dev :=
  match (d.room n).load with
  | none => d
  | some l =>
    if l.total ≤ l.pos then d
    else match d.linkFrame n l disturbed with
      | .error (d, src) => if l.full then d.refuseImage src 7 else d.refuseLoad n l.active src
      | .ok d =>
        if l.pos + 1 < l.total then d
        else if l.full then d.fullRoomDone n
        else d.setPlaneState n l.active shChecking actChecking

/-- FRAME_CHECK (R119). -/
def execFrameCheck (n : Nat) (disturbed : Nat) (s : State) : Out := .next (s.act (fun d => d.frameCheck n disturbed))

/-! ### HASH and SIGN (R112, R120) -/

/-- Signature failures found together, in a life-cycle state that requires a good signature (refused, FAULTs),
reports them (NOTICEs), or checks nothing (End of life, Table 16.2). The Bool says refused.
DEDUCED, log entry 41. -/
def Dev.judge (d : Dev) (fails : List (Nat × Nat)) : Dev × Bool :=
  if d.lcState = 8 || fails.isEmpty then (d, false)
  else
    let need := d.lcState == 4
    (d.raiseAll (fails.map (fun x => (x.1, if need then Severity.fault else .notice, x.2))), need)

/-- HASH or HASH_AFTER ends, or SIGN or SIGN_AFTER, while the mode is that of the state. -/
def Dev.checkPhase (d : Dev) (before after : Nat) : Bool :=
  (d.loadState == before && d.mode == mVerify) || (d.loadState == after && d.ready)

/-- HASH_DONE (R112, R120). DEDUCED, log entry 41. -/
def Dev.hashDone (d : Dev) : Dev :=
  if !d.checkPhase stHash stHashAfter then d
  else
    let st := d.loadState
    let base := slotBase d.cfg.slot
    let fails := (d.badDigests base).map (fun n => (7, n)) ++ (if d.rootOk base then [] else [(7, 0x40)])
    let r := d.judge fails
    if r.2 then r.1.refuseImage 7 (if st = stHash then 7 else 8)
    else ({ r.1 with cfg := { r.1.cfg with hashBad := !fails.isEmpty } }).setLoadState (st + 1)

/-- HASH_DONE (R120). -/
def execHashDone (s : State) : Out := .next (s.act Dev.hashDone)

/-- The signature result of the running image reaches the planes that hold it (R130). -/
def Dev.markVerified (d : Dev) (slot v : Nat) : Dev :=
  d.each roomIds (fun d n =>
    let d := if d.act n == actValid && d.gf F.ROOM_PLANE_STAT_ACT_SRC n == slot then d.sf F.ROOM_PLANE_STAT_ACT_VERIFIED n 0 v else d
    if shReady ≤ d.sh n && d.sh n ≤ shSwapping && d.gf F.ROOM_PLANE_STAT_SH_SRC n == slot then
      d.sf F.ROOM_PLANE_STAT_SH_VERIFIED n 0 v
    else d)

/-- SIGN_DONE (R112, R116, R120). DEDUCED, log entry 41. -/
def Dev.signDone (d : Dev) : Dev :=
  if !d.checkPhase stSign stSignAfter then d
  else
    let st := d.loadState
    let base := slotBase d.cfg.slot
    let sig := d.imageSigOk base
    let tag := d.tagOk base
    let fails := (if sig then [] else [(7, 0x41)]) ++ (if tag then [] else [(8, (Config.detail 8 d.free).toNat)])
    let r := ({ d with free := d.free + b2n (!tag) }).judge fails
    if r.2 then r.1.refuseImage (if sig then 8 else 7) (if st = stSign then 7 else 8)
    else
      let v := b2n (sig && tag && !d.cfg.hashBad && d.lcState != 8)
      let d := r.1.sf F.CFG_STATUS_VERIFIED 0 0 v
      let d := if st = stSign then d.releaseImage 0x06 else d.markVerified d.cfg.slot v
      d.setLoadState stRunning

/-- SIGN_DONE (R120). -/
def execSignDone (s : State) : Out := .next (s.act Dev.signDone)

/-! ### Room loads: the checks (R132 to R134, R354) -/

/-- The index of room images does not list this image (R354). -/
def Dev.notListed (d : Dev) (base : Nat) : Bool :=
  let l := indexRoots d.sec.sector
  d.lcState == 4 && !l.isEmpty && !l.contains (slice (d.header base) 0x40 32)

/-- What the checks of a pool image beside its digest find. -/
def Dev.poolFails (d : Dev) (base : Nat) : List (Nat × Nat) :=
  (if d.rootOk base then [] else [(7, 0x40)]) ++ (if d.imageSigOk base then [] else [(7, 0x41)]) ++
    (if d.notListed base then [(7, 0x42)] else []) ++
    (if d.tagOk base then [] else [(8, (Config.detail 8 d.free).toNat)])

/-- The load is refused by its first failure. -/
def Dev.refuseChecked (d : Dev) (n : Nat) (l : Load) (fails : List (Nat × Nat)) : Dev :=
  d.refuseLoad n l.active ((fails.head?.map Prod.fst).getD 7)

/-- The plane is complete (R133, R134): READY, or VALID with its settings applied and the room released.
DEDUCED, log entry 43. -/
def Dev.planeReady (d : Dev) (n : Nat) (l : Load) (verified : Bool) : Dev :=
  let d := d.onRoom n (fun r => { r with load := none })
  if l.active then
    let d := (d.sf F.ROOM_PLANE_STAT_ACT_STATE n 0 actValid).sf F.ROOM_PLANE_STAT_ACT_VERIFIED n 0 (b2n verified)
    let d := if l.keepBram then d else d.setBramSrc n (d.gf F.ROOM_PLANE_STAT_ACT_SRC n) (d.gf F.ROOM_PLANE_STAT_ACT_BLOCK n)
    let d := d.applyPlane n
    (if d.pstate n == 0 then d.roomRelease n else d).roomResult n rOk 0
  else
    ((d.sf F.ROOM_PLANE_STAT_SH_STATE n 0 shReady).sf F.ROOM_PLANE_STAT_SH_VERIFIED n 0 (b2n verified)).roomResult n rOk 0

/-- ROOM_LOAD_CHECK_DONE (R132): the digest first, then for a pool image root, signature, index and tag; the
signature result of a slot image is CFG_STATUS.VERIFIED. DEDUCED, log entry 43. -/
def Dev.roomCheckDone (d : Dev) (n : Nat) : Dev :=
  match (d.room n).load with
  | none => d
  | some l =>
    if l.full || l.pos < l.total then d
    else
      let base := l.image
      let digest := if d.roomDigest (d.header base) base n == d.digestEntry base n then [] else [(7, n)]
      let r := d.judge digest
      if r.2 then r.1.refuseChecked n l digest
      else if base < 0x04000000 then
        let fails := r.1.poolFails base
        let q := ({ r.1 with free := r.1.free + 1 }).judge fails
        if q.2 then q.1.refuseChecked n l fails
        else q.1.planeReady n l (digest.isEmpty && fails.isEmpty && d.lcState != 8)
      else r.1.planeReady n l (digest.isEmpty && d.gb F.CFG_STATUS_VERIFIED)

/-- ROOM_LOAD_CHECK_DONE (R132). -/
def execRoomLoadCheckDone (n : Nat) (s : State) : Out := .next (s.act (fun d => d.roomCheckDone n))

/-! ### The exchange (R129, R141, R143 to R145) -/

/-- The planes exchange their roles, with source, signature flag and KEEP_BRAM; the former active plane is
READY (R144), or INVALID where ACT_STATE was DOWN, since it is not complete and checked (Table 6.1).
DEDUCED, log entry 43. -/
def Dev.exchangePlanes (d : Dev) (n : Nat) : Dev :=
  let a := (d.room n).act
  let aSrc := d.gf F.ROOM_PLANE_STAT_ACT_SRC n
  let aBlock := d.gf F.ROOM_PLANE_STAT_ACT_BLOCK n
  let aVer := d.gf F.ROOM_PLANE_STAT_ACT_VERIFIED n
  let sSrc := d.gf F.ROOM_PLANE_STAT_SH_SRC n
  let sBlock := d.gf F.ROOM_PLANE_STAT_SH_BLOCK n
  let sVer := d.gf F.ROOM_PLANE_STAT_SH_VERIFIED n
  let d := d.onRoom n (fun r => { r with act := r.shd, shd := r.act, stage := .idle })
  let d := d.setPlaneSrc n true sSrc sBlock (b2n (d.room n).act.keep) sVer
  (d.setPlaneSrc n false aSrc aBlock (b2n a.keep) aVer).sf F.ROOM_PLANE_STAT_SH_STATE n 0
    (if d.act n == actValid then shReady else shInvalid)

/-- SWAP_EXCHANGE (R141, R143): roles, block RAM where the incoming plane brings it, settings, release. A room whose
ACT_STATE is DOWN stays in reset: only an active load brings it back (R134, R149). DEDUCED, log entry 43. -/
def Dev.swapExchange (d : Dev) (n holdTicks : Nat) : Dev :=
  if (d.room n).stage ≠ .swapHold then d
  else
    let d := d.exchangePlanes n
    let src := d.gf F.ROOM_PLANE_STAT_ACT_SRC n
    let block := d.gf F.ROOM_PLANE_STAT_ACT_BLOCK n
    let r := if (d.room n).act.keep then .ok d else (d.setBramSrc n src block).reloadBram n (srcBase src block)
    match r with
    | .error (d, src) => (d.sf F.ROOM_PLANE_STAT_ACT_STATE n 0 actDown).roomResult n rRefused src
    | .ok d =>
      ((d.applyPlane n).when (d.act n == actValid) (fun d =>
        (d.roomRelease n).sf F.ROOM_LOAD_STAT_HOLD_TICKS n 0 (min holdTicks 0xFFFF))).roomResult n rOk 0

/-- SWAP_EXCHANGE (R141). -/
def execSwapExchange (n holdTicks : Nat) (s : State) : Out := .next (s.act (fun d => d.swapExchange n holdTicks))

/-! ### The scrubber (R148 to R151) -/

/-- The plane of the pass under way can be scrubbed: the active plane, or a READY or ARMED shadow. -/
def Dev.scrubCovers (d : Dev) (n : Nat) (shadow : Bool) : Bool :=
  if shadow then d.sh n == shReady || d.sh n == shArmed else d.act n == actValid

/-- The scrubber of a room takes its next position: a pass is under way and no load, swap, GSR or park pauses it. -/
def Dev.scrubRuns (d : Dev) (n : Nat) : Bool :=
  d.gb F.ROOM_SCRUB_STAT_RUNNING n && d.scrubFree n && (d.room n).load.isNone && d.sh n != shSwapping

/-- The source record of logic frame `idx` of a plane: header, record address and number. -/
def Dev.scrubSource (d : Dev) (n idx : Nat) (shadow : Bool) : List (BitVec 8) × Nat × Nat :=
  let src := if shadow then d.gf F.ROOM_PLANE_STAT_SH_SRC n else d.gf F.ROOM_PLANE_STAT_ACT_SRC n
  let block := if shadow then d.gf F.ROOM_PLANE_STAT_SH_BLOCK n else d.gf F.ROOM_PLANE_STAT_ACT_BLOCK n
  let base := srcBase src block
  let h := d.header base
  let a := roomRecords h base n + 264 * (idx + (if hdrKind h == 2 then 1 else 0))
  (h, a, recNumber base a)

/-- A repair has failed (R149, R150): counted and logged; an active plane with FAIL_RESET goes DOWN, a shadow
plane is INVALID and, if ARMED, its arm ends NO_SHADOW (Table 6.5). DEDUCED, log entry 39. -/
def Dev.scrubFailed (d : Dev) (n : Nat) (shadow : Bool) : Dev :=
  let d := ((d.sf F.ROOM_SCRUB_LAST_FAILED n 0 1).cnt F.ROOM_SCRUB_CNT_FAILED n 0).faultFree 0x0F
  if shadow then
    let armed := d.sh n == shArmed
    let d := (d.sf F.ROOM_PLANE_STAT_SH_STATE n 0 shInvalid).onRoom n (fun r => { r with arm := none })
    if armed then d.roomResult n rNoShadow 0 else d
  else if d.gb F.ROOM_SCRUB_CFG_FAIL_RESET n then (d.roomReset n false).sf F.ROOM_PLANE_STAT_ACT_STATE n 0 actDown
  else d

/-- SCRUB_REPAIR (R149): a record that passes its CRC and the guard is written, stored design data kept.
DEDUCED, log entry 39. -/
def Dev.scrubRepair (d : Dev) (n idx : Nat) (shadow : Bool) (disturbed : Nat) : Dev :=
  let s := d.scrubSource n idx shadow
  let rec' := d.record s.2.1
  let p := d.plain s.1 s.2.2 rec'
  let addr := mkFrame n 0 idx
  let pl := if shadow then (d.room n).shd else (d.room n).act
  let d := d.sf F.ROOM_SCRUB_LAST_ADDR n 0 (addr / 4096)
  if disturbed = 2 || !d.canDecrypt s.1 || field4 rec' 260 != (frameCrc (field4 rec' 0) p).toNat then d.scrubFailed n shadow
  else match guardCheck (withoutFrame pl.drivers idx) idx p with
    | .error h => (d.guardRecord n idx h).scrubFailed n shadow
    | .ok m =>
      let mask := pl.memoryMaskOf idx p
      let old := Map.get (fun _ => 0) pl.frames idx
      let d := d.onPlane n (!shadow) (fun x => x.commit idx ((p &&& ~~~mask) ||| (old &&& mask)) m)
      ((d.sf F.ROOM_SCRUB_LAST_FAILED n 0 0).cnt F.ROOM_SCRUB_CNT_REPAIRED n 0).notice 0x0F addr

/-- A logic frame is read and compared with its source (R148); `upset` cells have flipped.
DEDUCED, log entry 39. -/
def Dev.scrubFrame (d : Dev) (n idx : Nat) (shadow : Bool) (upset : BitVec 2048) (disturbed : Nat) : Dev :=
  let d := d.onPlane n (!shadow) (fun x =>
    { x with frames := Map.put (fun _ => 0) x.frames idx (Map.get (fun _ => 0) x.frames idx ^^^ upset) })
  let s := d.scrubSource n idx shadow
  let rec' := d.record s.2.1
  let p := d.plain s.1 s.2.2 rec'
  let pl := if shadow then (d.room n).shd else (d.room n).act
  let mask := pl.memoryMaskOf idx p
  let cells := Map.get (fun _ => 0) pl.frames idx
  let seen := (cells &&& ~~~mask) ||| (p &&& mask)
  if (frameCrc (field4 rec' 0) seen).toNat = field4 rec' 260 then d else d.scrubRepair n idx shadow disturbed

/-- A pass ends (R150): PASSES counts; in continuous mode the next pass begins, every fourth over the shadow.
DEDUCED, log entry 39. -/
def Dev.scrubPassEnd (d : Dev) (n : Nat) : Dev :=
  let d := (d.cntWrap F.ROOM_SCRUB_STAT_PASSES n 0).sf F.ROOM_SCRUB_STAT_POSITION n 0 0
  let shadow := d.gb F.ROOM_SCRUB_CFG_SHADOW_EN n && d.scrubCovers n true && d.gf F.ROOM_SCRUB_STAT_PASSES n % 4 == 3
  (d.sf F.ROOM_SCRUB_STAT_PLANE n 0 (b2n shadow)).sf F.ROOM_SCRUB_STAT_RUNNING n 0 (b2n (d.gf F.ROOM_SCRUB_CFG_MODE n == 1))

/-- SCRUB_POSITION (R148): one position; block RAM frames are skipped. A repair that puts the room into reset
ends the pass. -/
def Dev.scrubPosition (d : Dev) (n : Nat) (upset : BitVec 2048) (disturbed : Nat) : Dev :=
  if !d.scrubRuns n then d
  else
    let p := d.gf F.ROOM_SCRUB_STAT_POSITION n
    let shadow := d.gb F.ROOM_SCRUB_STAT_PLANE n
    let d := if p < 2304 && d.scrubCovers n shadow then d.scrubFrame n p shadow upset disturbed else d
    if (d.room n).gsr then d
    else if 3023 ≤ p then d.scrubPassEnd n
    else d.sf F.ROOM_SCRUB_STAT_POSITION n 0 (p + 1)

/-- SCRUB_POSITION (R148). -/
def execScrubPosition (n : Nat) (upset : BitVec 2048) (disturbed : Nat) (s : State) : Out :=
  .next (s.act (fun d => d.scrubPosition n upset disturbed))

/-! ### Room operations (R131, R133 to R138, R152) -/

/-- LOAD_SHADOW (R133). -/
def execLoadShadow (n : Nat) (s : State) : Out := .next (s.act (fun d => d.loadPlane n false))

/-- LOAD_ACTIVE (R134). -/
def execLoadActive (n : Nat) (s : State) : Out := .next (s.act (fun d => d.loadPlane n true))

/-- ARM (R138). -/
def execArm (n : Nat) (s : State) : Out := .next (s.act (fun d => d.armSwap n))

/-- DISARM (R138). -/
def execDisarm (n : Nat) (s : State) : Out := .next (s.act (fun d => d.disarmSwap n))

/-- ABORT_LOAD (R152). -/
def execAbortLoad (n : Nat) (s : State) : Out := .next (s.act (fun d => d.abortLoad n))

/-- DISCARD_SHADOW (R152). -/
def execDiscardShadow (n : Nat) (s : State) : Out := .next (s.act (fun d => d.discardShadow n))

/-- SWAP_TRIGGER_ANGLE (R139): an event core cycle, `dt` ticks after the last. -/
def execSwapTriggerAngle (n dt : Nat) (s : State) : Out := .next (s.act (fun d => (d.tick dt).swapTriggerAngle n))

/-- SWAP_DRAIN_DONE (R141). -/
def execSwapDrainDone (n : Nat) (s : State) : Out := .next (s.act (fun d => d.swapDrainDone n))

/-- SWAP_DRAIN_TIMEOUT (R146). -/
def execSwapDrainTimeout (n : Nat) (s : State) : Out := .next (s.act (fun d => d.swapDrainTimeout n))

end Sys2Proof.Machine
end

