-- ==== Sys2Proof/Machine/Sleep.lean ====
section
/-! DEFINITION. AVSBus exchanges (R308 to R310), the sleep handshake (R318 to R320), Deep hold and the wake
from it (R321, R322, R199, R210, R234). -/

namespace Sys2Proof.Machine

/-! ### Voltage exchanges (R309, R310) -/

/-- The four frame types the governor sends (R308), with the rail select and, for a write with commit, the target. -/
inductive AvsSend where
  | write (rail mV : Nat)
  | readVoltage (rail : Nat)
  | readCurrent (rail : Nat)
  | readStatus (rail : Nat)
  deriving DecidableEq, Repr

/-- The rail select of rail 0 (VCC) or 1 (VCC_SRAM). -/
def Dev.railSel (d : Dev) (rail : Nat) : Nat := if rail = 0 then d.gf F.GOV_AVS_RAIL_VCC else d.gf F.GOV_AVS_RAIL_SRAM

/-- The frame that the governor is sending, or whose response it awaits: of the exchange, else of the currents (R308,
R309). -/
def Dev.avsSends (d : Dev) : Option AvsSend :=
  match d.gov.avs with
  | some w =>
    let r := d.railSel w.rail
    some (if !w.written then .write r w.target else if w.voltage then .readVoltage r else .readStatus r)
  | none => d.gov.asks.head?.map (fun k => .readCurrent (d.railSel k))

/-- An exchange starts and takes the bus in place of current reads: rail 0 is VCC, 1 VCC_SRAM. -/
def Dev.avsStart (d : Dev) (rail target : Nat) (raise : Bool) : Dev :=
  { d with gov := { d.gov with avs := some { rail := rail, target := target, raise := raise }, asks := [] } }.sf
    F.GOV_STAT_AVS_BUSY 0 0 1

/-- No exchange is outstanding any more. -/
def Dev.avsDone (d : Dev) : Dev := { d with gov := { d.gov with avs := none } }.sf F.GOV_STAT_AVS_BUSY 0 0 0

/-- The exchange succeeds: its voltage is confirmed and AVS_FAIL falls. -/
def Dev.avsOk (d : Dev) (w : AvsWork) : Dev :=
  let d := (d.avsDone).sf F.GOV_STAT_AVS_FAIL 0 0 0
  if w.rail = 0 then { d with gov := { d.gov with raiseFails := 0, capped := false } }.sf F.GOV_STAT_VCC_SET 0 0 w.target
  else { d with gov := { d.gov with vccSram := w.target, sramFails := 0 } }

/-- The exchange fails (R310): a FAULT and AVS_FAIL; after the third failed raise of VCC the rooms are capped.
DEDUCED, log entry 46. -/
def Dev.avsFail (d : Dev) (w : AvsWork) : Dev :=
  let d := (d.avsDone.sf F.GOV_STAT_AVS_FAIL 0 0 1).faultFree 0x22
  let g := d.gov
  if !w.raise then d
  else if w.rail = 0 then { d with gov := { g with raiseFails := g.raiseFails + 1, capped := g.capped || decide (2 ≤ g.raiseFails) } }
  else { d with gov := { g with sramFails := (if g.sramGoal = w.target then g.sramFails else 0) + 1, sramGoal := w.target } }

/-! ### Entry into Deep hold (R319) -/

/-- The generators of every island but 99 stop; islands 102 and 104 go over to the boot clock. -/
def Dev.islandsStop (d : Dev) : Dev :=
  d.each ((List.range 106).filter (fun n => hasGen n && n != 99)) (fun d n => d.setCur n 0)

/-- Deep hold is entered with CAUSE 0x0C and REQ_ST 0b10; what the handshake has stopped is kept for the wake. -/
def Dev.deepEnter (d : Dev) (x : Sleep) : Dev :=
  let d := (d.endRequest 2).stringsDown
  let d := { d with gov := { d.gov with
    sleep := some { stopped := x.stopped }, short := [], bin := [], holdAsked := false, quietAsked := false } }
  (d.islandsStop.sf F.GOV_SLEEP_STAT_PHASE 0 0 0).putMode mDeep 0x0C

/-- VCC_SRAM goes to VSRAM_RET, the second voltage of R319 step 1. -/
def Dev.sleepSram (d : Dev) (x : Sleep) : Dev :=
  let t := d.gf F.GOV_VCC_VSRAM_RET
  if d.gov.vccSram = t then d.deepEnter x
  else ({ d with gov := { d.gov with sleep := some { x with next := 21 } } }).avsStart 1 t (d.gov.vccSram < t)

/-- The steps after the last PLL has agreed (R319), each once no exchange is outstanding: VCC to 0.72 V plus
MARGIN, VCC_SRAM to VSRAM_RET, Deep hold. -/
def Dev.sleepVolt (d : Dev) : Dev :=
  match d.gov.sleep, d.gov.avs with
  | some x, none =>
    if x.next = 19 then
      let t := min 880 (720 + d.gf F.GOV_VCC_MARGIN)
      let v := d.gf F.GOV_STAT_VCC_SET
      if v = t then d.sleepSram x
      else ({ d with gov := { d.gov with sleep := some { x with next := 20 } } }).avsStart 0 t (v < t)
    else if x.next = 20 && !x.waking then d.sleepSram x
    else if x.next = 21 then d.deepEnter x
    else d
  | _, _ => d

/-! ### The voltages of a wake (R321 step 1) -/

/-- V_req for the saved room frequencies. -/
def Dev.savedVcc (d : Dev) : Nat :=
  roomIds.foldl (fun m n => max m (d.roomVcc n (((d.room n).saved.map Saved.cur).getD 0))) 0

/-- A raise of VCC_SRAM to VSRAM_RUN has failed three times. -/
def Dev.sramGivenUp (d : Dev) : Bool := d.gov.sramGoal == d.gf F.GOV_VCC_VSRAM_RUN && decide (3 ≤ d.gov.sramFails)

/-- VCC_SRAM is raised to VSRAM_RUN, or the wake goes on. -/
def Dev.wakeSram (d : Dev) (x : Sleep) : Dev :=
  let run := d.gf F.GOV_VCC_VSRAM_RUN
  let go := fun (n : Nat) => { d with gov := { d.gov with sleep := some { x with next := n } } }
  if run ≤ d.gov.vccSram || d.sramGivenUp then go 11 else (go 23).avsStart 1 run true

/-- VCC, then VCC_SRAM, each raised once no exchange is outstanding, and given up after the third failure (R310, R321).
DEDUCED, log entry 50. -/
def Dev.wakeVolt (d : Dev) : Dev :=
  match d.gov.sleep, d.gov.avs with
  | some x, none =>
    if !x.waking then d
    else if x.next = 22 then
      let t := d.savedVcc
      if t ≤ d.gf F.GOV_STAT_VCC_SET || d.gov.capped then d.wakeSram x else d.avsStart 0 t true
    else if x.next = 23 then d.wakeSram x
    else d
  | _, _ => d

/-- An exchange is over: the sleep sequence goes on, at the higher voltage if it failed; a failed raise of a wake is tried
again in the next cycle. DEDUCED, log entry 46. -/
def Dev.avsEnd (d : Dev) (w : AvsWork) (ok : Bool) : Dev := (if ok then (d.avsOk w).wakeVolt else d.avsFail w).sleepVolt

/-- The current read under way is over. -/
def Dev.askDone (d : Dev) : Dev := { d with gov := { d.gov with asks := d.gov.asks.drop 1, askErr := false } }

/-- A response to a current read (R308): a CRC error repeats the frame once, and then the last value stands. -/
def Dev.currentRead (d : Dev) (f : AvsFrame) (crcOk : Bool) : Dev :=
  match d.gov.asks.head?, crcOk with
  | none, _ => d
  | some _, false => if d.gov.askErr then d.askDone else { d with gov := { d.gov with askErr := true } }
  | some k, true => match f with
    | .currentVcc i => if k = 0 then d.askDone.sf F.GOV_AVS_STAT_I_VCC 0 0 i.toNat else d
    | .currentSram i => if k = 1 then d.askDone.sf F.GOV_AVS_STAT_I_SRAM 0 0 i.toNat else d
    | _ => d

/-- The status or the voltage is read (R309): the other is read next, unless VDone has been read and the voltage lies near
the target. -/
def Dev.avsRead (d : Dev) (w : AvsWork) : Dev :=
  if w.done && w.near then d.avsEnd w true else { d with gov := { d.gov with avs := some { w with voltage := !w.voltage } } }

/-- AVS_RESPONSE (R308, R309): a frame that answers what the governor has asked; others are ignored. A first CRC error
repeats the frame, a second ends the exchange. DEDUCED, log entry 46. -/
def Dev.avsResponse (d : Dev) (f : AvsFrame) (crcOk : Bool) : Dev :=
  match d.gov.avs with
  | none => d.currentRead f crcOk
  | some w =>
    let put := fun (w : AvsWork) => { d with gov := { d.gov with avs := some w } }
    if !crcOk then (if w.crcErr then d.avsEnd w false else put { w with crcErr := true })
    else match f with
      | .writeAck => if w.written then d else put { w with written := true, crcErr := false }
      | .status done => if w.written && !w.voltage then d.avsRead { w with crcErr := false, done := done } else d
      | .voltage v =>
        let tol := d.gf F.GOV_AVS_TOL
        let near := decide (w.target ≤ v.toNat + tol) && decide (v.toNat ≤ w.target + tol)
        if w.written && w.voltage then d.avsRead { w with crcErr := false, near := near } else d
      | _ => d

/-- AVS_RESPONSE (R308). -/
def execAvsResponse (f : AvsFrame) (crcOk : Bool) (s : State) : Out := .next (s.act (fun d => d.avsResponse f crcOk))

/-- AVS_EXCHANGE_TIMEOUT (R310): TO × 10 µs have passed. -/
def Dev.avsTimeout (d : Dev) : Dev :=
  match d.gov.avs with
  | some w => if d.gf F.GOV_AVS_TO ≤ w.cycles then d.avsEnd w false else d
  | none => d

/-- AVS_EXCHANGE_TIMEOUT (R310). -/
def execAvsExchangeTimeout (s : State) : Out := .next (s.act Dev.avsTimeout)

/-! ### Restarting what has been stopped (R320, R321) -/

/-- The PLL that keeps running through Deep hold (R318): the one island 99 names. -/
def Dev.deepPll (d : Dev) : Nat := d.gf F.CLK_ISL_CTRL_REF_SEL 99

/-- PLL `n` is stopped: its registers keep what the save set holds (R338). -/
def Dev.pllSleep (d : Dev) (n : Nat) : Dev :=
  let d := d.onPll n (fun x => { x with steps := [], move := none, lossPending := false })
  (((d.sf F.PLL_STAT_LOCKED n 0 0).sf F.PLL_STAT_REF_OK n 0 0).sf F.PLL_STAT_HOLDOVER n 0 0).sf F.PLL_STEP_BUSY n 0 0

/-- PLL `n` restarts and locks where its reference shows edges. -/
def Dev.pllWake (d : Dev) (n : Nat) : Dev :=
  if !d.gb F.PLL_CTRL_EN n then d
  else
    let ok := d.pin.refEdges.getLsbD (d.gf F.PLL_CTRL_REF_SEL n)
    (d.pllStart n).sf F.PLL_STAT_LOCKED n 0 (b2n ok)

/-- The islands other than rooms take up their settings again, locked where their PLL feeds them; those of the quadrants
that were stopped wait (R321). -/
def Dev.islandsWake (d : Dev) (wait : List Nat) : Dev :=
  d.each ((List.range 106).filter (fun n => hasGen n && 64 ≤ n && n != 99 && !wait.contains n)) (fun d n =>
    let d := d.followMult n
    if d.gb F.CLK_ISL_STAT_RUN n && d.pllFeeds (d.gf F.CLK_ISL_CTRL_REF_SEL n) then d.sf F.CLK_ISL_STAT_LOCKED n 0 1
    else d)

/-- A channel wakes (R199): from self-refresh by a restore, from OFF retrained and cleared; without its training
results by a full training. -/
def Dev.dramWake (d : Dev) (n : Nat) (kind : Training) (back : Bool) : Dev :=
  let d := if kind = .full then (d.dramForget n).onDram n (fun x => { x with firstTrain := true, trained := false }) else d
  d.dramTrainStart n kind back

/-- A channel wakes in a rollback; whether its training results pass their check is free (R322).
DESIGN CHOICE, log entry 79. -/
def Dev.dramRestart (d : Dev) (n : Nat) (kind : Training) (back : Bool) : Dev :=
  let f := d.takeFree
  if f.1.getLsbD 0 then f.2.dramWake n kind back else (f.2.fault 0x29 5).dramWake n .full back

/-- Registers of the event engine's island lose what they held (R234, R236). -/
def Dev.dropRegs (d : Dev) (p : RK → Bool) : Dev :=
  { d with regs := d.regs.filter (fun e => !(RK.all.any (fun k => p k && k.ctorIdx == e.1 / 16777216))) }

/-- Device time resumes (R210): it moves on by the Attic's `cycles` of 32 MHz, and GAP is set. -/
def Dev.timeResume (d : Dev) (cycles : Nat) : Dev :=
  { d with ev := { d.ev with time := d.ev.time + BitVec.ofNat 64 (roundDiv (cycles * 125) 8) } }.sf F.EVT_TIME_STAT_GAP 0 0 1

/-- The event engine wakes (R217, R234): its registers but EVT_TIME_STAT (R236) at reset values, and the ENGINE section
applied. Posts held back in the mesh, which lies outside its island, wait on (R253). -/
def Dev.engineWake (d : Dev) : Dev :=
  let e := d.ev
  let d := { d.dropRegs (fun k => k.inEvt && k != .EVT_TIME_STAT) with
    ev := { time := e.time, timeHi := e.timeHi, tbEver := e.tbEver, tokenAt := e.time.toNat, mesh := e.mesh } }
  (d.applySection .engine d.cfg.recordVerified).1

/-- The event engine stops: angle units and time base off (R210, Table 14.9). -/
def Dev.engineStop (d : Dev) : Dev :=
  (({ d with ev := { d.ev with stopped := true } }).sf F.EVT_TIME_STAT_TB_LOCKED 0 0 0).sf F.EVT_TIME_STAT_COUNTING 0 0 0

/-! ### One participant after the other (R320, R321) -/

/-- A participant that was stopped is up, or has failed its wake and is left so. -/
def Dev.partUp (d : Dev) (p : Stopped) : Bool :=
  match p with
  | .room n => d.pstate n != 3
  | .quad q => d.quadState q == 2 || !d.gb F.CLK_ISL_STAT_RUN (94 + q)
  | .dram n _ _ => d.dramState n != drTraining
  | _ => true

/-- A participant restarts. The Attic's count of a rollback is free. DEDUCED, log entry 49. -/
def Dev.startPart (d : Dev) (p : Stopped) : Dev :=
  match p with
  | .room n => d.roomWake n
  | .engine =>
    let f := d.takeFree
    (f.2.timeResume (f.1.toNat % 2 ^ 32)).engineWake
  | .quad q => d.followMult (94 + q)
  | .dram n kind back => if kind = .full then d.dramWake n kind back else d.dramRestart n kind back
  | .untrained n => d.setDramState n drUntrained
  | .pll n => d.pllWake n

/-- Participants that restart together: the rooms, and the channels of a mirrored pair. -/
def Dev.together (d : Dev) (p q : Stopped) : Bool :=
  match p, q with
  | .room _, .room _ => true
  | .dram n _ _, .dram m _ _ => d.mirrorOf n == some (min n m) && m == partner n
  | _, _ => false

/-- The wake from Deep hold ends in Run or Hold with CAUSE 0x14 (R321). -/
def Dev.wakeFinish (d : Dev) : Dev :=
  let pend := d.gov.pend
  let d := (({ d with gov := { d.gov with sleep := none } }).sf F.GOV_SLEEP_STAT_PHASE 0 0 0).enterRunOrHold 0x14
  if pend = 0 then d else d.endRequest 2

/-- Every participant of a rollback, or of the stage of a wake, is up. -/
def Dev.restartEnd (d : Dev) (x : Sleep) : Dev :=
  if x.rolling then d.sleepEnd x.kind x.code x.index else if x.next = 1 then d.wakeFinish else d

/-- Participants restart in turn, each once the one before it is up; at most `k` steps. -/
def Dev.restartSteps : Nat → Dev → Dev
  | 0, d => d
  | k + 1, d => match d.gov.sleep with
    | none => d
    | some x =>
      if !(x.rolling || x.waking) || !x.cur.all d.partUp then d
      else match x.restart with
        | [] => d.restartEnd x
        | p :: l =>
          let g := p :: l.takeWhile (d.together p)
          let d := { d with gov := { d.gov with sleep := some { x with cur := g, restart := l.drop (g.length - 1) } } }
          Dev.restartSteps k (d.each g Dev.startPart)

/-- A rollback or a wake goes on where the participants being restarted are up. -/
def Dev.restartGo (d : Dev) : Dev :=
  match d.gov.sleep with
  | none => d
  | some x => d.restartSteps (x.restart.length + 1)

/-- QUAD_CLEAR_DONE (R162): while the quadrant is CLEARING. -/
def execQuadClearDone (q : Nat) (s : State) : Out :=
  .next (s.onDev (fun d => if d.quadState q == 1 then (d.quadClearDone q).restartGo else d))

/-- DRAM_TRAIN_STEP_DONE (R200). -/
def execDramTrainStepDone (n : Nat) (ok : Bool) (pin : BitVec 8) (s : State) : Out :=
  .next (s.onDev (fun d => (d.dramTrainStep n ok pin.toNat).restartGo))

/-- ROOM_WAKE_STAGE_DONE (R316). -/
def execRoomWakeStageDone (n : Nat) (saveOk : Bool) (s : State) : Out :=
  .next (s.act (fun d => (d.roomWakeStage n saveOk).restartGo))

/-- SLEEP_ROLLBACK (R320): what has been stopped restarts in reverse order; the attempt ends with the last room.
DEDUCED, log entry 49. -/
def Dev.rollback (d : Dev) (x : Sleep) (kind code index : Nat) : Dev :=
  let d := { d with gov := { d.gov with
    sleep := some { next := 0, rolling := true, kind := kind, code := code, index := index, restart := x.stopped } } }
  (d.sf F.GOV_SLEEP_STAT_PHASE 0 0 8).restartGo

/-! ### The participants' answers (R318, R319, Table 14.9) -/

/-- PHASE of the participant asked. -/
def sleepPhase (next : Nat) : Nat :=
  if next < 2 then 1 else if next < 3 then 2 else if next < 7 then 3 else if next < 11 then 4 else 5

/-- The participant agrees; `marks` say how it was stopped. The next is asked, or the voltages follow. -/
def Dev.sleepAgree (d : Dev) (x : Sleep) (skip : Nat) (marks : List Stopped) : Dev :=
  let n := x.next + 1 + skip
  let d := { d with gov := { d.gov with sleep := some { x with next := n, delays := 0, stopped := marks ++ x.stopped } } }
  (d.sf F.GOV_SLEEP_STAT_PHASE 0 0 (sleepPhase n)).sleepVolt

/-- The participant answers DELAY, once too often as a refusal. DEDUCED, log entry 49. -/
def Dev.sleepDelay (d : Dev) (x : Sleep) (kind index : Nat) : Dev :=
  if d.gf F.GOV_SLEEP_DELAY_MAX ≤ x.delays then d.rollback x kind 2 index
  else { d with gov := { d.gov with sleep := some { x with delays := x.delays + 1 } } }

/-- Queues in RUN or STOPPED that hold records, or a running player (R234). -/
def Dev.engineBusy (d : Dev) : Bool :=
  d.liveQueues.any (fun q => (d.qState q == qRun || d.qState q == qStopped) && d.qCount q != 0) ||
    (List.range 4).any (fun k => d.gb F.EVT_PLY_CTRL_RUN k)

/-- FLUSH_OK (R234): HEAD = TAIL in every queue, RUN queues STOPPED, players' RUN cleared. -/
def Dev.engineFlush (d : Dev) : Dev :=
  let qs := (d.listed .QUEUE_W1).eraseDups
  let d := d.each qs (fun d q => d.sf F.QUEUE_W1_HEAD q 0 (d.gf F.QUEUE_W1_TAIL q))
  d.stopAllQueues.idlePlayers

/-- The event engine's answer. -/
def Dev.engineAnswer (d : Dev) (x : Sleep) : Dev :=
  let flush := d.gb F.EVT_CTRL_FLUSH_OK
  if d.engineBusy && !flush then d.rollback x 1 1 0
  else (if flush then d.engineFlush else d).engineStop.sleepAgree x 0 [.engine]

/-- A quadrant's answer. -/
def Dev.quadAnswer (d : Dev) (x : Sleep) (q : Nat) : Dev :=
  if d.gb F.LAR_TEST_STAT_BUSY && d.gf F.LAR_TEST_STAT_REGION / 4096 == q then d.sleepDelay x 2 q
  else if d.quadState q == 0 then d.sleepAgree x 0 []
  else ((d.quadLeave q).setCur (94 + q) 0).sleepAgree x 0 [.quad q]

/-- A channel refuses (R199). -/
def Dev.dramRefuses (d : Dev) (n : Nat) : Bool :=
  let st := d.dramState n
  st == drTraining || st == drResync ||
    (d.gf F.DRC_CFG_DEVTYPE n == 0 && st != drOff && st != drUntrained && !d.gb F.DRC_CFG_LOSE_OK n)

/-- How a channel that is not OFF is stopped (R199). -/
def Dev.dramMark (d : Dev) (n : Nat) : Stopped :=
  if d.dramState n == drUntrained then .untrained n
  else .dram n (if d.gf F.DRC_CFG_DEVTYPE n = 1 then .restore else .fromOff) (d.dramState n == drOffline)

/-- A channel is stopped: into self-refresh, or OFF with its contents lost (R199). -/
def Dev.dramStop (d : Dev) (n : Nat) : Dev :=
  let st := d.dramState n
  let d := d.dramTurnAway (d.dramLead n)
  if st = drOff then d
  else if st = drUntrained then d.setDramState n drOff
  else if d.gf F.DRC_CFG_DEVTYPE n = 1 then (d.setDramState n drSelfRef).cnt F.DRC_CNT_SR_ENTRIES n 0
  else (d.dramForget n).setDramState n drOff

/-- The answer of a channel, or of a mirrored pair when its even channel is asked. -/
def Dev.dramSleepAnswer (d : Dev) (x : Sleep) (n : Nat) : Dev :=
  let l := if (d.mirrorOf n).isSome then [n, n + 1] else [n]
  if l.any d.dramRefuses then d.rollback x 3 1 n
  else if l.any (fun c => !(d.dram c).queue.isEmpty || !(d.dram c).reading.isEmpty) then d.sleepDelay x 3 n
  else
    let marks := (l.filter (fun c => d.dramState c != drOff)).map d.dramMark
    (d.each l Dev.dramStop).sleepAgree x (l.length - 1) marks

/-- A PLL's answer. -/
def Dev.pllAnswer (d : Dev) (x : Sleep) (n : Nat) : Dev :=
  if d.gb F.PLL_RAMP_CTRL_RUN n then d.sleepDelay x 4 n
  else if n = d.deepPll || !d.gb F.PLL_CTRL_EN n then d.sleepAgree x 0 []
  else (d.pllSleep n).sleepAgree x 0 [.pll n]

/-- SLEEP_PARTICIPANT_ANSWER (R318): the hardened participant being asked. DEDUCED, log entry 49. -/
def Dev.sleepAnswer (d : Dev) : Dev :=
  match d.gov.sleep with
  | none => d
  | some x =>
    if x.waking || x.rolling then d
    else if x.next = 2 then d.engineAnswer x
    else if 3 ≤ x.next && x.next < 7 then d.quadAnswer x (x.next - 3)
    else if 7 ≤ x.next && x.next < 11 then d.dramSleepAnswer x (x.next - 7)
    else if 11 ≤ x.next && x.next < 19 then d.pllAnswer x (x.next - 11)
    else d

/-- SLEEP_PARTICIPANT_ANSWER (R318). -/
def execSleepParticipantAnswer (s : State) : Out := .next (s.act Dev.sleepAnswer)

/-! ### The start of an attempt (R318, R319) -/

/-- A room that is up and has not been asked in this attempt. -/
def Dev.needsAsk (d : Dev) (n : Nat) : Bool :=
  let q := (d.room n).quiesce
  d.pstate n == 0 && !(q.purpose == 1 && (q.asked || q.delayed || q.agreed))

/-- All rooms not parked are asked at once; those that come up meanwhile are asked in a later cycle. -/
def Dev.askRooms (d : Dev) : Dev := (d.each (roomIds.filter d.needsAsk) (fun d n => d.askRoom n 1)).roomsParked

/-- SLEEP_HANDSHAKE_START (R319): an attempt begins with the rooms. -/
def Dev.sleepStart (d : Dev) : Dev :=
  let a := d.gov.attempts + 1
  let d := { d with gov := { d.gov with attempts := a, sleep := some { next := 1 } } }
  let d := (d.sf F.GOV_SLEEP_STAT_ATTEMPT 0 0 (min a 15)).sf F.GOV_SLEEP_STAT_PHASE 0 0 1
  d.askRooms

/-- SLEEP_RETRY (R320): RETRY ms have passed. -/
def execSleepRetry (s : State) : Out :=
  .next (s.act (fun d => if d.gov.sleep.isSome && d.gf F.GOV_SLEEP_STAT_PHASE == 9 then d.sleepStart else d))

/-! ### The wake from Deep hold (R321, R322) -/

/-- A wake begins: the Attic restarts island 101. -/
def Dev.deepWake (d : Dev) : Dev :=
  match d.gov.sleep with
  | some x => if d.mode == mDeep && !x.waking then
      { d with gov := { d.gov with sleep := some { x with waking := true, next := 20 } } }
    else d
  | none => d

/-- HOLD_N_WAKE_EDGE (R321): a rising edge of HOLD_N. -/
def execHoldNWakeEdge (s : State) : Out :=
  .next (s.act (fun d => if d.mode == mDeep then ({ d with pin := { d.pin with holdN := true } }).deepWake else d))

/-- The governor's state fails its check (Table 14.10, row 6): reset values, then those of the CONTROL section.
PSTATE follows the rooms. DEDUCED, log entry 50. -/
def Dev.govReset (d : Dev) : Dev :=
  let ps := roomIds.map d.pstate
  let gov := d.gov
  let d := d.dropRegs (fun k => k.within 0x40000 0x50000)
  let d := { d with gov := { pend := gov.pend, sleep := gov.sleep, vccSram := gov.vccSram } }
  let d := d.each roomIds (fun d n => d.sf F.GOV_ROOM_PSTATE n 0 (ps.getD n 0))
  (d.applyList .control d.cfg.recordVerified ((d.sectionList .control).filter (fun e => 0x40000 ≤ e.1 && e.1 < 0x50000))).1

/-- PLL settings that fail their check (row 2): reset values, then those of the CLOCK section.
DEDUCED, log entry 50. -/
def Dev.pllSettingsReset (d : Dev) : Dev :=
  let keep := d.deepPll
  let own := fun (a : Nat) => decide (0x50000 ≤ a) && decide (a < 0x52000) && (a - 0x50000) / 0x400 != keep && a % 0x400 != 0x30
  let d := { d with regs := d.regs.filter (fun e => !(RK.all.any (fun k =>
    k.within 0x50000 0x52000 && k != RK.PLL_REFIN && k.ctorIdx == e.1 / 16777216 && e.1 % 16777216 / 256 != keep))) }
  (d.applyList .clock d.cfg.recordVerified ((d.sectionList .clock).filter (fun e => own e.1))).1

/-- A failed check of a save-set item (R322). DEDUCED, log entry 50. -/
def Dev.saveBad (d : Dev) (ok : Bool) (row : Nat) (f : Dev → Dev) : Dev := if ok then d else (f d).fault 0x29 row

/-- Step 1 of R321: the governor's state is back, and the voltages are raised with fresh counts of failures. -/
def Dev.wakeGov (d : Dev) (x : Sleep) (ok : Bool) : Dev :=
  let d := d.saveBad ok 6 Dev.govReset
  ({ d with gov := { d.gov with raiseFails := 0, capped := false, sramFails := 0, sleep := some { x with next := 22 } } }).wakeVolt

/-- Step 2: the PLLs that the handshake stopped, the islands, and the time base. -/
def Dev.wakePlls (d : Dev) (x : Sleep) (cycles : Nat) (ok : Bool) : Dev :=
  let d := d.saveBad ok 2 Dev.pllSettingsReset
  let plls := x.stopped.filterMap (fun p => match p with
    | .pll n => some n
    | _ => none)
  let quads := x.stopped.filterMap (fun p => match p with
    | .quad q => some (94 + q)
    | _ => none)
  ((d.each plls.reverse Dev.pllWake).islandsWake quads).timeResume cycles

/-- The channels of a wake; without the training results, which were checked (row 5), by a full training. -/
def dramParts (ok : Bool) (l : List Stopped) : List Stopped :=
  l.filterMap (fun p => match p with
    | .dram n kind back => some (.dram n (if ok then kind else .full) back)
    | .untrained n => some (.untrained n)
    | _ => none)

/-- The quadrants of a wake. -/
def quadParts (l : List Stopped) : List Stopped :=
  l.filter (fun p => match p with
    | .quad _ => true
    | _ => false)

/-- Rooms that a wake from Deep hold wakes: not PARKED, and JOB rooms only with a RUNNING ticket. -/
def Dev.wakesRoom (d : Dev) (n : Nat) : Bool :=
  let c := d.gf F.GOV_ROOM_CLASS n
  d.pstate n == 2 && c != clParked && (c != clJob || d.qpJob n)

/-- A stage of the wake begins with its participants. -/
def Dev.wakeParts (d : Dev) (x : Sleep) (next : Nat) (l : List Stopped) : Dev :=
  { d with gov := { d.gov with sleep := some { x with next := next, cur := [], restart := l } } }.restartGo

/-- DEEP_HOLD_WAKE_STAGE (R321): a stage is complete, with all its participants up, and the next one starts. `cycles`
is the Attic's count for R210, `saveOk` the check of the stage's save-set item. DEDUCED, log entry 50. -/
def Dev.deepStage (d : Dev) (cycles : Nat) (saveOk : Bool) : Dev :=
  match d.gov.sleep with
  | none => d
  | some x =>
    if !x.waking || !x.restart.isEmpty || !x.cur.all d.partUp then d
    else if x.next = 20 then d.wakeGov x saveOk
    else if x.next = 11 then
      ({ d with gov := { d.gov with sleep := some { x with next := 7 } } }).wakePlls x cycles saveOk
    else if x.next = 7 then
      let l := dramParts saveOk x.stopped
      (if saveOk || l.isEmpty then d else d.fault 0x29 5).wakeParts x 3 l
    else if x.next = 3 then d.wakeParts x 2 (quadParts x.stopped)
    else if x.next = 2 then
      let d := d.engineWake
      d.wakeParts x 1 ((roomIds.filter d.wakesRoom).map .room)
    else d

/-- DEEP_HOLD_WAKE_STAGE (R321). -/
def execDeepHoldWakeStage (cycles : Nat) (saveOk : Bool) (s : State) : Out :=
  .next (s.act (fun d => d.deepStage cycles saveOk))

end Sys2Proof.Machine
end

