-- ==== Sys2Proof/Machine/Governor.lean ====
section
/-! DEFINITION. The governor cycle (R298 to R307): sensors, power, level, room clocks and VCC (R303, R304),
tickets (R311 to R313), and the mode transitions of ranks 6 to 8 (R29, R31). -/

namespace Sys2Proof.Machine

/-! ### Sensors (R298, R299, R361) -/

/-- A reading within the range of Table 14.1, in 1/16 °C. -/
def tempOk (t : Int) : Bool := decide (-880 ≤ t) && decide (t ≤ 2160)

/-- A sensor is sampled (R299). DEDUCED, log entry 45. -/
def Dev.sample (d : Dev) (k : Nat) (x : SensorReading) : Dev :=
  match x with
  | .none => (d.sf F.GOV_TEMP_VALID k 0 0).fault 0x28 k
  | .value t =>
    if tempOk t then (d.sf F.GOV_TEMP_VALID k 0 1).sf F.GOV_TEMP_TEMP k 0 (unsigned 16 t)
    else (d.sf F.GOV_TEMP_VALID k 0 0).fault 0x28 k

/-- A valid reading that raises V2 (Table 16.10). -/
def tempViolates (x : SensorReading) : Bool :=
  match x with
  | .none => false
  | .value t => tempOk t && (decide (t < -800) || decide (2000 < t))

/-- The reading held for a sensor. -/
def Dev.temp (d : Dev) (k : Nat) : Int := signed 16 (d.gf F.GOV_TEMP_TEMP k)

/-- The sensor with the highest valid reading, the lowest of several. -/
def Dev.hottest (d : Dev) : Option Nat :=
  (List.range 72).foldl (fun m k =>
    if !d.gb F.GOV_TEMP_VALID k then m
    else match m with
      | none => some k
      | some j => if d.temp j < d.temp k then some k else m) none

/-- TJ_LIM, TJ_CRIT and the hysteresis in 1/16 °C. -/
def Dev.tjLim (d : Dev) : Int := 16 * d.gf F.GOV_TLIM_TJ_LIM
def Dev.tjCrit (d : Dev) : Int := 16 * d.gf F.GOV_TLIM_TJ_CRIT
def Dev.tjHyst (d : Dev) : Int := 16 * d.gf F.GOV_TLIM_TJ_HYST

/-- T_max as the governor treats it: no lower than TJ_LIM while a sensor is invalid (R299).
DEDUCED, log entry 45. -/
def Dev.tMax (d : Dev) : Int :=
  match d.hottest with
  | none => d.tjLim
  | some k => if (List.range 72).all (fun j => d.gb F.GOV_TEMP_VALID j) then d.temp k else max d.tjLim (d.temp k)

/-- The sensors of the cycle are taken up, V2 among them. DEDUCED, log entry 45. -/
def Dev.sampleAll (d : Dev) (l : List (Nat × SensorReading)) : Dev :=
  let d := d.each l (fun d x => d.sample x.1 x.2)
  let d := match d.hottest with
    | some k => (d.sf F.GOV_TMAX_SENSOR 0 0 k).sf F.GOV_TMAX_TEMP 0 0 (d.gf F.GOV_TEMP_TEMP k)
    | none => d
  d.violate ((l.filter (fun x => tempViolates x.2)).map (fun x => (2, x.1)))

/-! ### Power (R300) in units of 10 µW -/

/-- The power of this cycle. -/
def Dev.power (d : Dev) : Nat :=
  d.gf F.GOV_STAT_VCC_SET * d.gf F.GOV_AVS_STAT_I_VCC + d.gov.vccSram * d.gf F.GOV_AVS_STAT_I_SRAM +
    d.gf F.GOV_PAUX_P_AUX * 1000

/-- The cycle's power joins the short window, and the open bin of 100 cycles, which closes when full.
DEDUCED, log entry 48. -/
def Governor.addPower (g : Governor) (p : Nat) : Governor :=
  let g := { g with short := (p :: g.short).take 10, bin := p :: g.bin }
  if g.bin.length < 100 then g else { g with bin := [], bins := (g.bin.sum :: g.bins).take 1000 }

/-- Sum and count of the short mean. -/
def Governor.shortMean (g : Governor) : Nat × Nat := (g.short.sum, max 1 g.short.length)

/-- Sum and count of the long mean. DEDUCED, log entry 48. -/
def Governor.longMean (g : Governor) : Nat × Nat := (g.bins.sum, 100 * max 1 g.bins.length)

/-- The mean is at most `lim`, in units of 10 mW, less `hyst`. -/
def meanWithin (m : Nat × Nat) (lim hyst : Nat) : Bool := decide (m.1 + hyst * 1000 * m.2 ≤ lim * 1000 * m.2)

/-- A mean in whole units of 10 mW, as GOV_PWR shows it. -/
def meanShown (m : Nat × Nat) : Nat := min 0xFFFF (m.1 / (m.2 * 1000))

/-- Power is measured (R300). DEDUCED, log entry 48. -/
def Dev.measurePower (d : Dev) : Dev :=
  let d := { d with gov := d.gov.addPower d.power }
  (d.sf F.GOV_PWR_SHORT 0 0 (meanShown d.gov.shortMean)).sf F.GOV_PWR_LONG 0 0 (meanShown d.gov.longMean)

/-- The cycle is OVER (R301). -/
def Dev.isOver (d : Dev) : Bool :=
  !meanWithin d.gov.shortMean (d.gf F.GOV_PLIM_P_SHORT) 0 || !meanWithin d.gov.longMean (d.gf F.GOV_PLIM_P_LONG) 0 ||
    decide (d.tjLim ≤ d.tMax)

/-- The cycle is CLEAR (R301). -/
def Dev.isClear (d : Dev) : Bool :=
  let h := d.gf F.GOV_PAUX_P_HYST
  meanWithin d.gov.shortMean (d.gf F.GOV_PLIM_P_SHORT) h && meanWithin d.gov.longMean (d.gf F.GOV_PLIM_P_LONG) h &&
    decide (d.tMax ≤ d.tjLim - d.tjHyst)

/-! ### The level (R305, R306) -/

/-- GOV_STAT.LEVEL. -/
def Dev.level (d : Dev) : Nat := d.gf F.GOV_STAT_LEVEL

/-- The action of the present level is complete (Table 14.4). -/
def Dev.levelComplete (d : Dev) : Bool :=
  if d.level = 2 then
    roomIds.all (fun n => d.gf F.GOV_ROOM_CLASS n != clElastic ||
      decide (d.gf F.CLK_ISL_STAT_CUR n ≤ d.gf F.CLK_ISL_CTRL_FLOOR n))
  else if d.level = 3 then
    roomIds.all (fun n => d.gf F.GOV_ROOM_CLASS n != clJob || d.pstate n == 2 || (d.room n).quiesce.refused)
  else true

/-- HOT of every channel (level 4). -/
def Dev.setHot (d : Dev) (v : Nat) : Dev := d.each (List.range 4) (fun d n => d.sf F.DRC_REF_HOT n 0 v)

/-- JOB rooms that refused earlier are asked once more when level 3 or Quiet is entered.
DEDUCED, log entry 35. -/
def Dev.jobsAgain (d : Dev) : Dev :=
  d.each roomIds (fun d n => if d.gf F.GOV_ROOM_CLASS n == clJob && (d.room n).quiesce.refused then
    d.onQui n (fun q => { q with refused := false, delays := 0 }) else d)

/-- The level rises by one. -/
def Dev.levelUp (d : Dev) : Dev :=
  let l := d.level + 1
  let d := d.sf F.GOV_STAT_LEVEL 0 0 l
  if l = 3 then d.jobsAgain else if l = 4 then d.setHot 1 else d

/-- SUSPENDED tickets are PENDING again. -/
def Dev.unsuspend (d : Dev) : Dev := d.each (d.ticketsIn tkSuspended) (fun d t => d.setTk t tkPending)

/-- The level falls by one and its action is undone; tickets wait for the end of a handshake (Table 14.11). -/
def Dev.levelDown (d : Dev) : Dev :=
  let l := d.level
  let d := d.sf F.GOV_STAT_LEVEL 0 0 (l - 1)
  if l = 4 then d.setHot 0 else d.when (l == 3 && d.gov.sleep.isNone) Dev.unsuspend

/-- Set the count of consecutive CLEAR cycles. -/
def Dev.setClear (d : Dev) (n : Nat) : Dev := { d with gov := { d.gov with clear := n } }

/-- The level after a cycle judged OVER, CLEAR or in the band (R306); OVER in the cycle in which RELAX is reached holds it
(Table 14.11). DEDUCED, log entry 47. -/
def Dev.judgeLevel (d : Dev) (ovr clear : Bool) : Dev :=
  let d := (d.sf F.GOV_STAT_OVER 0 0 (b2n ovr)).sf F.GOV_STAT_CLEAR 0 0 (b2n clear)
  let reached := decide (d.gf F.GOV_CTRL_RELAX ≤ d.gov.clear + 1)
  if ovr then (if d.level < 5 && d.levelComplete && !(reached && d.gov.clear != 0) then d.levelUp else d).setClear 0
  else if clear then
    if reached then (if d.level = 0 then d else d.levelDown).setClear 0
    else d.setClear (d.gov.clear + 1)
  else d.setClear 0

/-- T_max reaches TJ_CRIT or TJ_LIM (R307). DEDUCED, log entry 47. -/
def Dev.judgeHeat (d : Dev) : Dev :=
  let t := d.tMax
  let d := if d.tjCrit ≤ t then (if d.gb F.GOV_STAT_TCRIT then d else (d.sf F.GOV_STAT_TCRIT 0 0 1).faultFree 0x21)
    else if t < d.tjCrit - d.tjHyst then d.sf F.GOV_STAT_TCRIT 0 0 0 else d
  if d.tjLim ≤ t then
    (if d.gov.tlimSeen then d else { d with gov := { d.gov with tlimSeen := true } }.noticeFree 0x20)
  else if t < d.tjLim - d.tjHyst then { d with gov := { d.gov with tlimSeen := false } }
  else d

/-! ### Room clocks and VCC (R303, R304, R310) -/

/-- Predicted rise of the short mean for a room raised from one multiplier to another (R303), in 10 µW, as a
fraction. -/
def Dev.raisePower (d : Dev) (n cur m : Nat) : Nat × Nat :=
  let v := d.gf F.GOV_STAT_VCC_SET
  match d.roomFreq n (m - cur) with
  | some f => (60000 * d.gf F.GOV_ROOM_ACT n * f.num * v * v, 65536 * 600000 * f.den * 640000)
  | none => (0, 1)

/-- Sum of two fractions. -/
def fracAdd (a b : Nat × Nat) : Nat × Nat := (a.1 * b.2 + b.1 * a.2, a.2 * b.2)

/-- The multiplier an ELASTIC room is to have after this cycle's step, and the short mean predicted. -/
def Dev.elasticStep (d : Dev) (n : Nat) (ovr : Bool) (pred : Nat × Nat) : Nat × (Nat × Nat) :=
  let cur := d.gf F.CLK_ISL_STAT_CUR n
  let floor := d.gf F.CLK_ISL_CTRL_FLOOR n
  let step := d.gf F.GOV_CTRL_STEP
  let base := d.roomTarget n
  if cur = 0 || base = 0 || base != cur then (base, pred)
  else if 2 ≤ d.level then (if ovr then max floor (cur - step) else cur, pred)
  else
    let m := min (d.gf F.CLK_ISL_CTRL_MULT n) (cur + step)
    let p := fracAdd pred (d.raisePower n cur m)
    if m = cur then (cur, pred)
    else if meanWithin p (d.gf F.GOV_PLIM_P_SHORT) (d.gf F.GOV_PAUX_P_HYST) then (m, p) else (cur, pred)

/-- The multipliers the running rooms are to have, in ascending order (R303). -/
def Dev.roomWants (d : Dev) (ovr : Bool) : List (Nat × Nat) :=
  ((roomIds.filter (fun n => d.pstate n == 0)).foldl (fun r n =>
    if d.gf F.GOV_ROOM_CLASS n == clElastic && d.mode != mHold && d.mode != mQuiet then
      let x := d.elasticStep n ovr r.2
      (r.1 ++ [(n, x.1)], x.2)
    else (r.1 ++ [(n, d.roomTarget n)], r.2)) ([], d.gov.shortMean)).1

/-- A room clock moves toward what it is to have: down at once, up only as far as VCC allows. While capped it
goes no higher than VCC_SET supports (R310). -/
def Dev.moveClock (d : Dev) (n want : Nat) : Dev :=
  let cur := d.gf F.CLK_ISL_STAT_CUR n
  if want ≤ cur || d.vccAllows n want then d.setCur n want
  else if d.gov.capped then d.setCur n (d.allowedMult n cur want)
  else d

/-- V_req for the clocks that run (R304). DEDUCED, log entry 46. -/
def Dev.vReq (d : Dev) : Nat := roomIds.foldl (fun m n => max m (d.roomVcc n (d.gf F.CLK_ISL_STAT_CUR n))) 0

/-- The voltage the wanted clocks need, those of rooms that wake among them. DEDUCED, log entry 46. -/
def Dev.vNeed (d : Dev) (l : List (Nat × Nat)) : Nat :=
  let waking := (roomIds.filter (fun n => d.pstate n == 3)).map (fun n => (n, d.wakeMult n))
  (l ++ waking).foldl (fun m x => max m (d.roomVcc x.1 x.2)) d.vReq

/-- The sleep sequence or a wake moves the voltages itself (R319, R321). -/
def Dev.sleepHolds (d : Dev) : Bool := d.gov.sleep.any (fun x => 19 ≤ x.next || (x.waking && x.next != 1))

/-- The governor holds VCC at V_req and VCC_SRAM at VSRAM_RUN, one exchange at a time (R304, R309, R310); it
lowers VCC only with no room clock slewing. -/
def Dev.holdVoltages (d : Dev) (need : Nat) : Dev :=
  let v := d.gf F.GOV_STAT_VCC_SET
  let run := d.gf F.GOV_VCC_VSRAM_RUN
  let d := if need ≤ v then { d with gov := { d.gov with raiseFails := 0, capped := false } } else d
  if d.gov.avs.isSome || d.sleepHolds then d
  else if v < need && !d.gov.capped then d.avsStart 0 need true
  else if d.gov.vccSram < run && !d.sramGivenUp then d.avsStart 1 run true
  else if d.vReq < v && need < v && roomIds.all (fun n => !d.gb F.CLK_ISL_STAT_SLEWING n) then d.avsStart 0 need false
  else if run < d.gov.vccSram then d.avsStart 1 run false
  else d

/-- The current reads of a cycle (R308): VCC each cycle, VCC_SRAM each tenth, none beside a voltage exchange. -/
def Dev.askCurrents (d : Dev) : Dev :=
  let g := d.gov
  let l := if g.avs.isSome then [] else if g.turn = 9 then [0, 1] else [0]
  { d with gov := { g with asks := l, askErr := false, turn := (g.turn + 1) % 10 } }

/-- Room clocks and voltages of a cycle. -/
def Dev.clocksAndVcc (d : Dev) (ovr : Bool) : Dev :=
  let l := d.roomWants ovr
  let need := d.vNeed l
  let d := (d.each l (fun d x => d.moveClock x.1 x.2)).holdVoltages need
  let d := match d.gov.avs with
    | some w => { d with gov := { d.gov with avs := some { w with cycles := w.cycles + 1 } } }
    | none => d
  d.sleepVolt.wakeVolt.askCurrents

/-- Rooms parked and woken by class, level and mode; a park that waited for a swap begins. -/
def Dev.parkAndWake (d : Dev) : Dev :=
  d.each roomIds (fun d n =>
    if d.pstate n == 1 && (d.room n).stage = .idle then d.parkBegin n
    else (d.considerPark n).considerWake n)

/-! ### Tickets (R311 to R313) -/

/-- What a running ticket's work is judged by at its end. -/
def Dev.workOf (d : Dev) (t : Nat) : Nat := Map.get (fun _ => 0) d.gov.work t

/-- Set it. -/
def Dev.setWork (d : Dev) (t v : Nat) : Dev := { d with gov := { d.gov with work := Map.put (fun _ => 0) d.gov.work t v } }

/-- A kind whose TARGET is ignored (Table 14.5). -/
def kindGlobal (k : Nat) : Bool := k == 1 || k == 4

/-- The resource a ticket needs is free (R312). -/
def Dev.tkResource (d : Dev) (t : Nat) : Bool :=
  let k := d.tkKind t
  let x := d.tkTarget t
  let same := (d.ticketsIn tkRunning).any (fun u => d.tkKind u == k && (kindGlobal k || d.tkTarget u == x))
  !same && match k with
    | 0 => x < 64 && !d.roomOpBusy x
    | 1 => !d.gb F.LAR_TEST_STAT_BUSY && !d.gb F.LAR_TEST_STAT_IN_PASS
    | 2 => x < 64 && d.gf F.ROOM_SCRUB_CFG_MODE x == 2 && !d.gb F.ROOM_SCRUB_STAT_RUNNING x
    | 3 => x < 4 && d.dramState x != drTraining && d.dramState x != drResync &&
        ((d.mirrorOf x).isNone || d.dramState (partner x) == drOnline)
    | 4 => !d.gb F.CFG_RENEW_ACTIVE && !d.gb F.CFG_STATUS_BUSY
    | 5 => x < 64 && d.gf F.GOV_ROOM_CLASS x == clJob && (d.pstate x == 0 || d.pstate x == 2)
    | _ => false

/-- Ticket `a` comes before `b`: higher PRIO, earlier DEADLINE (0 latest), lower t (R312). -/
def Dev.tkBefore (d : Dev) (a b : Nat) : Bool :=
  let p := fun t => d.gf F.GOV_TKT_W0_PRIO t
  let dl := fun t => if d.gf F.GOV_TKT_W3_DEADLINE t = 0 then 2 ^ 32 else d.gf F.GOV_TKT_W3_DEADLINE t
  if p a != p b then p b < p a else if dl a != dl b then dl a < dl b else a < b

/-- The candidate taken. DEDUCED, log entry 36. -/
def Dev.tkCandidate (d : Dev) : Option Nat :=
  ((d.ticketsIn tkPending).filter d.tkResource).foldl (fun m t =>
    match m with
    | none => some t
    | some u => if d.tkBefore t u then some t else m) none

/-- Energy and temperature leave room for ticket `t` (R312). -/
def Dev.tkFits (d : Dev) (t : Nat) : Bool :=
  let e := d.gf F.GOV_TKT_W1_ENERGY t + ((d.ticketsIn tkRunning).map (fun u => d.gf F.GOV_TKT_W1_ENERGY u)).sum
  let m := d.gov.longMean
  decide (e * m.2 + 10 * m.1 ≤ d.gf F.GOV_PLIM_P_LONG * 10000 * m.2) &&
    decide (d.tMax + d.gf F.GOV_TKT_W2_THERMAL t ≤ d.tjLim - d.tjHyst)

/-- TRAIN of a retraining ticket. -/
def Dev.tkTrain (d : Dev) (t : Nat) : Dev := (d.dramTrain (d.tkTarget t)).setWork t 1

/-- The work of an admitted ticket starts (Table 14.5). -/
def Dev.tkStart (d : Dev) (t : Nat) : Dev :=
  let x := d.tkTarget t
  let d := (d.setTk t tkRunning).setWork t 0
  match d.tkKind t with
  | 0 => d.loadPlane x false
  | 1 => (d.setWork t (d.gf F.LAR_TEST_CNT_PASSES)).larTestPass
  | 2 => (d.setWork t (d.gf F.ROOM_SCRUB_STAT_PASSES x)).scrubStart x
  | 3 => if d.dramState x == drUntrained || d.dramState x == drOffline then d.tkTrain t else d.dramOffline x
  | 4 => d.renewStart
  | 5 => d.roomWake x
  | _ => d

/-- TICKET_ADMIT (R312): at most one ticket a cycle, and no lower one in place of a candidate that fails. -/
def Dev.admitTicket (d : Dev) : Dev :=
  if d.level != 0 || d.mode != mRun || d.gov.sleep.isSome || d.gov.pend == 8 then d
  else match d.tkCandidate with
    | none => d
    | some t => if d.tkFits t then d.tkStart t else d

/-- Steps of running and suspended tickets: a channel taken offline is trained; SUSPENDED tickets are PENDING
again below level 3, outside Quiet and with no handshake under way. -/
def Dev.stepTickets (d : Dev) : Dev :=
  let d := d.each (d.ticketsIn tkRunning) (fun d t =>
    let x := d.tkTarget t
    if d.tkKind t == 3 && d.workOf t == 0 && d.dramState x == drOffline && !(d.dram x).offPending then d.tkTrain t else d)
  d.when (d.level < 3 && d.mode != mQuiet && d.gov.sleep.isNone) Dev.unsuspend

/-- The tickets of a cycle: steps, admission, then expiry (R312, R313, Table 14.11). -/
def Dev.tickets (d : Dev) : Dev :=
  let d := d.stepTickets.admitTicket
  d.each (d.ticketsIn tkPending) Dev.tkExpire

/-- How the work of a ticket has ended, none while it goes on (Table 14.5): whether with its OK result. A pass
counter that has reached its end counts as advanced. DEDUCED, log entry 36. -/
def Dev.workEnded (d : Dev) (t : Nat) : Option Bool :=
  let x := d.tkTarget t
  let w := d.workOf t
  let passed := fun (p : Nat) => p != w || p == 0xFFFF
  match d.tkKind t with
  | 0 => if (d.room x).load.isSome || d.sh x == shLoading || d.sh x == shChecking then none
      else some (d.gf F.ROOM_LOAD_STAT_RESULT x == 0)
  | 1 => if d.gb F.LAR_TEST_STAT_IN_PASS then none else some (passed (d.gf F.LAR_TEST_CNT_PASSES))
  | 2 => if d.gb F.ROOM_SCRUB_STAT_RUNNING x then none else some (passed (d.gf F.ROOM_SCRUB_STAT_PASSES x))
  | 3 =>
    let st := d.dramState x
    if st == drTraining || st == drResync || (d.dram x).offPending then none
    else if w = 1 then some (d.gf F.DRC_STAT_RESULT x == 0)
    else if st == drOffline || st == drUntrained then none
    else some false
  | 4 => if d.gb F.CFG_RENEW_ACTIVE then none else some (!d.cfg.renewFailed)
  | _ => none

/-- TICKET_WORK_END (R311): DONE, or FAILED with a NOTICE. -/
def Dev.ticketWorkEnd (d : Dev) (t : Nat) : Dev :=
  if d.tkState t != tkRunning then d
  else match d.workEnded t with
    | none => d
    | some true => (d.setTk t tkDone).setWork t 0
    | some false => ((d.setTk t tkFailed).setWork t 0).notice 0x27 t

/-- TICKET_WORK_END (R311). -/
def execTicketWorkEnd (t : Nat) (s : State) : Out := .next (s.act (fun d => d.ticketWorkEnd t))

/-! ### Mode transitions and requests (R29, R31, Tables 1.6 and 1.7) -/

/-- A return to Run from Quiet or Hold is barred (R29). -/
def Dev.runBarred (d : Dev) : Bool := !d.pin.holdN || decide (d.tjCrit ≤ d.tMax) || d.level == 5

/-- A swap is ARMED or SWAPPING (R32). -/
def Dev.swapActive (d : Dev) : Bool := roomIds.any (fun n => d.sh n == shArmed || d.sh n == shSwapping)

/-- Table 1.6 allows a request from the present mode and its condition is met. -/
def Dev.requestOk (d : Dev) (r : Nat) : Bool :=
  let m := d.mode
  match r with
  | 5 => m == mDeep || ((m == mQuiet || m == mHold) && !d.runBarred)
  | 6 => m == mRun
  | 7 => m == mRun || m == mQuiet
  | 8 => d.ready && !d.swapActive
  | 10 => (m == mRun || m == mDormant) && d.lcState == 2 && d.gf F.SEC_DBG_LEVEL == 3
  | _ => false

/-- GBL_MODE.REQ is written (R29): ignored while a request is pending or reserved, refused where not allowed,
else pending until the governor evaluates it. DEDUCED, log entry 9. -/
def Dev.request (d : Dev) (r : Nat) : Dev :=
  if !(r == 5 || r == 6 || r == 7 || r == 8 || r == 10) || d.gf F.GBL_MODE_REQ_ST == 1 then d.notice 0x75 0x10
  else if !d.on || !d.requestOk r then (if d.on then d.endRequest 3 else d)
  else
    let d := { d with gov := { d.gov with pend := r } }.sf F.GBL_MODE_REQ_ST 0 0 1
    if d.mode == mDeep then d.deepWake else d

/-- REQ_RUN (R29). -/
def execReqRun (s : State) : Out := .next (s.act (fun d => d.request 5))

/-- REQ_QUIET (R29). -/
def execReqQuiet (s : State) : Out := .next (s.act (fun d => d.request 6))

/-- REQ_HOLD (R29). -/
def execReqHold (s : State) : Out := .next (s.act (fun d => d.request 7))

/-- REQ_DEEP_HOLD (R29). -/
def execReqDeepHold (s : State) : Out := .next (s.act (fun d => d.request 8))

/-- REQ_TEST (R29). -/
def execReqTest (s : State) : Out := .next (s.act (fun d => d.request 10))

/-- A transition among Run, Quiet and Hold; requests that stood end with the mode they asked for. -/
def Dev.goReady (d : Dev) (m cause : Nat) : Dev :=
  let d := { d with gov := { d.gov with holdAsked := d.gov.holdAsked && m == mHold, quietAsked := false } }
  let d := if m = mQuiet then d.jobsAgain else d
  d.enterReady m cause

/-- The transition of rank 6 or 7 that this cycle takes: mode and CAUSE (R306, R307, Table 1.6). -/
def Dev.governorMove (d : Dev) : Option (Nat × Nat) :=
  let m := d.mode
  if (m == mRun || m == mQuiet) && !d.pin.holdN then some (mHold, 0x0D)
  else if (m == mRun || m == mQuiet) && decide (d.tjCrit ≤ d.tMax) then some (mHold, 0x0F)
  else if m == mHold && d.pin.holdN && decide (d.tMax < d.tjCrit - d.tjHyst) && !d.gov.holdAsked then some (mRun, 0x0E)
  else if m == mRun && d.level == 5 then some (mQuiet, 0x10)
  else if m == mQuiet && d.level != 5 && !d.gov.quietAsked then some (mRun, 0x11)
  else none

/-- A request that is granted acts (Table 1.6). -/
def Dev.grant (d : Dev) (r : Nat) : Dev :=
  match r with
  | 5 => ((d.goReady mRun 0x0C).sf F.GOV_STAT_TCRIT 0 0 0).endRequest 2
  | 6 =>
    let d := d.goReady mQuiet 0x0C
    ({ d with gov := { d.gov with quietAsked := true } }).endRequest 2
  | 7 =>
    let d := d.goReady mHold 0x0C
    ({ d with gov := { d.gov with holdAsked := true } }).endRequest 2
  | 8 => ({ d with gov := { d.gov with attempts := 0 } }).sleepStart
  | _ => (d.endRequest 2).enterTest 0x0C

/-- A request pending in this cycle is evaluated (R29): refused where it is no longer allowed.
DEDUCED, log entry 9. DEDUCED, log entry 47. -/
def Dev.evaluate (d : Dev) : Dev :=
  if d.gov.pend = 0 || d.gov.sleep.isSome then d
  else if d.requestOk d.gov.pend then d.grant d.gov.pend
  else d.endRequest 3

/-- The mode transitions of a cycle in rank (R31); a transition of rank 6 or 7 refuses the request, unless the
request is a handshake that has begun (R319). DEDUCED, log entry 9. DEDUCED, log entry 47. -/
def Dev.transitions (d : Dev) : Dev :=
  match d.governorMove with
  | some (m, c) => (if d.gov.sleep.isSome then d else d.refusePending).goReady m c
  | none => d.evaluate

/-- Rooms still to be asked in a handshake attempt. -/
def Dev.askLate (d : Dev) : Dev := if d.gov.sleep.any (fun x => x.next == 1 && !x.waking) then d.askRooms else d

/-- The activity counts of the cycle. -/
def Dev.takeActs (d : Dev) (l : List (Nat × BitVec 16)) : Dev := d.each l (fun d x => d.sf F.GOV_ROOM_ACT x.1 0 x.2.toNat)

/-- The governor has cycles: not in Off and Supply ramp, and in Deep hold once the wake has restored its state (R298,
R321). -/
def Dev.govRuns (d : Dev) : Bool :=
  d.mode != mOff && d.mode != mRamp && (d.mode != mDeep || d.gov.sleep.any (fun x => x.waking && x.next != 20))

/-- GOVERNOR_CYCLE (R298). -/
def Dev.governorCycle (d : Dev) (temps : List (Nat × SensorReading)) (acts : List (Nat × BitVec 16)) : Dev :=
  if !d.govRuns then d
  else
    let d := ((d.takeActs acts).sampleAll temps).measurePower
    let ovr := d.isOver
    let d := (d.judgeHeat).judgeLevel ovr d.isClear
    ((((d.clocksAndVcc ovr).parkAndWake).tickets).transitions).askLate.restartGo

/-- GOVERNOR_CYCLE (R298). DESIGN CHOICE, log entry 8. -/
def execGovernorCycle (dt : Nat) (temps : List (Fin 72 × SensorReading)) (acts : List (Fin 64 × BitVec 16)) (s : State) : Out :=
  .next (s.act (fun d => (d.tick dt).governorCycle (temps.map (fun x => (x.1.val, x.2))) (acts.map (fun x => (x.1.val, x.2)))))

end Sys2Proof.Machine
end

