-- ==== Sys2Proof/Machine/Supplies.lean ====
section
/-! DEFINITION. Supplies, start-up and resets (R30, R370 to R373, R376, R378, R379, R382), the end of Supply
ramp (R342, R371), and the ends of security-monitor work, which may delay it (R345, R347). -/

namespace Sys2Proof.Machine

/-! ### What a restart keeps (Table 17.4) -/

/-- The registers of a device with only those of the kinds `p` kept. DEDUCED, log entry 19. -/
def Dev.keptRegs (d : Dev) (p : RK → Bool) : Map Word :=
  d.regs.filter (fun e => RK.all.any (fun k => p k && k.ctorIdx == e.1 / 16777216))

/-- Registers of the security monitor. -/
def RK.inSec (k : RK) : Bool := k.within 0x20000 0x30000

/-- The security monitor after its reset: its life-cycle copies and what SEC_DBG.FAILS, ERASE_PENDING and the
VBAT domain keep (R368, Table 17.4). DEDUCED, log entry 19. -/
def Dev.secReset (d : Dev) (keepFails keepBat : Bool) : Dev :=
  let fails := d.gf F.SEC_DBG_FAILS
  let tamp := d.gf ⟨.SEC_TAMP, 30, 2⟩
  let pend := d.gf F.SEC_KEYS_ERASE_PENDING
  let vb := d.gf F.SEC_TAMP_VBAT_OK
  let d := { d.dropRegs RK.inSec with sec := { lcCopies := d.sec.lcCopies } }
  let d := (d.sf F.SEC_LCS_STATE 0 0 (lcCode d.sec.lcCopies)).sf F.SEC_TAMP_VBAT_OK 0 0 vb
  let d := if keepFails then d.sf F.SEC_DBG_FAILS 0 0 fails else d
  if keepBat then (d.sf ⟨.SEC_TAMP, 30, 2⟩ 0 0 tamp).sf F.SEC_KEYS_ERASE_PENDING 0 0 pend else d

/-- GBL_RAIL_STAT after a reset: a bank whose STD the reset changes loses its goodness (R370).
DEDUCED, log entry 58. -/
def Dev.railsAfterReset (d : Dev) : Dev :=
  d.each (List.range 18) (fun d b => if d.gf F.IOB_CFG_STD b = 0 then d else d.railDown (10 + b))

/-- Every block is reset (R378, R379): what Table 17.4 keeps over RESET_N stays. A Cellar write is abandoned, DRAM
contents are undefined, training results stay, and so do the words in the SPI write buffer (Table 18.7). The security
monitor goes on while it works (R347). DEDUCED, log entry 19. -/
def Dev.resetBlocks (d : Dev) : Dev :=
  let d := (match d.cfg.cw with
    | some w => d.interruptCw w
    | none => d).railsAfterReset
  let held := d.secWorking
  let u := d.free
  let d' : Dev := {
    regs := d.keptRegs (fun k => k == .GBL_MODE || k == .GBL_RESET || k == .GBL_RAIL_STAT || k.inSec)
    pin := { d.pin with rfxRun := [], safeOld := [] }, sec := d.sec, free := u + 4, hat := { buffer := d.hat.buffer }
    cfg := { cellar := d.cfg.cellar, undef := d.cfg.undef, cycles := d.cfg.cycles, journal := d.cfg.journal }
    lar := { spares := d.lar.spares }
    drams := [] }
  let d' := d'.each (List.range 4) (fun x n => x.onDram n (fun y => { y with
    epoch := u + 1 + n, trained := (d.dram n).trained }))
  if held then { d' with sec := { d'.sec with resetHeld := true } } else d'.secReset true true

/-- An internal reset holds: the rail that GBL_RESET records has not come back (R372). -/
def Dev.internalHolds (d : Dev) : Bool :=
  d.mode == mRamp && d.gf F.GBL_RESET_CAUSE == 2 && !d.railGood (d.gf F.GBL_RESET_RAIL)

/-- RESET_N (1) or an internal reset (2) (R30, R372, R382): into Supply ramp with CAUSE 0x02, unless already there.
One that begins while the other holds is the same restart, and GBL_RESET shows the internal one (Table 17.5). DEDUCED,
log entry 19. -/
def Dev.restartBy (d : Dev) (cause rail : Nat) : Dev :=
  if d.mode == mOff then d
  else
    let holds := d.internalHolds || (cause == 2 && !d.pin.resetN)
    let d := if d.mode == mRamp then d else d.refusePending.putMode mRamp 0x02
    let d := if d.internalHolds && cause == 1 then d
      else (d.sf F.GBL_RESET_CAUSE 0 0 cause).sf F.GBL_RESET_RAIL 0 0 rail
    (d.when (!holds) (fun d => d.cntWrap F.GBL_RESET_COUNT 0 0)).resetBlocks

/-! ### The end of Supply ramp (R342, R371, Table 1.6) -/

/-- Rails 0, 1, 2, 3, 5 and 6 are good and RESET_N is high. -/
def Dev.rampDone (d : Dev) : Bool := [0, 1, 2, 3, 5, 6].all d.railGood && d.pin.resetN

/-- An Invalid life-cycle word (R342, R361): V6, ALARM 0x16, Dormant. -/
def Dev.lcInvalid (d : Dev) : Dev :=
  let c := (d.sec.lcCopies.getD 0 0).toNat
  ((d.recordViol 6 3 c).raise 0x16 .alarm c).enterDormant 0x0A

/-- A break that the VBAT domain has seen raises V3 at this start (R364). DEDUCED, log entry 58. -/
def Dev.batRaise (d : Dev) : Dev :=
  if d.gb F.SEC_TAMP_BAT_SEEN then
    let f := d.takeFree
    f.2.violate [(3, f.1.toNat % 2)]
  else d

/-- START (R371): the life-cycle block is read and the mode follows. -/
def Dev.start (d : Dev) : Dev :=
  let lc := lcCode d.sec.lcCopies
  let d := (d.sf F.SEC_LCS_STATE 0 0 lc).setLevel 0
  if lc = 0 then d.lcInvalid.batRaise.startErase
  else if lc = 1 then ((d.putMode mTest 0x0B).batRaise).startErase
  else
    let d := (d.putMode mLoad 0x03).batRaise
    if d.mode == mLoad then d.settingsStart else d.startErase

/-- Supply ramp is left once its conditions hold and no security work delays it (R347, R371).
DEDUCED, log entry 58. -/
def Dev.tryStart (d : Dev) : Dev :=
  if d.mode == mRamp && d.rampDone && !d.sec.resetHeld then d.start else d

/-! ### Rails (R370, R372, R373) -/

/-- RAIL_GOOD (R370): a bank's VCCIO within its window agrees with the STD (R405); an erase that waits for VPP_CEL starts
with rail 4 (R363). -/
def Dev.railIn (d : Dev) (r : Nat) : Dev :=
  let d := d.when (decide (10 ≤ r)) (fun d => (d.setVccio (r - 10) true).sf F.IOB_STAT_MISMATCH (r - 10) 0 0)
  if !d.on then d
  else
    let d := d.sf F.GBL_RAIL_STAT_GOOD 0 0 (d.gf F.GBL_RAIL_STAT_GOOD ||| 2 ^ r)
    (if r = 4 && d.mode != mRamp then d.startErase else d).tryStart

/-- RAIL_GOOD (R370). -/
def execRailGood (r : Nat) (s : State) : Out := .next (s.act (fun d => d.railIn r))

/-- The block that a rail supplies is in use (R373). DEDUCED, log entry 58. -/
def Dev.railUsed (d : Dev) (r : Nat) : Bool :=
  if r ≤ 3 || r = 6 then true
  else if r = 7 then (List.range 4).any (fun n => d.dramState n != drOff && d.dramState n != drUntrained)
  else if r = 8 then (List.range 64).any (fun s => d.gb F.STG_CFG_EN s)
  else if r = 9 then d.gb F.HBT_CFG_EN || (List.range 4).any (fun u => d.gb F.EVT_ANG_CFG_EN u) ||
    (List.range 8).any (fun n => d.gb F.PLL_OUT_EN n 0)
  else if 10 ≤ r then d.gf F.IOB_CFG_STD (r - 10) != 0
  else false

/-- RAIL_LEAVES_WINDOW (R373): not good any more; VPP_CEL ends a Cellar write, other rails in use raise V0. A bank's VCCIO
that leaves its window with no mismatch has fallen to 0.6 V or below (R405).
DEDUCED, log entry 58. -/
def Dev.railOut (d : Dev) (r : Nat) : Dev :=
  let d := d.when (decide (10 ≤ r) && !d.gb F.IOB_STAT_MISMATCH (r - 10)) (fun d => d.setVccio (r - 10) false)
  if !d.railGood r then d
  else
    let d := (d.railDown r).sf F.GBL_RAIL_SEEN_LEFT 0 0 (d.gf F.GBL_RAIL_SEEN_LEFT ||| 2 ^ r)
    let d := if r = 4 then d.abandonCw else d
    if d.railUsed r then d.violate [(0, r)] else d

/-- RAIL_LEAVES_WINDOW (R373). -/
def execRailLeavesWindow (r : Nat) (s : State) : Out := .next (s.act (fun d => d.railOut r))

/-- The neighbour channels at their reset state, before every room is reset. -/
def State.clearChannels (s : State) : State := { s with nch := [] }

/-- INTERNAL_RESET (R372): rails 0, 1, 2, 3 and 6; the rail is not good until it has come back. -/
def execInternalReset (r : Nat) (s : State) : Out :=
  if [0, 1, 2, 3, 6].contains r && s.dev.on then
    .next (s.clearChannels.act (fun d => (d.railDown r).restartBy 2 r))
  else .next s

/-! ### READY, RESET_N, HOLD_N (R375, R376) -/

/-- The READY pin (R27, R376): nothing until VCC_AUX is good, then its level. -/
def Dev.readyOut (d : Dev) : Option Bool :=
  if !d.on || (d.mode == mRamp && !d.railGood 2) then none else some d.readyPin


/-- RESET_N_LOW (R376, R379). -/
def execResetNLow (s : State) : Out :=
  if s.dev.pin.resetN then
    .next (s.clearChannels.act (fun d => ({ d with pin := { d.pin with resetN := false } }).restartBy 1 0))
  else .next s

/-- RESET_N_RISE (R371). -/
def execResetNRise (s : State) : Out :=
  .next (s.act (fun d => ({ d with pin := { d.pin with resetN := true } }).tryStart))

/-- HOLD_N_CHANGE (R376): the level acts in the next governor cycle; a rising edge in Deep hold wakes the
device (R321). -/
def Dev.holdNSet (d : Dev) (level : Bool) : Dev :=
  let rise := level && !d.pin.holdN
  let d := { d with pin := { d.pin with holdN := level } }
  if rise && d.mode == mDeep then d.deepWake else d

/-- HOLD_N_CHANGE (R376). DEDUCED, log entry 50. -/
def execHoldNChange (level : Bool) (s : State) : Out := .next (s.act (fun d => d.holdNSet level))

/-! ### Power (R30, R345, R372) -/

/-- Loss of power during work of the security monitor (R345, R349, R363): the copy of the sector being written
is undefined; an erase has zeroed the first pages, but for a free choice where VBAT is absent too; a transition ends as
Table 16.5 says. DEDUCED, log entry 24. -/
def Dev.powerCutSec (d : Dev) : Dev :=
  let unused := 0x20000 + 0x10000 * (if d.gf F.SEC_KEYS_COPY == 1 then 1 else 0)
  let d := if d.sec.upd.isSome then d.cellarSpoil unused 0x10000 else d
  let d := if d.sec.erasing && (d.pin.bat || d.takeFree.1.getLsbD 0) then
      let d := (d.takeFree.2.cellarStore 0x20000 (List.replicate 256 0)).cellarStore 0x30000 (List.replicate 256 0)
      (d.cellarSpoil 0x20100 0xFF00).cellarSpoil 0x30100 0xFF00
    else d
  match d.sec.lc with
  | none => d
  | some w =>
    if w.phase = 1 then d
    else if w.phase = 2 then
      (if w.target = 8 then d.cellarErase 0x20000 0x20000 else d.cellarSpoil unused 0x10000)
    else
      let f := d.takeFree
      let k := if w.phase = 3 then 0 else f.1.toNat % 9
      { f.2 with sec := { f.2.sec with
        lcCopies := List.replicate k (lcByte w.target.toNat) ++ List.replicate (8 - k) 0xFF } }

/-- The device without VCC_AO (Table 17.4): the Cellar, the life-cycle block, what VBAT holds if it held, and
the levels of pins. DESIGN CHOICE, log entry 57. -/
def Dev.unpowered (d : Dev) (bat : Bool) : Dev :=
  let u := d.free
  let d' : Dev := {
    regs := d.keptRegs RK.inSec, pin := { d.pin with rfxRun := [], safeOld := [] }, sec := { lcCopies := d.sec.lcCopies }, free := u + 4
    cfg := { cellar := d.cfg.cellar, undef := d.cfg.undef, cycles := d.cfg.cycles, journal := d.cfg.journal } }
  let d' := d'.each (List.range 4) (fun x n => x.onDram n (fun y => { y with epoch := u + 1 + n }))
  (d'.secReset false bat).setReg .GBL_MODE 0 0 0

/-- What a loss of VCC_AO leaves (R345, R349, R363): writes in work are cut. DESIGN CHOICE, log entry 57. -/
def Dev.powerOff (d : Dev) : Dev :=
  let d := (match d.cfg.cw with
    | some w => d.interruptCw w
    | none => d).powerCutSec
  d.unpowered d.pin.bat

/-- VCC_AO_LOSS (R372): the device goes to Off. -/
def execVccAoLoss (s : State) : Out :=
  if s.dev.on then .next (s.clearChannels.act Dev.powerOff) else .next s

/-- Power-up from Off: GBL_MODE takes its reset value, and the supply of the VBAT pin is judged.
DESIGN CHOICE, log entry 57. -/
def Dev.powerUp (d : Dev) : Dev :=
  if d.on then d
  else
    let ok := Config.vbatOk d.free
    let d := { d with free := d.free + 1, pin := { d.pin with bat := ok } }.unpowered d.pin.bat
    (d.setReg .GBL_MODE 0 0 0x101).sf F.SEC_TAMP_VBAT_OK 0 0 (b2n ok)

/-- VCC_AO_GOOD (R30): from Off into Supply ramp with CAUSE 0x01. DESIGN CHOICE, log entry 57. -/
def execVccAoGood (s : State) : Out := .next (s.act Dev.powerUp)

/-! ### The ends of security work (R347) -/

/-- Work of the security monitor that delayed its reset has ended: it is reset and Supply ramp may be left. -/
def Dev.secSettle (d : Dev) : Dev :=
  if d.sec.resetHeld && !d.secWorking then (d.secReset true true).tryStart else d

/-- LC_PHASE_DONE (R344, R347). -/
def execLcPhaseDone (readbackOk : Bool) (s : State) : Out := .next (s.act (fun d => (d.lcPhaseDone readbackOk).secSettle))

/-- SECTOR_UPDATE_DONE (R349, R347). -/
def execSectorUpdateDone (s : State) : Out := .next (s.act (fun d => d.sectorUpdateDone.secSettle))

/-- ERASE_DONE (R363, R347). -/
def execEraseDone (s : State) : Out := .next (s.act (fun d => if d.sec.erasing then d.finishErase.secSettle else d))

end Sys2Proof.Machine
end

