-- ==== Sys2Proof/Machine/Monitor.lean ====
section
/-! DEFINITION. Commands of the security monitor (R343, R352 to R368), of the banks (R405) and of the error unit
(R397 to R399), as they act by themselves, beside the Hatch access that carries them. -/

namespace Sys2Proof.Machine

/-- A command to a unit that has power. DESIGN CHOICE, log entry 56. -/
def State.actOn (s : State) (f : Dev → Dev) : State := s.act (fun d => d.when d.on f)

/-! ### Security monitor -/

/-- LC_TRANSITION_REQUEST (R343). -/
def execLcTransitionRequest (target : BitVec 4) (s : State) : Out := .next (s.actOn (fun d => d.lcRequest target.toNat))

/-- LOAD_OIK (R352). -/
def execLoadOik (slot : BitVec 4) (s : State) : Out := .next (s.actOn (fun d => d.loadOik slot.toNat))

/-- LOAD_DBG (R352). -/
def execLoadDbg (s : State) : Out := .next (s.actOn Dev.loadDbg)

/-- LOAD_IMG (R352). -/
def execLoadImg (s : State) : Out := .next (s.actOn Dev.loadImg)

/-- OWNER (R356). -/
def execOwner (s : State) : Out := .next (s.actOn Dev.ownerCmd)

/-- CHALLENGE (R358). -/
def execChallenge (level : BitVec 4) (s : State) : Out := .next (s.actOn (fun d => d.challenge level.toNat))

/-- RESPOND (R358). -/
def execRespond (s : State) : Out := .next (s.actOn Dev.respondCmd)

/-- RELEASE (R359). -/
def execRelease (s : State) : Out := .next (s.actOn Dev.releaseCmd)

/-- ATTEST (R366). -/
def execAttest (s : State) : Out := .next (s.actOn Dev.attestCmd)

/-- SEC_CMD_DONE (R358, R366); work that delayed a reset may end with it (R347). -/
def execSecCmdDone (s : State) : Out := .next (s.actOn (fun d => d.secCmdDone.secSettle))

/-- NONCE_EXPIRY (R358): 10 s after the draw. -/
def execNonceExpiry (s : State) : Out := .next (s.actOn (fun d => if d.sec.nonce.isSome then d.endNonce else d))

/-- MESH_CHECK (R361). -/
def execMeshCheck (m : Mesh) (s : State) : Out := .next (s.actOn (fun d => d.meshCheck m))

/-- VBAT_MESH_CHECK (R364): without VCC_AO. -/
def execVbatMeshCheck (broken : Bool) (s : State) : Out := .next (s.act (fun d => d.vbatMeshCheck broken))

/-- CLOCK_GLITCH (R361). -/
def execClockGlitch (island : Nat) (s : State) : Out := .next (s.actOn (fun d => d.clockGlitch island))

/-- DEEP_HOLD_SENSOR_CHECK (R361). -/
def execDeepHoldSensorCheck (temp : Int) (s : State) : Out := .next (s.actOn (fun d => d.deepSensor temp))

/-- ENTROPY_HEALTH_TEST_FAIL (R368). -/
def execEntropyHealthTestFail (s : State) : Out := .next (s.actOn Dev.entropyFail)

/-! ### Banks -/

/-- IOB_STD_WRITE (R405): the whole of IOB_Bnn_CFG, as the Hatch or a settings record writes it.
DESIGN CHOICE, log entry 56. -/
def execIobStdWrite (b : Nat) (v : Word) (s : State) : Out := .next (s.actOn (fun d => (d.iobCfgWrite b v).1))

/-- VCCIO of a bank, above 0.6 V, lies outside or inside the window of its standard (R405, FAULT 0x69). -/
def Dev.vccioMismatch (d : Dev) (b : Nat) (out : Bool) : Dev :=
  let d := d.setVccio b true
  if d.gf F.IOB_CFG_STD b = 0 then d
  else
    let was := d.gb F.IOB_STAT_MISMATCH b
    let d := (d.sf F.IOB_STAT_MISMATCH b 0 (b2n out)).when out (fun d => d.bankLeaves b)
    if out && !was then d.fault 0x69 b else d

/-- VCCIO_MISMATCH (R405). -/
def execVccioMismatch (b : Nat) (out : Bool) (s : State) : Out := .next (s.actOn (fun d => d.vccioMismatch b out))

/-! ### Error unit -/

/-- ERR_RECORD_ARRIVE (R397): a record of any source, stamped on arrival. DESIGN CHOICE, log entry 3. -/
def execErrRecordArrive (src : BitVec 7) (sev : Severity) (detail : Word) (s : State) : Out :=
  .next (s.actOn (fun d => d.arrive { src := src, sev := sev, detail := detail, time := d.ev.time }))

/-- ERR_ACK (R398). -/
def execErrAck (s : State) : Out := .next (s.actOn Dev.errAck)

/-- ERR_ALARM_CLEAR (R399). -/
def execErrAlarmClear (s : State) : Out := .next (s.actOn Dev.errAlarmClear)

/-- A read of ERR_NOTICE word 0 latches words 1 to 3 (R398). DEDUCED, log entry 72. -/
def Dev.noticeLatch (d : Dev) : Dev :=
  let r := d.err.notice
  ((d.setReg .ERR_NOTICE_TIME_LO 0 0 (r.time.setWidth 32)).setReg .ERR_NOTICE_TIME_HI 0 0
    ((r.time >>> 32).setWidth 32)).setReg .ERR_NOTICE_DETAIL 0 0 r.detail

/-- ERR_NOTICE_READ (R398). -/
def execErrNoticeRead (s : State) : Out := .next (s.actOn Dev.noticeLatch)

end Sys2Proof.Machine
end

