-- ==== Sys2Proof/Machine/Hatch.lean ====
section
/-! DEFINITION. The Hatch: reads and writes of every address (R8, R391 to R395), the SPI commands (R385 to R387)
and the TAP (R389, R390). Without VCC_AO nothing is performed. -/

namespace Sys2Proof.Machine

/-! ### Registers as they read -/

/-- The word of a register before masking: the stored word, or what the unit shows at the moment. -/
def Dev.regView (d : Dev) (k : RK) (i j : Nat) : Word :=
  match k with
  | .EVT_TIME_LO => d.timeLoRead.2
  | .EVT_TIME_HI => d.ev.timeHi
  | .EVT_ANG_ANGLE => (d.angRead i).2
  | .EVT_ANG_STAT => d.angStat i
  | .EVT_ANG_IVL => d.angIvl i
  | .EVT_QSUM => BitVec.ofNat 32 d.qSum
  | .EVT_FEED_STAT => putBits (d.reg k i j) 0 20 (d.chargeAt i d.now)
  | .EVT_FEED_MEAS => putBits (d.reg k i j) 0 16 (d.ofsFor i d.stepNow)
  | .ROOM_NCH_STAT => putBits (d.reg k i j) 16 4 (d.peerUp i)
  | .ROOM_COR_STAT => d.corStat i
  | .ARB_STAT => d.arbStat i
  | .ARB_REQ_STAT => d.arbReqStat i j
  | .CLK_ISL_STAT => d.islandStat i
  | .DRC_RESYNC =>
    putBits (d.reg k i j) 0 23 (if d.dramState i == drResync then (Config.resyncProgress d.free i).toNat else 0)
  | .PLL_DIV => if d.gb F.PLL_RAMP_CTRL_RUN i then putBits (d.reg k i j) 16 9 (d.rampNow i / 2 ^ 24) else d.reg k i j
  | .PLL_FRAC => if d.gb F.PLL_RAMP_CTRL_RUN i then putBits (d.reg k i j) 0 24 (d.rampNow i) else d.reg k i j
  | .CFG_STATUS => putBits (d.reg k i j) 30 1 (b2n d.vppGood)
  | .IOB_STAT => putBits (d.reg k i j) 31 1 (b2n (d.railGood (10 + i)))
  | .ERR_STAT => putBits (d.reg k i j) 26 2 (2 * b2n d.faultPin + b2n d.alarmPin)
  | k => d.reg k i j

/-- The bits of a register that read as they are (Table 0.3): all but WO and RSV. -/
def RegDesc.readable (x : RegDesc) : Word := BitVec.ofNat 32 (x.rw ||| x.ro ||| x.w1c ||| x.w1s ||| x.rc)

/-- What a read does beside answering: RC fields become 0, and the latches of R209, R217, R276 and R398. -/
def Dev.readEffect (d : Dev) (k : RK) (i j : Nat) : Dev :=
  match k with
  | .EVT_TIME_LO => d.timeLoRead.1
  | .EVT_ANG_ANGLE => (d.angRead i).1
  | .STG_BFLT => d.bfltRead i
  | .ERR_NOTICE => d.noticeLatch
  | .DRC_RESYNC => d.when (d.dramState i == drResync) (fun d => d.takeFree.2)
  | .PLL_DIV => d.when (d.gb F.PLL_RAMP_CTRL_RUN i) (fun d => d.takeFree.2)
  | .PLL_FRAC => d.when (d.gb F.PLL_RAMP_CTRL_RUN i) (fun d => d.takeFree.2)
  | k => if k.desc.rc = 0 then d else d.setReg k i j (d.reg k i j &&& ~~~(BitVec.ofNat 32 k.desc.rc))

/-- A Hatch read of a register (R10, R394): device, status byte, word. -/
def Dev.regRead (d : Dev) (a : Nat) (k : RK) (i j : Nat) : Dev × Nat × Word :=
  if d.asleep k i then (d.asleepAccess a, hAsleep, asleepWord)
  else (d.readEffect k i j, hOk, d.regView k i j &&& k.desc.readable)

/-- EVT_TIME_LO_READ (R209). -/
def execEvtTimeLoRead (s : State) : Out :=
  .next (s.actOn (fun d => let r := d.regRead 0x90000 .EVT_TIME_LO 0 0; r.1.hatDone r.2.1 r.2.2))

/-- ANGLE_READ (R217). -/
def execAngleRead (u : Nat) (s : State) : Out :=
  .next (s.actOn (fun d => let r := d.regRead (angAddr u + 0x10) .EVT_ANG_ANGLE u 0; r.1.hatDone r.2.1 r.2.2))

/-! ### Readback (R395) -/

/-- Bits [32 w + 31 : 32 w] of a payload. -/
def payloadWord (p : BitVec 2048) (w : Nat) : Word := (p >>> (32 * w)).setWidth 32

/-- A block RAM content frame as stored (R94). DEDUCED, log entry 55. -/
def Dev.bramFrame (d : Dev) (n idx : Nat) : BitVec 2048 :=
  let x := d.bramOf n (idx / 18)
  let f := idx % 18
  if f < 16 then (x.d >>> (2048 * f)).setWidth 2048 else (x.p >>> (2048 * (f - 16))).setWidth 2048

/-- Frames of each kind that readback shows. -/
def readbackFrames (kind : Nat) : Nat := if kind = 1 then 720 else if kind = 2 then 1 else 2304

/-- An access below level 1 (R357). DEDUCED, log entry 55. -/
def Dev.readbackDenied (d : Dev) (a : Nat) : Dev := d.notice 0x18 a

/-- A read of the readback window: device, status byte, word. DEDUCED, log entry 55. -/
def Dev.readback (d : Dev) (a : Nat) : Dev × Nat × Word :=
  let off := a - 0x80000000
  let fa := off / 256 * 0x1000
  let w := off % 256 / 4
  let n := frameRoom fa
  let idx := frameIndex fa
  let kind := frameKind fa
  if d.gf F.SEC_DBG_LEVEL = 0 then (d.readbackDenied a, hDenied, 0)
  else if readbackFrames kind ≤ idx then (d.noReg a, hNoReg, 0)
  else if kind = 0 then
    (d, hOk, payloadWord ((d.room n).liveFrame idx) w)
  else if kind = 1 then
    if d.parkedOrOff n then (d.asleepAccess a, hAsleep, asleepWord)
    else (d, hOk, payloadWord (d.bramFrame n idx) w)
  else if kind = 2 then (d, hOk, 0)
  else (d, hOk, payloadWord (Map.get (fun _ => 0) (d.room n).shd.frames idx) w)

/-- READBACK_READ (R395). -/
def execReadbackRead (a : Word) (s : State) : Out :=
  .next (s.actOn (fun d =>
    if a.toNat % 4 = 0 && 0x80000000 ≤ a.toNat && a.toNat < 0x90000000 then
      let r := d.readback a.toNat
      r.1.hatDone r.2.1 r.2.2
    else d))

/-! ### Any address -/

/-- A Hatch read (R391, R392): device, status byte, word. -/
def Dev.hatchRead (d : Dev) (a : Nat) : Dev × Nat × Word :=
  if a % 4 ≠ 0 then (d.noReg a, hNoReg, 0)
  else if (larWindow a).isSome then d.larHatchReadOp a 0
  else if (dramWindow a).isSome then d.dramHatchReadOp a 0
  else if 0x80000000 ≤ a && a < 0x90000000 then d.readback a
  else match RK.find a with
    | some (k, i, j) => d.regRead a k i j
    | none => if rsvWord a then (d, hOk, 0) else (d.noReg a, hNoReg, 0)

/-- A write of GBL_MODE (R29): REQ 0 asks for nothing. DEDUCED, log entry 59. -/
def Dev.modeWrite (d : Dev) (v : Word) : Dev := if bits v 16 4 = 0 then d else d.request (bits v 16 4)

/-- A write of GBL_REAPPLY (R380). DEDUCED, log entry 44. -/
def Dev.reapplyWrite (d : Dev) (v : Word) : Dev :=
  if bits v 24 8 = 0xC5 then
    d.reapplyStart ([Section.clock, Section.io, Section.control, Section.dram, Section.engine, Section.room].filter
      (fun x => v.getLsbD x.ctorIdx))
  else d.noticeFree 0x09

/-- A Hatch write of a register: device and status byte. Only SEC_POL can be DENIED (R357). -/
def Dev.hatchRegWrite (d : Dev) (a : Nat) (k : RK) (i j : Nat) (v : Word) : Dev × Nat :=
  if d.asleep k i then (d.asleepAccess a, hAsleep)
  else if k == .GBL_MODE then (d.modeWrite v, hOk)
  else if k == .GBL_REAPPLY then (d.reapplyWrite v, hOk)
  else
    let lvl2 := decide (2 ≤ d.gf F.SEC_DBG_LEVEL)
    let denied := k == .SEC_POL && !lvl2 && !(d.polLowered v).isEmpty
    ((d.regWrite k i j v lvl2).1, if denied then hDenied else hOk)

/-- A Hatch write (R391, R392): device and status byte. -/
def Dev.hatchWrite (d : Dev) (a : Nat) (v : Word) : Dev × Nat :=
  if a % 4 ≠ 0 then (d.noReg a, hNoReg)
  else match larWindow a with
  | some win => d.larHatchWriteOp a 0 (winValue win v)
  | none =>
    if (dramWindow a).isSome then d.dramHatchWriteOp a v 0
    else if 0x80000000 ≤ a && a < 0x90000000 then
      if d.gf F.SEC_DBG_LEVEL = 0 then (d.readbackDenied a, hDenied) else (d.noReg a, hNoReg)
    else match RK.find a with
      | some (k, i, j) => d.hatchRegWrite a k i j v
      | none => if rsvWord a then (d, hOk) else (d.noReg a, hNoReg)

/-- A read with what follows it in other units. -/
def State.hatchRead (s : State) (a : Nat) : State × Nat × Word :=
  let r := s.dev.hatchRead a
  (s.act (fun _ => r.1), r.2)

/-- A write with what follows it in other units. -/
def State.hatchWrite (s : State) (a : Nat) (v : Word) : State × Nat :=
  let r := s.dev.hatchWrite a v
  (s.act (fun _ => r.1), r.2)

/-- REGISTER_WRITE (R11). DESIGN CHOICE, log entry 56. -/
def execRegisterWrite (a v : Word) (s : State) : Out :=
  .next (if s.dev.on then let r := s.hatchWrite a.toNat v; r.1.onDev (fun d => d.hatDone r.2 0) else s)

/-! ### SPI (R385 to R387) -/

/-- An access over a port ends (R401): 0 SPI, 1 TAP. -/
def State.hatEnd (s : State) (port status : Nat) (w : Word) : State :=
  s.onDev (fun d => (d.hatDone status w).sf F.HAT_STAT_PORT 0 0 port)

/-- CS_N falls: QUAD takes effect (R385). -/
def State.spiBegin (s : State) : State :=
  s.onDev (fun d => { d with hat := { d.hat with quad := d.gb F.HAT_CFG_QUAD } })

/-- Registers of blocks in islands 102 and 104 are always ready (R386): all but the governor's (R324), the event engine's
beside EVT_TIME_CFG (R222, R236), the banks', of which no rule names the island, and a room's keep registers (R101).
DEDUCED, log entry 52. -/
def alwaysReady (a : Nat) : Bool :=
  match RK.find a with
  | none => false
  | some (k, _, _) =>
    k == .EVT_TIME_CFG || !(k == .KEEP || k.within 0x40000 0x50000 || k.within 0x90000 0xA0000 || k.within 0xD0000 0xE0000 ||
      k.within 0x100000 0x140000)

/-- One read over SPI (R386): performed, and answered BUSY when its data are not ready in time.
DEDUCED, log entry 52. -/
def State.spiRead (s : State) (a : Nat) (ready : Bool) : State × Nat × Word :=
  let r := s.hatchRead a
  let late := !ready && !alwaysReady a && (r.2.1 == hOk || r.2.1 == hOkEcc)
  let st := if late then hBusy else r.2.1
  let w := if late then 0 else r.2.2
  (r.1.hatEnd 0 st w, st, w)

/-- The status that a word performed leaves with the last write command (R387). -/
def Hatch.noteWrite (h : Hatch) (st : Nat) (a : Word) : Hatch :=
  if h.writeStatus = hOk && st != hOk then { h with writeStatus := st, writeFail := a } else h

/-- A write command begins: what its words do is noted anew. -/
def Hatch.beginWrite (h : Hatch) : Hatch :=
  { h with writeStatus := hOk, writeFail := 0xFFFFFFFF, dropped := none, buffer := h.buffer.map (fun x => { x with last := false }) }

/-- The `k` oldest words of the write buffer are performed (R387). DEDUCED, log entry 53. -/
def State.drain : Nat → State → State
  | 0, s => s
  | k + 1, s =>
    match s.dev.hat.buffer with
    | [] => s
    | x :: l =>
      let r := (s.onDev (fun d => { d with hat := { d.hat with buffer := l } })).hatchWrite x.addr.toNat x.val
      let s := r.1.hatEnd 0 r.2 0
      State.drain k (s.onDev (fun d => if x.last then { d with hat := d.hat.noteWrite r.2 x.addr } else d))

/-- Every word of the write buffer is performed: an access is performed after every earlier write (R384, R387). -/
def State.flush (s : State) : State := s.drain s.dev.hat.buffer.length

/-- The words of a write command reach the buffer from `a` on. `ks` says how many words are performed before each of them
and after the last, all where it does not say. A word that finds 8 in the buffer is discarded with the rest (R387).
DEDUCED, log entry 53. -/
def State.bufferWords (s : State) (a : Word) : List Word → List Nat → State
  | [], ks => s.drain (ks.headD 8)
  | v :: l, ks =>
    let s := s.drain (ks.headD 8)
    if 8 ≤ s.dev.hat.buffer.length then
      (s.hatEnd 0 hBusy 0).onDev (fun d => { d with hat := { d.hat with dropped := some a } })
    else
      (s.onDev (fun d => { d with hat := { d.hat with buffer := d.hat.buffer ++ [{ addr := a, val := v, last := true }] } })).bufferWords
        (a + 4) l ks.tail

/-- What Status answers (R387): BUSY while words of the last write command wait, the first failing word, or OK. A word
that found the buffer full comes after the words performed. -/
def Hatch.statusNow (h : Hatch) : Nat × Word :=
  if h.buffer.any BufWord.last then (hBusy, 0xFFFFFFFF)
  else if h.writeStatus ≠ hOk then (h.writeStatus, h.writeFail)
  else match h.dropped with
    | some a => (hBusy, a)
    | none => (hOk, 0xFFFFFFFF)

/-- SPI_READ_WORD (R386). -/
def execSpiReadWord (a : Word) (ready : Bool) (s : State) : Out :=
  .next (if s.dev.on then (s.spiBegin.flush.spiRead a.toNat ready).1 else s)

/-- The next address of a burst read. -/
def burstNext (a st : Nat) : Nat := if st = hBusy then a else (a + 4) % 2 ^ 32

/-- The slots of a burst read from `a` on, with what they answer, and the read beyond the last one (R386).
DEDUCED, log entry 52. -/
def State.spiBurst (s : State) (a : Nat) : List Bool → State × List (Nat × Word)
  | [] => ((s.spiRead a true).1, [])
  | r :: l =>
    let x := s.spiRead a r
    let y := x.1.spiBurst (burstNext a x.2.1) l
    (y.1, x.2 :: y.2)

/-- SPI_BURST_READ (R386). -/
def execSpiBurstRead (a : Word) (ready : List Bool) (s : State) : Out :=
  .next (if s.dev.on then
    let r := s.spiBegin.flush.spiBurst a.toNat ready
    r.1.onDev (fun d => { d with hat := { d.hat with out := r.2 } })
  else s)

/-- A write command of the SPI port (R387). DEDUCED, log entry 53. -/
def State.spiWrite (s : State) (a : Word) (vs : List Word) (ks : List Nat) : State :=
  (s.spiBegin.onDev (fun d => { d with hat := d.hat.beginWrite })).bufferWords a vs ks

/-- SPI_WRITE_WORD (R387): the word is performed at once, with the words before it, or waits in the buffer. -/
def execSpiWriteWord (a : Word) (v : SpiWord) (s : State) : Out :=
  .next (if s.dev.on then s.spiWrite a [v.val] (if v.done then [] else [0, 0]) else s)

/-- SPI_BURST_WRITE (R387). -/
def execSpiBurstWrite (a : Word) (vs : List Word) (drains : List Nat) (s : State) : Out :=
  .next (if s.dev.on then s.spiWrite a vs drains else s)

/-- SPI_STATUS (R387). DEDUCED, log entry 53. -/
def execSpiStatus (s : State) : Out :=
  .next (if s.dev.on then
    s.spiBegin.onDev (fun d => { d with hat := { d.hat with out := [d.hat.statusNow] } })
  else s)

/-- SPI_UNKNOWN_COMMAND (R385). DEDUCED, log entry 53. -/
def execSpiUnknownCommand (code : BitVec 8) (s : State) : Out :=
  .next (if s.dev.on && !(0xA1 ≤ code.toNat && code.toNat ≤ 0xA5) then
    s.spiBegin.onDev (fun d => (d.cnt F.HAT_CNT_PROTO 0 0).notice 0x75 code.toNat)
  else s)

/-! ### TAP (R389, R390) -/

/-- The level an instruction needs (Table 18.3). -/
def tapLevel (code : BitVec 8) : Nat := if code = 0x00 then 2 else if code = 0x02 then 1 else 0

/-- The data register that a code selects: every code without a row of Table 18.3 is BYPASS. -/
def tapRow (code : BitVec 8) : BitVec 8 := if code = 0x00 || code = 0x01 || code = 0x02 || code = 0x20 then code else 0xFF

/-- An instruction is loaded (R389): one that needs a higher level acts as BYPASS. DEDUCED, log entry 54. -/
def Dev.tapSelect (d : Dev) (code : BitVec 8) : Dev :=
  let denied := decide (d.gf F.SEC_DBG_LEVEL < tapLevel code)
  let sel := if denied then 0xFF else tapRow code
  let d := { d with hat := { d.hat with ir := code, drSel := sel, bypass := if sel = 0xFF then false else d.hat.bypass } }
  if denied then d.noticeFree 0x18 else d

/-- TAP_EXTEST (R389). -/
def execTapExtest (s : State) : Out := .next (s.actOn (fun d => d.tapSelect 0x00))

/-- TAP_IDCODE (R389). -/
def execTapIdcode (s : State) : Out := .next (s.actOn (fun d => d.tapSelect 0x01))

/-- TAP_SAMPLE_PRELOAD (R389). -/
def execTapSamplePreload (s : State) : Out := .next (s.actOn (fun d => d.tapSelect 0x02))

/-- TAP_HATCH (R389). DEDUCED, log entry 54. -/
def execTapHatch (s : State) : Out := .next (s.actOn (fun d => d.tapSelect 0x20))

/-- TAP_BYPASS (R389). -/
def execTapBypass (code : BitVec 8) (s : State) : Out := .next (s.actOn (fun d => d.tapSelect code))

/-- What Capture-IR loads into the instruction register (R389). -/
def captureIr : BitVec 8 := 0x01

/-- What Capture-DR loads into the data register selected, its bits and its value, bit 0 nearest TDO (Table 18.3,
R390); none for the boundary scan, which the BSDL description gives. A capture before the access has ended reads BUSY
with data 0 (Table 18.5). DEDUCED, log entry 54. -/
def Hatch.captured (h : Hatch) (ended : Bool) : Option (Nat × BitVec 72) :=
  if h.drSel = 0x01 then some (32, h.idcode.setWidth 72)
  else if h.drSel = 0x20 then
    some (72, if ended then h.dr else (0 : Word) ++ h.dr.extractLsb' 8 32 ++ BitVec.ofNat 8 hBusy)
  else if h.drSel = 0xFF then some (1, 0)
  else none

/-- The HATCH register is loaded at the next Capture-DR: status, address, data (R390).
DEDUCED, log entry 54. -/
def State.capture (s : State) (st : Nat) (a w : Word) : State :=
  s.onDev (fun d => { d with hat := { d.hat with dr := w ++ a ++ BitVec.ofNat 8 st } })

/-- Update-DR of the HATCH register (R390). DEDUCED, log entry 54. -/
def State.hatchDr (s : State) (dr : BitVec 72) : State :=
  let cmd := dr.extractLsb' 0 8
  let a : Word := dr.extractLsb' 8 32
  let v : Word := dr.extractLsb' 40 32
  if cmd = 0xA1 then
    let r := s.hatchRead a.toNat
    (r.1.hatEnd 1 r.2.1 r.2.2).capture r.2.1 a r.2.2
  else if cmd = 0xA2 then
    let r := (s.onDev (fun d => { d with hat := d.hat.beginWrite })).hatchWrite a.toNat v
    let s := (r.1.hatEnd 1 r.2 0).onDev (fun d => { d with hat := d.hat.noteWrite r.2 a })
    let f := s.dev.takeFree
    (s.onDev (fun _ => f.2)).capture r.2 a (f.1.setWidth 32)
  else if cmd = 0xA5 then s.capture s.dev.hat.statusNow.1 a s.dev.hat.statusNow.2
  else s.capture hNoReg a 0

/-- HATCH_UPDATE_DR (R390): while the HATCH register is selected, after the writes that reached the SPI port before
(R384). DEDUCED, log entry 54. -/
def execHatchUpdateDr (dr : BitVec 72) (s : State) : Out :=
  .next (if s.dev.on && s.dev.hat.drSel == 0x20 then s.flush.hatchDr dr else s)

end Sys2Proof.Machine
end

