-- ==== Sys2Proof/Machine/Dispatch.lean ====
section
/-! DEFINITION. One arm per command: a direct call of its meaning. -/

namespace Sys2Proof.Machine

/-- The effect of a command on everything but the queue. No command stops. DESIGN CHOICE, log entry 5. -/
def exec (i : Instr) (s : State) : Host.Outcome State Fault Refusal :=
  match i with
  | .vccAoGood => Sys2Proof.Machine.execVccAoGood s
  | .vccAoLoss => Sys2Proof.Machine.execVccAoLoss s
  | .railGood r => Sys2Proof.Machine.execRailGood r s
  | .railLeavesWindow r => Sys2Proof.Machine.execRailLeavesWindow r s
  | .internalReset r => Sys2Proof.Machine.execInternalReset r s
  | .resetNLow => Sys2Proof.Machine.execResetNLow s
  | .resetNRise => Sys2Proof.Machine.execResetNRise s
  | .holdNChange level => Sys2Proof.Machine.execHoldNChange level s
  | .holdNWakeEdge => Sys2Proof.Machine.execHoldNWakeEdge s
  | .reqRun => Sys2Proof.Machine.execReqRun s
  | .reqQuiet => Sys2Proof.Machine.execReqQuiet s
  | .reqHold => Sys2Proof.Machine.execReqHold s
  | .reqDeepHold => Sys2Proof.Machine.execReqDeepHold s
  | .reqTest => Sys2Proof.Machine.execReqTest s
  | .governorCycle dt temps acts => Sys2Proof.Machine.execGovernorCycle dt temps acts s
  | .avsResponse f crcOk => Sys2Proof.Machine.execAvsResponse f crcOk s
  | .avsExchangeTimeout => Sys2Proof.Machine.execAvsExchangeTimeout s
  | .ticketWorkEnd t => Sys2Proof.Machine.execTicketWorkEnd t s
  | .ticketStateWrite t st => Sys2Proof.Machine.execTicketStateWrite t st s
  | .quiesceAnswer n ans qpN => Sys2Proof.Machine.execQuiesceAnswer n ans qpN s
  | .quiesceTimeout n => Sys2Proof.Machine.execQuiesceTimeout n s
  | .quiesceDelayExpiry n => Sys2Proof.Machine.execQuiesceDelayExpiry n s
  | .qpDone n => Sys2Proof.Machine.execQpDone n s
  | .parkDrainEnd n timedOut => Sys2Proof.Machine.execParkDrainEnd n timedOut s
  | .parkSaveDone n => Sys2Proof.Machine.execParkSaveDone n s
  | .roomWakeStageDone n saveOk => Sys2Proof.Machine.execRoomWakeStageDone n saveOk s
  | .roomClassWrite n cls => Sys2Proof.Machine.execRoomClassWrite n cls s
  | .sleepParticipantAnswer => Sys2Proof.Machine.execSleepParticipantAnswer s
  | .sleepRetry => Sys2Proof.Machine.execSleepRetry s
  | .deepHoldWakeStage cycles saveOk => Sys2Proof.Machine.execDeepHoldWakeStage cycles saveOk s
  | .clockLockWaitEnd => Sys2Proof.Machine.execClockLockWaitEnd s
  | .headerDone => Sys2Proof.Machine.execHeaderDone s
  | .frameCheck n disturbed => Sys2Proof.Machine.execFrameCheck n disturbed s
  | .hashDone => Sys2Proof.Machine.execHashDone s
  | .signDone => Sys2Proof.Machine.execSignDone s
  | .cwProgramPage => Sys2Proof.Machine.execCwProgramPage s
  | .cwEraseBlock => Sys2Proof.Machine.execCwEraseBlock s
  | .cwRenewBlock => Sys2Proof.Machine.execCwRenewBlock s
  | .cwOpDone physOk marginLow => Sys2Proof.Machine.execCwOpDone physOk marginLow s
  | .loadShadow n => Sys2Proof.Machine.execLoadShadow n s
  | .loadActive n => Sys2Proof.Machine.execLoadActive n s
  | .arm n => Sys2Proof.Machine.execArm n s
  | .disarm n => Sys2Proof.Machine.execDisarm n s
  | .abortLoad n => Sys2Proof.Machine.execAbortLoad n s
  | .discardShadow n => Sys2Proof.Machine.execDiscardShadow n s
  | .roomLoadCheckDone n => Sys2Proof.Machine.execRoomLoadCheckDone n s
  | .swapTriggerAngle n dt => Sys2Proof.Machine.execSwapTriggerAngle n dt s
  | .swapDrainDone n => Sys2Proof.Machine.execSwapDrainDone n s
  | .swapDrainTimeout n => Sys2Proof.Machine.execSwapDrainTimeout n s
  | .swapExchange n holdTicks => Sys2Proof.Machine.execSwapExchange n holdTicks s
  | .scrubPosition n upset disturbed => Sys2Proof.Machine.execScrubPosition n upset disturbed s
  | .nchSend n side j data => Sys2Proof.Machine.execNchSend n side j data s
  | .nchWordArrive n side j => Sys2Proof.Machine.execNchWordArrive n side j s
  | .nchTake n side j => Sys2Proof.Machine.execNchTake n side j s
  | .nchAckArrive n side j => Sys2Proof.Machine.execNchAckArrive n side j s
  | .nchNack n side j => Sys2Proof.Machine.execNchNack n side j s
  | .nchLossToken n side j => Sys2Proof.Machine.execNchLossToken n side j s
  | .txResync n side j => Sys2Proof.Machine.execTxResync n side j s
  | .bankCrossingWord b toPin word drained => Sys2Proof.Machine.execBankCrossingWord b toPin word drained s
  | .corRequestIssue n e op len dstRtr dstPort addr flits => Sys2Proof.Machine.execCorRequestIssue n e op len dstRtr dstPort addr flits s
  | .corRequestArrive k => Sys2Proof.Machine.execCorRequestArrive k s
  | .corResponseArrive k => Sys2Proof.Machine.execCorResponseArrive k s
  | .corTimeout n e slot => Sys2Proof.Machine.execCorTimeout n e slot s
  | .corQuarantineEnd n e slot => Sys2Proof.Machine.execCorQuarantineEnd n e slot s
  | .keepHatchWrite n k v fabric => Sys2Proof.Machine.execKeepHatchWrite n k v fabric s
  | .bramPortOp n b cfg pa pb upset => Sys2Proof.Machine.execBramPortOp n b cfg pa pb upset s
  | .larRead req q addr len upsets => Sys2Proof.Machine.execLarRead req q addr len upsets s
  | .larWrite req q addr data overG => Sys2Proof.Machine.execLarWrite req q addr data overG s
  | .larBitSet req att addr mask upset => Sys2Proof.Machine.execLarBitSet req att addr mask upset s
  | .larBitClear req att addr mask upset => Sys2Proof.Machine.execLarBitClear req att addr mask upset s
  | .larHatchRead a upset => Sys2Proof.Machine.execLarHatchRead a upset s
  | .larHatchWrite a v upset => Sys2Proof.Machine.execLarHatchWrite a v upset s
  | .larHatchBitSet a v upset => Sys2Proof.Machine.execLarHatchBitSet a v upset s
  | .larHatchBitClear a v upset => Sys2Proof.Machine.execLarHatchBitClear a v upset s
  | .larWriteback wa => Sys2Proof.Machine.execLarWriteback wa s
  | .quadStart q => Sys2Proof.Machine.execQuadStart q s
  | .quadClearDone q => Sys2Proof.Machine.execQuadClearDone q s
  | .larTestPass => Sys2Proof.Machine.execLarTestPass s
  | .larTestOne region => Sys2Proof.Machine.execLarTestOne region s
  | .larTestStop => Sys2Proof.Machine.execLarTestStop s
  | .testPhaseDone marchFail => Sys2Proof.Machine.execTestPhaseDone marchFail s
  | .arbRequest a idx => Sys2Proof.Machine.execArbRequest a idx s
  | .arbDecision a c => Sys2Proof.Machine.execArbDecision a c s
  | .arbAgeSaturate a idx => Sys2Proof.Machine.execArbAgeSaturate a idx s
  | .arbWaitBoost a idx => Sys2Proof.Machine.execArbWaitBoost a idx s
  | .arbBurstExpire a => Sys2Proof.Machine.execArbBurstExpire a s
  | .arbWatchdogExpiry a => Sys2Proof.Machine.execArbWatchdogExpiry a s
  | .arbFenceLift a idx => Sys2Proof.Machine.execArbFenceLift a idx s
  | .arbFreeze a on => Sys2Proof.Machine.execArbFreeze a on s
  | .dramRead n req addr len => Sys2Proof.Machine.execDramRead n req addr len s
  | .dramWrite n req addr data => Sys2Proof.Machine.execDramWrite n req addr data s
  | .dramHatchRead a upset => Sys2Proof.Machine.execDramHatchRead a upset s
  | .dramHatchWrite a v upset => Sys2Proof.Machine.execDramHatchWrite a v upset s
  | .dramBurstEnqueue n req => Sys2Proof.Machine.execDramBurstEnqueue n req s
  | .dramBurstIssue n k => Sys2Proof.Machine.execDramBurstIssue n k s
  | .dramReadData n upset => Sys2Proof.Machine.execDramReadData n upset s
  | .dramEccWriteback n b => Sys2Proof.Machine.execDramEccWriteback n b s
  | .dramRefresh n => Sys2Proof.Machine.execDramRefresh n s
  | .dramSelfRefreshEnter n => Sys2Proof.Machine.execDramSelfRefreshEnter n s
  | .dramSelfRefreshExit n => Sys2Proof.Machine.execDramSelfRefreshExit n s
  | .dramTrain n => Sys2Proof.Machine.execDramTrain n s
  | .dramOffline n => Sys2Proof.Machine.execDramOffline n s
  | .dramOnline n => Sys2Proof.Machine.execDramOnline n s
  | .dramTrainStepDone n ok pin => Sys2Proof.Machine.execDramTrainStepDone n ok pin s
  | .dramResyncDone n => Sys2Proof.Machine.execDramResyncDone n s
  | .timeBaseLock => Sys2Proof.Machine.execTimeBaseLock s
  | .timeBaseLockLoss => Sys2Proof.Machine.execTimeBaseLockLoss s
  | .evtTimeLoRead => Sys2Proof.Machine.execEvtTimeLoRead s
  | .encoderEdge u a b dt => Sys2Proof.Machine.execEncoderEdge u a b dt s
  | .encoderZEdge u dt => Sys2Proof.Machine.execEncoderZEdge u dt s
  | .angleStall u dt => Sys2Proof.Machine.execAngleStall u dt s
  | .angleRead u => Sys2Proof.Machine.execAngleRead u s
  | .anglePositionWrite u v => Sys2Proof.Machine.execAnglePositionWrite u v s
  | .angleUnitEnable u v => Sys2Proof.Machine.execAngleUnitEnable u v s
  | .queueWord0Write q v => Sys2Proof.Machine.execQueueWord0Write q v s
  | .queueWord1Write q v => Sys2Proof.Machine.execQueueWord1Write q v s
  | .queueWord2Write q v => Sys2Proof.Machine.execQueueWord2Write q v s
  | .queueWord3Write q v fired late forced => Sys2Proof.Machine.execQueueWord3Write q v fired late forced s
  | .queueHeadFetch q upset => Sys2Proof.Machine.execQueueHeadFetch q upset s
  | .internalAppend src => Sys2Proof.Machine.execInternalAppend src s
  | .appendAck q => Sys2Proof.Machine.execAppendAck q s
  | .stopAll => Sys2Proof.Machine.execStopAll s
  | .echoRingEnable r v => Sys2Proof.Machine.execEchoRingEnable r v s
  | .placementStep dt => Sys2Proof.Machine.execPlacementStep dt s
  | .deliveryTake n port => Sys2Proof.Machine.execDeliveryTake n port s
  | .phaseEnd ch dt => Sys2Proof.Machine.execPhaseEnd ch dt s
  | .pulseEnd ch dt => Sys2Proof.Machine.execPulseEnd ch dt s
  | .measTimeout f => Sys2Proof.Machine.execMeasTimeout f s
  | .eventPost n port att addr recs => Sys2Proof.Machine.execEventPost n port att addr recs s
  | .playerRun k v => Sys2Proof.Machine.execPlayerRun k v s
  | .playerStop k => Sys2Proof.Machine.execPlayerStop k s
  | .playerWaitEnd k => Sys2Proof.Machine.execPlayerWaitEnd k s
  | .playerFetchDone k => Sys2Proof.Machine.execPlayerFetchDone k s
  | .playerAppend k => Sys2Proof.Machine.execPlayerAppend k s
  | .playerStallResume k => Sys2Proof.Machine.execPlayerStallResume k s
  | .forwardFrame dt => Sys2Proof.Machine.execForwardFrame dt s
  | .returnFrame str frame dt => Sys2Proof.Machine.execReturnFrame str frame dt s
  | .stringTrain str => Sys2Proof.Machine.execStringTrain str s
  | .trainStepDone str o => Sys2Proof.Machine.execTrainStepDone str o s
  | .stringDisable str => Sys2Proof.Machine.execStringDisable str s
  | .hbMirrorRead a => Sys2Proof.Machine.execHbMirrorRead a s
  | .hbMirrorWrite a v => Sys2Proof.Machine.execHbMirrorWrite a v s
  | .hbStatusRead a => Sys2Proof.Machine.execHbStatusRead a s
  | .hbStatusWrite a v => Sys2Proof.Machine.execHbStatusWrite a v s
  | .hbPostHalf0 q v => Sys2Proof.Machine.execHbPostHalf0 q v s
  | .hbPostHalf1 q v => Sys2Proof.Machine.execHbPostHalf1 q v s
  | .hbUnmappedWrite a v => Sys2Proof.Machine.execHbUnmappedWrite a v s
  | .mirrorPassStart => Sys2Proof.Machine.execMirrorPassStart s
  | .mirrorRefreshData upsets => Sys2Proof.Machine.execMirrorRefreshData upsets s
  | .writeThroughDone upset => Sys2Proof.Machine.execWriteThroughDone upset s
  | .reflexFire j levels dt => Sys2Proof.Machine.execReflexFire j levels dt s
  | .reflexClear j levels => Sys2Proof.Machine.execReflexClear j levels s
  | .reflexArm j => Sys2Proof.Machine.execReflexArm j s
  | .reflexDisarm j => Sys2Proof.Machine.execReflexDisarm j s
  | .islandClockWrite n v => Sys2Proof.Machine.execIslandClockWrite n v s
  | .islandSlewDone n => Sys2Proof.Machine.execIslandSlewDone n s
  | .islandLock n => Sys2Proof.Machine.execIslandLock n s
  | .islandLockLoss n => Sys2Proof.Machine.execIslandLockLoss n s
  | .pllEnable n v => Sys2Proof.Machine.execPllEnable n v s
  | .pllDisable n => Sys2Proof.Machine.execPllDisable n s
  | .pllOutputEnable n k v => Sys2Proof.Machine.execPllOutputEnable n k v s
  | .pllLock n phErr => Sys2Proof.Machine.execPllLock n phErr s
  | .pllLockLoss n phErr => Sys2Proof.Machine.execPllLockLoss n phErr s
  | .pllUnlockFault n => Sys2Proof.Machine.execPllUnlockFault n s
  | .pllRefEdges pin => Sys2Proof.Machine.execPllRefEdges pin s
  | .pllRefLoss pin => Sys2Proof.Machine.execPllRefLoss pin s
  | .pllStepGo n v => Sys2Proof.Machine.execPllStepGo n v s
  | .pllStepDone n => Sys2Proof.Machine.execPllStepDone n s
  | .pllRampGo n => Sys2Proof.Machine.execPllRampGo n s
  | .pllRampStop n reached => Sys2Proof.Machine.execPllRampStop n reached s
  | .pllRampSegmentEnd n => Sys2Proof.Machine.execPllRampSegmentEnd n s
  | .lcTransitionRequest target => Sys2Proof.Machine.execLcTransitionRequest target s
  | .lcPhaseDone readbackOk => Sys2Proof.Machine.execLcPhaseDone readbackOk s
  | .loadOik slot => Sys2Proof.Machine.execLoadOik slot s
  | .loadDbg => Sys2Proof.Machine.execLoadDbg s
  | .loadImg => Sys2Proof.Machine.execLoadImg s
  | .owner => Sys2Proof.Machine.execOwner s
  | .challenge level => Sys2Proof.Machine.execChallenge level s
  | .respond => Sys2Proof.Machine.execRespond s
  | .release => Sys2Proof.Machine.execRelease s
  | .attest => Sys2Proof.Machine.execAttest s
  | .sectorUpdateDone => Sys2Proof.Machine.execSectorUpdateDone s
  | .nonceExpiry => Sys2Proof.Machine.execNonceExpiry s
  | .meshCheck m => Sys2Proof.Machine.execMeshCheck m s
  | .vbatMeshCheck broken => Sys2Proof.Machine.execVbatMeshCheck broken s
  | .clockGlitch island => Sys2Proof.Machine.execClockGlitch island s
  | .eraseDone => Sys2Proof.Machine.execEraseDone s
  | .reapplyClock => Sys2Proof.Machine.execReapplyClock s
  | .reapplyIo => Sys2Proof.Machine.execReapplyIo s
  | .reapplyControl => Sys2Proof.Machine.execReapplyControl s
  | .reapplyDram => Sys2Proof.Machine.execReapplyDram s
  | .reapplyEngine => Sys2Proof.Machine.execReapplyEngine s
  | .reapplyRoom => Sys2Proof.Machine.execReapplyRoom s
  | .reapplyDone => Sys2Proof.Machine.execReapplyDone s
  | .spiReadWord a ready => Sys2Proof.Machine.execSpiReadWord a ready s
  | .spiWriteWord a v => Sys2Proof.Machine.execSpiWriteWord a v s
  | .spiBurstRead a ready => Sys2Proof.Machine.execSpiBurstRead a ready s
  | .spiBurstWrite a vs drains => Sys2Proof.Machine.execSpiBurstWrite a vs drains s
  | .spiStatus => Sys2Proof.Machine.execSpiStatus s
  | .spiUnknownCommand code => Sys2Proof.Machine.execSpiUnknownCommand code s
  | .tapExtest => Sys2Proof.Machine.execTapExtest s
  | .tapIdcode => Sys2Proof.Machine.execTapIdcode s
  | .tapSamplePreload => Sys2Proof.Machine.execTapSamplePreload s
  | .tapHatch => Sys2Proof.Machine.execTapHatch s
  | .tapBypass code => Sys2Proof.Machine.execTapBypass code s
  | .hatchUpdateDr dr => Sys2Proof.Machine.execHatchUpdateDr dr s
  | .readbackRead a => Sys2Proof.Machine.execReadbackRead a s
  | .registerWrite a v => Sys2Proof.Machine.execRegisterWrite a v s
  | .iobStdWrite b v => Sys2Proof.Machine.execIobStdWrite b v s
  | .vccioMismatch b outside => Sys2Proof.Machine.execVccioMismatch b outside s
  | .errRecordArrive src sev detail => Sys2Proof.Machine.execErrRecordArrive src sev detail s
  | .errAck => Sys2Proof.Machine.execErrAck s
  | .errAlarmClear => Sys2Proof.Machine.execErrAlarmClear s
  | .errNoticeRead => Sys2Proof.Machine.execErrNoticeRead s
  | .secCmdDone => Sys2Proof.Machine.execSecCmdDone s
  | .entropyHealthTestFail => Sys2Proof.Machine.execEntropyHealthTestFail s
  | .deepHoldSensorCheck temp => Sys2Proof.Machine.execDeepHoldSensorCheck temp s
  | .corRequestTake n e => Sys2Proof.Machine.execCorRequestTake n e s
  | .corTargetResponse n e k data => Sys2Proof.Machine.execCorTargetResponse n e k data s
  | .corResponseTake n e => Sys2Proof.Machine.execCorResponseTake n e s
  | .payloadFlitInject n p flit => Sys2Proof.Machine.execPayloadFlitInject n p flit s
  | .hbClkStopped => Sys2Proof.Machine.execHbClkStopped s

end Sys2Proof.Machine
end

