-- ==== Sys2Proof/Machine/Fabric.lean ====
section
/-! DEFINITION. The fabric in the device: what the blocks and the border of a room give its design, an edge of every
running room's clock (R36, R57), and what the general I/O pins drive (R26, R66, R68, R142, R251, R252, R290, R375,
R405). -/

namespace Sys2Proof.Machine

/-! ### What a room's design sees -/

/-- A signal of the border as the fabric sees it (Table 3.3, R66, R314); one the model does not hold is a free value. -/
def State.borderOut (s : State) (n : Nat) : BorderOut → Bool
  | .txReady side j => s.txReady n side.val j.val
  | .rxValid side j => (neighbour n side.val).any (fun m => !(s.ch m (opposite side.val) j.val).fifo.isEmpty)
  | .rxData side j i => (neighbour n side.val).any (fun m => ((s.ch m (opposite side.val) j.val).fifo.headD 0).getLsbD i.val)
  | .peerUp side => bitOf (s.dev.peerUp n) side.val
  | .qpAsk => (s.dev.room n).quiesce.asked
  | .pin i => (s.dev.room n).bankIn.getLsbD i.val
  | .other k => Config.borderIn s.dev.free n k

/-- What a block other than a multiply-accumulate block gives the fabric of room `n`: a block RAM's output register where
it has one is its DOUT, chosen by the design (R89). -/
def State.blockOut (s : State) (n : Nat) : BlockOut → Bool
  | .bramA b i => (s.dev.bramOf n b.val).outA.getLsbD i.val
  | .bramB b i => (s.dev.bramOf n b.val).outB.getLsbD i.val
  | .sbitErr b => (s.dev.bramOf n b.val).errOut.getLsbD 0
  | .dbitErr b => (s.dev.bramOf n b.val).errOut.getLsbD 1
  | .macP _ _ => false
  | .macCarry _ => false
  | .kpRdata i => (s.dev.room n).kpRdata.getLsbD i.val
  | .border x => s.borderOut n x

/-! ### An edge of the room clocks -/

/-- A room runs its design: released, with its clock running (R57, R58). -/
def Dev.designRuns (d : Dev) (n : Nat) : Bool := !(d.room n).gsr && d.gb F.CLK_ISL_STAT_RUN n

/-- The registers of a bank bonded to its room capture on the room's edge (R66). -/
def Dev.bankEdge (d : Dev) (n : Nat) (f : BlockIn → Bool) : Dev :=
  match bankOf n with
  | none => d
  | some b =>
    if d.gb F.CLK_ISL_CTRL_BOND (64 + b) then
      d.onRoom n (fun r => { r with
        bankIn := Config.pinsIn d.free b
        bankOut := bitsWord 400 (fun i => f (.pinData i)), bankOe := bitsWord 40 (fun i => f (.pinEnable i)) })
    else d

/-- An edge of room `n`'s clock (R36): the fabric, the keep register port (R100) and a bonded bank take it together. -/
def State.roomEdge (s : State) (n : Nat) : State :=
  if s.dev.designRuns n then
    let f := (s.dev.room n).tapped (s.blockOut n)
    let a := (bitsWord 6 (fun i => f (.kpAddr i))).toNat
    s.onDev (fun d =>
      ((d.onRoom n (fun r => r.edge (s.blockOut n))).keepPort n a (f .kpWe) (bitsWord 32 (fun i => f (.kpWdata i)))).bankEdge n f)
  else s

/-- One edge of the clock of every room that runs its design. The edges see each other's ports as they stood before.
DESIGN CHOICE, log entry 4. -/
def State.fabricEdge (s : State) : State :=
  if roomIds.any (fun n => s.dev.designRuns n) then
    (roomIds.foldl (fun s n => s.roomEdge n) s).onDev (fun d => { d with free := d.free + 1 })
  else s

/-! ### General I/O pins -/

/-- What a general I/O pin does: nothing, high-impedance with the weak pull-down, a level, or the serial form of the
bits of its word (R406). -/
inductive PinOut where
  | unpowered | highZ | drive (v : Bool) | serial (w : BitVec 10)
  deriving DecidableEq, Repr

/-- The level of a direct event pin: 1 for a code other than 0b00, inverted by INV (Table 11.1). -/
def Dev.eventPinLevel (d : Dev) (n : Nat) : Bool :=
  Bool.xor ((d.chan (.pin (BitVec.ofNat 8 n))).code != 0) (d.gb F.EVT_DPIN_INV n)

/-- Pin `m` belongs to a pair, set in the even pin's register (R406). -/
def Dev.paired (d : Dev) (b m : Nat) : Bool := d.gb F.IOB_PIN_DIFF b (m / 2 * 2)

/-- The _N side of a pair carries the opposite level (R406). -/
def PinOut.side (negative : Bool) : PinOut → PinOut
  | .drive v => .drive (Bool.xor v negative)
  | .serial w => .serial (if negative then ~~~w else w)
  | .unpowered => .unpowered
  | .highZ => .highZ

/-- The SAFE code in force for a pin: that of its entry into the safe state (R406). -/
def Dev.safeCode (d : Dev) (b m : Nat) : Nat := Map.get (fun _ => d.gf F.IOB_PIN_SAFE b m) d.pin.safeOld (64 * b + m)

/-- The safe state of a pin (R68); of a pair, the differential level that SAFE of its odd pin asks for (R406).
DEDUCED, log entry 59. -/
def Dev.safePin (d : Dev) (b m : Nat) : PinOut :=
  let s := d.safeCode b (if d.paired b m then m / 2 * 2 + 1 else m)
  PinOut.side (d.paired b m && m % 2 == 1) (if s = 1 then .drive false else if s = 2 then .drive true else .highZ)

/-- The word of a pin in a bank word: ten bits a pin. DEDUCED, log entry 71. -/
def pinWord (w : BitVec 400) (m : Nat) : BitVec 10 := (w >>> (10 * m)).setWidth 10

/-- What the design drives at a pin or pair: its bank's output register while the output enable is 1, through the
serializer where SER is not 0, which sends 0 while its FCLK is off (R66, R406). -/
def Dev.designPin (d : Dev) (b m : Nat) : PinOut :=
  let r := d.room (facingRoom b)
  let e := if d.paired b m then m / 2 * 2 else m
  PinOut.side (d.paired b m && m % 2 == 1)
    (if !r.bankOe.getLsbD e then .highZ
    else if d.gf F.IOB_PIN_SER b e = 0 then .drive (r.bankOut.getLsbD (10 * e))
    else if !d.gb F.IOB_CFG_FCLK_EN b then .drive false
    else .serial (pinWord r.bankOut e))

/-- ROOM_CLAMP's code of a pin while the clamps are engaged: it sets the output value and leaves the output enable as it
was; hold last keeps what the design drives (R142). DEDUCED, log entry 59. -/
def Dev.clampPin (d : Dev) (b m : Nat) : PinOut :=
  let e := if d.paired b m then m / 2 * 2 else m
  let c := bits (d.reg .ROOM_CLAMP (facingRoom b) (e / 16)) (2 * (e % 16)) 2
  if !(d.room (facingRoom b)).bankOe.getLsbD e then .highZ
  else if 2 ≤ c then d.designPin b m
  else PinOut.side (d.paired b m && m % 2 == 1) (.drive (c == 1))

/-- What pin `m` of bank `b` does: a FIRED reflex cell first, then a direct event pin, then the safe state, the clamps
and the design (R26, R68, R142, R251, R295, R375, R405). An unfired reflex output takes its safe state in Deep hold
too (R295). DEDUCED, log entry 59. -/
def Dev.pinOut (d : Dev) (b m : Nat) : PinOut :=
  if d.mode == mOff || !d.bankPowered b then .unpowered
  else if d.mode == mRamp || d.gf F.IOB_CFG_STD b == 0 || d.gb F.IOB_STAT_MISMATCH b then .highZ
  else
    match d.firedAt b m with
    | some j => .drive (d.gb F.RFX_CELL_CTRL_FIRE_VAL j)
    | none =>
      match d.eventDrive b m with
      | some n => .drive (d.eventPinLevel n)
      | none =>
        if d.bankHeld b then d.safePin b m
        else if (d.room (facingRoom b)).clamps then d.clampPin b m
        else d.designPin b m

end Sys2Proof.Machine
end

