-- ==== Sys2Proof/Machine/Step.lean ====
section
/-! DEFINITION. One step of the block: the command at the front of the queue takes effect. -/

namespace Sys2Proof.Machine

/-- The state with its queue replaced. DESIGN CHOICE, log entry 74. -/
def State.withPending (s : State) (l : List Instr) : State := { s with pending := l }

/-- What happens while no command waits: one tick of device time passes (R207), a PFD cycle of every PLL (R329), and
every room that runs its design takes an edge of its clock (R36); then the oldest word of the SPI write buffer is
performed (R387). DESIGN CHOICE, log entry 4. -/
def State.idle (s : State) : State := ((s.onDev (fun d => (d.tick 1).pfdCycle)).fabricEdge).drain 1

/-- One step. DESIGN CHOICE, log entry 73. DESIGN CHOICE, log entry 74. DESIGN CHOICE, log entry 4. -/
def step (s : State) : Host.Outcome State Fault Refusal :=
  match s.pending with
  | [] => .next s.idle
  | c :: l => exec c (s.withPending l)

/-- The command that a word spells, put at the front of the queue; the table gives no row any bits.
DESIGN CHOICE, log entry 73. -/
def State.withFetchWord (s : State) (nbits w : Nat) : State :=
  match Sys2Proof.decodeTableWord nbits w with
  | some c => s.withPending (c :: s.pending)
  | none => s

end Sys2Proof.Machine
end

