-- ==== Sys2Proof/Safety.lean ====
section
/-! DEFINITION. What the claims call safe: the buffers that commands share never hold more than the spec gives
them, and the words that software sees in the host bus target keep their form. -/

namespace Sys2Proof.Machine

/-- A neighbour channel has at most four credits and at most four words in its receiving FIFO (R69, R70). -/
def Chan.ok (c : Chan) : Bool := decide (c.credits ≤ 4) && decide (c.fifo.length ≤ 4)

/-- Every neighbour channel is within its credits, and the table of channels is in its one canonical form. -/
def State.channelsOk (s : State) : Bool := Map.wf (fun _ => {}) s.nch && s.nch.all (fun e => e.2.ok)

/-- The host bus target holds at most 16 write-through entries and 16 records (R283, R284); HB_INT_EN has only its
six bits, HB_POST_LAST is 0 or valid, a latched or buffered record names one of the 16384 queues, and the mirror is in
its one canonical form. -/
def HostBus.ok (h : HostBus) : Bool :=
  decide (h.buffer.length ≤ 16) && decide (h.posts.length ≤ 16) && (h.intEn &&& ~~~0x3F#32) == 0 &&
    (h.postLast == 0 || h.postLast.getLsbD 31) && h.latch.all (fun l => decide (l.1 < 16384)) &&
    h.posts.all (fun r => decide (r.1 < 16384)) && Map.wf (fun _ => 0) h.mirror

/-- The host bus target keeps its state: always while the device is out of Off and Supply ramp, where the target is
held in reset (R277). -/
def State.hostKept (s t : State) : Prop := s.dev.mode ≠ mOff → s.dev.mode ≠ mRamp → t.hb = s.hb

/-- Command `c` completes at `s`, and this is all it does: the answer is a next state whose registers and units are
`d`; no neighbour channel, no part of the host bus target and no waiting command has changed. -/
def Does (c : Instr) (s : State) (d : Dev) : Prop :=
  ∃ t, exec c s = .next t ∧ t.dev = d ∧ t.nch = s.nch ∧ t.pending = s.pending ∧ s.hostKept t

/-- Command `c` completes at `s`, in a next state of which `P` holds. -/
def Yields (c : Instr) (s : State) (P : State → Prop) : Prop := ∃ t, exec c s = .next t ∧ P t

/-- No register but the listed ones has changed between two devices. -/
def Dev.keepsRegs (d d' : Dev) (l : List (RK × Nat × Nat)) : Prop :=
  ∀ k i j, i < 65536 → j < 256 → (k, i, j) ∉ l → d'.reg k i j = d.reg k i j

/-- Room `n` is waking, alone or among those that a rollback or a wake from Deep hold restarts at present (R320, R321). -/
def Dev.wakesIn (d : Dev) (n : Nat) : Prop :=
  d.gf F.GOV_ROOM_PSTATE n = 3 ∧ ∀ x, d.gov.sleep = some x → (x.rolling || x.waking) = true → Stopped.room n ∈ x.cur

/-- A requester's turn has come at its arbiter, with room for all beats of a request: it holds the grant, or nothing
stands before it (R172, R176). -/
abbrev Dev.holdsTurn (d : Dev) (a req beats : Nat) : Prop :=
  let x := d.arb a
  x.chosen = none ∧ x.port = none ∧ (∀ e ∈ x.work, e.1 ≠ req) ∧ d.lineWork a req = true ∧ arbReaches a req = true ∧
    d.fenced a req = false ∧ ((x.owner = some req ∧ x.beats + beats ≤ x.burst) ∨
      (x.owner = none ∧ x.reqs = [] ∧ d.gb F.ARB_CTRL_FREEZE a = false ∧ beats ≤ d.gf F.ARB_REQ_CFG_BURST a req + 1))

/-- A Larder request is served whole: its words are there, its quadrant is UP, the requester's turn has come, and of a
room its packet is in with every flit; the Larder test's own cycles are no such request. -/
abbrev Dev.larTurn (d : Dev) (q req : Nat) (o : LarOp) : Prop :=
  req ≠ testId ∧ larAddrOk q o.addr o.len = true ∧ d.quadState q = 2 ∧ d.holdsTurn (larArb q req) req o.beats ∧
    (d.larBehind (larArb q req) req o).any (fun b => o.beats ≤ b.2.1 && o.beats ≤ b.2.2) = true

/-- An access of the event core or the host bus target to one Larder word is served: the word is there, its quadrant is
UP, the requester is not fenced and its arbiter not frozen. -/
def Dev.larServes (d : Dev) (req wa : Nat) : Bool :=
  larAddrOk (larQuad wa) wa 0 && d.quadState (larQuad wa) == 2 && !d.fenced (larArb (larQuad wa) req) req &&
    !d.gb F.ARB_CTRL_FREEZE (larArb (larQuad wa) req)

/-- A Larder word as a read finds it that finds the cells `u` flipped. -/
def Dev.larSeen (d : Dev) (wa : Nat) (u : BitVec 72) : LarWord :=
  { d.larWord wa with flips := (d.larWord wa).flips ^^^ u }

/-- No register but those of the listed kinds has changed between two devices. -/
def Dev.keepsKinds (d d' : Dev) (l : List RK) : Prop :=
  ∀ k i j, i < 65536 → j < 256 → k ∉ l → d'.reg k i j = d.reg k i j

/-- The registers in which an access to the Larder may be counted or recorded: of the Larder (R160, R167, R168), of its
arbiters (R187) and of the error unit (R397). -/
def larKinds : List RK :=
  [.LAR_EADDR, .LAR_ECC, .LAR_QCNT, .LAR_CONF, .LAR_TEST_STAT, .ARB_REQ_GRANTS, .ARB_REQ_MAXWAIT, .ARB_REQ_WAIT, .ARB_VOID,
   .ARB_REQ_STAT, .ARB_FENCE_LOG, .ERR_STAT, .ERR_FIRST, .ERR_FIRST_TIME_LO, .ERR_FIRST_TIME_HI, .ERR_FIRST_DETAIL,
   .ERR_NOTICE, .ERR_NOTICE_TIME_LO, .ERR_NOTICE_TIME_HI, .ERR_NOTICE_DETAIL, .ERR_CNT]

end Sys2Proof.Machine
end

