-- ==== Sys2Proof/Certificates/Slice0/Obligations.lean ====
section
/-! DEFINITION. The statements for the provers. Each formalises rules of spec/ about one family of commands or one
unit of the device; its docstring names the rules. `Does`, `Yields` and the invariants are defined in
`Sys2Proof.Safety`. A clause about a value that spec/ leaves open says nothing about that value. -/

open Sys2Proof Sys2Proof.Machine

/-- Each step takes the command at the front of the queue and performs it with the queue's rest; on an empty queue the
block idles as `State.idle` says (the model's choice, log entry 4). -/
def Obligations.StepTakesTheFrontCommand : Prop :=
  (∀ (c : Instr) (l : List Instr) (s : State), s.pending = c :: l → step s = exec c (s.withPending l)) ∧
  (∀ s : State, s.pending = [] → step s = .next s.idle)

/-- No command changes the queue of waiting commands: a step removes exactly the front one. -/
def Obligations.CommandsLeaveTheQueue : Prop :=
  (∀ (c : Instr) (s t : State), exec c s = .next t → t.pending = s.pending) ∧
  (∀ s t : State, step s = .next t → t.pending = s.pending.tail)

/-- Every command is answered by a next state, whatever the state: ordinary data never end a run. -/
def Obligations.EveryCommandGoesOn : Prop :=
  ∀ (c : Instr) (s : State), ∃ t, exec c s = .next t

/-- In every reachable and unreachable state whose neighbour channels are within their credits, every step leaves them
so: no receiving FIFO ever holds more than four words and no port more than four credits (R69, R70). -/
def Obligations.ChannelsStayWithinCredits : Prop :=
  ∀ s t : State, s.channelsOk = true → step s = .next t → t.channelsOk = true

/-- The buffers of the host bus target never hold more than 16 entries and its words keep their form, in every step
(R280, R283, R284). -/
def Obligations.HostBusStaysWithinBuffers : Prop :=
  ∀ s t : State, s.hb.ok = true → step s = .next t → t.hb.ok = true

/-- Right after reset both invariants hold, no command waits, and GBL_MODE reads 0x0000_0101: Supply ramp, entered
from Off with CAUSE 0x01 (R29). -/
def Obligations.ResetHasTheInvariants : Prop :=
  State.reset.channelsOk = true ∧ State.reset.hb.ok = true ∧ State.reset.pending = [] ∧
    State.reset.dev.reg .GBL_MODE = 0x101 ∧ State.reset.dev.mode = mRamp ∧ State.reset.dev.gf F.GBL_MODE_CAUSE = 1 ∧
    State.reset.dev.gf F.GBL_MODE_PREV = mOff

/-- VCC_AO and the rails (R30, R363, R370, R372, R373, R405). From Off, VCC_AO_GOOD enters Supply ramp with CAUSE 0x01
and keeps the Cellar and the life-cycle block; VCC_AO_LOSS ends in Off with every room at its reset state; in the
other's case each does nothing. A rail that becomes good sets its bit of GBL_RAIL_STAT, and for one of a bank VCCIO is
above 0.6 V and MISMATCH falls; nothing else changes, unless Supply ramp can end or rail 4 lets a pending erase start.
Such an erase holds no key any more and works on. In Off only the bank's supply is seen. A rail that is not good and
leaves its window changes nothing but the supply of a bank without MISMATCH. A good rail not in use that leaves its
window is not good, sets its bit of GBL_RAIL_SEEN, and nothing else changes; rail 4 ends a Cellar write of CFG_CW_CTRL
with RESULT ABANDONED (5). One in use raises V0, seen in SEC_VSEEN, which policy NOTICE lets pass, and HALT and ERASE
answer with Alarm and CAUSE 0x12 or 0x13, but in Alarm and Dormant. -/
def Obligations.PowerAndRails : Prop :=
  (∀ s : State, s.dev.on = false → ∃ t, exec .vccAoGood s = .next t ∧ t.dev.mode = mRamp ∧
    t.dev.gf F.GBL_MODE_CAUSE = 1 ∧ t.dev.gf F.GBL_MODE_PREV = mOff ∧ t.dev.cfg.cellar = s.dev.cfg.cellar ∧
    t.dev.sec.lcCopies = s.dev.sec.lcCopies) ∧
  (∀ s : State, s.dev.on = true → Does .vccAoGood s s.dev) ∧
  (∀ s : State, s.dev.on = true → ∃ t, exec .vccAoLoss s = .next t ∧ t.dev.mode = mOff ∧ t.dev.rooms = [] ∧
    t.hb = {}) ∧
  (∀ s : State, s.dev.on = false → exec .vccAoLoss s = .next s) ∧
  (∀ (r : Fin 28) (s : State),
    let d0 := if 10 ≤ r.val then (s.dev.setVccio (r - 10) true).sf F.IOB_STAT_MISMATCH (r - 10) 0 0 else s.dev
    let d := d0.sf F.GBL_RAIL_STAT_GOOD 0 0 (s.dev.gf F.GBL_RAIL_STAT_GOOD ||| 2 ^ r.val)
    (s.dev.on = false → Does (.railGood r) s d0) ∧
    (s.dev.on = true → (s.dev.mode ≠ mRamp ∨ d.rampDone = false ∨ s.dev.sec.resetHeld = true) →
      (r ≠ 4 ∨ s.dev.mode = mRamp ∨ s.dev.gb F.SEC_KEYS_ERASE_PENDING = false ∨ s.dev.secWorking = true) →
      Does (.railGood r) s d)) ∧
  (∀ s : State, s.dev.on = true → s.dev.mode ≠ mRamp → s.dev.gb F.SEC_KEYS_ERASE_PENDING = true →
      s.dev.secWorking = false →
    Yields (.railGood 4) s (fun t => t.dev.railGood 4 = true ∧ t.dev.sec.erasing = true ∧
        t.dev.gf F.SEC_LCS_BUSY = 1 ∧
      t.dev.sec.keyIdk = none ∧ t.dev.sec.keyImg = none ∧ t.dev.mode = s.dev.mode)) ∧
  (∀ (r : Fin 28) (s : State), s.dev.railGood r = false →
    Does (.railLeavesWindow r) s (if 10 ≤ r.val ∧ s.dev.gb F.IOB_STAT_MISMATCH (r - 10) = false then
      s.dev.setVccio (r - 10) false else s.dev)) ∧
  (∀ (r : Fin 28) (s : State), s.dev.railGood r = true → (r ≠ 4 ∨ s.dev.cfg.cw = none) → s.dev.railUsed r = false →
    let d0 := if 10 ≤ r.val ∧ s.dev.gb F.IOB_STAT_MISMATCH (r - 10) = false then s.dev.setVccio (r - 10) false else
        s.dev
    Does (.railLeavesWindow r) s
      ((d0.railDown r).sf F.GBL_RAIL_SEEN_LEFT 0 0 (s.dev.gf F.GBL_RAIL_SEEN_LEFT ||| 2 ^ r.val))) ∧
  (∀ (w : CwWork) (s : State), s.dev.railGood 4 = true → s.dev.cfg.cw = some w → w.ticket = false →
    Yields (.railLeavesWindow 4) s (fun t => t.dev.railGood 4 = false ∧ t.dev.cfg.cw = none ∧
      t.dev.gf F.CFG_STATUS_BUSY = 0 ∧ t.dev.gf F.CFG_CW_STAT_DONE = 1 ∧ t.dev.gf F.CFG_CW_STAT_RESULT = 5)) ∧
  (∀ (r : Fin 28) (s : State), s.dev.railGood r = true → r ≠ 4 → s.dev.railUsed r = true → s.dev.on = true →
    s.dev.mode ≠ mRamp →
    Yields (.railLeavesWindow r) s (fun t => t.dev.railGood r = false ∧
      t.dev.gf F.SEC_VSEEN_SEEN = s.dev.gf F.SEC_VSEEN_SEEN ||| 1 ∧
      (if s.dev.policy 0 = 0 ∨ s.dev.mode = mAlarm ∨ s.dev.mode = mDormant then t.dev.mode = s.dev.mode
       else t.dev.mode = mAlarm ∧ t.dev.gf F.GBL_MODE_CAUSE = (if s.dev.policy 0 = 1 then 0x12 else 0x13))))

/-- Resets (R30, R342, R372, R376, R379, R382): RESET_N low, and the internal reset of a core rail, bring the device
from any mode but Off and Supply ramp into Supply ramp with CAUSE 0x02, every room at its reset state, the host bus
target at its reset state, and GBL_RESET naming the cause and counting it, once where both hold together. In Supply
ramp RESET_N low only holds the reset on; the pin already low, another rail, and Off change nothing. RESET_N rising
only changes the pin while a rail that Supply ramp waits for is not good, or outside Supply ramp; where Supply ramp
can end, an Invalid life-cycle block leads to Dormant with CAUSE 0x0A. HOLD_N (R321, R376): outside Deep hold, and
where it does not rise, a change of the pin is held for the next governor cycle and changes nothing else; in Deep hold
a rise starts the wake, unless one is under way. -/
def Obligations.ResetsAndHoldPin : Prop :=
  ((∀ s : State, s.dev.on = true → s.dev.mode ≠ mRamp → s.dev.pin.resetN = true →
     ∃ t, exec .resetNLow s = .next t ∧ t.dev.mode = mRamp ∧ t.dev.gf F.GBL_MODE_CAUSE = 2 ∧
       t.dev.gf F.GBL_RESET_CAUSE = 1 ∧ t.dev.gf F.GBL_RESET_COUNT = (s.dev.gf F.GBL_RESET_COUNT + 1) % 2 ^ 16 ∧
       t.dev.rooms = [] ∧ t.dev.pin.resetN = false ∧ t.hb = {}) ∧
   (∀ s : State, s.dev.mode = mRamp → s.dev.pin.resetN = true →
     ∃ t, exec .resetNLow s = .next t ∧ t.dev.mode = mRamp ∧ t.dev.rooms = [] ∧ t.dev.pin.resetN = false) ∧
   (∀ s : State, s.dev.pin.resetN = false → exec .resetNLow s = .next s) ∧
   (∀ (r : Fin 28) (s : State), s.dev.on = true → s.dev.mode ≠ mRamp → (r = 0 ∨ r = 1 ∨ r = 2 ∨ r = 3 ∨ r = 6) →
     ∃ t, exec (.internalReset r) s = .next t ∧ t.dev.mode = mRamp ∧ t.dev.gf F.GBL_MODE_CAUSE = 2 ∧
       t.dev.gf F.GBL_RESET_CAUSE = 2 ∧ t.dev.gf F.GBL_RESET_RAIL = r ∧
       t.dev.gf F.GBL_RESET_COUNT = (s.dev.gf F.GBL_RESET_COUNT + b2n s.dev.pin.resetN) % 2 ^ 16 ∧
       t.dev.railGood r = false ∧ t.dev.rooms = [] ∧ t.hb = {}) ∧
   (∀ (r : Fin 28) (s : State), (s.dev.on = false ∨ ¬ (r = 0 ∨ r = 1 ∨ r = 2 ∨ r = 3 ∨ r = 6)) →
     exec (.internalReset r) s = .next s) ∧
   (∀ s : State, (s.dev.mode ≠ mRamp ∨ s.dev.sec.resetHeld = true ∨
       ({ s.dev with pin := { s.dev.pin with resetN := true } } : Dev).rampDone = false) →
     Does .resetNRise s { s.dev with pin := { s.dev.pin with resetN := true } }) ∧
   (∀ s : State, s.dev.mode = mRamp → s.dev.sec.resetHeld = false →
     ({ s.dev with pin := { s.dev.pin with resetN := true } } : Dev).rampDone = true → lcCode s.dev.sec.lcCopies = 0 →
     Yields .resetNRise s (fun t => t.dev.mode = mDormant ∧ t.dev.gf F.GBL_MODE_CAUSE = 0x0A ∧
         t.dev.gf F.SEC_LCS_STATE = 0))) ∧
  ((∀ (level : Bool) (s : State), (s.dev.mode ≠ mDeep ∨ level = false ∨ s.dev.pin.holdN = true) →
     Does (.holdNChange level) s { s.dev with pin := { s.dev.pin with holdN := level } }) ∧
   (∀ (x : Sleep) (s : State), s.dev.mode = mDeep → s.dev.gov.sleep = some x → x.waking = false →
       s.dev.pin.holdN = false →
     Does (.holdNChange true) s { s.dev with
       pin := { s.dev.pin with holdN := true }
       gov := { s.dev.gov with sleep := some { x with waking := true, next := 20 } } }) ∧
   (∀ (x : Sleep) (s : State), s.dev.mode = mDeep → s.dev.gov.sleep = some x → x.waking = false →
     Does .holdNWakeEdge s { s.dev with
       pin := { s.dev.pin with holdN := true }
       gov := { s.dev.gov with sleep := some { x with waking := true, next := 20 } } }) ∧
   (∀ (x : Sleep) (s : State), s.dev.mode = mDeep → s.dev.gov.sleep = some x → x.waking = true →
     Does .holdNWakeEdge s { s.dev with pin := { s.dev.pin with holdN := true } }) ∧
   (∀ s : State, s.dev.mode ≠ mDeep → Does .holdNWakeEdge s s.dev))

/-- Writes of GBL_MODE.REQ (R29, Tables 1.6, 1.7). A request that finds one pending is ignored with a NOTICE of source
0x75 and the register's address; one that Table 1.6 does not allow is refused at once (REQ_ST 0b11); one that it
allows is pending (REQ_ST 0b01) until a governor cycle evaluates it; in Deep hold a request for Run also starts the
wake (R321). Nothing else changes. -/
def Obligations.ModeRequests : Prop :=
  (∀ (c : Instr) (s : State), c ∈ [.reqRun, .reqQuiet, .reqHold, .reqDeepHold, .reqTest] →
    s.dev.gf F.GBL_MODE_REQ_ST = 1 → Does c s (s.dev.notice 0x75 0x10)) ∧
  (∀ (c : Instr) (r : Nat) (s : State),
    (c, r) ∈ [(.reqRun, 5), (.reqQuiet, 6), (.reqHold, 7), (.reqDeepHold, 8), (.reqTest, 10)] →
    s.dev.on = true → s.dev.gf F.GBL_MODE_REQ_ST ≠ 1 → s.dev.requestOk r = false →
    Does c s ({ s.dev with gov := { s.dev.gov with pend := 0 } }.sf F.GBL_MODE_REQ_ST 0 0 3)) ∧
  (∀ (c : Instr) (r : Nat) (s : State),
    (c, r) ∈ [(.reqRun, 5), (.reqQuiet, 6), (.reqHold, 7), (.reqDeepHold, 8), (.reqTest, 10)] →
    s.dev.on = true → s.dev.mode ≠ mDeep → s.dev.gf F.GBL_MODE_REQ_ST ≠ 1 → s.dev.requestOk r = true →
    Does c s ({ s.dev with gov := { s.dev.gov with pend := r } }.sf F.GBL_MODE_REQ_ST 0 0 1)) ∧
  (∀ s : State, s.dev.mode = mDeep → s.dev.gf F.GBL_MODE_REQ_ST ≠ 1 →
    Does .reqRun s ({ s.dev with gov := { s.dev.gov with pend := 5 } }.sf F.GBL_MODE_REQ_ST 0 0 1).deepWake) ∧
  (∀ d : Dev, (d.requestOk 5 = true ↔ d.mode = mDeep ∨ ((d.mode = mQuiet ∨ d.mode = mHold) ∧ d.pin.holdN = true ∧
      d.tMax < d.tjCrit ∧ d.level ≠ 5)) ∧
    (d.requestOk 6 = true ↔ d.mode = mRun) ∧ (d.requestOk 7 = true ↔ d.mode = mRun ∨ d.mode = mQuiet) ∧
    (d.requestOk 8 = true ↔ (d.mode = mRun ∨ d.mode = mQuiet ∨ d.mode = mHold) ∧ d.swapActive = false) ∧
    (d.requestOk 10 = true ↔ (d.mode = mRun ∨ d.mode = mDormant) ∧ d.lcState = 2 ∧ d.gf F.SEC_DBG_LEVEL = 3))

/-- The governor cycle (R29, R31, R298, R307, R321). In Off, Supply ramp and Deep hold, up to the wake that restores
the governor, it does nothing but let device time pass. In Run with no handshake under way and nothing sampled, it
goes to Hold: with CAUSE 0x0D if HOLD_N is low, with CAUSE 0x0F if the hottest sensor is at TJ_CRIT; a request pending
meanwhile is refused. The AVSBus (R308 to R310), with no sleep handshake under way. A voltage write that is
acknowledged is followed by reads of status and voltage in turn; VDone with a voltage near the target confirms the
voltage: AVS_BUSY and AVS_FAIL fall, and VCC_SET, or the VCC_SRAM held, becomes the target. A first CRC error is
remembered and the frame repeated; a second one, or TO cycles of 10 µs without success, end the exchange: AVS_BUSY
falls, AVS_FAIL rises, a FAULT of source 0x22, and the voltages stand. Before TO nothing changes, nor does a frame
that was not asked for change anything. A current read that was asked for is shown; a CRC error repeats it once, and
then the last value stands. -/
def Obligations.GovernorCycleAndAvs : Prop :=
  ((∀ (dt : Nat) (temps : List (Fin 72 × SensorReading)) (acts : List (Fin 64 × BitVec 16)) (s : State),
     (s.dev.mode = mOff ∨ s.dev.mode = mRamp ∨ (s.dev.mode = mDeep ∧
       ∀ x, s.dev.gov.sleep = some x → x.waking = false ∨ x.next = 20)) →
           Does (.governorCycle dt temps acts) s (s.dev.tick dt)) ∧
   (∀ (dt : Nat) (acts : List (Fin 64 × BitVec 16)) (s : State), s.dev.mode = mRun → s.dev.gov.sleep = none →
     s.dev.pin.holdN = false →
     Yields (.governorCycle dt [] acts) s (fun t => t.dev.mode = mHold ∧ t.dev.gf F.GBL_MODE_CAUSE = 0x0D ∧
       t.dev.gf F.GBL_MODE_PREV = mRun ∧ (s.dev.gov.pend ≠ 0 → t.dev.gf F.GBL_MODE_REQ_ST = 3) ∧
           t.dev.gov.pend = 0)) ∧
   (∀ (dt : Nat) (acts : List (Fin 64 × BitVec 16)) (s : State), s.dev.mode = mRun → s.dev.gov.sleep = none →
     s.dev.pin.holdN = true → s.dev.tjCrit ≤ s.dev.tMax →
     Yields (.governorCycle dt [] acts) s (fun t => t.dev.mode = mHold ∧ t.dev.gf F.GBL_MODE_CAUSE = 0x0F ∧
       t.dev.gf F.GBL_MODE_PREV = mRun ∧ t.dev.gb F.GOV_STAT_TCRIT = true))) ∧
  ((∀ (f : AvsFrame) (v : BitVec 16) (w : AvsWork) (s : State), s.dev.gov.avs = some w → s.dev.gov.sleep = none →
     w.written = true →
     (f = .status true ∧ w.voltage = false ∧ w.near = true) ∨ (f = .voltage v ∧ w.voltage = true ∧ w.done = true ∧
       w.target ≤ v.toNat + s.dev.gf F.GOV_AVS_TOL ∧ v.toNat ≤ w.target + s.dev.gf F.GOV_AVS_TOL) →
     let d := (s.dev.sf F.GOV_STAT_AVS_BUSY 0 0 0).sf F.GOV_STAT_AVS_FAIL 0 0 0
     Does (.avsResponse f true) s (if w.rail = 0 then
         { d with gov := { s.dev.gov with avs := none, raiseFails := 0, capped := false } }.sf F.GOV_STAT_VCC_SET 0 0
             w.target
       else { d with gov := { s.dev.gov with avs := none, vccSram := w.target, sramFails := 0 } })) ∧
   (∀ (f : AvsFrame) (w : AvsWork) (s : State), s.dev.gov.avs = some w → w.crcErr = false →
     Does (.avsResponse f false) s { s.dev with gov := { s.dev.gov with avs := some { w with crcErr := true } } }) ∧
   (∀ (c : Instr) (f : AvsFrame) (w : AvsWork) (s : State), s.dev.gov.avs = some w → s.dev.gov.sleep = none →
     (c = .avsResponse f false ∧ w.crcErr = true) ∨ (c = .avsExchangeTimeout ∧ s.dev.gf F.GOV_AVS_TO ≤ w.cycles) →
     Yields c s (fun t => t.dev.gov.avs = none ∧ t.dev.gf F.GOV_STAT_AVS_BUSY = 0 ∧ t.dev.gf F.GOV_STAT_AVS_FAIL = 1 ∧
       t.dev.gf F.GOV_STAT_VCC_SET = s.dev.gf F.GOV_STAT_VCC_SET ∧ t.dev.gov.vccSram = s.dev.gov.vccSram ∧
       (s.dev.gov.capped = true ∨ (w.rail = 0 ∧ w.raise = true ∧ 2 ≤ s.dev.gov.raiseFails) →
           t.dev.gov.capped = true))) ∧
   (∀ (w : AvsWork) (s : State), s.dev.gov.avs = some w → w.written = false →
     Does (.avsResponse .writeAck true) s
       { s.dev with gov := { s.dev.gov with avs := some { w with crcErr := false, written := true } } }) ∧
   (∀ (done : Bool) (v : BitVec 16) (w : AvsWork) (s : State), s.dev.gov.avs = some w → w.written = true →
     let near := decide (w.target ≤ v.toNat + s.dev.gf F.GOV_AVS_TOL ∧ v.toNat ≤ w.target + s.dev.gf F.GOV_AVS_TOL)
     (w.voltage = false → (done && w.near) = false → Does (.avsResponse (.status done) true) s { s.dev with
       gov := { s.dev.gov with avs := some { w with crcErr := false, done := done, voltage := true } } }) ∧
     (w.voltage = true → (w.done && near) = false → Does (.avsResponse (.voltage v) true) s { s.dev with
       gov := { s.dev.gov with avs := some { w with crcErr := false, near := near, voltage := false } } })) ∧
   (∀ (k : Fin 2) (i : BitVec 16) (l : List Nat) (s : State), s.dev.gov.avs = none → s.dev.gov.asks = k.val :: l →
     let f := if k = 0 then AvsFrame.currentVcc i else .currentSram i
     let d := { s.dev with gov := { s.dev.gov with asks := l, askErr := false } }
     Does (.avsResponse f true) s
       (d.sf (if k = 0 then F.GOV_AVS_STAT_I_VCC else F.GOV_AVS_STAT_I_SRAM) 0 0 i.toNat) ∧
     Does (.avsResponse f false) s (if s.dev.gov.askErr = true then d
       else { s.dev with gov := { s.dev.gov with askErr := true } })) ∧
   (∀ (f : AvsFrame) (crcOk : Bool) (s : State), s.dev.gov.avs = none → s.dev.gov.asks = [] →
     Does (.avsResponse f crcOk) s s.dev) ∧
   (∀ s : State, (s.dev.gov.avs = none ∨ ∃ w, s.dev.gov.avs = some w ∧ w.cycles < s.dev.gf F.GOV_AVS_TO) →
     Does .avsExchangeTimeout s s.dev))

/-- Writes of a ticket's STATE (R313) while the governor is awake. A ticket FREE, DONE, EXPIRED or FAILED becomes
PENDING, and EXPIRED at once with a NOTICE where its deadline has passed; one not RUNNING becomes FREE; a RUNNING user
job becomes DONE. The STATE it has changes nothing; another write of a new STATE is a reserved encoding (R11): the old
value stands and a NOTICE of source 0x75 names the register. Asleep (R324), nothing changes. The end of a RUNNING
ticket's work (R311, Table 14.5), by KIND: it is DONE, or FAILED with a NOTICE of source 0x27 naming the ticket, once
a shadow load has ended (by its RESULT), a Larder test pass or a scrub pass is over (by whether the pass counter has
advanced, or stands at its end), a channel's training has ended (by its RESULT), or a renewal pass is over (by whether
a block failed); a channel that came back from going offline, untrained, has failed. Until then, for a user job, and
for a ticket not RUNNING, nothing changes. -/
def Obligations.Tickets : Prop :=
  ((∀ (n : Fin 256) (s : State), s.dev.govAsleep = false →
     (s.dev.tkState n = tkFree ∨ s.dev.tkState n = tkDone ∨ s.dev.tkState n = tkExpired ∨
         s.dev.tkState n = tkFailed) →
     let dl := s.dev.gf F.GOV_TKT_W3_DEADLINE n
     let d := s.dev.sf F.GOV_TKT_W0_STATE n 0 tkPending
     Does (.ticketStateWrite n 1) s (if dl ≠ 0 ∧ dl ≤ s.dev.now / 2 ^ 20 % 2 ^ 32 then
       (d.sf F.GOV_TKT_W0_STATE n 0 tkExpired).noticeFree 0x25 else d)) ∧
   (∀ (n : Fin 256) (s : State), s.dev.govAsleep = false → s.dev.tkState n ≠ tkFree → s.dev.tkState n ≠ tkRunning →
     Does (.ticketStateWrite n 0) s (s.dev.sf F.GOV_TKT_W0_STATE n 0 tkFree)) ∧
   (∀ (n : Fin 256) (s : State), s.dev.govAsleep = false → s.dev.tkState n = tkRunning → s.dev.tkKind n = 5 →
     Yields (.ticketStateWrite n 3) s (fun t => t.dev.tkState n = tkDone ∧ t.dev.mode = s.dev.mode)) ∧
   (∀ (n : Fin 256) (st : BitVec 3) (s : State), s.dev.govAsleep = false → s.dev.tkState n ≠ st.toNat →
     (2 = st.toNat ∨ 3 < st.toNat ∨ (s.dev.tkState n = tkRunning ∧ st ≠ 3) ∨ (s.dev.tkState n = tkRunning ∧
         s.dev.tkKind n ≠ 5) ∨
       (s.dev.tkState n ≠ tkRunning ∧ st = 3) ∨ (s.dev.tkState n = tkSuspended ∧ st = 1) ∨ (s.dev.tkState n = 7 ∧
           st = 1)) →
     Does (.ticketStateWrite n st) s (s.dev.notice 0x75 (0x41000 + 16 * n))) ∧
   (∀ (n : Fin 256) (st : BitVec 3) (s : State), (s.dev.govAsleep = true ∨ s.dev.tkState n = st.toNat) →
     Does (.ticketStateWrite n st) s s.dev)) ∧
  ((∀ (n : Fin 256) (s : State), s.dev.tkState n ≠ tkRunning → Does (.ticketWorkEnd n) s s.dev) ∧
   (∀ (n : Fin 256) (s : State), s.dev.tkState n = tkRunning →
     let x := s.dev.tkTarget n
     let ends := fun (ok : Bool) => Does (.ticketWorkEnd n) s (if ok then (s.dev.sf F.GOV_TKT_W0_STATE n 0
         tkDone).setWork n 0
       else ((s.dev.sf F.GOV_TKT_W0_STATE n 0 tkFailed).setWork n 0).notice 0x27 n)
     let goesOn := Does (.ticketWorkEnd n) s s.dev
     let loading := (s.dev.room x).load.isSome || s.dev.sh x == shLoading || s.dev.sh x == shChecking
     let moved := fun (p : Nat) => p != s.dev.workOf n || p == 0xFFFF
     let busy := s.dev.dramState x == drTraining || s.dev.dramState x == drResync || (s.dev.dram x).offPending
     (s.dev.tkKind n = 0 → if loading then goesOn else ends (s.dev.gf F.ROOM_LOAD_STAT_RESULT x == 0)) ∧
     (s.dev.tkKind n = 1 → if s.dev.gb F.LAR_TEST_STAT_IN_PASS then goesOn else ends (moved (s.dev.gf
         F.LAR_TEST_CNT_PASSES))) ∧
     (s.dev.tkKind n = 2 → if s.dev.gb F.ROOM_SCRUB_STAT_RUNNING x then goesOn
       else ends (moved (s.dev.gf F.ROOM_SCRUB_STAT_PASSES x))) ∧
     (s.dev.tkKind n = 3 → if busy then goesOn
       else if s.dev.workOf n = 1 then ends (s.dev.gf F.DRC_STAT_RESULT x == 0)
       else if s.dev.dramState x = drOffline ∨ s.dev.dramState x = drUntrained then goesOn else ends false) ∧
     (s.dev.tkKind n = 4 → if s.dev.gb F.CFG_RENEW_ACTIVE then goesOn else ends (!s.dev.cfg.renewFailed)) ∧
     (5 ≤ s.dev.tkKind n → goesOn)))

/-- QUIESCE_ANSWER, QUIESCE_TIMEOUT and QUIESCE_DELAY_EXPIRY (R314, R317, R319), for a room out of reset. An answer
counts only of a room that is asked, and no code but three is one. AGREE to a park starts the drain: PSTATE 0b01, the
clamps engaged, no other room changed; where a swap is armed or under way the drain waits for it. DELAY within
DELAY_MAX is counted, and the room asked again when the delay is over, or, with AUTO_AGREE, answered AGREE for. A room
outside a handshake that refuses, delays beyond DELAY_MAX or does not answer keeps running and is marked as having
refused, but one that FORCE_PARK reaches is parked with a FAULT of source 0x26; in a handshake AGREE is remembered
until all rooms have agreed, and the others end the attempt with REFUSED_BY naming the room and the reason. QP_DONE
(R314, R317): every RUNNING user-job ticket of a room out of reset is DONE; without one, and for a room in reset,
nothing changes. -/
def Obligations.QuiesceAndJobs : Prop :=
  ((∀ (n : Fin 64) (ans : BitVec 2) (qpN : BitVec 8) (s : State),
     ((s.dev.room n).quiesce.asked = false → Does (.quiesceAnswer n ans qpN) s s.dev ∧
         Does (.quiesceTimeout n) s s.dev) ∧
     ((s.dev.room n).gsr = true → Does (.quiesceAnswer n ans qpN) s s.dev) ∧ Does (.quiesceAnswer n 0 qpN) s s.dev) ∧
   (∀ (n : Fin 64) (qpN : BitVec 8) (s : State), (s.dev.room n).quiesce.asked = true → (s.dev.room n).gsr = false →
     (s.dev.room n).quiesce.purpose = 0 →
     Yields (.quiesceAnswer n 1 qpN) s (fun t => t.dev.gf F.GOV_ROOM_PSTATE n = 1 ∧
       (t.dev.room n).gsr = false ∧ (t.dev.room n).quiesce.asked = false ∧
       (if s.dev.sh n = shArmed ∨ s.dev.sh n = shSwapping then (t.dev.room n).stage = (s.dev.room n).stage
        else (t.dev.room n).stage = .parkDrain ∧ (t.dev.room n).clamps = true) ∧
       ∀ m : Fin 64, m ≠ n → t.dev.room m = s.dev.room m ∧ t.dev.gf F.GOV_ROOM_PSTATE m =
           s.dev.gf F.GOV_ROOM_PSTATE m)) ∧
   (∀ (n m : Fin 64) (qpN : BitVec 8) (s : State), (s.dev.room n).quiesce.asked = true → (s.dev.room n).gsr = false →
     (s.dev.room n).quiesce.purpose = 1 → m ≠ n → s.dev.gf F.GOV_ROOM_PSTATE m = 0 →
         (s.dev.room m).quiesce.agreed = false →
     Does (.quiesceAnswer n 1 qpN) s (s.dev.onRoom n (fun r => { r with quiesce := { r.quiesce with
       asked := false, delayed := false, agreed := true } }))) ∧
   (∀ (n : Fin 64) (qpN : BitVec 8) (s : State), (s.dev.room n).quiesce.asked = true → (s.dev.room n).gsr = false →
     (s.dev.room n).quiesce.delays < s.dev.gf F.GOV_SLEEP_DELAY_MAX →
     Does (.quiesceAnswer n 2 qpN) s (s.dev.onRoom n (fun r => { r with quiesce := { r.quiesce with
       asked := false, delayed := true, delays := r.quiesce.delays + 1 } }))) ∧
   (∀ (n : Fin 64) (s : State), (s.dev.room n).quiesce.delayed = true →
     (s.dev.gb F.GOV_ROOM_AUTO_AGREE n = false →
       Does (.quiesceDelayExpiry n) s (s.dev.onRoom n (fun r => { r with quiesce := { r.quiesce with
         asked := true, delayed := false } }))) ∧
     (s.dev.gb F.GOV_ROOM_AUTO_AGREE n = true → (s.dev.room n).quiesce.purpose = 0 →
       Yields (.quiesceDelayExpiry n) s (fun t => t.dev.gf F.GOV_ROOM_PSTATE n = 1 ∧
           (t.dev.room n).quiesce.asked = false ∧
         (t.dev.room n).quiesce.delayed = false))) ∧
   (∀ (n : Fin 64) (s : State), (s.dev.room n).quiesce.delayed = false → Does (.quiesceDelayExpiry n) s s.dev) ∧
   (∀ (n : Fin 64) (c : Instr) (code : Nat) (qpN : BitVec 8) (s : State), (s.dev.room n).quiesce.asked = true →
     (s.dev.room n).gsr = false →
     (c = .quiesceAnswer n 3 qpN ∧ code = 1) ∨ (c = .quiesceAnswer n 2 qpN ∧ code = 2 ∧
       s.dev.gf F.GOV_SLEEP_DELAY_MAX ≤ (s.dev.room n).quiesce.delays) ∨ (c = .quiesceTimeout n ∧ code = 3) →
     let forced := s.dev.gf F.GOV_ROOM_CLASS n = clJob ∧ (s.dev.mode = mQuiet ∨ 3 ≤ s.dev.gf F.GOV_STAT_LEVEL) ∧
       s.dev.gb F.GOV_ROOM_FORCE_PARK n = true
     ((s.dev.room n).quiesce.purpose = 0 → ¬ forced → Does c s (s.dev.onRoom n (fun r => { r with
       quiesce := { r.quiesce with asked := false, delayed := false, refused := true } }))) ∧
     ((s.dev.room n).quiesce.purpose = 0 → forced → Yields c s (fun t => t.dev.gf F.GOV_ROOM_PSTATE n = 1 ∧
       (t.dev.room n).quiesce.asked = false ∧
       t.dev.gf F.ERR_CNT_COUNT 0x26 = min (s.dev.gf F.ERR_CNT_COUNT 0x26 + 1) (2 ^ F.ERR_CNT_COUNT.width - 1))) ∧
     ((s.dev.room n).quiesce.purpose = 1 → Yields c s (fun t => t.dev.gf F.GOV_SLEEP_STAT_RVALID = 1 ∧
       t.dev.gf F.GOV_SLEEP_STAT_RKIND = 0 ∧ t.dev.gf F.GOV_SLEEP_STAT_RCODE = code ∧
       t.dev.gf F.GOV_SLEEP_STAT_RINDEX = n)))) ∧
  ((∀ (n : Fin 64) (u : Nat) (s : State), (s.dev.room n).gsr = false → u ∈ s.dev.jobsOf n →
     Yields (.qpDone n) s (fun t => t.dev.tkState u = tkDone)) ∧
   (∀ (n : Fin 64) (s : State), ((s.dev.room n).gsr = true ∨ s.dev.jobsOf n = []) → Does (.qpDone n) s s.dev))

/-- Parking a room (R315, Table 14.7): the end of the drain, or its timeout, asserts the GSR over it and changes no
other room; the end of the save keeps its keep registers and its multiplier, stops its clock, and PSTATE reads 0b10;
where its class, as last written, is then MUST or ELASTIC in a mode that runs rooms, with no handshake attempt under
way, it is woken at once (PSTATE 0b11). Each does nothing in another stage. -/
def Obligations.ParkingARoom : Prop :=
  (∀ (n : Fin 64) (timedOut : Bool) (s : State), (s.dev.room n).stage = .parkDrain →
    (s.dev.drained n = true ∨ timedOut = true) →
    Yields (.parkDrainEnd n timedOut) s (fun t => (t.dev.room n).gsr = true ∧ (t.dev.room n).clamps = true ∧
      (t.dev.room n).down = true ∧ (t.dev.room n).stage = .parkSave ∧ (t.dev.room n).ev0 = [] ∧
          (t.dev.room n).ev1 = [] ∧
      (∀ e : Fin 4, ((t.dev.room n).ep e).reqBuf = []) ∧ ∀ m : Fin 64, m ≠ n → t.dev.room m = s.dev.room m)) ∧
  (∀ (n : Fin 64) (timedOut : Bool) (s : State), ((s.dev.room n).stage ≠ .parkDrain ∨
    (s.dev.drained n = false ∧ timedOut = false)) → Does (.parkDrainEnd n timedOut) s s.dev) ∧
  (∀ (n : Fin 64) (s : State), (s.dev.room n).stage = .parkSave →
    let c := ((s.dev.room n).newClass.map BitVec.toNat).getD (s.dev.gf F.GOV_ROOM_CLASS n)
    Yields (.parkSaveDone n) s (fun t => t.dev.gf F.CLK_ISL_STAT_CUR n = 0 ∧ t.dev.gf F.GOV_ROOM_CLASS n = c ∧
      (t.dev.room n).saved = some ⟨s.dev.keepRegs n, s.dev.gf F.CLK_ISL_STAT_CUR n⟩ ∧
      (if s.dev.ready = true ∧ s.dev.inHandshake = false ∧ c < 2 then
        t.dev.gf F.GOV_ROOM_PSTATE n = 3 ∧ (t.dev.room n).stage = .wakeSupply
       else t.dev.gf F.GOV_ROOM_PSTATE n = 2 ∧ (t.dev.room n).stage = .idle) ∧
      (∀ k : Fin 64, t.dev.reg .KEEP n k = 0) ∧ ∀ m : Fin 64, m ≠ n → t.dev.room m = s.dev.room m)) ∧
  (∀ (n : Fin 64) (s : State), (s.dev.room n).stage ≠ .parkSave → Does (.parkSaveDone n) s s.dev)

/-- Waking a room (R316, R322, Table 14.8), alone or among those that a rollback or a wake from Deep hold restarts:
the clock stage leads to the restore, which gives back the keep registers as they were saved, or raises a FAULT of
source 0x29 with the row where they fail their check; the supply stage judges the same row first. At the end PSTATE
reads 0b00, with the class last written: the room is released where its plane is VALID in a mode that runs it, else it
stays in reset. In another stage nothing changes. A write of GOV_ROOM_n.CLASS (R316): it stores the class, and in a
ready mode with no handshake attempt it wakes a parked room whose class becomes MUST or ELASTIC; of a room that parks
or wakes it is kept until that ends (Table 14.11); asleep (R324) nothing changes. -/
def Obligations.WakingAndClass : Prop :=
  ((∀ (n : Fin 64) (saveOk : Bool) (s : State), s.dev.wakesIn n → (s.dev.room n).stage = .wakeSupply →
     Yields (.roomWakeStageDone n saveOk) s (fun t => (t.dev.room n).stage = .wakeClock ∧
       (t.dev.room n).saved = (if saveOk then (s.dev.room n).saved else none) ∧
       ∀ m : Fin 64, m ≠ n → t.dev.room m = s.dev.room m)) ∧
   (∀ (n : Fin 64) (saveOk : Bool) (s : State), s.dev.wakesIn n → (s.dev.room n).stage = .wakeClock →
     (s.dev.gb F.CLK_ISL_STAT_RUN n = false ∨ s.dev.pllFeeds (s.dev.gf F.CLK_ISL_CTRL_REF_SEL n) = false) →
     Does (.roomWakeStageDone n saveOk) s (s.dev.onRoom n (fun r => { r with stage := .wakeRestore }))) ∧
   (∀ (n : Fin 64) (saveOk : Bool) (s : State), s.dev.wakesIn n → (s.dev.room n).stage = .wakeClock →
     s.dev.gb F.CLK_ISL_STAT_RUN n = true → s.dev.pllFeeds (s.dev.gf F.CLK_ISL_CTRL_REF_SEL n) = true →
     Does (.roomWakeStageDone n saveOk) s
       ((s.dev.sf F.CLK_ISL_STAT_LOCKED n 0 1).onRoom n (fun r => { r with stage := .wakeRestore }))) ∧
   (∀ (n : Fin 64) (saveOk : Bool) (s : State), s.dev.wakesIn n → (s.dev.room n).stage = .wakeRestore →
     (saveOk = true ∨ (s.dev.room n).saved = none) →
     Yields (.roomWakeStageDone n saveOk) s (fun t => (t.dev.room n).stage = .wakeBram ∧
       ∀ k : Fin 64, t.dev.reg .KEEP n k = (((s.dev.room n).saved.map Saved.keep).getD []).getD k 0)) ∧
   (∀ (n : Fin 64) (v : Saved) (s : State), s.dev.wakesIn n → (s.dev.room n).stage = .wakeRestore →
     (s.dev.room n).saved = some v →
     Does (.roomWakeStageDone n false) s (((s.dev.onRoom n (fun r => { r with saved := none })).fault 0x29 1).onRoom n
       (fun r => { r with stage := .wakeBram }))) ∧
   (∀ (n : Fin 64) (saveOk : Bool) (s : State), (s.dev.room n).stage = .wakeBram → s.dev.gov.sleep = none →
     s.dev.gb F.ROOM_BRAM_SRC_VALID n = false →
     Yields (.roomWakeStageDone n saveOk) s (fun t => t.dev.gf F.GOV_ROOM_PSTATE n = 0 ∧ (t.dev.room n).saved = none ∧
       (t.dev.room n).stage = .idle ∧
       t.dev.gf F.GOV_ROOM_CLASS n = ((s.dev.room n).newClass.map BitVec.toNat).getD (s.dev.gf F.GOV_ROOM_CLASS n) ∧
       (s.dev.act n = actValid → s.dev.ready = true → s.dev.gb F.CLK_ISL_STAT_RUN n = true → t.dev.roomUp n = true) ∧
       (s.dev.act n ≠ actValid → (t.dev.room n).gsr = (s.dev.room n).gsr))) ∧
   (∀ (n : Fin 64) (saveOk : Bool) (s : State), s.dev.gov.sleep = none →
     (s.dev.room n).stage ∉ [.wakeSupply, .wakeClock, .wakeRestore, .wakeBram] →
         Does (.roomWakeStageDone n saveOk) s s.dev)) ∧
  ((∀ (n : Fin 64) (c : BitVec 2) (s : State), s.dev.govAsleep = false →
     let p := s.dev.gf F.GOV_ROOM_PSTATE n
     (p = 0 ∨ (p = 2 ∧ (2 ≤ c.toNat ∨ s.dev.ready = false ∨ s.dev.inHandshake = true)) →
       Does (.roomClassWrite n c) s (s.dev.sf F.GOV_ROOM_CLASS n 0 c.toNat)) ∧
     (p = 1 ∨ p = 3 → Does (.roomClassWrite n c) s (s.dev.onRoom n (fun r => { r with
       newClass := if c.toNat = s.dev.gf F.GOV_ROOM_CLASS n then none else some c })))) ∧
   (∀ (n : Fin 64) (c : BitVec 2) (s : State), s.dev.ready = true → s.dev.inHandshake = false → c.toNat < 2 →
     s.dev.gf F.GOV_ROOM_PSTATE n = 2 →
     Does (.roomClassWrite n c) s (((s.dev.sf F.GOV_ROOM_CLASS n 0 c.toNat).sf F.GOV_ROOM_PSTATE n 0 3).onRoom n
       (fun r => { r with stage := .wakeSupply, quiesce := {} }))) ∧
   (∀ (n : Fin 64) (c : BitVec 2) (s : State), s.dev.govAsleep = true → Does (.roomClassWrite n c) s s.dev))

/-- The sleep handshake (R318 to R320, Table 14.9), with a hardened participant asked. One with nothing to stop agrees
and the next is asked. The event engine with work and without FLUSH_OK refuses; else it stops, device time with it. A
quadrant under test delays; one that is not OFF is switched off. A channel in TRAINING or RESYNC, and one of DEVTYPE 0
with contents that may not be lost, refuses; one with bursts queued delays; one of DEVTYPE 1 goes into self-refresh. A
PLL in a ramp delays; one that runs, and is not the one island 99 names, is stopped; after the last, VCC goes to its
value for Deep hold. A delay is counted; a refusal, and a delay beyond DELAY_MAX, end an attempt that has stopped
nothing with REFUSED_BY naming the participant's kind, the code and its index. Where no participant is asked nothing
changes. A retry in PHASE 9 begins a new attempt, asking the rooms that are not parked; in another phase it does
nothing. -/
def Obligations.SleepHandshake : Prop :=
  (∀ (x : Sleep) (s : State), s.dev.gov.sleep = some x → x.waking = false → x.rolling = false →
    let agrees := fun (next phase : Nat) (part : Stopped) (P : Dev → Prop) => Yields .sleepParticipantAnswer s (fun t
        =>
      t.dev.gov.sleep = some { x with next := next, delays := 0, stopped := part :: x.stopped } ∧
      t.dev.gf F.GOV_SLEEP_STAT_PHASE = phase ∧ P t.dev)
    let idle := fun (next phase : Nat) => Does .sleepParticipantAnswer s ({ s.dev with gov := { s.dev.gov with
      sleep := some { x with next := next, delays := 0 } } }.sf F.GOV_SLEEP_STAT_PHASE 0 0 phase)
    let refuses := fun (kind code index : Nat) => x.stopped = [] → Yields .sleepParticipantAnswer s (fun t =>
      t.dev.gf F.GOV_SLEEP_STAT_RVALID = 1 ∧ t.dev.gf F.GOV_SLEEP_STAT_RKIND = kind ∧
      t.dev.gf F.GOV_SLEEP_STAT_RCODE = code ∧ t.dev.gf F.GOV_SLEEP_STAT_RINDEX = index ∧ t.dev.mode = s.dev.mode)
    let delays := fun (kind index : Nat) => if x.delays < s.dev.gf F.GOV_SLEEP_DELAY_MAX then
      Does .sleepParticipantAnswer s
          { s.dev with gov := { s.dev.gov with sleep := some { x with delays := x.delays + 1 } } }
      else refuses kind 2 index
    (x.next = 2 →
      (s.dev.engineBusy = true → s.dev.gb F.EVT_CTRL_FLUSH_OK = false → refuses 1 1 0) ∧
      (s.dev.engineBusy = false ∨ s.dev.gb F.EVT_CTRL_FLUSH_OK = true → agrees 3 3 .engine (fun d =>
        d.gf F.EVT_TIME_STAT_COUNTING = 0 ∧ d.gf F.EVT_TIME_STAT_TB_LOCKED = 0 ∧ d.ev.time = s.dev.ev.time))) ∧
    (∀ q : Fin 4, x.next = 3 + q →
      let tested := s.dev.gb F.LAR_TEST_STAT_BUSY = true ∧ s.dev.gf F.LAR_TEST_STAT_REGION / 4096 = q
      (tested → delays 2 q) ∧
      (¬ tested → s.dev.quadState q = 0 → idle (4 + q) (if q.val = 3 then 4 else 3)) ∧
      (¬ tested → s.dev.quadState q ≠ 0 → agrees (4 + q) (if q.val = 3 then 4 else 3) (.quad q) (fun d =>
        d.quadState q = 0 ∧ d.gf F.CLK_ISL_STAT_CUR (94 + q) = 0))) ∧
    (∀ n : Fin 4, x.next = 7 + n → s.dev.mirrorOf n = none →
      let loses := s.dev.gf F.DRC_CFG_DEVTYPE n = 0 ∧ s.dev.gb F.DRC_CFG_LOSE_OK n = false
      (s.dev.dramState n = drTraining ∨ s.dev.dramState n = drResync ∨ (s.dev.dramState n = drOnline ∧
          loses) → refuses 3 1 n) ∧
      (s.dev.dramState n = drOnline → ¬ loses → (s.dev.dram n).queue ≠ [] → delays 3 n) ∧
      (s.dev.dramState n = drOff → (s.dev.dram n).queue = [] → (s.dev.dram n).reading = [] →
          Yields .sleepParticipantAnswer s
        (fun t => t.dev.gov.sleep = some { x with next := 8 + n, delays := 0 } ∧ t.dev.dramState n = drOff)) ∧
      (s.dev.dramState n = drOnline → s.dev.gf F.DRC_CFG_DEVTYPE n = 1 → (s.dev.dram n).queue = [] →
        (s.dev.dram n).reading = [] → agrees (8 + n) (if n.val = 3 then 5 else 4) (.dram n .restore false) (fun d =>
          d.dramState n = drSelfRef ∧ (d.dram n).mem = (s.dev.dram n).mem))) ∧
    (∀ n : Fin 8, x.next = 11 + n →
      (s.dev.gb F.PLL_RAMP_CTRL_RUN n = true → delays 4 n) ∧
      (s.dev.gb F.PLL_RAMP_CTRL_RUN n = false → n ≠ 7 →
        (s.dev.gb F.PLL_CTRL_EN n = false ∨ s.dev.gf F.CLK_ISL_CTRL_REF_SEL 99 = n → idle (12 + n) 5) ∧
        (s.dev.gb F.PLL_CTRL_EN n = true → s.dev.gf F.CLK_ISL_CTRL_REF_SEL 99 ≠ n →
            agrees (12 + n) 5 (.pll n) (fun d =>
          d.gf F.PLL_STAT_LOCKED n = 0 ∧ d.gf F.PLL_CTRL_EN n = 1))) ∧
      (let goal := min 880 (720 + s.dev.gf F.GOV_VCC_MARGIN)
       n = 7 → s.dev.gb F.PLL_RAMP_CTRL_RUN n = false → s.dev.gov.avs = none → s.dev.gf F.GOV_STAT_VCC_SET ≠ goal →
        Yields .sleepParticipantAnswer s (fun t => t.dev.gf F.GOV_STAT_AVS_BUSY = 1 ∧ t.dev.mode = s.dev.mode ∧
          t.dev.gov.avs = some { rail := 0, target := goal, raise := decide (s.dev.gf F.GOV_STAT_VCC_SET < goal) }))))
              ∧
  (∀ s : State, (∀ x, s.dev.gov.sleep = some x → x.waking = true ∨ x.rolling = true ∨ x.next < 2 ∨ 19 ≤ x.next) →
    Does .sleepParticipantAnswer s s.dev) ∧
  (∀ (n : Fin 64) (s : State), s.dev.gov.sleep ≠ none → s.dev.gf F.GOV_SLEEP_STAT_PHASE = 9 →
      s.dev.needsAsk n = true →
    s.dev.gb F.GOV_ROOM_AUTO_AGREE n = false →
    Yields .sleepRetry s (fun t => t.dev.gov.attempts = s.dev.gov.attempts + 1 ∧
      t.dev.gf F.GOV_SLEEP_STAT_ATTEMPT = min (s.dev.gov.attempts + 1) 15 ∧ t.dev.gf F.GOV_SLEEP_STAT_PHASE = 1 ∧
      (t.dev.room n).quiesce.asked = true ∧ (t.dev.room n).quiesce.purpose = 1)) ∧
  (∀ s : State, (s.dev.gov.sleep = none ∨ s.dev.gf F.GOV_SLEEP_STAT_PHASE ≠ 9) → Does .sleepRetry s s.dev)

/-- The wake from Deep hold (R321, R322, R361). Its first stage restores the governor, whose counts of failed raises
begin anew, and raises VCC to what the saved room clocks need: it goes on with the PLLs where VCC and VCC_SRAM are
high enough, else an exchange starts. The PLL stage moves device time on by 125/8 ticks for each of the Attic's
cycles, rounded, and sets GAP; a stage does nothing where no wake is under way, or while what it restarts is not up.
Sensor 70 is checked in Deep hold: a valid reading outside −50 °C to 125 °C is violation V2, which a policy HALT
answers with Alarm; one within, or outside the sensor's range, is nothing, as is a check in another mode. -/
def Obligations.DeepHold : Prop :=
  (∀ (cycles : Nat) (x : Sleep) (s : State), s.dev.gov.sleep = some x → x.waking = true → x.next = 20 →
      x.restart = [] →
    x.cur = [] → s.dev.gov.avs = none →
    let need := roomIds.foldl (fun m n => max m (s.dev.roomVcc n (((s.dev.room n).saved.map Saved.cur).getD 0))) 0
    let g := { s.dev.gov with raiseFails := 0, capped := false, sramFails := 0 }
    (need ≤ s.dev.gf F.GOV_STAT_VCC_SET → s.dev.gf F.GOV_VCC_VSRAM_RUN ≤ s.dev.gov.vccSram →
      Does (.deepHoldWakeStage cycles true) s { s.dev with gov := { g with sleep := some { x with next := 11 } } }) ∧
    (s.dev.gf F.GOV_STAT_VCC_SET < need → Does (.deepHoldWakeStage cycles true) s
      ({ s.dev with gov := { g with
        sleep := some { x with next := 22 }, avs := some { rail := 0, target := need, raise := true },
            asks := [] } }.sf
          F.GOV_STAT_AVS_BUSY 0 0 1))) ∧
  (∀ (cycles : Nat) (saveOk : Bool) (x : Sleep) (s : State), s.dev.gov.sleep = some x → x.waking = true →
      x.next = 11 →
    x.restart = [] → x.cur = [] →
    Yields (.deepHoldWakeStage cycles saveOk) s (fun t => t.dev.gf F.EVT_TIME_STAT_GAP = 1 ∧
      t.dev.ev.time = s.dev.ev.time + BitVec.ofNat 64 (roundDiv (cycles * 125) 8) ∧
      t.dev.gov.sleep = some { x with next := 7 } ∧ t.dev.mode = s.dev.mode)) ∧
  (∀ (cycles : Nat) (saveOk : Bool) (s : State),
    (∀ x, s.dev.gov.sleep = some x → x.waking = false ∨ x.restart ≠ [] ∨ x.cur.all s.dev.partUp = false) →
    Does (.deepHoldWakeStage cycles saveOk) s s.dev) ∧
  (∀ (temp : Int) (s : State), s.dev.mode ≠ mDeep ∨ (-800 ≤ temp ∧ temp ≤ 2000) ∨ temp < -880 ∨ 2160 < temp →
    Does (.deepHoldSensorCheck temp) s s.dev) ∧
  (∀ (temp : Int) (s : State), s.dev.mode = mDeep → s.dev.policy 2 = 1 →
    ((-880 ≤ temp ∧ temp < -800) ∨ (2000 < temp ∧ temp ≤ 2160)) →
    Yields (.deepHoldSensorCheck temp) s (fun t => t.dev.mode = mAlarm ∧ t.dev.gf F.GBL_MODE_CAUSE = 0x12 ∧
      t.dev.gf F.GBL_MODE_PREV = mDeep))

/-- HEADER_DONE and CLOCK_LOCK_WAIT_END (R108, R111, R117, R121). A refused header is logged and Fallback load is
entered (or gone on with) with CAUSE 0x07 and the next slot of the boot order, every room in reset; with no slot left
the device is Dormant with CAUSE 0x09 and STATE EXHAUSTED. A good one, in Cellar load or Fallback load, starts LOAD:
every room in reset with the load of its 3,024 records under way. The end of the clock wait, with no island unlocked
and no entry in the IO and CONTROL sections, starts HEADER of the first slot. Outside their states the commands do
nothing. HASH_DONE and SIGN_DONE (R112, R120): with every digest and ROOT right the check goes on with the signature;
a wrong one in Production refuses the image: Fallback load with CAUSE 0x07. A good signature before the release sets
VERIFIED and releases the image into Run, or Hold while HOLD_N is low, with CAUSE 0x06; after a release it sets
VERIFIED and STATE RUNNING and the mode stands. -/
def Obligations.ImageHeaderAndChecks : Prop :=
  ((∀ (k : Nat) (l : List Nat) (s : State), s.dev.loadState = stHeader →
     (s.dev.mode = mLoad ∨ s.dev.mode = mFallback) → s.dev.cfg.order = k :: l →
         s.dev.slotHeaderRefusal (slotBase s.dev.cfg.slot) ≠ 0 →
     Yields .headerDone s (fun t => t.dev.mode = mFallback ∧ t.dev.gf F.GBL_MODE_CAUSE = 7 ∧
         t.dev.loadState = stHeader ∧
       t.dev.cfg.slot = k ∧ t.dev.cfg.order = l ∧ ∀ n : Fin 64, (t.dev.room n).gsr = true ∧
           (t.dev.room n).load = none)) ∧
   (∀ s : State, s.dev.loadState = stHeader → (s.dev.mode = mLoad ∨ s.dev.mode = mFallback) → s.dev.cfg.order = [] →
     s.dev.slotHeaderRefusal (slotBase s.dev.cfg.slot) ≠ 0 →
     Yields .headerDone s (fun t => t.dev.mode = mDormant ∧ t.dev.gf F.GBL_MODE_CAUSE = 9 ∧
         t.dev.loadState = stExhausted ∧
       ∀ n : Fin 64, (t.dev.room n).gsr = true)) ∧
   (∀ s : State, s.dev.loadState = stHeader → (s.dev.mode = mLoad ∨ s.dev.mode = mFallback) →
       s.dev.cfg.sectionsDone = true →
     s.dev.slotHeaderRefusal (slotBase s.dev.cfg.slot) = 0 →
     Yields .headerDone s (fun t => t.dev.loadState = stLoad ∧ t.dev.mode = s.dev.mode ∧
       ∀ n : Fin 64, (t.dev.room n).gsr = true ∧ t.dev.act n = actDown ∧ t.dev.sh n = shEmpty ∧
         ∃ l, (t.dev.room n).load = some l ∧ l.active = true ∧ l.pos = 0 ∧ l.total = 3024 ∧
           l.image = slotBase s.dev.cfg.slot)) ∧
   (∀ s : State, s.dev.loadState ≠ stHeader ∨ (s.dev.mode ≠ mLoad ∧ s.dev.mode ≠ mFallback) →
     Does .headerDone s s.dev) ∧
   (∀ (k : Nat) (l : List Nat) (s : State), s.dev.loadState = stSettings → s.dev.cfg.clockWait = true →
       s.dev.mode = mLoad →
     s.dev.unlockedIslands = [] → s.dev.sectionList .io = [] → s.dev.sectionList .control = [] →
         s.dev.cfg.order = k :: l →
     Does .clockLockWaitEnd s ({ s.dev with cfg := { s.dev.cfg with clockWait := false, slot := k, order := l } }.sf
       F.CFG_STATUS_STATE 0 0 stHeader)) ∧
   (∀ s : State, s.dev.loadState ≠ stSettings → Does .clockLockWaitEnd s s.dev)) ∧
  ((∀ s : State, s.dev.loadState = stHash → s.dev.mode = mVerify → s.dev.badDigests (slotBase s.dev.cfg.slot) = [] →
     s.dev.rootOk (slotBase s.dev.cfg.slot) = true →
     Does .hashDone s ({ s.dev with cfg := { s.dev.cfg with hashBad := false } }.sf F.CFG_STATUS_STATE 0 0 stSign)) ∧
   (∀ (k : Nat) (l : List Nat) (s : State), s.dev.loadState = stHash → s.dev.mode = mVerify → s.dev.lcState = 4 →
     s.dev.cfg.order = k :: l → s.dev.rootOk (slotBase s.dev.cfg.slot) = false →
     Yields .hashDone s (fun t => t.dev.mode = mFallback ∧ t.dev.gf F.GBL_MODE_CAUSE = 7 ∧ t.dev.cfg.slot = k ∧
       t.dev.loadState = stHeader)) ∧
   (∀ s : State, s.dev.loadState = stSign → s.dev.mode = mVerify → s.dev.imageSigOk (slotBase s.dev.cfg.slot) = true →
     s.dev.tagOk (slotBase s.dev.cfg.slot) = true → s.dev.cfg.hashBad = false → s.dev.lcState ≠ 8 →
     Yields .signDone s (fun t => t.dev.loadState = stRunning ∧ t.dev.gf F.CFG_STATUS_VERIFIED = 1 ∧
       t.dev.mode = (if s.dev.pin.holdN then mRun else mHold) ∧ t.dev.gf F.GBL_MODE_CAUSE = 6)) ∧
   (∀ s : State, s.dev.loadState = stSignAfter → s.dev.ready = true → s.dev.imageSigOk (slotBase s.dev.cfg.slot) =
       true →
     s.dev.tagOk (slotBase s.dev.cfg.slot) = true → s.dev.cfg.hashBad = false → s.dev.lcState ≠ 8 →
     Yields .signDone s (fun t => t.dev.loadState = stRunning ∧ t.dev.gf F.CFG_STATUS_VERIFIED = 1 ∧
       t.dev.mode = s.dev.mode ∧ t.nch = s.nch)) ∧
   (∀ s : State, s.dev.loadState = stRunning → Does .hashDone s s.dev ∧ Does .signDone s s.dev))

/-- FRAME_CHECK (R94, R115, R119, R133, R134). The next record of a load, with the address and CRC it must have, is
committed to the plane being loaded: a logic frame that passes the single-driver guard with its drivers, a block RAM
frame of an active load to the room's block RAM, the settings frame as its write list; nothing else but the load's
position changes, and after the last record of a room load the plane is CHECKING. A record of a room load with a wrong
address or CRC, or one that the guard refuses, ends it: the shadow plane is INVALID or the active plane DOWN, the load
ends REFUSED by the source, and the frames of both planes stand. Without a load nothing changes. -/
def Obligations.FrameChecks : Prop :=
  (∀ (n : Fin 64) (disturbed : Fin 3) (l : Load) (p : BitVec 2048) (s : State),
    (s.dev.room n).load = some l → l.pos < l.total →
    let h := s.dev.header l.image
    let a := l.records + 264 * l.pos
    let addr := frameAddr (!l.full && hdrKind h == 2) n l.pos
    s.dev.recordCheck h (recNumber l.image a) a addr disturbed = .ok p →
    let goes := fun d : Dev =>
      let d' := d.onRoom n (fun r => { r with load := some { l with pos := l.pos + 1 } })
      (l.pos + 1 < l.total → Does (.frameCheck n disturbed) s d') ∧
      (l.total ≤ l.pos + 1 → l.full = false → Does (.frameCheck n disturbed) s (if l.active then
        d'.sf F.ROOM_PLANE_STAT_ACT_STATE n 0 actChecking else d'.sf F.ROOM_PLANE_STAT_SH_STATE n 0 shChecking))
    (∀ m, frameKind addr = 0 →
      guardCheck (if l.active then (s.dev.room n).act else (s.dev.room n).shd).drivers (frameIndex addr) p = .ok m →
      goes (s.dev.onPlane n l.active (fun x => x.commit (frameIndex addr) p m))) ∧
    (frameKind addr = 1 → l.active = true → goes (s.dev.commitBram n (frameIndex addr) p)) ∧
    (frameKind addr = 1 → l.active = false → goes s.dev) ∧
    (1 < frameKind addr → kind2Ok (kind2List p) = true →
      goes (s.dev.onPlane n l.active (fun x => { x with kind2 := kind2List p })))) ∧
  (∀ (n : Fin 64) (disturbed : Fin 3) (l : Load) (s : State),
    (s.dev.room n).load = some l → l.pos < l.total → l.full = false →
    let a := l.records + 264 * l.pos
    let addr := frameAddr (hdrKind (s.dev.header l.image) == 2) n l.pos
    let check := s.dev.recordCheck (s.dev.header l.image) (recNumber l.image a) a addr disturbed
    let ends := fun src : Nat => Yields (.frameCheck n disturbed) s (fun t =>
      (if l.active then t.dev.act n = actDown else t.dev.sh n = shInvalid) ∧ t.dev.gf F.ROOM_LOAD_STAT_DONE n = 1 ∧
      t.dev.gf F.ROOM_LOAD_STAT_RESULT n = rRefused ∧ t.dev.gf F.ROOM_LOAD_STAT_SOURCE n = src ∧
      (t.dev.room n).load = none ∧ (t.dev.room n).shd.frames = (s.dev.room n).shd.frames ∧
      (t.dev.room n).act.frames = (s.dev.room n).act.frames)
    (∀ src detail, check = .error (src, detail) → ends src) ∧
    (∀ p hit, check = .ok p → frameKind addr = 0 →
      guardCheck (if l.active then (s.dev.room n).act else (s.dev.room n).shd).drivers (frameIndex addr) p =
          .error hit →
      ends 5) ∧
    (∀ p, check = .ok p → 1 < frameKind addr → kind2Ok (kind2List p) = false → ends 10)) ∧
  (∀ (n : Fin 64) (disturbed : Fin 3) (s : State), ((s.dev.room n).load = none ∨
      ∃ l, (s.dev.room n).load = some l ∧ l.total ≤ l.pos) →
    Does (.frameCheck n disturbed) s s.dev)

/-- The starts of Cellar writes (R123): with CFG_STATUS.BUSY the operation is ignored, with a NOTICE of source 0x75;
at an address that is not a multiple of 256 (a program) or 65,536 it ends ALIGN, in a barred range PROTECTED, without
VPP_CEL NO_VPP, and the Cellar stands; otherwise it begins, BUSY, with the page buffer copied. The end of a Cellar
write (R103, R123, R126), with no renewal journal open. A programmed page reads as the buffer, an erased block as
0xFF, and every other byte as before; a renewal changes no byte outside the spare block, whether the block needed
rewriting or not. A program whose page was not erased, or did not take, ends VERIFY_FAIL with a FAULT of source 0x0D.
A step of a renewal under a ticket, of a block of good margin, goes on with the next block. Without an operation
nothing changes. -/
def Obligations.CellarWriteOperations : Prop :=
  ((∀ (c : Instr) (s : State), c ∈ [.cwProgramPage, .cwEraseBlock, .cwRenewBlock] →
      s.dev.gb F.CFG_STATUS_BUSY = true →
     Does c s (s.dev.notice 0x75 0x30100)) ∧
   (∀ (c : Instr) (unit : Nat) (s : State), (c, unit) ∈ [(.cwProgramPage, 256), (.cwEraseBlock, 65536),
       (.cwRenewBlock, 65536)] →
     s.dev.gb F.CFG_STATUS_BUSY = false → s.dev.gf F.CFG_CW_ADDR_ADDR % unit ≠ 0 →
     Yields c s (fun t => t.dev.gf F.CFG_CW_STAT_RESULT = cwAlign ∧ t.dev.gf F.CFG_CW_STAT_DONE = 1 ∧
         t.dev.cfg = s.dev.cfg)) ∧
   (∀ (c : Instr) (renew : Bool) (s : State), (c, renew) ∈ [(.cwProgramPage, false), (.cwEraseBlock, false),
       (.cwRenewBlock, true)] →
     s.dev.gb F.CFG_STATUS_BUSY = false → s.dev.gf F.CFG_CW_ADDR_ADDR % 65536 = 0 →
     (s.dev.cwBarred renew (s.dev.gf F.CFG_CW_ADDR_ADDR) = true ∨ s.dev.vppGood = false) →
     Yields c s (fun t => t.dev.gf F.CFG_CW_STAT_RESULT =
         (if s.dev.cwBarred renew (s.dev.gf F.CFG_CW_ADDR_ADDR) then cwProtected else cwNoVpp) ∧
       t.dev.gf F.CFG_CW_STAT_DONE = 1 ∧ t.dev.cfg = s.dev.cfg)) ∧
   (∀ s : State, s.dev.gb F.CFG_STATUS_BUSY = false → s.dev.vppGood = true →
     let a := s.dev.gf F.CFG_CW_ADDR_ADDR
     (a % 256 = 0 → s.dev.cwBarred false a = false →
       Does .cwProgramPage s ({ s.dev with cfg := { s.dev.cfg with cw := some ⟨1, a, s.dev.cwBuffer, false⟩ } }.sf
         F.CFG_STATUS_BUSY 0 0 1)) ∧
     (a % 65536 = 0 → s.dev.cwBarred false a = false →
       Does .cwEraseBlock s ({ s.dev with cfg := { s.dev.cfg with cw := some ⟨2, a, [], false⟩ } }.sf
           F.CFG_STATUS_BUSY 0 0 1)) ∧
     (a % 65536 = 0 → s.dev.cwBarred true a = false →
       Does .cwRenewBlock s ({ s.dev with cfg := { s.dev.cfg with cw := some ⟨3, a, [], false⟩ } }.sf
           F.CFG_STATUS_BUSY 0 0 1)))) ∧
  ((∀ (w : CwWork) (marginLow : Bool) (s : State), s.dev.cfg.cw = some w → w.ticket = false → w.op = 1 →
     w.page.length = 256 → w.addr % 256 = 0 → s.dev.cfg.journal = none → s.dev.pageErased w.addr = true →
     Yields (.cwOpDone true marginLow) s (fun t => t.dev.gf F.CFG_CW_STAT_RESULT = cwOk ∧
         t.dev.gb F.CFG_STATUS_BUSY = false ∧
       t.dev.cfg.cw = none ∧ ∀ a, t.dev.cellar a =
         if w.addr ≤ a ∧ a < w.addr + 256 then w.page.getD (a - w.addr) 0 else s.dev.cellar a)) ∧
   (∀ (w : CwWork) (physOk marginLow : Bool) (s : State), s.dev.cfg.cw = some w → w.ticket = false → w.op = 1 →
     (physOk = false ∨ s.dev.pageErased w.addr = false) →
     Yields (.cwOpDone physOk marginLow) s (fun t => t.dev.gf F.CFG_CW_STAT_RESULT = cwVerifyFail ∧
       t.dev.gf F.CFG_CW_STAT_DONE = 1 ∧ t.dev.gb F.CFG_STATUS_BUSY = false ∧ t.dev.cfg.cw = none)) ∧
   (∀ (w : CwWork) (physOk : Bool) (s : State), s.dev.cfg.cw = some w → w.ticket = true → 6 ≤ w.addr / 65536 →
     w.addr / 65536 < 4095 → s.dev.vppGood = true →
     let b := w.addr / 65536 + 1
     Yields (.cwOpDone physOk false) s (fun t => t.dev.gf F.CFG_STATUS_BUSY = 1 ∧ t.dev.cfg = { s.dev.cfg with
       renewPass := some b, cw := some { op := 3, addr := b * 65536, ticket := true } })) ∧
   (∀ (w : CwWork) (physOk marginLow : Bool) (s : State), s.dev.cfg.cw = some w → w.ticket = false → w.op = 2 →
     w.addr % 65536 = 0 → s.dev.cfg.journal = none →
     Yields (.cwOpDone physOk marginLow) s (fun t => t.dev.gf F.CFG_CW_STAT_RESULT = cwOk ∧ t.dev.cfg.cw = none ∧
       ∀ a, t.dev.cellar a = if w.addr ≤ a ∧ a < w.addr + 65536 then 0xFF else s.dev.cellar a)) ∧
   (∀ (w : CwWork) (physOk marginLow : Bool) (s : State), s.dev.cfg.cw = some w → w.ticket = false → w.op = 3 →
     w.addr % 65536 = 0 → w.addr ≠ 0x40000 → s.dev.cfg.journal = none →
     Yields (.cwOpDone physOk marginLow) s (fun t => t.dev.gf F.CFG_CW_STAT_RESULT = cwOk ∧ t.dev.cfg.cw = none ∧
       t.dev.cfg.journal = none ∧ ∀ a, (a < 0x40000 ∨ 0x50000 ≤ a) → t.dev.cellar a = s.dev.cellar a)) ∧
   (∀ (physOk marginLow : Bool) (s : State), s.dev.cfg.cw = none → Does (.cwOpDone physOk marginLow) s s.dev))

/-- LOAD_SHADOW, LOAD_ACTIVE, ABORT_LOAD and DISCARD_SHADOW (R131, R133 to R135, R152). A load of a room that is not
up ends NOT_UP, of one with an operation under way BUSY. A source that is no image ends BAD_SOURCE. From a pool block
or a slot in use, with a good header, a shadow load leaves the room running with SH_STATE LOADING; an active load puts
it into reset with ACT_STATE LOADING. An aborted load leaves the shadow plane INVALID or the active one DOWN and ends
ABANDONED; a discarded shadow is EMPTY. ROOM_LOAD_CHECK_DONE (R130, R132, R133): a load whose digest is right, and of
a pool image its other checks, ends OK, with the plane READY, or VALID and the room released; a shadow from a slot
takes the signature flag of the running image. In Production a wrong digest refuses the load by source 0x07, the first
failure of a pool image by its own source; in the other states they are reported only. Before the last record, and
without a load, nothing changes. -/
def Obligations.RoomLoadsAndChecks : Prop :=
  ((∀ (n : Fin 64) (c : Instr) (s : State), c ∈ [.loadShadow n, .loadActive n] → s.dev.roomOpsUp n = false →
     Does c s (s.dev.roomResult n rNotUp 0)) ∧
   (∀ (n : Fin 64) (c : Instr) (s : State), c ∈ [.loadShadow n, .loadActive n] → s.dev.roomOpsUp n = true →
     s.dev.roomOpBusy n = true → Does c s (s.dev.roomResult n rBusy 0)) ∧
   (∀ (n : Fin 64) (c : Instr) (s : State), c ∈ [.loadShadow n, .loadActive n] → s.dev.roomOpsUp n = true →
     s.dev.roomOpBusy n = false → (s.dev.gf F.ROOM_LOAD_SRC_SRC n = 0 ∧ 959 < s.dev.gf F.ROOM_LOAD_SRC_BLOCK n) ∨
       (s.dev.gf F.ROOM_LOAD_SRC_SRC n ≠ 0 ∧ s.dev.slotUsable (s.dev.gf F.ROOM_LOAD_SRC_SRC n) = false) →
     Does c s (s.dev.roomResult n rBadSource 0)) ∧
   (∀ (n : Fin 64) (s : State), s.dev.roomOpsUp n = true → s.dev.roomOpBusy n = false →
     let src := s.dev.gf F.ROOM_LOAD_SRC_SRC n
     (src = 0 ∧ s.dev.gf F.ROOM_LOAD_SRC_BLOCK n ≤ 959 ∨ src ≠ 0 ∧ s.dev.slotUsable src = true) →
     let base := if src = 0 then poolBase (s.dev.gf F.ROOM_LOAD_SRC_BLOCK n) else slotBase src
     s.dev.roomHeaderRefusal n src base = 0 →
     Yields (.loadShadow n) s (fun t => t.dev.sh n = shLoading ∧ (t.dev.room n).gsr = (s.dev.room n).gsr ∧
       (t.dev.room n).act = (s.dev.room n).act ∧ ∃ l, (t.dev.room n).load = some l ∧ l.active = false ∧
           l.image = base ∧
         l.pos = 0 ∧ l.full = false) ∧
     Yields (.loadActive n) s (fun t => t.dev.act n = actLoading ∧ (t.dev.room n).gsr = true ∧
       (t.dev.room n).act.drivers = [] ∧ ∃ l, (t.dev.room n).load = some l ∧ l.active = true ∧ l.image = base ∧
         l.pos = 0 ∧ l.full = false)) ∧
   (∀ (n : Fin 64) (l : Load) (s : State), (s.dev.room n).load = some l → l.full = false →
     let d := s.dev.onRoom n (fun r => { r with load := none })
     Does (.abortLoad n) s ((if l.active then d.sf F.ROOM_PLANE_STAT_ACT_STATE n 0 actDown
       else d.sf F.ROOM_PLANE_STAT_SH_STATE n 0 shInvalid).roomResult n rAbandoned 0)) ∧
   (∀ (n : Fin 64) (s : State), (∀ l, (s.dev.room n).load = some l → l.full = true) →
       Does (.abortLoad n) s (s.dev.roomResult n rOk 0)) ∧
   (∀ (n : Fin 64) (s : State), (s.dev.sh n = shReady ∨ s.dev.sh n = shInvalid) →
     Yields (.discardShadow n) s (fun t => t.dev.sh n = shEmpty ∧ (t.dev.room n).shd = {} ∧
         (t.dev.room n).act = (s.dev.room n).act ∧
       t.dev.gf F.ROOM_LOAD_STAT_RESULT n = rOk ∧ t.dev.gf F.ROOM_LOAD_STAT_DONE n = 1)) ∧
   (∀ (n : Fin 64) (s : State), (s.dev.sh n = shLoading ∨ s.dev.sh n = shArmed ∨ s.dev.sh n = shSwapping) →
     Does (.discardShadow n) s (s.dev.roomResult n rBusy 0)) ∧
   (∀ (n : Fin 64) (s : State), s.dev.sh n = shEmpty → Does (.discardShadow n) s (s.dev.roomResult n rOk 0))) ∧
  ((∀ (n : Fin 64) (l : Load) (s : State), (s.dev.room n).load = some l → l.full = false → l.active = false →
     l.total ≤ l.pos → 0x04000000 ≤ l.image →
     s.dev.roomDigest (s.dev.header l.image) l.image n = s.dev.digestEntry l.image n →
     Does (.roomLoadCheckDone n) s ((((s.dev.onRoom n (fun r => { r with load := none })).sf
         F.ROOM_PLANE_STAT_SH_STATE n 0
       shReady).sf F.ROOM_PLANE_STAT_SH_VERIFIED n 0 (b2n (s.dev.gb F.CFG_STATUS_VERIFIED))).roomResult n rOk 0)) ∧
   (∀ (n : Fin 64) (l : Load) (s : State), (s.dev.room n).load = some l → l.full = false → l.total ≤ l.pos →
     let digest := decide (s.dev.roomDigest (s.dev.header l.image) l.image n = s.dev.digestEntry l.image n)
     let ends := fun (sh act result source : Nat) (t : State) => (t.dev.room n).load = none ∧
       (if l.active then t.dev.act n = act else t.dev.sh n = sh) ∧ t.dev.gf F.ROOM_LOAD_STAT_DONE n = 1 ∧
       t.dev.gf F.ROOM_LOAD_STAT_RESULT n = result ∧ t.dev.gf F.ROOM_LOAD_STAT_SOURCE n = source
     (digest = true → (0x04000000 ≤ l.image ∨ s.dev.poolFails l.image = []) →
         Yields (.roomLoadCheckDone n) s (fun t =>
       ends shReady actValid rOk 0 t ∧ (l.active = true → s.dev.gf F.GOV_ROOM_PSTATE n = 0 →
         s.dev.gb F.CLK_ISL_STAT_RUN n = true → (t.dev.room n).gsr = false))) ∧
     (digest = false → s.dev.lcState = 4 → Yields (.roomLoadCheckDone n) s (ends shInvalid actDown rRefused 7)) ∧
     (∀ x r, digest = true → l.image < 0x04000000 → s.dev.poolFails l.image = x :: r → s.dev.lcState = 4 →
       Yields (.roomLoadCheckDone n) s (ends shInvalid actDown rRefused x.1)) ∧
     (s.dev.lcState ≠ 4 → Yields (.roomLoadCheckDone n) s (ends shReady actValid rOk 0))) ∧
   (∀ (n : Fin 64) (s : State), ((s.dev.room n).load = none ∨ ∃ l, (s.dev.room n).load = some l ∧ l.pos < l.total) →
     Does (.roomLoadCheckDone n) s s.dev))

/-- Arming and disarming a swap, and its triggers (R138, R139, R141). ARM with a READY shadow and an angle or MARK
trigger leaves the room running with SH_STATE ARMED; with the immediate trigger the swap begins: SWAPPING, the clamps
engaged, the border answering ROOM_BUSY. DISARM gives READY back; after the trigger it ends BUSY, with nothing armed
OK. The angle trigger fires on the cycle in which the angle reaches the mark, of the revolution asked for, unless the
unit stalls; a room without such a trigger sees only the cycle's time. The drain and the exchange of a swap (R141,
R144, R146): a completed drain asserts the GSR; a drain that does not end is given up with DRAIN_ABORT (the shadow
READY again, the clamps open, RESULT DRAIN_ABORT, a FAULT of source 0x68) and cut short with a NOTICE of source 0x67
without it. The exchange of a plane that keeps its block RAM swaps the planes; with ACT_STATE VALID it releases the
room, at once if its clock runs, and ends OK with HOLD_TICKS, with ACT_STATE DOWN the room stays in reset and the
former active plane is INVALID. One that brings its block RAM ends OK, or REFUSED with ACT_STATE DOWN. -/
def Obligations.SwapArmingAndExchange : Prop :=
  ((∀ (n : Fin 64) (s : State), s.dev.roomOpsUp n = true → s.dev.roomOpBusy n = false → s.dev.sh n = shReady →
     (s.dev.gf F.ROOM_SWAP_ARM_TRIG n ≠ 0 →
       Yields (.arm n) s (fun t => t.dev.sh n = shArmed ∧ (t.dev.room n).clamps = (s.dev.room n).clamps ∧
         (t.dev.room n).gsr = (s.dev.room n).gsr ∧ (t.dev.room n).arm = some {
           trig := BitVec.ofNat 2 (s.dev.gf F.ROOM_SWAP_ARM_TRIG n), unit :=
               BitVec.ofNat 2 (s.dev.gf F.ROOM_SWAP_ARM_UNIT n)
           code := BitVec.ofNat 14 (s.dev.gf F.ROOM_SWAP_ARM_CODE n), revEn := s.dev.gb F.ROOM_SWAP_AT_REV_EN n
           rev := BitVec.ofNat 14 (s.dev.gf F.ROOM_SWAP_AT_REV n), angle :=
               BitVec.ofNat 16 (s.dev.gf F.ROOM_SWAP_AT_ANGLE n)
           ahead := s.dev.markAhead (s.dev.gf F.ROOM_SWAP_ARM_UNIT n) (s.dev.gf F.ROOM_SWAP_AT_ANGLE n) })) ∧
     (s.dev.gf F.ROOM_SWAP_ARM_TRIG n = 0 →
       Yields (.arm n) s (fun t => t.dev.sh n = shSwapping ∧ (t.dev.room n).stage = .swapDrain ∧
         (t.dev.room n).clamps = true ∧ (t.dev.room n).down = false ∧ (t.dev.room n).gsr = (s.dev.room n).gsr))) ∧
   (∀ (n : Fin 64) (s : State), s.dev.roomOpsUp n = true → s.dev.roomOpBusy n = false → s.dev.sh n ≠ shReady →
     Does (.arm n) s (s.dev.roomResult n rNoShadow 0)) ∧
   (∀ (n : Fin 64) (s : State), s.dev.sh n = shArmed →
     Does (.disarm n) s (((s.dev.sf F.ROOM_PLANE_STAT_SH_STATE n 0 shReady).onRoom n
       (fun r => { r with arm := none })).roomResult n rOk 0)) ∧
   (∀ (n : Fin 64) (s : State), s.dev.sh n = shSwapping → Does (.disarm n) s (s.dev.roomResult n rBusy 0)) ∧
   (∀ (n : Fin 64) (s : State), s.dev.sh n ∈ [shEmpty, shLoading, shChecking, shReady, shInvalid] →
     Does (.disarm n) s (s.dev.roomResult n rOk 0)) ∧
   (∀ (n : Fin 64) (dt : Nat) (a : Arm) (s : State), (s.dev.room n).arm = some a → a.trig = 1 → s.dev.sh n = shArmed →
     s.dev.evOn = true → a.ahead = true →
     (a.revEn = true → ((s.dev.tick dt).pPred a.unit.toNat).toNat / 2 ^ 32 % 2 ^ 14 = a.rev.toNat) →
     (s.dev.tick dt).markAhead a.unit.toNat a.angle.toNat = false →
     (s.dev.gb F.EVT_ANG_STAT_STALL a.unit.toNat = false →
       Yields (.swapTriggerAngle n dt) s (fun t => t.dev.sh n = shSwapping ∧ (t.dev.room n).stage = .swapDrain ∧
         (t.dev.room n).clamps = true ∧ (t.dev.room n).arm = none)) ∧
     (s.dev.gb F.EVT_ANG_STAT_STALL a.unit.toNat = true →
       Yields (.swapTriggerAngle n dt) s (fun t => t.dev.sh n = shArmed ∧
           (t.dev.room n).clamps = (s.dev.room n).clamps))) ∧
   (∀ (n : Fin 64) (dt : Nat) (s : State), (∀ a, (s.dev.room n).arm = some a → a.trig ≠ 1) →
     Does (.swapTriggerAngle n dt) s (s.dev.tick dt))) ∧
  ((∀ (n : Fin 64) (s : State), (s.dev.room n).stage = .swapDrain → s.dev.drained n = true →
     Yields (.swapDrainDone n) s (fun t => (t.dev.room n).gsr = true ∧ (t.dev.room n).stage = .swapHold ∧
       (t.dev.room n).down = false ∧ ∀ m : Fin 64, m ≠ n → t.dev.room m = s.dev.room m)) ∧
   (∀ (n : Fin 64) (s : State), (s.dev.room n).stage = .swapDrain → s.dev.drained n = false →
     Does (.swapDrainDone n) s s.dev ∧
     (s.dev.gb F.ROOM_SWAP_CFG_DRAIN_ABORT n = true →
       Yields (.swapDrainTimeout n) s (fun t => t.dev.sh n = shReady ∧ (t.dev.room n).clamps = false ∧
         (t.dev.room n).stage = .idle ∧ t.dev.gf F.ROOM_LOAD_STAT_RESULT n = rDrainAbort ∧
         (t.dev.room n).gsr = (s.dev.room n).gsr)) ∧
     (s.dev.gb F.ROOM_SWAP_CFG_DRAIN_ABORT n = false →
       Yields (.swapDrainTimeout n) s (fun t => (t.dev.room n).gsr = true ∧ (t.dev.room n).stage = .swapHold))) ∧
   (∀ (n : Fin 64) (holdTicks : Nat) (s : State), (s.dev.room n).stage = .swapHold → (s.dev.room n).shd.keep = true →
     (s.dev.room n).shd.kind2 = [] → s.dev.gf F.ROOM_PLANE_STAT_SH_SRC n = 0 →
     let swapped := fun (t : State) => (t.dev.room n).act = { (s.dev.room n).shd with src := true } ∧
       (t.dev.room n).shd = { (s.dev.room n).act with src := true } ∧
       (t.dev.room n).bram = (s.dev.room n).bram ∧ t.dev.gf F.ROOM_LOAD_STAT_RESULT n = rOk
     (s.dev.act n = actValid → Yields (.swapExchange n holdTicks) s (fun t => swapped t ∧
       (if s.dev.gb F.CLK_ISL_STAT_RUN n then t.dev.roomUp n = true else (t.dev.room n).release = true) ∧
       t.dev.sh n = shReady ∧ t.dev.gf F.ROOM_LOAD_STAT_HOLD_TICKS n = min holdTicks 0xFFFF)) ∧
     (s.dev.act n = actDown → (s.dev.room n).gsr = true → Yields (.swapExchange n holdTicks) s (fun t => swapped t ∧
       (t.dev.room n).gsr = true ∧ t.dev.act n = actDown ∧ t.dev.sh n = shInvalid))) ∧
   (∀ (n : Fin 64) (holdTicks : Nat) (s : State), (s.dev.room n).stage = .swapHold → (s.dev.room n).shd.keep = false →
     Yields (.swapExchange n holdTicks) s (fun t => (t.dev.room n).stage = .idle ∧
       (t.dev.gf F.ROOM_LOAD_STAT_RESULT n = rOk ∨
         (t.dev.gf F.ROOM_LOAD_STAT_RESULT n = rRefused ∧ t.dev.act n = actDown)))) ∧
   (∀ (n : Fin 64) (holdTicks : Nat) (s : State), (s.dev.room n).stage ≠ .swapHold →
     Does (.swapExchange n holdTicks) s s.dev))

/-- SCRUB_POSITION (R148 to R150): a paused scrubber does nothing; a block RAM position, and one of a plane that
cannot be scrubbed, is skipped; after the last one PASSES counts and a new pass starts at position 0; a logic frame
that agrees with its record's CRC, upsets of its cells included and stored design data left out, keeps its cells as
they stand, and the position advances. A frame that does not agree is rewritten from its record, with a NOTICE of
source 0x0F and REPAIRED counted, where the record passes its CRC and the guard; where the record cannot be read the
repair has failed: FAILED counts and LAST_FAILED is set. -/
def Obligations.Scrubbing : Prop :=
  (∀ (n : Fin 64) (upset : BitVec 2048) (disturbed : Fin 3) (s : State), s.dev.scrubRuns n = false →
    Does (.scrubPosition n upset disturbed) s s.dev) ∧
  (∀ (n : Fin 64) (upset : BitVec 2048) (disturbed : Fin 3) (s : State), s.dev.scrubRuns n = true →
    (2304 ≤ s.dev.gf F.ROOM_SCRUB_STAT_POSITION n ∨ s.dev.scrubCovers n (s.dev.gb F.ROOM_SCRUB_STAT_PLANE n) =
        false) →
    s.dev.gf F.ROOM_SCRUB_STAT_POSITION n < 3023 → (s.dev.room n).gsr = false →
    Does (.scrubPosition n upset disturbed) s
      (s.dev.sf F.ROOM_SCRUB_STAT_POSITION n 0 (s.dev.gf F.ROOM_SCRUB_STAT_POSITION n + 1))) ∧
  (∀ (n : Fin 64) (upset : BitVec 2048) (disturbed : Fin 3) (s : State), s.dev.scrubRuns n = true →
    s.dev.gf F.ROOM_SCRUB_STAT_POSITION n = 3023 → (s.dev.room n).gsr = false →
    Yields (.scrubPosition n upset disturbed) s (fun t => t.dev.gf F.ROOM_SCRUB_STAT_POSITION n = 0 ∧
      t.dev.gf F.ROOM_SCRUB_STAT_PASSES n = (s.dev.gf F.ROOM_SCRUB_STAT_PASSES n + 1) % 65536 ∧
      t.dev.rooms = s.dev.rooms)) ∧
  (∀ (n : Fin 64) (upset : BitVec 2048) (disturbed : Fin 3) (s : State), s.dev.scrubRuns n = true →
      (s.dev.room n).gsr = false →
    s.dev.gb F.ROOM_SCRUB_STAT_PLANE n = false → s.dev.act n = actValid →
    let idx := s.dev.gf F.ROOM_SCRUB_STAT_POSITION n
    let x := s.dev.scrubSource n idx false
    let r := s.dev.record x.2.1
    let p := s.dev.plain x.1 x.2.2 r
    let mask := (s.dev.room n).act.memoryMaskOf idx p
    let cells := Map.get (fun _ => 0) (s.dev.room n).act.frames idx ^^^ upset
    idx < 2304 →
    ((frameCrc (field4 r 0) ((cells &&& ~~~mask) ||| (p &&& mask))).toNat = field4 r 260 →
      Yields (.scrubPosition n upset disturbed) s (fun t => t.dev.gf F.ROOM_SCRUB_STAT_POSITION n = idx + 1 ∧
        t.dev.gf F.ROOM_SCRUB_CNT_REPAIRED n = s.dev.gf F.ROOM_SCRUB_CNT_REPAIRED n ∧
        ∀ i, Map.get (fun _ => 0) (t.dev.room n).act.frames i =
          if i = idx then cells else Map.get (fun _ => 0) (s.dev.room n).act.frames i)) ∧
    ((frameCrc (field4 r 0) ((cells &&& ~~~mask) ||| (p &&& mask))).toNat ≠ field4 r 260 →
      (disturbed.val ≠ 2 → s.dev.canDecrypt x.1 = true → (frameCrc (field4 r 0) p).toNat = field4 r 260 →
        (∃ m, guardCheck (withoutFrame (s.dev.room n).act.drivers idx) idx p = .ok m) →
        Yields (.scrubPosition n upset disturbed) s (fun t => t.dev.gf F.ROOM_SCRUB_STAT_POSITION n = idx + 1 ∧
          t.dev.gf F.ROOM_SCRUB_LAST_FAILED n = 0 ∧ t.dev.gf F.ROOM_SCRUB_CNT_REPAIRED n =
            min (s.dev.gf F.ROOM_SCRUB_CNT_REPAIRED n + 1) (2 ^ F.ROOM_SCRUB_CNT_REPAIRED.width - 1) ∧
          Map.get (fun _ => 0) (t.dev.room n).act.frames idx = (p &&& ~~~mask) ||| (cells &&& mask))) ∧
      (disturbed.val = 2 → Yields (.scrubPosition n upset disturbed) s (fun t => t.dev.gf F.ROOM_SCRUB_LAST_FAILED n =
          1 ∧
        t.dev.gf F.ROOM_SCRUB_CNT_FAILED n =
          min (s.dev.gf F.ROOM_SCRUB_CNT_FAILED n + 1) (2 ^ F.ROOM_SCRUB_CNT_FAILED.width - 1)))))

/-- Neighbour channels, the way of a word (R70, R72, Table 3.3). A port with a peer, enabled, not refused and with a
credit, in a room that is up, takes a word: one credit fewer and the word on the wires; otherwise the word is not
taken. The oldest word on the wires is stored by a receiver that is up, enabled and not refusing, and refused with a
NACK and a count by one that is not. Taking a word sends an acknowledge, whose arrival gives the credit back. Nothing
else in the machine changes. Refused channels (R72, R73). A NACK gives one credit back, counts in REFUSED of the
sending port and puts it into the refused state; a loss token gives all four back, counts in FLUSHED, and does the
same. TX_RESYNC of a refused port whose peer is up leaves that state, and words still on the wires stay refused;
otherwise it does nothing. The crossing of an unbonded bank (R66): after the words that have crossed, a word joins the
FIFO of its direction while it holds fewer than eight, and is discarded otherwise, with the direction's overflow flag
set; the last of the words that have crossed is what the registers at the far end show: the bank's data and output
enables, or what the room sees of its pins. A bonded bank has no crossing, and nothing changes. -/
def Obligations.NeighbourChannels : Prop :=
  ((∀ (n : Fin 64) (side j : Fin 4) (data : BitVec 36) (s : State),
     let c := s.ch n side j
     let ready := (neighbour n side).isSome = true ∧ s.dev.roomUp n = true ∧ s.dev.portEn n (txPort side j) = true ∧
       s.dev.txRefused n side j = false ∧ 0 < c.credits
     (ready → exec (.nchSend n side j data) s =
       .next (s.setCh n side j { c with credits := c.credits - 1, wires := c.wires ++ [(data, false)] })) ∧
     (¬ ready → exec (.nchSend n side j data) s = .next s)) ∧
   (∀ (n m : Fin 64) (side j : Fin 4) (w : BitVec 36) (mark : Bool) (rest : List (BitVec 36 × Bool)) (s : State),
     let c := s.ch n side j
     let rx := rxPort (opposite side) j
     neighbour n side = some m.val → c.wires = (w, mark) :: rest →
     (mark = false → c.rxRefusing = false → s.dev.roomUp m = true → s.dev.portEn m rx = true → c.fifo.length < 4 →
       exec (.nchWordArrive n side j) s = .next (s.setCh n side j { c with wires := rest, fifo := c.fifo ++ [w] })) ∧
     ((mark = true ∨ c.rxRefusing = true ∨ s.dev.roomUp m = false ∨ s.dev.portEn m rx = false) →
       exec (.nchWordArrive n side j) s = .next ((s.setCh n side j { c with
         wires := rest, nacks := c.nacks + 1, rxRefusing := true }).onDev (fun d => d.cnt F.ROOM_NCH_CNT_REFUSED m
             rx)))) ∧
   (∀ (n m : Fin 64) (side j : Fin 4) (w : BitVec 36) (rest : List (BitVec 36)) (s : State),
     let c := s.ch n side j
     neighbour n side = some m.val → c.fifo = w :: rest → (s.dev.room m).gsr = false →
     exec (.nchTake n side j) s = .next (s.setCh n side j { c with fifo := rest, acks := c.acks + 1 })) ∧
   (∀ (n : Fin 64) (side j : Fin 4) (s : State),
     let c := s.ch n side j
     0 < c.acks → exec (.nchAckArrive n side j) s =
       .next (s.setCh n side j { c with acks := c.acks - 1, credits := min 4 (c.credits + 1) }))) ∧
  ((∀ (n : Fin 64) (side j : Fin 4) (s : State),
     let c := s.ch n side j
     0 < c.nacks → exec (.nchNack n side j) s = .next ((s.setCh n side j { c with
       nacks := c.nacks - 1, credits := min 4 (c.credits + 1) }).onDev (fun d =>
         (d.cnt F.ROOM_NCH_CNT_REFUSED n (txPort side j)).setTxRefused n side j true))) ∧
   (∀ (n : Fin 64) (side j : Fin 4) (s : State),
     let c := s.ch n side j
     0 < c.loss → exec (.nchLossToken n side j) s = .next ((s.setCh n side j { c with
       loss := c.loss - 1, credits := 4, rxRefusing := true }).onDev (fun d =>
         (d.cnt F.ROOM_NCH_CNT_FLUSHED n (txPort side j)).setTxRefused n side j true))) ∧
   (∀ (n m : Fin 64) (side j : Fin 4) (s : State),
     let c := s.ch n side j
     neighbour n side = some m.val → s.dev.txRefused n side j = true → (s.dev.room n).gsr = false →
     (s.dev.roomUp m = true → Yields (.txResync n side j) s (fun t => t.dev.txRefused n side j = false ∧
       t.ch n side j = { c with rxRefusing := false, wires := c.wires.map (fun w => (w.1, true)) } ∧
       t.dev.rooms = s.dev.rooms ∧ t.hb = s.hb)) ∧
     (s.dev.roomUp m = false → exec (.txResync n side j) s = .next s))) ∧
  ((∀ (b : Fin 18) (toPin : Bool) (word : BitVec 440) (drained : Nat) (s : State),
     let n := facingRoom b
     let q := fun (r : Room) => if toPin then r.crossOut else r.crossIn
     s.dev.gb F.CLK_ISL_CTRL_BOND (64 + b) = false →
     (((q (s.dev.room n)).drop drained).length < 8 → Yields (.bankCrossingWord b toPin word drained) s (fun t =>
       q (t.dev.room n) = (q (s.dev.room n)).drop drained ++ [word] ∧ t.dev.regs = s.dev.regs ∧
       (∀ w, ((q (s.dev.room n)).take drained).getLast? = some w → if toPin
         then (t.dev.room n).bankOut = w.setWidth 400 ∧ (t.dev.room n).bankOe = (w >>> 400).setWidth 40
         else (t.dev.room n).bankIn = w.setWidth 400) ∧
       ∀ m, m ≠ n → t.dev.room m = s.dev.room m)) ∧
     (8 ≤ ((q (s.dev.room n)).drop drained).length → Yields (.bankCrossingWord b toPin word drained) s (fun t =>
       q (t.dev.room n) = (q (s.dev.room n)).drop drained ∧
       t.dev.gb (if toPin then F.ROOM_BANK_OVF_OUT else F.ROOM_BANK_OVF_IN) n = true))) ∧
   (∀ (b : Fin 18) (toPin : Bool) (word : BitVec 440) (drained : Nat) (s : State),
     s.dev.gb F.CLK_ISL_CTRL_BOND (64 + b) = true → Does (.bankCrossingWord b toPin word drained) s s.dev))

/-- Corridor requests on their way (R77, R81, R83). An endpoint that may issue takes one of its free slots, toggles
its generation bit and sends the packet, and no other slot changes; one that may not issues nothing. A further payload
flit joins the packet being injected, on its way or at its attach port, which an answered packet leaves with its last
flit. A request that arrives whole at an endpoint that takes requests and has room is buffered, one of which flits are
missing waits for them; one whose room is held by the GSR or clamped is answered ROOM_DOWN, or ROOM_BUSY in a swap,
and counted; one that its attachment refuses is answered at once, NO_TARGET where a router has no target; any other
raises its room's line there. Corridor requests at an endpoint and their responses (R78, R81 to R83). The fabric of a
room that is up takes the oldest request, and answers one it has taken with OK. A response that matches its busy slot
frees the slot and is buffered; one that does not match counts in LATE and is dropped, and in ORPHAN while the room is
held by the GSR. The fabric of a running room reads the oldest response out. A slot whose timer expires goes into
quarantine with a TIMEOUT response, and is free again when its quarantine ends. -/
def Obligations.CorridorExchanges : Prop :=
  ((∀ (n : Fin 64) (e : Fin 4) (op len : BitVec 4) (rtr : Fin 64) (port : BitVec 3) (addr : Word) (flits : List
      (BitVec 64))
     (s : State),
     let l := packetLen op len
     s.dev.mayIssue n e op len = true → flits.length ≤ payloadFlits op l →
     Yields (.corRequestIssue n e op len rtr port addr flits) s (fun t => ∃ k, k ∈ (s.dev.ep n e).free ∧
       t.dev.net = s.dev.net ++ [{
         no := s.dev.issued, op := op, len := l, dstRtr := rtr, dstPort := port.toNat, srcRtr := n, srcPort := e,
         gen := !((s.dev.ep n e).slot k).gen, slot := k, addr := addr, flits := flits, need := payloadFlits op l }] ∧
       (t.dev.ep n e).slot k = {
         busy := true, gen := !((s.dev.ep n e).slot k).gen, reserve := respNeed op l,
         timeout := s.dev.gf F.ROOM_COR_CTRL_TIMEOUT n, isRead := op == opRead, len := l, rtr := rtr,
             port := port.toNat } ∧
       (∀ k', k' ≠ k → (t.dev.ep n e).slot k' = (s.dev.ep n e).slot k') ∧ t.dev.regs = s.dev.regs)) ∧
   (∀ (n : Fin 64) (e : Fin 4) (op len : BitVec 4) (rtr : Fin 64) (port : BitVec 3) (addr : Word) (flits : List
       (BitVec 64))
     (s : State), s.dev.mayIssue n e op len = false →
     Does (.corRequestIssue n e op len rtr port addr flits) s s.dev) ∧
   (∀ (n : Fin 64) (p : Fin 6) (flit : BitVec 64) (x : Packet) (before after : List Packet) (s : State),
     x.srcRtr = n → x.srcPort = p → x.flits.length < x.need →
     (∀ y ∈ before ++ after, ¬ (y.srcRtr = n ∧ y.srcPort = p ∧ y.flits.length < y.need)) →
     (∀ y ∈ s.dev.held, y.answered = true → y.flits.length < y.need) →
     let x' := { x with flits := x.flits ++ [flit] }
     (s.dev.net = before ++ x :: after → (∀ y ∈ s.dev.held, ¬ (y.srcRtr = n ∧ y.srcPort = p ∧
         y.flits.length < y.need)) →
       Does (.payloadFlitInject n p flit) s { s.dev with net := before ++ x' :: after }) ∧
     (s.dev.held = before ++ x :: after → (∀ y ∈ s.dev.net, ¬ (y.srcRtr = n ∧ y.srcPort = p ∧
         y.flits.length < y.need)) →
       Does (.payloadFlitInject n p flit) s { s.dev with held := before ++
         (if x'.flits.length < x.need ∨ x.answered = false then [x'] else []) ++ after })) ∧
   (∀ (k : Nat) (p : Packet) (m : Fin 64) (e : Fin 4) (s : State), s.dev.arriving k = some p → p.dstRtr = m →
       p.dstPort = e →
     p.need ≤ p.flits.length → (s.dev.room m).gsr = false → (s.dev.room m).clamps = false →
     (s.dev.gf F.ROOM_COR_CTRL_TGT_EN m).testBit e = true → p.op.toNat < 4 →
     ((s.dev.ep m e).reqBuf = [] ∨ ((s.dev.ep m e).reqBuf.map Packet.size).sum + p.size ≤ 16) →
     Does (.corRequestArrive k) s ({ s.dev with net := s.dev.net.eraseIdx k }.onEp m e
       (fun x => { x with reqBuf := x.reqBuf ++ [p] }))) ∧
   (∀ (k : Nat) (p : Packet) (m : Fin 64) (e : Fin 4) (s : State), s.dev.arriving k = some p → p.dstRtr = m →
       p.dstPort = e →
     p.need ≤ p.flits.length → ((s.dev.room m).gsr = true ∨ (s.dev.room m).clamps = true) →
     Does (.corRequestArrive k) s (({ s.dev with net := s.dev.net.eraseIdx k }.respond p
       (if (s.dev.room m).down then stRoomDown else stRoomBusy) []).cnt F.ROOM_COR_CNT_BORDER m e)) ∧
   (∀ (k : Nat) (p : Packet) (s : State), s.dev.arriving k = some p → p.dstPort < 4 → p.flits.length < p.need →
     Does (.corRequestArrive k) s { s.dev with net := s.dev.net.modify k (fun p => { p with here := true }) }) ∧
   (∀ (k : Nat) (p : Packet) (s : State), s.dev.arriving k = some p → 4 ≤ p.dstPort → p.need ≤ p.flits.length →
     (p.dstPort ≠ 6 ∨ attachOf p.dstRtr = none →
       Does (.corRequestArrive k) s ({ s.dev with net := s.dev.net.eraseIdx k }.respond p stNoTarget [])) ∧
     (∀ st, p.dstPort = 6 → s.dev.attachAnswer p = some st → Does (.corRequestArrive k) s
       (({ s.dev with net := s.dev.net.eraseIdx k }.countDown p st).respond p st []))) ∧
   (∀ (k : Nat) (p : Packet) (x : Target) (s : State), s.dev.arriving k = some p → p.dstPort = 6 →
       s.dev.attachAnswer p = none →
     attachOf p.dstRtr = some x → s.dev.fenced (s.dev.roomArb x) p.srcRtr = false →
     Yields (.corRequestArrive k) s (fun t => t.dev.held = s.dev.held ++ [p] ∧ t.dev.net = s.dev.net.eraseIdx k ∧
       ((t.dev.arb (s.dev.roomArb x)).owner = some p.srcRtr ∨
         ∃ r ∈ (t.dev.arb (s.dev.roomArb x)).reqs, r.id = p.srcRtr)))) ∧
  ((∀ (n : Fin 64) (e : Fin 4) (p : Packet) (l : List Packet) (s : State), s.dev.roomUp n = true →
     (s.dev.ep n e).reqBuf = p :: l →
     Does (.corRequestTake n e) s (s.dev.onEp n e (fun x => { x with reqBuf := l, taken := x.taken ++ [p] }))) ∧
   (∀ (n : Fin 64) (e : Fin 4) (k : Nat) (data : List (BitVec 64)) (p : Packet) (s : State),
     (s.dev.ep n e).taken[k]? = some p → (s.dev.room n).gsr = false → (p.op = opRead →
         data.length = p.len.toNat + 1) →
     Does (.corTargetResponse n e k data) s
       ((s.dev.onEp n e (fun x => { x with taken := x.taken.eraseIdx k })).respond p stOk data)) ∧
   (∀ (k : Nat) (r : RespPkt) (n : Fin 64) (e : Fin 4) (s : State), s.dev.respArriving k = some r → r.dstRtr = n →
     r.dstPort = e → (s.dev.room n).gsr = false →
     let x := (s.dev.ep n e).slot r.slot
     let d := { s.dev with netResp := s.dev.netResp.eraseIdx k }
     (x.quarantine = false → x.busy = true → x.gen = r.gen → Does (.corResponseArrive k) s (d.onEp n e (fun y =>
       { y.setSlot r.slot { x with busy := false, reserve := 0 } with respBuf := y.respBuf ++ [r] }))) ∧
     (x.quarantine = false → (x.busy = false ∨ x.gen ≠ r.gen) →
       Does (.corResponseArrive k) s ((d.cnt F.ROOM_COR_CNT_LATE n e).noticeFree 0x63))) ∧
   (∀ (k : Nat) (r : RespPkt) (n : Fin 64) (e : Fin 4) (s : State), s.dev.respArriving k = some r → r.dstRtr = n →
     r.dstPort = e → (s.dev.room n).gsr = true →
     Does (.corResponseArrive k) s (({ s.dev with netResp := s.dev.netResp.eraseIdx k }.cnt
       F.ROOM_COR_CNT_ORPHAN n e).noticeFree 0x62)) ∧
   (∀ (n : Fin 64) (e : Fin 4) (s : State), (s.dev.room n).gsr = false →
     Does (.corResponseTake n e) s (s.dev.onEp n e (fun x => { x with respBuf := x.respBuf.drop 1 }))) ∧
   (∀ (n : Fin 64) (e : Fin 4) (k : Fin 32) (s : State),
     let x := (s.dev.ep n e).slot k
     x.busy = true → x.timeout ≠ 0 → (s.dev.room n).gsr = false →
     Yields (.corTimeout n e k) s (fun t => (t.dev.ep n e).slot k = { x with
         busy := false, quarantine := true, byReset := false, reserve := 0 } ∧
       (∃ r, (t.dev.ep n e).respBuf = (s.dev.ep n e).respBuf ++ [r] ∧ r.status = stTimeout ∧ r.slot = k.val ∧
         r.srcRtr = x.rtr ∧ r.srcPort = x.port ∧ r.data = []) ∧
       t.dev.gf F.ROOM_COR_CNT_TIMEOUT n e = min (s.dev.gf F.ROOM_COR_CNT_TIMEOUT n e + 1) (2 ^
           F.ROOM_COR_CNT_TIMEOUT.width - 1))) ∧
   (∀ (n : Fin 64) (e : Fin 4) (k : Fin 32) (s : State), ((s.dev.ep n e).slot k).quarantine = true →
     Does (.corQuarantineEnd n e k) s (s.dev.onEp n e (fun y => y.setSlot k { (s.dev.ep n e).slot k with
       quarantine := false, byReset := false }))))

/-- KEEP_HATCH_WRITE (R100, R101, R394): the keep register takes the Hatch's word, or the fabric's where the fabric
writes it on the same edge in a room out of reset; every other keep register stands. A room that is parked or whose
clock is stopped is asleep: the write is discarded and counted. BRAM_PORT_OP (R86 to R93, R95). With no cell flipped,
an edge on which port A alone is enabled and writes every lane of a width up to 36 bits stores its word there, and no
other word of that width, no other block RAM and no register changes; port A of a block with a port of 72 bits writes
nothing. With any cells of the addressed word flipped the edge is that of the block as it then stands, and a single
error that it finds counts in CORR, a double one in UNCORR with the first of them in ROOM_BRAM_EADDR; a configuration
that the guard refuses does nothing. An edge on which nothing writes changes no stored bit, and under the GSR neither
port does anything. -/
def Obligations.KeepRegistersAndBlockRam : Prop :=
  ((∀ (n k : Fin 64) (v : Word) (s : State), s.dev.keepAsleep n = false →
     Yields (.keepHatchWrite n k v none) s (fun t => t.dev.reg .KEEP n k = v ∧ t.dev.gf F.HAT_STAT_LAST = hOk ∧
       (∀ m k' : Fin 64, (m, k') ≠ (n, k) → t.dev.reg .KEEP m k' = s.dev.reg .KEEP m k') ∧ t.nch = s.nch)) ∧
   (∀ (n k : Fin 64) (v w : Word) (s : State), s.dev.keepAsleep n = false →
     Yields (.keepHatchWrite n k v (some w)) s (fun t =>
       t.dev.reg .KEEP n k = (if (s.dev.room n).gsr then v else w))) ∧
   (∀ (n k : Fin 64) (v : Word) (fabric : Option Word) (s : State), s.dev.keepAsleep n = true →
     Yields (.keepHatchWrite n k v fabric) s (fun t => (∀ m k' : Fin 64, t.dev.reg .KEEP m k' =
         s.dev.reg .KEEP m k') ∧
       t.dev.gf F.HAT_STAT_LAST = hAsleep ∧
       t.dev.gf F.HAT_CNT_ASLEEP = min (s.dev.gf F.HAT_CNT_ASLEEP + 1) (2 ^ F.HAT_CNT_ASLEEP.width - 1)))) ∧
  ((∀ (n : Fin 64) (b : Fin 40) (cfg : BramCfg) (pa pb : BramIn) (same : Bool) (s : State),
      (s.dev.room n).gsr = false →
     bramCfgOk cfg = true → cfg.ecc = 0 → cfg.widthA.toNat < 6 → cfg.widthB.toNat < 6 → pa.en = true → pa.we = 0xFF →
         pb.en = false →
     let c := cfg.widthA.toNat
     Yields (.bramPortOp n b cfg pa pb ⟨0, same⟩) s (fun t =>
       (t.dev.bramOf n b).word c pa.addr.toNat = BitVec.ofNat 72 (pa.din.toNat % 2 ^ (bramDataBits c + bramParBits c))
           ∧
       (∀ a, a % 2 ^ bramDepthBits c ≠ pa.addr.toNat % 2 ^ bramDepthBits c →
         (t.dev.bramOf n b).word c a = (s.dev.bramOf n b).word c a) ∧
       (∀ b', b' ≠ b.val → t.dev.bramOf n b' = s.dev.bramOf n b') ∧ t.dev.regs = s.dev.regs)) ∧
   (∀ (n : Fin 64) (b : Fin 40) (cfg : BramCfg) (pa pb : BramIn) (same : Bool) (s : State),
       (s.dev.room n).gsr = false →
     bramCfgOk cfg = true → (pa.we = 0 ∨ cfg.widthA = 6 ∨ cfg.widthB = 6) → (pb.we = 0 ∨ pb.en = false) →
     Yields (.bramPortOp n b cfg pa pb ⟨0, same⟩) s (fun t => (t.dev.bramOf n b).d = (s.dev.bramOf n b).d ∧
       (t.dev.bramOf n b).p = (s.dev.bramOf n b).p)) ∧
   (∀ (n : Fin 64) (b : Fin 40) (cfg : BramCfg) (pa pb : BramIn) (upset : BitVec 72) (same : Bool) (s : State),
     (bramCfgOk cfg = true → (s.dev.room n).gsr = false →
       let r := ((s.dev.bramOf n b).upset pa.addr.toNat upset).edge cfg pa pb
       Yields (.bramPortOp n b cfg pa pb ⟨upset, same⟩) s (fun t => t.dev.bramOf n b = r.1 ∧
         (∀ b', b' ≠ b.val → t.dev.bramOf n b' = s.dev.bramOf n b') ∧ (r.2 = .good → t.dev.regs = s.dev.regs) ∧
         (r.2 = .single → t.dev.gf F.ROOM_BRAM_ECC_CORR n =
           min (s.dev.gf F.ROOM_BRAM_ECC_CORR n + 1) (2 ^ F.ROOM_BRAM_ECC_CORR.width - 1)) ∧
         (r.2 = .double → t.dev.gf F.ROOM_BRAM_ECC_UNCORR n =
             min (s.dev.gf F.ROOM_BRAM_ECC_UNCORR n + 1) (2 ^ F.ROOM_BRAM_ECC_UNCORR.width - 1) ∧
           (s.dev.gb F.ROOM_BRAM_EADDR_VALID n = false → t.dev.gb F.ROOM_BRAM_EADDR_VALID n = true ∧
             t.dev.gf F.ROOM_BRAM_EADDR_BRAM n = b ∧ t.dev.gf F.ROOM_BRAM_EADDR_ADDR n = pa.addr.toNat % 512)))) ∧
     (bramCfgOk cfg = false → Does (.bramPortOp n b cfg pa pb ⟨upset, same⟩) s s.dev)) ∧
   (∀ (n : Fin 64) (b : Fin 40) (cfg : BramCfg) (pa pb : BramIn) (same : Bool) (s : State),
       (s.dev.room n).gsr = true →
     Yields (.bramPortOp n b cfg pa pb ⟨0, same⟩) s (fun t => (∀ b', t.dev.bramOf n b' = s.dev.bramOf n b') ∧
       t.dev.regs = s.dev.regs)))

/-- Larder accesses from the corridor and from hardened requesters (R153, R156, R160), at a quadrant that is UP, when
the requester's turn has come at its arbiter, with any cells of the words flipped. A read answers OK with its words,
lowest address first, or ECC_UNCORR without data where one of them is uncorrectable, and writes no word. A write
answers OK and stores exactly its words. A bit operation stores exactly its word, with the mask's bits set or cleared,
unless the word is uncorrectable: then it answers ECC_UNCORR and stores nothing. While another requester holds the
grant nothing is served. A hardened requester's request that the quadrant cannot take is answered at once, QUAD_DOWN
counted. Errors (R160, R168): a word with one wrong bit is counted in CORR, and with WB_EN its correction awaits a
write-back; one with two is counted in UNCORR, and the first of them is held in LAR_EADDR. The write-back stores the
word unless a port has written it since, or a bit operation holds the bank's port. -/
def Obligations.LarderAccessesAndErrors : Prop :=
  ((∀ (req : Fin 83) (q : Fin 4) (addr : Word) (len : Fin 16) (us : List (BitVec 72)) (same : Bool) (s : State),
     us.length = len + 1 → s.dev.larTurn q req { op := opRead, addr := addr.toNat, len := len } →
     let w := fun i => { s.dev.larWord (addr.toNat + i) with flips := (s.dev.larWord (addr.toNat + i)).flips ^^^ us.getD i 0 }
     Yields (.larRead req q addr len ⟨us, same⟩) s (fun t =>
       t.dev.lar.answer = (if (List.range (len + 1)).any (fun i => (w i).check.1 == .double) then ⟨stEccUncorr, []⟩
         else ⟨stOk, (List.range (len + 1)).map (fun i => (w i).check.2)⟩) ∧
       ∀ wa, wa < larWords → t.dev.larWord wa =
         if addr.toNat ≤ wa ∧ wa ≤ addr.toNat + len then w (wa - addr.toNat) else s.dev.larWord wa)) ∧
   (∀ (req : Fin 83) (q : Fin 4) (addr : Word) (data : List (BitVec 64)) (overG : List Bool) (s : State),
     0 < data.length → data.length ≤ 16 → overG.length = data.length →
     s.dev.larTurn q req { op := opWrite, addr := addr.toNat, len := data.length - 1, data := data } →
     Yields (.larWrite req q addr data overG) s (fun t => t.dev.lar.answer = ⟨stOk, []⟩ ∧
       t.dev.gf F.LAR_QCNT_OVERWRITTEN q = (if timedId req then s.dev.gf F.LAR_QCNT_OVERWRITTEN q
         else min (s.dev.gf F.LAR_QCNT_OVERWRITTEN q + overG.count true) (2 ^ F.LAR_QCNT_OVERWRITTEN.width - 1)) ∧
       ∀ wa, wa < larWords → t.dev.larWord wa = if addr.toNat ≤ wa ∧ wa < addr.toNat + data.length
         then ⟨data.getD (wa - addr.toNat) 0, 0⟩ else s.dev.larWord wa)) ∧
   (∀ (req : Fin 83) (q : Fin 4) (addr : Word) (mask : BitVec 64) (u : BitVec 72) (set : Bool) (s : State),
     s.dev.larTurn q req { op := if set then opBitSet else opBitClear, addr := addr.toNat, len := 0, data := [mask] }
         →
     let w := { s.dev.larWord addr.toNat with flips := (s.dev.larWord addr.toNat).flips ^^^ u }
     Yields (if set then .larBitSet req q addr mask u else .larBitClear req q addr mask u) s (fun t =>
       t.dev.lar.answer = ⟨if w.check.1 = .double then stEccUncorr else stOk, []⟩ ∧
       ∀ wa, wa < larWords → t.dev.larWord wa = if wa ≠ addr.toNat then s.dev.larWord wa
         else if w.check.1 = .double then w else ⟨if set then w.check.2 ||| mask else w.check.2 &&& ~~~mask, 0⟩)) ∧
   (∀ (req : Fin 83) (j : Nat) (q : Fin 4) (addr : Word) (len : Fin 16) (us : List (BitVec 72)) (same : Bool)
     (data : List (BitVec 64)) (overG : List Bool) (mask : BitVec 64) (u : BitVec 72) (c : Instr) (s : State),
     c ∈ [.larRead req q addr len ⟨us, same⟩, .larWrite req q addr data overG, .larBitSet req q addr mask u,
       .larBitClear req q addr mask u] → data.length ≤ len + 1 → larAddrOk q addr.toNat len = true →
           s.dev.quadState q = 2 →
     s.dev.fenced (larArb q req) req = false → (s.dev.arb (larArb q req)).owner = some j → j ≠ req →
     Yields c s (fun t => t.dev.lar = s.dev.lar ∧ (t.dev.arb (larArb q req)).owner = some j)) ∧
   (∀ (req : Fin 83) (q : Fin 4) (addr : Word) (len : Fin 16) (us : List (BitVec 72)) (same : Bool) (data : List
       (BitVec 64))
     (overG : List Bool) (mask : BitVec 64) (u : BitVec 72) (c : Instr) (s : State), 64 ≤ req.val →
     c ∈ [.larRead req q addr len ⟨us, same⟩, .larWrite req q addr data overG, .larBitSet req q addr mask u,
       .larBitClear req q addr mask u] → 0 < data.length → data.length ≤ len + 1 → larAddrOk q addr.toNat len = true →
     s.dev.quadState q ≠ 2 →
     Yields c s (fun t => t.dev.lar.answer = ⟨stQuadDown, []⟩ ∧ t.dev.lar.words = s.dev.lar.words ∧
       t.dev.gf F.LAR_QCNT_DOWN q = (if req.val = 64 ∨ req.val = 67 then s.dev.gf F.LAR_QCNT_DOWN q
         else min (s.dev.gf F.LAR_QCNT_DOWN q + 1) (2 ^ F.LAR_QCNT_DOWN.width - 1))))) ∧
  ((∀ (req : Fin 83) (q : Fin 4) (addr : Word) (u : BitVec 72) (same : Bool) (s : State),
     s.dev.larTurn q req { op := opRead, addr := addr.toNat, len := 0 } →
     popCount ((s.dev.larWord addr.toNat).flips ^^^ u) = 1 →
     Yields (.larRead req q addr 0 ⟨[u], same⟩) s (fun t => t.dev.lar.answer = ⟨stOk,
         [(s.dev.larWord addr.toNat).data]⟩ ∧
       t.dev.gf F.LAR_ECC_CORR q = min (s.dev.gf F.LAR_ECC_CORR q + 1) (2 ^ F.LAR_ECC_CORR.width - 1) ∧
       t.dev.lar.writeback = (if s.dev.gb F.LAR_CTRL_WB_EN then
         s.dev.lar.writeback ++ [(addr.toNat, (s.dev.larWord addr.toNat).data)] else s.dev.lar.writeback))) ∧
   (∀ (req : Fin 83) (q : Fin 4) (addr : Word) (u : BitVec 72) (same : Bool) (s : State),
     s.dev.larTurn q req { op := opRead, addr := addr.toNat, len := 0 } →
     popCount ((s.dev.larWord addr.toNat).flips ^^^ u) = 2 → s.dev.gb F.LAR_EADDR_VALID = false →
     Yields (.larRead req q addr 0 ⟨[u], same⟩) s (fun t => t.dev.lar.answer = ⟨stEccUncorr, []⟩ ∧
       t.dev.gf F.LAR_ECC_UNCORR q = min (s.dev.gf F.LAR_ECC_UNCORR q + 1) (2 ^ F.LAR_ECC_UNCORR.width - 1) ∧
       t.dev.gf F.LAR_EADDR_VALID = 1 ∧ t.dev.gf F.LAR_EADDR_WADDR = addr.toNat ∧ t.dev.gf F.LAR_EADDR_REQ = req ∧
       t.dev.gb F.LAR_EADDR_PORT = !timedId req)) ∧
   (∀ (wa : BitVec 21) (v : BitVec 64) (s : State), s.dev.lar.writeback.find? (fun e => e.1 == wa.toNat) =
       some (wa.toNat, v) →
     s.dev.quadState (larQuad wa.toNat) = 2 → (s.dev.arb (2 * larQuad wa.toNat + 1)).port ≠ some (larBank wa.toNat) →
     Yields (.larWriteback wa) s (fun t => t.dev.regs = s.dev.regs ∧
       ∀ a, a < larWords → t.dev.larWord a = if a = wa.toNat then ⟨v, 0⟩ else s.dev.larWord a)) ∧
   (∀ (wa : BitVec 21) (s : State), (∀ e ∈ s.dev.lar.writeback, e.1 ≠ wa.toNat) ∨
       s.dev.quadState (larQuad wa.toNat) ≠ 2 ∨
     (s.dev.arb (2 * larQuad wa.toNat + 1)).port = some (larBank wa.toNat) → Does (.larWriteback wa) s s.dev))

/-- Quadrant power (R162, R322): a quadrant that is OFF and whose clock runs loads its repair map from the Attic, an
empty one where that fails its check, and is CLEARING; otherwise nothing happens. When the clearing is done it is UP
and every word of it reads 0 with a good code, and no word of another quadrant changes. The transparent test (R163 to
R166). A pass begins with region 0 in COPY, or a single test with its region, unless a test is under way, which only
raises a NOTICE, or the quadrant is not UP; a stop is remembered until the region's test ends, and without a pass does
nothing. A phase ends when its operations are made, not before. COPY leads to MARCH, in which the region's words are
read from the spare buffer, MARCH to RESTORE with its finding; a spare row that fails its march is bad. A region that
passes ends its single test; one that fails is served by the lowest good spare row of its bank from then on, or
counted as not repaired with a FAULT of source 0x33 where none is left. -/
def Obligations.QuadrantPowerAndTest : Prop :=
  ((∀ (q : Fin 4) (mapOk : Bool) (s : State), s.dev.quadState q = 0 → s.dev.gb F.CLK_ISL_STAT_RUN (94 + q) = true →
     let map := fun (i : Fin 16) => Map.get (fun _ => (0, 0)) s.dev.lar.spares (16 * q + i)
     Yields (.quadStart ⟨q, mapOk⟩) s (fun t => t.dev.quadState q = 1 ∧ t.dev.lar.words = s.dev.lar.words ∧
       (∀ i : Fin 16, t.dev.reg .LAR_SPARE_ROW (16 * q + i) = if mapOk then (map i).1 else 0) ∧
       (∀ i : Fin 16, t.dev.reg .LAR_SPARE_FLG (16 * q + i) = if mapOk then (map i).2.setWidth 32 else 0) ∧
       ∀ q' : Fin 4, q' ≠ q → t.dev.quadState q' = s.dev.quadState q')) ∧
   (∀ (q : Fin 4) (mapOk : Bool) (s : State), s.dev.quadState q ≠ 0 ∨ s.dev.gb F.CLK_ISL_STAT_RUN (94 + q) = false →
     Does (.quadStart ⟨q, mapOk⟩) s s.dev) ∧
   (∀ (q : Fin 4) (s : State), s.dev.quadState q = 1 → s.dev.gov.sleep = none →
     Yields (.quadClearDone q) s (fun t => t.dev.quadState q = 2 ∧
       ∀ wa, wa < larWords → t.dev.larWord wa = if larQuad wa = q then ⟨0, 0⟩ else s.dev.larWord wa)) ∧
   (∀ (q : Fin 4) (s : State), s.dev.quadState q ≠ 1 → Does (.quadClearDone q) s s.dev)) ∧
  ((∀ s : State, s.dev.gb F.LAR_TEST_STAT_BUSY = false → s.dev.quadState 0 = 2 →
     Yields .larTestPass s (fun t => t.dev.gb F.LAR_TEST_STAT_BUSY = true ∧ t.dev.gf F.LAR_TEST_STAT_PHASE = phCopy ∧
       t.dev.gf F.LAR_TEST_STAT_REGION = 0 ∧ t.dev.gb F.LAR_TEST_STAT_IN_PASS = true ∧
           t.dev.lar.words = s.dev.lar.words)) ∧
   (∀ (region : BitVec 14) (s : State), s.dev.gb F.LAR_TEST_STAT_BUSY = false →
     (s.dev.quadState (region.toNat / 4096) = 2 →
       Yields (.larTestOne region) s (fun t => t.dev.gb F.LAR_TEST_STAT_BUSY = true ∧
           t.dev.gf F.LAR_TEST_STAT_PHASE = phCopy ∧
         t.dev.gf F.LAR_TEST_STAT_REGION = region.toNat ∧ t.dev.lar.words = s.dev.lar.words)) ∧
     (s.dev.quadState (region.toNat / 4096) ≠ 2 →
       Does (.larTestOne region) s (s.dev.sf F.LAR_TEST_CTRL_REGION 0 0 region.toNat))) ∧
   (∀ (region : BitVec 14) (s : State), s.dev.gb F.LAR_TEST_STAT_BUSY = true →
       Does .larTestPass s (s.dev.notice 0x75 0x70010) ∧
     Does (.larTestOne region) s ((s.dev.sf F.LAR_TEST_CTRL_REGION 0 0 region.toNat).notice 0x75 0x70010)) ∧
   (∀ s : State, (s.dev.gb F.LAR_TEST_STAT_IN_PASS = true → s.dev.gb F.LAR_TEST_STAT_BUSY = true →
       Does .larTestStop s (s.dev.sf F.LAR_TEST_CTRL_STOP 0 0 1)) ∧
     (s.dev.gb F.LAR_TEST_STAT_IN_PASS = true → s.dev.gb F.LAR_TEST_STAT_BUSY = false →
       Yields .larTestStop s (fun t => t.dev.gb F.LAR_TEST_STAT_IN_PASS = false ∧ t.dev.lar = s.dev.lar)) ∧
     (s.dev.gb F.LAR_TEST_STAT_IN_PASS = false → Does .larTestStop s s.dev)) ∧
   (∀ (fail : Bool) (s : State), s.dev.gb F.LAR_TEST_STAT_BUSY = true → s.dev.phaseOps ≤ s.dev.lar.ops →
     let region := s.dev.gf F.LAR_TEST_STAT_REGION
     (s.dev.gf F.LAR_TEST_STAT_PHASE = phCopy → s.dev.gb F.LAR_TEST_STAT_SPARE = false →
       Yields (.testPhaseDone fail) s (fun t => t.dev.gf F.LAR_TEST_STAT_PHASE = phMarch ∧
           t.dev.lar = { s.dev.lar with ops := 0 } ∧
         ∀ wa, larRegion wa = region → t.dev.larWord wa = s.dev.larCell (bufferCell (larBank wa) (larCol wa)))) ∧
     (s.dev.gf F.LAR_TEST_STAT_PHASE = phMarch → s.dev.gb F.LAR_TEST_STAT_SPARE = false →
       Yields (.testPhaseDone fail) s (fun t => t.dev.gf F.LAR_TEST_STAT_PHASE = phRestore ∧
         t.dev.lar = { s.dev.lar with rowFailed := fail, ops := 0 })) ∧
     (s.dev.gf F.LAR_TEST_STAT_PHASE = phMarch → s.dev.gb F.LAR_TEST_STAT_SPARE = true →
       s.dev.gb F.LAR_TEST_STAT_IN_PASS = false →
       Yields (.testPhaseDone fail) s (fun t => t.dev.gb F.LAR_TEST_STAT_BUSY = false ∧
         (t.dev.gf F.LAR_SPARE_FLG_BAD (region / 256)).testBit (region % 4) =
           (fail || (s.dev.gf F.LAR_SPARE_FLG_BAD (region / 256)).testBit (region % 4)))) ∧
     (s.dev.gf F.LAR_TEST_STAT_PHASE = phRestore → s.dev.lar.rowFailed = false →
         s.dev.gb F.LAR_TEST_STAT_IN_PASS = false →
       Yields (.testPhaseDone fail) s (fun t => t.dev.gb F.LAR_TEST_STAT_BUSY = false ∧
         t.dev.gb F.LAR_TEST_CTRL_ONE = false ∧ t.dev.lar = s.dev.lar)) ∧
     (∀ k, s.dev.gf F.LAR_TEST_STAT_PHASE = phRestore → s.dev.lar.rowFailed = true →
       s.dev.gb F.LAR_TEST_STAT_IN_PASS = false →
       s.dev.goodSpare (region / 256) = some k → s.dev.spareOf (region / 256) (region % 256) = none →
       Yields (.testPhaseDone fail) s (fun t => t.dev.spareOf (region / 256) (region % 256) = some k ∧
         t.dev.lar.words = s.dev.lar.words)) ∧
     (s.dev.gf F.LAR_TEST_STAT_PHASE = phRestore → s.dev.lar.rowFailed = true →
         s.dev.goodSpare (region / 256) = none →
       s.dev.gb F.LAR_TEST_STAT_IN_PASS = false → Yields (.testPhaseDone fail) s (fun t =>
         t.dev.spareOf (region / 256) (region % 256) = s.dev.spareOf (region / 256) (region % 256) ∧
         t.dev.gf F.LAR_TEST_CNT_UNREPAIRED =
           min (s.dev.gf F.LAR_TEST_CNT_UNREPAIRED + 1) (2 ^ F.LAR_TEST_CNT_UNREPAIRED.width - 1)))) ∧
   (∀ (fail : Bool) (s : State), s.dev.gb F.LAR_TEST_STAT_BUSY = false ∨ s.dev.lar.ops < s.dev.phaseOps →
     Does (.testPhaseDone fail) s s.dev))

/-- Requests at an arbiter (R171, R182): a requester that reaches it, with the resource up, not fenced, with work
behind its line and no request raised, joins those that wait and changes nothing else; a raised one, one that is
fenced, one that does not reach the arbiter or has nothing to move, and one at a resource that is down change nothing.
A fence is lifted, and the arbiter frozen and released, by their register bits (R180, R183); the Larder test then
requests again. Waiting requests (R174, R175): a timed request whose age saturates stands at 65,535 and is noted once;
a general request that has waited WAIT_LIMIT cycles, with the limit not 0, has waited at least as long as the limit,
is boosted by it, and nothing else changes; with limit 0, or for a timed requester, nothing changes. -/
def Obligations.ArbiterRequestsAndWaiting : Prop :=
  ((∀ (a : Fin 12) (i : Fin 83) (s : State), arbReaches a i = true →
     (a.val < 8 ∨ a.val % 2 = 0 ∨ s.dev.mirrorOf (a.val - 8) = none) → s.dev.arbUp a = true →
         s.dev.fenced a i = false →
     s.dev.lineWork a i = true →
     ((s.dev.arb a).raised i = false →
       Does (.arbRequest a i) s (s.dev.onArb a (fun x => { x with reqs := x.reqs ++ [({ id := i } : ArbReq)] }))) ∧
     ((s.dev.arb a).raised i = true → Does (.arbRequest a i) s s.dev)) ∧
   (∀ (a : Fin 12) (i : Fin 83) (s : State), arbReaches a i = false ∨ s.dev.arbUp a = false ∨
       s.dev.fenced a i = true ∨
     s.dev.lineWork a i = false ∨ (8 ≤ a.val ∧ a.val % 2 = 1 ∧ s.dev.mirrorOf (a.val - 8) ≠ none) →
     Does (.arbRequest a i) s s.dev) ∧
   (∀ (a : Fin 12) (i : Fin 83) (s : State), (arbReaches a i = false → Does (.arbFenceLift a i) s s.dev) ∧
     (arbReaches a i = true → i.val ≠ testId → Does (.arbFenceLift a i) s (s.dev.sf F.ARB_REQ_STAT_FENCED a i 0)) ∧
     (arbReaches a i = true → i.val = testId → Yields (.arbFenceLift a i) s (fun t => t.dev.fenced a i = false ∧
       (s.dev.testHere a = true → (t.dev.arb a).raised i = true)))) ∧
   (∀ (a : Fin 12) (on : Bool) (s : State), Does (.arbFreeze a on) s (s.dev.sf F.ARB_CTRL_FREEZE a 0 (b2n on)))) ∧
  ((∀ (a : Fin 12) (i : Fin 83) (s : State), timedId i = true →
     Yields (.arbAgeSaturate a i) s (fun t =>
       (t.dev.arb a).reqs.map ArbReq.id = (s.dev.arb a).reqs.map ArbReq.id ∧
       (∀ r ∈ (t.dev.arb a).reqs, r.id = i.val → r.age = 65535 ∧ r.noted = true) ∧
       (t.dev.arb a).owner = (s.dev.arb a).owner ∧ (t.dev.arb a).chosen = (s.dev.arb a).chosen)) ∧
   (∀ (a : Fin 12) (i : Fin 83) (s : State), timedId i = false →
     Yields (.arbAgeSaturate a i) s (fun t => (t.dev.arb a).reqs.map ArbReq.age =
         (s.dev.arb a).reqs.map ArbReq.age)) ∧
   (∀ (a : Fin 12) (i : Fin 83) (s : State), timedId i = false → s.dev.gf F.ARB_REQ_CFG_WAIT_LIMIT a i ≠ 0 →
     Yields (.arbWaitBoost a i) s (fun t => t.dev = s.dev.onArb a (fun x => { x with reqs := x.reqs.map (fun r =>
         if r.id = i.val then { r with wait := max r.wait (s.dev.gf F.ARB_REQ_CFG_WAIT_LIMIT a i) } else r) }) ∧
       ∀ r ∈ (t.dev.arb a).reqs, r.id = i.val → t.dev.boosted a r = true)) ∧
   (∀ (a : Fin 12) (i : Fin 83) (s : State), timedId i = true ∨ s.dev.gf F.ARB_REQ_CFG_WAIT_LIMIT a i = 0 →
     Does (.arbWaitBoost a i) s s.dev))

/-- One cycle of an arbiter whose resource is up (R172 to R176, R181, R182). With no grant held or decided and no
freeze, a timed request of the highest age is chosen where no general one is boosted. A chosen requester whose request
stands is granted, counted, and moves its first beat; one whose request is low, or has nothing behind it, makes the
grant void, counted. A grant whose burst expires ends and its request is raised again, of a room at a quadrant with
the next word of its oldest request; of a room at a DRAM channel only the limit is reached. One the watchdog ends
fences its owner, held in the fence log with its beats; with LIMIT 0, or without an owner, nothing expires. While the
resource is down there is no cycle. -/
def Obligations.ArbiterCycles : Prop :=
  (∀ (a : Fin 12) (c : ArbCycle) (s : State), s.dev.arbUp a = true → (s.dev.arb a).owner = none →
      (s.dev.arb a).chosen = none →
    s.dev.gb F.ARB_CTRL_FREEZE a = false → (∀ r ∈ (s.dev.arb a).reqs, s.dev.boosted a r = false) →
    (∃ r ∈ (s.dev.arb a).reqs, timedId r.id = true ∧ r.id ∉ c.lowered.map (fun i => i.val)) →
    Yields (.arbDecision a c) s (fun t => ∃ r ∈ (s.dev.arb a).reqs, (t.dev.arb a).chosen = some r.id ∧
      timedId r.id = true ∧ (∀ r' ∈ (s.dev.arb a).reqs, timedId r'.id = true →
        r'.id ∉ c.lowered.map (fun i => i.val) → r'.age ≤ r.age) ∧ (t.dev.arb a).owner = none)) ∧
  (∀ (a : Fin 12) (i : Fin 83) (r : ArbReq) (c : ArbCycle) (s : State), s.dev.arbUp a = true →
      (s.dev.arb a).owner = none →
    (s.dev.arb a).chosen = some i.val → (s.dev.arb a).find i = some r → s.dev.lineWork a i = true → i ∉ c.lowered →
    c.last = false → c.drop = false → c.neutral = false → 0 < s.dev.gf F.ARB_REQ_CFG_BURST a i →
    s.dev.gf F.ARB_WDOG_LIMIT a ≠ 1 →
    Yields (.arbDecision a c) s (fun t => (t.dev.arb a).owner = some i.val ∧
      (t.dev.arb a).beats = b2n (c.beat && decide (64 ≤ i.val)) ∧
      (t.dev.arb a).find i = none ∧ t.dev.gf F.ARB_REQ_GRANTS_COUNT a i =
        min (s.dev.gf F.ARB_REQ_GRANTS_COUNT a i + 1) (2 ^ F.ARB_REQ_GRANTS_COUNT.width - 1))) ∧
  (∀ (a : Fin 12) (i : Fin 83) (c : ArbCycle) (s : State), s.dev.arbUp a = true → (s.dev.arb a).owner = none →
    (s.dev.arb a).chosen = some i.val → (i ∈ c.lowered ∨ s.dev.lineWork a i = false) →
    Yields (.arbDecision a c) s (fun t => (t.dev.arb a).owner = none ∧ (t.dev.arb a).find i = none ∧
      t.dev.gf F.ARB_VOID_COUNT a = min (s.dev.gf F.ARB_VOID_COUNT a + 1) (2 ^ F.ARB_VOID_COUNT.width - 1))) ∧
  (∀ (a : Fin 12) (c : ArbCycle) (s : State), s.dev.arbUp a = false → Does (.arbDecision a c) s s.dev) ∧
  (∀ (a : Fin 12) (i : Fin 83) (s : State), s.dev.arbUp a = true → (s.dev.arb a).owner = some i.val →
    (s.dev.arb a).chosen = none → (s.dev.arb a).find i = none → s.dev.lineWork a i = true →
    let again := Yields (.arbBurstExpire a) s (fun t => (t.dev.arb a).owner = none ∧
      ({ id := i } : ArbReq) ∈ (t.dev.arb a).reqs)
    (64 ≤ i.val → again) ∧
    (∀ no p, i.val < 64 → a.val < 8 → (s.dev.roomQueue a i).head? = some no →
      s.dev.held.find? (fun p => p.no == no && !p.answered) = some p → (s.dev.arb a).port = none →
      let w := Map.get (fun _ => { op := p.op, addr := p.addr.toNat, len := p.len.toNat }) (s.dev.arb a).work i
      w.op = p.op → w.addr = p.addr.toNat → w.len = p.len.toNat → (p.need = 0 ∨ w.done < p.flits.length) →
      (p.op = opRead ∨ p.op = opWrite) → w.done < p.len.toNat → again) ∧
    (i.val < 64 → 8 ≤ a.val → Does (.arbBurstExpire a) s (s.dev.onArb a (fun x => { x with beats := x.burst - 1 }))))
        ∧
  (∀ (a : Fin 12) (s : State), (s.dev.arb a).owner = none → Does (.arbBurstExpire a) s s.dev ∧
    Does (.arbWatchdogExpiry a) s s.dev) ∧
  (∀ (a : Fin 12) (i : Fin 83) (s : State), s.dev.arbUp a = true → (s.dev.arb a).owner = some i.val →
    (s.dev.arb a).chosen = none → s.dev.lineWork a i = true → s.dev.gf F.ARB_WDOG_LIMIT a ≠ 0 →
    Yields (.arbWatchdogExpiry a) s (fun t => (t.dev.arb a).owner = none ∧ t.dev.fenced a i = true ∧
      t.dev.gf F.ARB_FENCE_LOG_VALID a = 1 ∧ (s.dev.gb F.ARB_FENCE_LOG_VALID a = false →
        t.dev.gf F.ARB_FENCE_LOG_REQ a = i ∧ t.dev.gf F.ARB_FENCE_LOG_BEATS a = min (s.dev.arb a).beats 65535))) ∧
  (∀ (a : Fin 12) (s : State), s.dev.gf F.ARB_WDOG_LIMIT a = 0 → Does (.arbWatchdogExpiry a) s s.dev)

/-- Requests at a DRAM channel (R191 to R193, R195, R202). A hardened requester that reaches the arbiter of the
channel, or of its pair, and is not fenced there, asking a channel that serves for whole bursts, joins the requests
with its bursts in ascending order and raises its line, and changes nothing else. A request for other words is
answered NO_TARGET, one to a channel that does not serve CHAN_OFFLINE, one of a fenced requester FENCED and counted,
and no content changes. A room's request is the oldest packet at the attachment that has not joined yet: it joins with
its packet. Without one nothing happens, nor for a requester that does not reach the arbiter. -/
def Obligations.DramRequests : Prop :=
  (∀ (n : Fin 4) (req : Fin 83) (addr : Word) (len : Fin 16) (s : State),
    let e := s.dev.dramLead n
    arbReaches (8 + e) req = true → 64 ≤ req.val → dramAddrOk opRead addr.toNat len = true →
        s.dev.pairServes n = true →
    s.dev.fenced (8 + e) req = false →
    Does (.dramRead n req addr len) s ((s.dev.onDram e (fun x => { x with
      nextTag := x.nextTag + 1
      reqs := x.reqs ++ [{ req := req, tag := x.nextTag, write := false, first := addr.toNat / 2, count := (len + 1) / 2,
                           left := (len + 1) / 2 }] })).onArb (8 + e) (fun x => x.raise req))) ∧
  (∀ (n : Fin 4) (req : Fin 83) (addr : Word) (data : List (BitVec 64)) (s : State),
    let e := s.dev.dramLead n
    arbReaches (8 + e) req = true → 64 ≤ req.val → 0 < data.length → data.length ≤ 16 →
    dramAddrOk opWrite addr.toNat (data.length - 1) = true → s.dev.pairServes n = true →
        s.dev.fenced (8 + e) req = false →
    Does (.dramWrite n req addr data) s ((s.dev.onDram e (fun x => { x with
      nextTag := x.nextTag + 1
      reqs := x.reqs ++ [{ req := req, tag := x.nextTag, write := true, first := addr.toNat / 2, count := data.length / 2,
                           left := data.length / 2, data := burstsOf data }] })).onArb (8 + e) (fun x => x.raise
                               req))) ∧
  (∀ (n : Fin 4) (req : Fin 83) (addr : Word) (len : Fin 16) (data : List (BitVec 64)) (c : Instr) (write : Bool) (k :
      Nat)
    (s : State),
    let e := s.dev.dramLead n
    (c = .dramRead n req addr len ∧ write = false ∧ k = len ∨
      c = .dramWrite n req addr data ∧ write = true ∧ data.length = k + 1 ∧ k < 16) →
    arbReaches (8 + e) req = true → 64 ≤ req.val →
    let ok := dramAddrOk (if write then opWrite else opRead) addr.toNat k
    (ok = false → Does c s (s.dev.onDram e (fun x => { x with answer := ⟨stNoTarget, []⟩ }))) ∧
    (ok = true → s.dev.pairServes n = false → Does c s (s.dev.onDram e (fun x =>
        { x with answer := ⟨stChanOffline, []⟩ }))) ∧
    (ok = true → s.dev.pairServes n = true → s.dev.fenced (8 + e) req = true →
      Does c s ((s.dev.cnt F.ARB_REQ_STAT_FENCE_HITS (8 + e) req).onDram e (fun x =>
          { x with answer := ⟨stFenced, []⟩ })))) ∧
  (∀ (n : Fin 4) (req : Fin 83) (addr : Word) (len : Fin 16) (data : List (BitVec 64)) (p : Packet) (s : State),
      req.val < 64 →
    let e := s.dev.dramLead n
    let enters := fun (write : Bool) (count : Nat) => s.dev.onDram e (fun x => { x with
      nextTag := x.nextTag + 1
      reqs := x.reqs ++ [{ req := req, tag := x.nextTag, write := write, first := addr.toNat / 2, count := count,
                           left := count, pkt := some p.no }] })
    s.dev.dramNext n e req = some p → p.addr = addr →
    (p.op = opRead → p.len.toNat = len → p.flits = [] → Does (.dramRead n req addr len) s (enters false ((len + 1) /
        2))) ∧
    (p.op = opWrite → p.flits <+: data → data.length = p.len.toNat + 1 →
      Does (.dramWrite n req addr data) s (enters true (data.length / 2)))) ∧
  (∀ (n : Fin 4) (req : Fin 83) (addr : Word) (len : Fin 16) (data : List (BitVec 64)) (s : State),
    let e := s.dev.dramLead n
    arbReaches (8 + e) req = false ∨ (req.val < 64 ∧ s.dev.dramNext n e req = none) →
    Does (.dramRead n req addr len) s s.dev ∧ Does (.dramWrite n req addr data) s s.dev)

/-- Bursts in the command queue of a channel or a mirrored pair (R194, R195, R197, R201). When a requester's turn has
come, the next burst of its oldest request enters the queue, a write that of every channel that takes writes, a read
that of the one that takes it, while there is room; without room nothing enters. A burst that the ordering rules let
issue leaves the queue: a write changes exactly its burst, a read takes the burst's cells; one that they hold back
stays. The data of a read that is its request's last answer it, with any cells flipped: OK with the two words,
ECC_UNCORR without data for two wrong bits, counted. A write-back that is due changes exactly its burst, once no burst
for its bank is queued. A refresh changes nothing. -/
def Obligations.DramBursts : Prop :=
  (∀ (n : Fin 4) (req : Fin 83) (r : DramReq) (s : State),
    let e := s.dev.dramLead n
    let chans := if r.write then s.dev.writeChans e else (s.dev.readChan e).toList
    (s.dev.dram e).reqs.find? (fun r => r.req == req.val && r.next < r.count) = some r → s.dev.pairServes n = true →
    s.dev.holdsTurn (8 + e) req 1 → (r.write = true → s.dev.groupAsleep e = false) → chans ≠ [] →
    ((∀ m ∈ chans, (s.dev.dram m).queue.length < 32) →
      let enters := fun (v : BitVec 128 → Prop) => Yields (.dramBurstEnqueue n req) s (fun t => ∀ m ∈ chans,
        (∃ c, (t.dev.dram m).queue = (s.dev.dram m).queue ++ [c] ∧ c.write = r.write ∧ c.burst = r.first + r.next ∧
          c.tag = r.tag ∧ c.pos = r.next ∧ c.req = r.req ∧ v c.cells.data) ∧
        t.dev.gf F.DRC_STAT_QUEUE m = (s.dev.dram m).queue.length + 1 ∧ (t.dev.dram m).mem = (s.dev.dram m).mem)
      (r.write = false → enters (fun _ => True)) ∧
      (∀ v, r.write = true → s.dev.dramDatum r = some (some v) → enters (fun x => x = v))) ∧
    ((∃ m ∈ chans, (s.dev.dram m).queue.length ≥ 32) → Yields (.dramBurstEnqueue n req) s (fun t => ∀ m : Fin 4,
      (t.dev.dram m).queue = (s.dev.dram m).queue ∧ (t.dev.dram m).mem = (s.dev.dram m).mem))) ∧
  (∀ (n : Fin 4) (req : Fin 83) (s : State),
    (∀ r ∈ (s.dev.dram (s.dev.dramLead n)).reqs, r.req = req.val → r.count ≤ r.next) →
        Does (.dramBurstEnqueue n req) s s.dev) ∧
  (∀ (n : Fin 4) (k : Fin 32) (c : DramCmd) (s : State), (s.dev.dram n).queue[k.val]? = some c →
    (s.dev.issues n = true → mayIssueBurst (s.dev.dram n) k c = true →
      Yields (.dramBurstIssue n k) s (fun t => (t.dev.dram n).queue = (s.dev.dram n).queue.eraseIdx k ∧
        (∀ b, t.dev.burst n b = if c.write ∧ b = c.burst then ⟨c.cells.data,
            if c.bad then 3 else 0⟩ else s.dev.burst n b) ∧
        (c.write = false → (t.dev.dram n).reading = (s.dev.dram n).reading ++
            [{ c with cells := s.dev.burst n c.burst }]))) ∧
    (s.dev.issues n = false ∨ mayIssueBurst (s.dev.dram n) k c = false → Does (.dramBurstIssue n k) s s.dev)) ∧
  (∀ (n : Fin 4) (upset : BitVec 144) (c : DramCmd) (rest : List DramCmd) (r : DramReq) (s : State),
    let e := s.dev.dramLead n
    let cells : Burst := { c.cells with flips := c.cells.flips ^^^ upset }
    (s.dev.dram n).reading = c :: rest → (s.dev.dram e).reqs = [r] → r.tag = c.tag → r.next = r.count → r.left = 1 →
    r.write = false → r.bad = false → r.got = [] →
    (popCount cells.flips ≤ 1 → Yields (.dramReadData n upset) s (fun t =>
      (t.dev.dram e).answer = ⟨stOk, wordsOf c.cells.data⟩ ∧ (t.dev.dram e).reqs = [] ∧
          (t.dev.dram n).reading = rest ∧
      t.dev.gf F.DRC_ECC_CORR n = min (s.dev.gf F.DRC_ECC_CORR n + popCount cells.flips) (2 ^ F.DRC_ECC_CORR.width -
          1))) ∧
    (popCount cells.flips = 2 → Yields (.dramReadData n upset) s (fun t =>
      (t.dev.dram e).answer = ⟨stEccUncorr, []⟩ ∧ (t.dev.dram e).reqs = [] ∧
      t.dev.gf F.DRC_ECC_UNCORR n = min (s.dev.gf F.DRC_ECC_UNCORR n + 1) (2 ^ F.DRC_ECC_UNCORR.width - 1)))) ∧
  (∀ (n : Fin 4) (upset : BitVec 144) (s : State), (s.dev.dram n).reading = [] →
      Does (.dramReadData n upset) s s.dev) ∧
  (∀ (n : Fin 4) (b : BitVec 23) (v : BitVec 128) (s : State),
    (s.dev.dram n).writeback.find? (fun e => e.1 == b.toNat) = some (b.toNat, v) → s.dev.issues n = true →
    (∀ c ∈ (s.dev.dram n).queue, burstBank c.burst ≠ burstBank b.toNat) →
    Yields (.dramEccWriteback n b) s (fun t => t.dev.regs = s.dev.regs ∧
      ∀ a, t.dev.burst n a = if a = b.toNat then ⟨v, 0⟩ else s.dev.burst n a)) ∧
  (∀ (n : Fin 4) (b : BitVec 23) (s : State), (∀ e ∈ (s.dev.dram n).writeback, e.1 ≠ b.toNat) ∨
      s.dev.issues n = false ∨
    (∃ c ∈ (s.dev.dram n).queue, burstBank c.burst = burstBank b.toNat) → Does (.dramEccWriteback n b) s s.dev) ∧
  (∀ (n : Fin 4) (s : State), exec (.dramRefresh n) s = .next s)

/-- The Hatch windows of a channel that is ONLINE and not mirrored (R193), when the Hatch's turn has come at the
arbiter, with any cells of the burst flipped: a read gives the addressed half of the burst as the writes queued before
it leave it, OK, or as stored with OK_ECC where it is uncorrectable; a write queues the burst with that half replaced,
after all that was queued before, or ends ECC and queues nothing. A channel that is OFF is asleep, one that does not
serve is BUSY, and nothing of it changes. The Hatch windows of the Larder (R155, R161, Table 7.2), when its turn has
come at port G, with any cells of the word flipped. A read gives the addressed half; a write through the data, bit-set
or bit-clear window replaces, sets or clears bits of that half, and stores nothing and ends ECC where the word is
uncorrectable; no other word changes. A quadrant that is OFF is asleep: every access is counted and no word changes;
while it is CLEARING, or another requester holds the port, the access is BUSY. -/
def Obligations.HatchWindows : Prop :=
  ((∀ (a v : Word) (upset : BitVec 144) (n : Fin 4) (x : Burst) (s : State), a.toNat % 4 = 0 →
     dramWindow a.toNat = some n.val → s.dev.mirrorOf n = none → s.dev.dramState n = drOnline →
     s.dev.holdsTurn (8 + n) hatchId 1 →
     let wa := dramWord a.toNat
     x = (match (s.dev.dram n).queue.reverse.find? (fun c => c.write && c.burst == wa / 2) with
       | some c => ⟨c.cells.data, if c.bad then 3 else 0⟩
       | none => s.dev.burst n (wa / 2)) →
     let cells := { x with flips := x.flips ^^^ upset }
     let found := cells.check
     Yields (.dramHatchRead a upset) s (fun t => t.dev.hat.out = [(if found.1 = .double then (hOkEcc,
         halfOf (burstWord cells.raw wa) (winHalf a.toNat)) else (hOk, halfOf (burstWord found.2 wa) (winHalf
             a.toNat)))] ∧
       t.dev.gf F.HAT_STAT_LAST = (if found.1 = .double then hOkEcc else hOk) ∧ (t.dev.dram n).queue = []) ∧
     Yields (.dramHatchWrite a v upset) s (fun t => t.dev.gf F.HAT_STAT_LAST = (if found.1 =
         .double then hEcc else hOk) ∧
       (t.dev.dram n).queue.map (fun c => (c.write, c.burst, c.cells)) = if found.1 = .double then []
         else [(true, wa / 2, ⟨withBurstWord found.2 wa (withHalf (burstWord found.2 wa) (winHalf a.toNat) v),
             0⟩)])) ∧
   (∀ (a v : Word) (upset : BitVec 144) (n : Fin 4) (c : Instr) (s : State),
     c ∈ [.dramHatchRead a upset, .dramHatchWrite a v upset] → a.toNat % 4 = 0 → dramWindow a.toNat = some n.val →
     s.dev.pairServes n = false →
     (s.dev.dramState n = drOff → Yields c s (fun t => t.dev.gf F.HAT_STAT_LAST = hAsleep ∧
         t.dev.drams = s.dev.drams)) ∧
     (s.dev.dramState n ≠ drOff → Yields c s (fun t => t.dev.gf F.HAT_STAT_LAST = hBusy ∧
         t.dev.drams = s.dev.drams)))) ∧
  ((∀ (a v : Word) (u : BitVec 72) (c : Instr) (win : Nat) (s : State),
     (c, win) ∈ [(.larHatchWrite a v u, 0), (.larHatchBitSet a v u, 1), (.larHatchBitClear a v u, 2)] →
     a.toNat % 4 = 0 → larWindow a.toNat = some win → s.dev.quadState (larQuad (winWord a.toNat)) = 2 →
     s.dev.holdsTurn (larArb (larQuad (winWord a.toNat)) hatchId) hatchId 1 →
     let w := { s.dev.larWord (winWord a.toNat) with flips := (s.dev.larWord (winWord a.toNat)).flips ^^^ u }
     let y := w.check.2
     let old := halfOf y (winHalf a.toNat)
     let new := if win = 0 then v else if win = 1 then old ||| v else old &&& ~~~v
     Yields c s (fun t => t.dev.gf F.HAT_STAT_LAST = (if w.check.1 = .double then hEcc else hOk) ∧
       t.dev.larWord (winWord a.toNat) = (if w.check.1 = .double then w
         else ⟨withHalf y (winHalf a.toNat) new, 0⟩) ∧
       ∀ wa, wa < larWords → wa ≠ winWord a.toNat → t.dev.larWord wa = s.dev.larWord wa)) ∧
   (∀ (a : Word) (u : BitVec 72) (s : State), a.toNat % 4 = 0 → (larWindow a.toNat).isSome = true →
     s.dev.quadState (larQuad (winWord a.toNat)) = 2 →
     s.dev.holdsTurn (larArb (larQuad (winWord a.toNat)) hatchId) hatchId 1 →
     let w := { s.dev.larWord (winWord a.toNat) with flips := (s.dev.larWord (winWord a.toNat)).flips ^^^ u }
     Yields (.larHatchRead a u) s (fun t =>
       t.dev.hat.out = [(if w.check.1 = .double then (hOkEcc, halfOf w.raw (winHalf a.toNat))
         else (hOk, halfOf w.check.2 (winHalf a.toNat)))] ∧
       t.dev.gf F.HAT_STAT_LAST = (if w.check.1 = .double then hOkEcc else hOk) ∧
       ∀ wa, wa < larWords → wa ≠ winWord a.toNat → t.dev.larWord wa = s.dev.larWord wa)) ∧
   (∀ (a v : Word) (u : BitVec 72) (c : Instr) (win : Nat) (s : State),
     (c, win) ∈ [(.larHatchWrite a v u, 0), (.larHatchBitSet a v u, 1), (.larHatchBitClear a v u, 2),
       (.larHatchRead a u, win)] →
     a.toNat % 4 = 0 → larWindow a.toNat = some win →
     let q := larQuad (winWord a.toNat)
     (s.dev.quadState q = 0 → Yields c s (fun t => t.dev.gf F.HAT_STAT_LAST = hAsleep ∧ t.dev.lar = s.dev.lar ∧
       t.dev.gf F.HAT_CNT_ASLEEP = min (s.dev.gf F.HAT_CNT_ASLEEP + 1) (2 ^ F.HAT_CNT_ASLEEP.width - 1))) ∧
     (s.dev.quadState q = 1 ∨ (s.dev.quadState q = 2 ∧ s.dev.fenced (larArb q hatchId) hatchId = false ∧
         ∃ j, (s.dev.arb (larArb q hatchId)).owner = some j ∧ j ≠ hatchId) →
       Yields c s (fun t => t.dev.gf F.HAT_STAT_LAST = hBusy ∧ t.dev.lar = s.dev.lar))))

/-- Self-refresh (R198): an idle ONLINE channel with REF_MODE, of a device that has the state, enters it, counted, and
a partner in RESYNC goes back to OFFLINE; it leaves it for ONLINE once a request is there; otherwise neither changes
anything. Training (R199, R200, Table 9.6): from UNTRAINED or OFFLINE, TRAIN starts step 1; otherwise it ends with
RESULT 1. A good step leads to the next, step 2 only in the first training, a restore from the Attic with steps 1, 3
and 7; a bad one ends in OFFLINE or UNTRAINED, with RESULT 2, its step and pin, and a FAULT of source 0x42 naming
both; the last good one of a training ends in ONLINE with RESULT 0, or in RESYNC beside a partner that serves; after
OFF the clearing follows, and then every burst reads 0; a restore leaves every burst as it was. With commands queued,
or no step under way, a step ends nothing. -/
def Obligations.DramSelfRefreshAndTraining : Prop :=
  ((∀ (n : Fin 4) (s : State), s.dev.gf F.DRC_REF_REF_MODE n = 1 → s.dev.gf F.DRC_CFG_DEVTYPE n = 1 →
     s.dev.dramState n = drOnline → s.dev.dramIdle n = true →
     (s.dev.mirrorOf n = none →
       Does (.dramSelfRefreshEnter n) s ((s.dev.sf F.DRC_STAT_STATE n 0 drSelfRef).cnt F.DRC_CNT_SR_ENTRIES n 0)) ∧
     (s.dev.mirrorOf n ≠ none → Yields (.dramSelfRefreshEnter n) s (fun t => t.dev.dramState n = drSelfRef ∧
       t.dev.gf F.DRC_CNT_SR_ENTRIES n = min (s.dev.gf F.DRC_CNT_SR_ENTRIES n + 1) (2 ^ F.DRC_CNT_SR_ENTRIES.width -
           1) ∧
       (s.dev.dramState (partner n) = drResync → t.dev.dramState (partner n) = drOffline ∧
         t.dev.gf F.DRC_STAT_RESULT (partner n) = 2)))) ∧
   (∀ (n : Fin 4) (s : State), (s.dev.gf F.DRC_REF_REF_MODE n ≠ 1 ∨ s.dev.gf F.DRC_CFG_DEVTYPE n ≠ 1 ∨
       s.dev.dramState n ≠ drOnline ∨ s.dev.dramIdle n = false) →
     Does (.dramSelfRefreshEnter n) s s.dev) ∧
   (∀ (n : Fin 4) (s : State), s.dev.dramState n = drSelfRef → s.dev.dramIdle n = false →
     Does (.dramSelfRefreshExit n) s (s.dev.sf F.DRC_STAT_STATE n 0 drOnline)) ∧
   (∀ (n : Fin 4) (s : State), (s.dev.dramState n ≠ drSelfRef ∨ s.dev.dramIdle n = true) →
     Does (.dramSelfRefreshExit n) s s.dev)) ∧
  ((∀ (n : Fin 4) (s : State), (s.dev.dramState n = drUntrained ∨ s.dev.dramState n = drOffline) →
     Does (.dramTrain n) s ((s.dev.onDram n (fun x => { x with
       step := 1, kind := .full, back := s.dev.dramState n == drOffline, restored := false, offPending := false })).sf
         F.DRC_STAT_STATE n 0 drTraining)) ∧
   (∀ (n : Fin 4) (s : State), s.dev.dramState n ≠ drUntrained → s.dev.dramState n ≠ drOffline →
     Does (.dramTrain n) s ((s.dev.sf F.DRC_STAT_DONE n 0 1).sf F.DRC_STAT_RESULT n 0 1)) ∧
   (∀ (n : Fin 4) (ok : Bool) (pin : BitVec 8) (s : State), s.dev.dramState n = drTraining → 0 < (s.dev.dram n).step →
     (s.dev.dram n).queue = [] → s.dev.gov.sleep = none →
     let x := s.dev.dram n
     (∀ k, (ok = true ∨ x.kind = .clear) → (x.kind, x.step, k) ∈ [(.restore, 1, 3), (.restore, 3, 7)] ∨
         ((x.kind = .full ∨ x.kind = .fromOff) ∧ x.step < 8 ∧
           k = if x.step = 1 ∧ x.firstTrain = false ∧ x.kind = .full then 3 else x.step + 1) →
       Does (.dramTrainStepDone n ok pin) s (s.dev.onDram n (fun x => { x with step := k }))) ∧
     (ok = true → x.step = 8 → x.kind = .full → Yields (.dramTrainStepDone n ok pin) s (fun t =>
       (t.dev.dram n).trained = true ∧ (t.dev.dram n).step = 0 ∧ if s.dev.partnerServes n then t.dev.dramState n =
           drResync
       else t.dev.dramState n = drOnline ∧ t.dev.gf F.DRC_STAT_DONE n = 1 ∧ t.dev.gf F.DRC_STAT_RESULT n = 0)) ∧
     (ok = true → x.step = 8 → x.kind = .fromOff →
       Does (.dramTrainStepDone n ok pin) s (s.dev.onDram n (fun x => { x with kind := .clear, step := 9 }))) ∧
     (x.kind = .clear ∨ (ok = true ∧ x.kind = .restore ∧ x.step = 7) → s.dev.mirrorOf n = none → x.back = false →
       Yields (.dramTrainStepDone n ok pin) s (fun t => t.dev.dramState n = drOnline ∧
         ∀ b, t.dev.burst n b = if x.kind = .clear then {} else s.dev.burst n b)) ∧
     (ok = false → x.kind ≠ .clear → x.step < 8 → Yields (.dramTrainStepDone n ok pin) s (fun t =>
       t.dev.dramState n = (if x.back then drOffline else drUntrained) ∧
       t.dev.gf F.DRC_STAT_RESULT n = 2 ∧ t.dev.gf F.DRC_STAT_FAIL_STEP n = x.step ∧
       t.dev.gf F.DRC_STAT_FAIL_PIN n = pin.toNat))) ∧
   (∀ (n : Fin 4) (ok : Bool) (pin : BitVec 8) (s : State), s.dev.dramState n ≠ drTraining ∨ (s.dev.dram n).step = 0 ∨
     (s.dev.dram n).queue ≠ [] → s.dev.gov.sleep = none → Does (.dramTrainStepDone n ok pin) s s.dev))

/-- OFFLINE, ONLINE and RESYNC (R202, R203). An ONLINE channel, of a pair with the partner ONLINE, goes OFFLINE; the
operation ends OK once its queue is empty, and of an unmirrored one the requests that have beats left are gone; from
another state, or beside a partner that is not ONLINE, it ends with RESULT 1. An OFFLINE channel whose frequency has
not changed comes back ONLINE with RESULT 0, or begins RESYNC beside a partner that serves; else RESULT 1. At the end
of RESYNC every burst reads as the partner's, where that one's contents are defined and without a wrong bit, and the
channel is ONLINE. -/
def Obligations.DramOfflineOnline : Prop :=
  (∀ (n : Fin 4) (s : State), s.dev.dramState n = drOnline →
    (s.dev.mirrorOf n ≠ none → s.dev.dramState (partner n) = drOnline) →
    Yields (.dramOffline n) s (fun t => t.dev.dramState n = drOffline ∧ (t.dev.dram n).mem = (s.dev.dram n).mem ∧
      (s.dev.mirrorOf n = none → ∀ r ∈ (t.dev.dram n).reqs, r.next = r.count) ∧
      if (s.dev.dram n).queue = [] then t.dev.gf F.DRC_STAT_DONE n = 1 ∧ t.dev.gf F.DRC_STAT_RESULT n = 0
      else (t.dev.dram n).offPending = true)) ∧
  (∀ (n : Fin 4) (s : State), s.dev.dramState n ≠ drOnline ∨
    (s.dev.mirrorOf n ≠ none ∧ s.dev.dramState (partner n) ≠ drOnline) →
    Does (.dramOffline n) s ((s.dev.sf F.DRC_STAT_DONE n 0 1).sf F.DRC_STAT_RESULT n 0 1)) ∧
  (∀ (n : Fin 4) (s : State), s.dev.dramState n = drOffline → (s.dev.dram n).needTrain = false →
    (s.dev.partnerServes n = false → Does (.dramOnline n) s ((((s.dev.onDram n (fun x =>
        { x with offPending := false })).sf
      F.DRC_STAT_STATE n 0 drOnline).sf F.DRC_STAT_DONE n 0 1).sf F.DRC_STAT_RESULT n 0 0)) ∧
    (s.dev.partnerServes n = true → Yields (.dramOnline n) s (fun t => t.dev.dramState n = drResync ∧
      t.dev.dramState (partner n) = drOnline ∧ t.dev.gf F.DRC_RESYNC_PROGRESS n = 0))) ∧
  (∀ (n : Fin 4) (s : State), (s.dev.dramState n ≠ drOffline ∨ (s.dev.dram n).needTrain = true) →
    Does (.dramOnline n) s ((s.dev.sf F.DRC_STAT_DONE n 0 1).sf F.DRC_STAT_RESULT n 0 1)) ∧
  (∀ (n : Fin 4) (s : State), s.dev.dramState n = drResync → (s.dev.dram (partner n)).zeroed = true →
    (s.dev.dram (partner n)).queue = [] → (∀ b, (s.dev.burst (partner n) b).flips = 0) →
    Yields (.dramResyncDone n) s (fun t => t.dev.dramState n = drOnline ∧ t.dev.gf F.DRC_STAT_RESULT n = 0 ∧
      ∀ b, t.dev.burst n b = s.dev.burst (partner n) b)) ∧
  (∀ (n : Fin 4) (s : State), s.dev.dramState n ≠ drResync → Does (.dramResyncDone n) s s.dev)

/-- Device time (R207 to R210): with its PLL feeding it in a mode with device time, the time base locks and counts; a
lock loss is seen and logged, and changes no count; a read of EVT_TIME_HI gives the word latched; a read of
EVT_TIME_LO gives bits 31 to 0 and latches bits 63 to 32. Accesses to an angle unit (R217). A read of EVT_ANG_u_ANGLE
gives the low half of the predicted position and latches its high half in EVT_ANG_u_REV. A write of it while EN is 0
sets the position; while EN is 1 a change of it is refused with a NOTICE of source 0x75. A write of EVT_ANG_u_CFG
takes each field but a reserved MODE and a change of MODE while EN is 1, which are refused with such a NOTICE; where
it changes EN, STALL, ZSYNC and the history are cleared and the unit starts from the present time. -/
def Obligations.DeviceTimeAndAngleRegisters : Prop :=
  ((∀ s : State, s.dev.tbFed = true → s.dev.timeMode = true → s.dev.gb F.EVT_TIME_STAT_TB_LOCKED = false →
     Does .timeBaseLock s ((({ s.dev with ev := { s.dev.ev with tbEver := true } }).sf F.EVT_TIME_STAT_TB_LOCKED 0 0
         1).sf
       F.EVT_TIME_STAT_COUNTING 0 0 1)) ∧
   (∀ s : State, s.dev.gb F.EVT_TIME_STAT_TB_LOCKED = true →
     Does .timeBaseLockLoss s (((s.dev.sf F.EVT_TIME_STAT_TB_LOCKED 0 0 0).sf F.EVT_TIME_STAT_TB_UNLOCK_SEEN 0 0
         1).fault 0x74 106)) ∧
   (∀ (c : Instr) (s : State), (c, s.dev.gb F.EVT_TIME_STAT_TB_LOCKED) ∈ [(.timeBaseLock, true), (.timeBaseLockLoss,
       false)] ∨
     c = .timeBaseLock ∧ (s.dev.tbFed = false ∨ s.dev.timeMode = false) → Does c s s.dev) ∧
   (∀ s : State, s.dev.on = true → s.dev.asleep .EVT_TIME_HI 0 = false →
     Yields (.spiReadWord 0x90004 true) s (fun t => t.dev.hat.out = [(hOk, s.dev.ev.timeHi)] ∧ t.dev.ev = s.dev.ev)) ∧
   (∀ s : State, s.dev.on = true → s.dev.asleep .EVT_TIME_LO 0 = false →
     Does .evtTimeLoRead s (({ s.dev with
       ev := { s.dev.ev with timeHi := (s.dev.ev.time >>> 32).setWidth 32 }
       hat := { s.dev.hat with out := [(hOk, s.dev.ev.time.setWidth 32)] } }).sf F.HAT_STAT_LAST 0 0 hOk))) ∧
  ((∀ (u : Fin 4) (s : State), s.dev.on = true → s.dev.asleep .EVT_ANG_ANGLE u = false →
     Does (.angleRead u) s ((({ s.dev with
       hat := { s.dev.hat with out := [(hOk, (s.dev.pPred u).setWidth 32)] } }).setReg .EVT_ANG_REV u 0
       ((s.dev.pPred u >>> 32).setWidth 32)).sf F.HAT_STAT_LAST 0 0 hOk)) ∧
   (∀ (u : Fin 4) (v : Word) (s : State), s.dev.evOn = true → s.dev.gb F.EVT_ANG_CFG_EN u = false →
     Does (.anglePositionWrite u v) s (s.dev.onAngle u (fun x => { x with
       pos := (x.pendRev.setWidth 64 <<< 32) ||| v.setWidth 64, hist := [], haveEdge := false, frozen := none }))) ∧
   (∀ (u : Fin 4) (v : Word) (s : State), s.dev.evOn = true → s.dev.gb F.EVT_ANG_CFG_EN u = true →
     Does (.anglePositionWrite u v) s (if v = (s.dev.pPred u).setWidth 32 then s.dev
       else s.dev.notice 0x75 (0x90100 + 0x40 * u + 0x10))) ∧
   (∀ (u : Fin 4) (v : Word) (s : State), s.dev.evOn = true →
     let en := s.dev.gf F.EVT_ANG_CFG_EN u
     let mode := s.dev.gf F.EVT_ANG_CFG_MODE u
     let kept := bits v 27 2 = 3 ∨ en = 1
     Yields (.angleUnitEnable u v) s (fun t => t.dev.gf F.EVT_ANG_CFG_EN u = bits v 31 1 ∧
       t.dev.gf F.EVT_ANG_CFG_MODE u = (if kept then mode else bits v 27 2) ∧
       t.dev.gf F.ERR_CNT_COUNT 0x75 = (if kept ∧ bits v 27 2 ≠ mode then
         min (s.dev.gf F.ERR_CNT_COUNT 0x75 + 1) (2 ^ 32 - 1) else s.dev.gf F.ERR_CNT_COUNT 0x75) ∧
       t.dev.gf F.EVT_ANG_CFG_HIST u = bits v 23 4 ∧
       t.dev.gf F.EVT_ANG_CFG_FILT u = bits v 8 8 ∧ t.dev.gf F.EVT_ANG_CFG_Z_TOL u = bits v 0 8 ∧
       t.dev.gf F.EVT_ANG_CFG_Z_EN u = bits v 30 1 ∧ t.dev.gf F.EVT_ANG_CFG_DIR_INV u = bits v 29 1 ∧
       (if bits v 31 1 = en then t.dev.reg .EVT_ANG_STAT u = s.dev.reg .EVT_ANG_STAT u ∧ t.dev.angle u = s.dev.angle u
        else t.dev.gf F.EVT_ANG_STAT_STALL u = 0 ∧ t.dev.gf F.EVT_ANG_STAT_ZSYNC u = 0 ∧
          t.dev.angle u = { s.dev.angle u with hist := [], haveEdge := false, frozen := none, tEdge := s.dev.ev.time }) ∧
       (∀ w : Fin 4, w ≠ u → t.dev.angle w = s.dev.angle w) ∧ t.dev.rooms = s.dev.rooms ∧ t.nch = s.nch ∧
           t.hb = s.hb)))

/-- A quadrature change (R211, R212, R214, R216), where the filtered levels differ from the last ones. Both inputs at
once: nothing is counted, QERR_SEEN and a NOTICE of source 0x52. One input that MODE does not count, and any while EN
is 0: only the levels are kept. One input, counted by MODE: forward, P grows by INC and the time since the last edge
enters the history; backward, P falls by INC and the history is cleared; either way the edge is stamped FILT ticks
back, STALL is 0 and DIR tells the direction. No other unit changes. Z edges and stalls (R213, R216). The first Z edge
of an enabled unit turning forward adopts the reference and sets ZSYNC; a later one corrects P within the tolerance;
beyond it only ZERR_SEEN and a NOTICE of source 0x52. Once no edge has come for STALL_TO × 1,024 ticks, the position
is frozen at the prediction, STALL and STALL_SEEN are set with a NOTICE of source 0x50, and the history is cleared. -/
def Obligations.EncoderEdgesAndCorrections : Prop :=
  (∀ (u : Fin 4) (a b : Bool) (dt : Nat) (s : State), s.dev.evOn = true → s.dev.gb F.EVT_ANG_CFG_EN u = true →
     let d := s.dev.tick dt
     let x := s.dev.angle u
     let stamp := BitVec.ofNat 64 (d.now - s.dev.gf F.EVT_ANG_CFG_FILT u)
     let fwd := quadForward x.a x.b a ^^ s.dev.gb F.EVT_ANG_CFG_DIR_INV u
     (a ≠ x.a → b ≠ x.b → Does (.encoderEdge u a b dt) s
       (((d.onAngle u (fun y => { y with a := a, b := b })).sf F.EVT_ANG_STAT_QERR_SEEN u 0 1).notice 0x52 u)) ∧
     (a ≠ x.a ∧ b = x.b ∨ a = x.a ∧ b ≠ x.b → quadCounted (s.dev.gf F.EVT_ANG_CFG_MODE u) (a != x.a) a = true →
       Yields (.encoderEdge u a b dt) s (fun t =>
         (t.dev.angle u).pos = (if fwd then x.pos + BitVec.ofNat 64 (s.dev.gf F.EVT_ANG_INC_INC u)
           else x.pos - BitVec.ofNat 64 (s.dev.gf F.EVT_ANG_INC_INC u)) ∧
         (t.dev.angle u).tEdge = stamp ∧ (t.dev.angle u).frozen = none ∧ (t.dev.angle u).a = a ∧
             (t.dev.angle u).b = b ∧
         (t.dev.angle u).hist = (if fwd then
           if x.haveEdge ∧ x.tEdge.toNat < stamp.toNat then ((stamp.toNat - x.tEdge.toNat) :: x.hist).take 16 else
               x.hist
           else []) ∧
         t.dev.gf F.EVT_ANG_STAT_STALL u = 0 ∧ t.dev.gf F.EVT_ANG_STAT_DIR u = b2n (!fwd) ∧
         (∀ v : Fin 4, v ≠ u → t.dev.angle v = s.dev.angle v) ∧ t.dev.ev.time = d.ev.time ∧
             t.dev.rooms = s.dev.rooms ∧
         t.dev.ev.queues = s.dev.ev.queues ∧ t.nch = s.nch ∧ t.hb = s.hb)) ∧
     (a ≠ x.a ∧ b = x.b ∨ a = x.a ∧ b ≠ x.b → quadCounted (s.dev.gf F.EVT_ANG_CFG_MODE u) (a != x.a) a = false →
       Does (.encoderEdge u a b dt) s (d.onAngle u (fun y => { y with a := a, b := b }))) ∧
     (a = x.a → b = x.b → Does (.encoderEdge u a b dt) s d)) ∧
  (∀ (u : Fin 4) (a b : Bool) (dt : Nat) (s : State), (s.dev.evOn = false ∨ s.dev.gb F.EVT_ANG_CFG_EN u = false) →
     Does (.encoderEdge u a b dt) s ((s.dev.tick dt).onAngle u (fun y => { y with a := a, b := b }))) ∧
  (∀ (u : Fin 4) (dt : Nat) (s : State), s.dev.evOn = true → s.dev.gb F.EVT_ANG_CFG_EN u = true →
     s.dev.gb F.EVT_ANG_CFG_Z_EN u = true → s.dev.gb F.EVT_ANG_STAT_DIR u = false →
     let d := s.dev.tick dt
     let e := (BitVec.ofNat 32 (s.dev.gf F.EVT_ANG_LIM_ZOFF u * 65536) - (s.dev.angle u).pos.setWidth 32).toInt
     (s.dev.gb F.EVT_ANG_STAT_ZSYNC u = false → Does (.encoderZEdge u dt) s
       ((d.onAngle u (fun x => { x with pos := x.pos + BitVec.ofInt 64 e })).sf F.EVT_ANG_STAT_ZSYNC u 0 1)) ∧
     (s.dev.gb F.EVT_ANG_STAT_ZSYNC u = true → e.natAbs ≤ s.dev.gf F.EVT_ANG_CFG_Z_TOL u * 65536 →
       Does (.encoderZEdge u dt) s (d.onAngle u (fun x => { x with pos := x.pos + BitVec.ofInt 64 e }))) ∧
     (s.dev.gb F.EVT_ANG_STAT_ZSYNC u = true → s.dev.gf F.EVT_ANG_CFG_Z_TOL u * 65536 < e.natAbs →
       Does (.encoderZEdge u dt) s ((d.sf F.EVT_ANG_STAT_ZERR_SEEN u 0 1).notice 0x52 (0x10 + u)))) ∧
  (∀ (u : Fin 4) (dt : Nat) (s : State), (s.dev.evOn = false ∨ s.dev.gb F.EVT_ANG_CFG_EN u = false ∨
       s.dev.gb F.EVT_ANG_CFG_Z_EN u = false ∨ s.dev.gb F.EVT_ANG_STAT_DIR u = true) →
     Does (.encoderZEdge u dt) s (s.dev.tick dt)) ∧
  (∀ (u : Fin 4) (dt : Nat) (s : State), s.dev.evOn = true → s.dev.gb F.EVT_ANG_CFG_EN u = true →
     let d := s.dev.tick dt
     let past := (s.dev.angle u).tEdge.toNat + s.dev.gf F.EVT_ANG_LIM_STALL_TO u * 1024
     ((s.dev.gb F.EVT_ANG_STAT_STALL u = true ∨ s.dev.gf F.EVT_ANG_LIM_STALL_TO u = 0 ∨ d.now < past) →
       Does (.angleStall u dt) s d) ∧
     (s.dev.gb F.EVT_ANG_STAT_STALL u = false → s.dev.gf F.EVT_ANG_LIM_STALL_TO u ≠ 0 → past ≤ d.now →
       Does (.angleStall u dt) s ((((d.onAngle u (fun x => { x with
         hist := [], haveEdge := false, frozen := some (d.pPred u) })).sf F.EVT_ANG_STAT_STALL u 0 1).sf
         F.EVT_ANG_STAT_STALL_SEEN u 0 1).notice 0x50 u)))

/-- Writes of a queue's descriptor (R222, R224, R225, R228, R235), while the event core runs. Word 0: ECHO, LATE, SIZE
and BASE are taken outside RUN and FAULT, but for a reserved LATE or SIZE and a SIZE beyond the core's ring entries;
then STATE is judged by them: to RUN from IDLE or STOPPED under Table 10.3's conditions, taking the reference; RUN to
STOPPED, the head record leaving placement, or firing first where it was handed to its string; FAULT to IDLE or
STOPPED and STOPPED to IDLE always. A field that is not taken and a change of STATE that is not in the table are
refused, with a NOTICE of source 0x56. Word 1 takes HEAD, outside RUN, and TAIL, and refuses both beyond the capacity
or, in RUN, below the present count. Word 2 is refused in RUN and FAULT. Word 3 takes the counts written and adds the
counts of the same cycle. Nothing else changes. -/
def Obligations.QueueDescriptors : Prop :=
  (∀ (q : BitVec 14) (v : Word) (s : State), s.dev.evOn = true →
    let c := Instr.queueWord0Write q v
    let old := s.dev.qState q.toNat
    let st := bits v 30 2
    let locked := old = qRun ∨ old = qFault
    let size := bits v 21 4
    let tooBig := old = qStopped ∧
      maxEntries < s.dev.qSum - ringSize (s.dev.gf F.QUEUE_W0_SIZE q.toNat) + ringSize size
    let writes : List (Fld × Nat × Bool) := [(F.QUEUE_W0_ECHO, bits v 28 1, decide locked),
      (F.QUEUE_W0_LATE, bits v 25 3, decide (locked ∨ 2 < bits v 25 3)),
      (F.QUEUE_W0_SIZE, size, decide (locked ∨ size = 15 ∨ tooBig)), (F.QUEUE_W0_BASE, bits v 0 21, decide locked)]
    let d := writes.foldl (fun d x => if x.2.1 = s.dev.gf x.1 q.toNat ∨ x.2.2 =
        true then d else d.sf x.1 q.toNat 0 x.2.1) s.dev
    let bad := writes.any (fun x => decide (x.2.1 ≠ s.dev.gf x.1 q.toNat) && x.2.2)
    let fin := fun (d : Dev) (refused : Bool) => if refused then d.notice 0x56 (0x100000 + 16 * q.toNat) else d
    (st = 1 → (old = qIdle ∨ old = qStopped) → d.runOk q.toNat = true →
      Does c s (fin ((d.onQueue q.toNat (fun x => { x with cur := none, ref := s.dev.ev.time })).sf
        F.QUEUE_W0_STATE q.toNat 0 qRun) bad)) ∧
    (st = 2 → old = qRun → (∀ r, (s.dev.queue q.toNat).cur = some r → r.commit = none) →
      Does c s (fin ((d.onQueue q.toNat (fun x => { x with cur := none })).sf F.QUEUE_W0_STATE q.toNat 0 qStopped)
          bad)) ∧
    (∀ r x, st = 2 → old = qRun → (s.dev.queue q.toNat).cur = some r → r.commit = some x → Yields c s (fun t =>
      t.dev.gf F.QUEUE_W0_STATE q.toNat = qStopped ∧ (t.dev.queue q.toNat).cur = none ∧
      t.dev.ev.handed = s.dev.ev.handed ++ [(s.dev.qIndex q.toNat, x)] ∧
      t.dev.gf F.QUEUE_W1_HEAD q.toNat = (s.dev.gf F.QUEUE_W1_HEAD q.toNat + 1) % 65536 ∧
      t.dev.gf F.QUEUE_W3_FIRED q.toNat = (s.dev.gf F.QUEUE_W3_FIRED q.toNat + 1) % 2 ^ F.QUEUE_W3_FIRED.width ∧
      t.dev.ev.chans = s.dev.ev.chans)) ∧
    ((st = 2 ∧ (old = qFault ∨ old = qIdle ∧ d.sumKept q.toNat = true)) ∨ (st = 0 ∧ (old = qFault ∨ old = qStopped)) →
      Does c s (fin (d.sf F.QUEUE_W0_STATE q.toNat 0 st) bad)) ∧
    (st ≠ old → (st = 3 ∨ st = 0 ∧ old = qRun ∨ st = 1 ∧ old = qFault ∨ st = 1 ∧ d.runOk q.toNat = false ∨
        st = 2 ∧ old = qIdle ∧ d.sumKept q.toNat = false) → Does c s (fin d true)) ∧
    (st = old → Does c s (fin d bad))) ∧
  (∀ (q : BitVec 14) (v : Word) (s : State), s.dev.evOn = true → s.dev.qState q.toNat ≠ qRun →
    v ≠ s.dev.reg .QUEUE_W1 q.toNat →
    (ringCount (bits v 16 16) (bits v 0 16) ≤ s.dev.qCap q.toNat →
      Yields (.queueWord1Write q v) s (fun t => t.dev.reg .QUEUE_W1 q.toNat = v ∧
        s.dev.keepsRegs t.dev [(.QUEUE_W1, q.toNat, 0)] ∧ t.dev.ev = s.dev.ev ∧ t.nch = s.nch ∧ t.hb = s.hb)) ∧
    (s.dev.qCap q.toNat < ringCount (bits v 16 16) (bits v 0 16) →
      Does (.queueWord1Write q v) s (s.dev.notice 0x56 (0x100004 + 16 * q.toNat)))) ∧
  (∀ (q : BitVec 14) (v : Word) (s : State), s.dev.evOn = true → s.dev.qState q.toNat = qRun →
    let count := ringCount (bits v 16 16) (s.dev.gf F.QUEUE_W1_HEAD q.toNat)
    (bits v 16 16 = s.dev.gf F.QUEUE_W1_TAIL q.toNat → Does (.queueWord1Write q v) s s.dev) ∧
    (bits v 16 16 ≠ s.dev.gf F.QUEUE_W1_TAIL q.toNat → (s.dev.qCap q.toNat < count ∨ count < s.dev.qCount q.toNat) →
      Does (.queueWord1Write q v) s (s.dev.notice 0x56 (0x100004 + 16 * q.toNat))) ∧
    (s.dev.qCount q.toNat ≤ count → count ≤ s.dev.qCap q.toNat →
      Yields (.queueWord1Write q v) s (fun t => t.dev.gf F.QUEUE_W1_TAIL q.toNat = bits v 16 16 ∧
        t.dev.gf F.QUEUE_W1_HEAD q.toNat = s.dev.gf F.QUEUE_W1_HEAD q.toNat ∧
        s.dev.keepsRegs t.dev [(.QUEUE_W1, q.toNat, 0)] ∧ t.dev.ev = s.dev.ev ∧ t.nch = s.nch ∧ t.hb = s.hb))) ∧
  (∀ (q : BitVec 14) (v : Word) (s : State), s.dev.evOn = true → v ≠ s.dev.reg .QUEUE_W2 q.toNat →
    ((s.dev.qState q.toNat = qRun ∨ s.dev.qState q.toNat = qFault) →
      Does (.queueWord2Write q v) s (s.dev.notice 0x56 (0x100008 + 16 * q.toNat))) ∧
    ((s.dev.qState q.toNat = qIdle ∨ s.dev.qState q.toNat = qStopped) →
      Does (.queueWord2Write q v) s (s.dev.setReg .QUEUE_W2 q.toNat 0 v))) ∧
  (∀ (q : BitVec 14) (v : Word) (fired late forced : Bool) (s : State), s.dev.evOn = true →
    Yields (.queueWord3Write q v fired late forced) s (fun t =>
      t.dev.gf F.QUEUE_W3_FIRED q.toNat = (bits v F.QUEUE_W3_FIRED.lo F.QUEUE_W3_FIRED.width + b2n fired) % 2 ^
          F.QUEUE_W3_FIRED.width ∧
      t.dev.gf F.QUEUE_W3_LATE q.toNat =
        min (bits v F.QUEUE_W3_LATE.lo F.QUEUE_W3_LATE.width + b2n late) (2 ^ F.QUEUE_W3_LATE.width - 1) ∧
      t.dev.gf F.QUEUE_W3_FORCED q.toNat =
        min (bits v F.QUEUE_W3_FORCED.lo F.QUEUE_W3_FORCED.width + b2n forced) (2 ^ F.QUEUE_W3_FORCED.width - 1) ∧
      s.dev.keepsRegs t.dev [(.QUEUE_W3, q.toNat, 0)] ∧ t.dev.ev = s.dev.ev ∧ t.nch = s.nch ∧ t.hb = s.hb)) ∧
  (∀ (c : Instr) (q : BitVec 14) (s : State), s.dev.evOn = true → c ∈ [.queueWord1Write q (s.dev.reg .QUEUE_W1
      q.toNat),
    .queueWord2Write q (s.dev.reg .QUEUE_W2 q.toNat)] → Does c s s.dev)

/-- Heads and faults of queues (R219, R226, R229, R236). In RUN, with a record there and none current, a head fetch
that the Larder serves, whatever cells of the word it finds flipped, takes the corrected record at HEAD as current;
where the record is invalid, or the word uncorrectable, it puts the queue in FAULT, HEAD unchanged, recorded in
EVT_QFAULT with cause 1 or 2 if VALID is 0 and logged with source 0x53; no other Larder word changes. Without a record
to fetch nothing changes. STOP_ALL stops exactly the queues in RUN. Echo rings (R231, R236): EN set while it is 0
takes BASE and SIZE, but SIZE 15 is refused, clears the core's copies of HEAD and TAIL and writes 0 to the TAIL word;
while EN is 1 and stays so, a change of BASE or SIZE is refused; EN cleared takes them. -/
def Obligations.QueueHeadsAndEchoRings : Prop :=
  ((∀ (q : BitVec 14) (u : BitVec 72) (s : State), s.dev.queuesRun = true → s.dev.qState q.toNat = qRun →
     s.dev.qCount q.toNat ≠ 0 → (s.dev.queue q.toNat).cur = none →
     let wa := s.dev.qSlot q.toNat (s.dev.gf F.QUEUE_W1_HEAD q.toNat)
     let w := s.dev.larSeen wa u
     let r := w.check.2
     let bad := r.extractLsb' 62 2 = 3 ∨ 6 < (r.extractLsb' 20 4).toNat ∨ r.extractLsb' 62 2 = 2 ∧ r.getLsbD 61 = true
     s.dev.larServes evId wa = true →
     (w.check.1 ≠ .double → ¬ bad → Yields (.queueHeadFetch q u) s (fun t =>
       t.dev.queue q.toNat = { s.dev.queue q.toNat with cur := some { word := r } } ∧
           s.dev.keepsKinds t.dev larKinds ∧
       (∀ a, a < larWords → t.dev.larWord a = if a = wa then w else s.dev.larWord a) ∧ t.nch = s.nch ∧ t.hb = s.hb)) ∧
     (w.check.1 = .double ∨ bad → Yields (.queueHeadFetch q u) s (fun t =>
       t.dev.qState q.toNat = qFault ∧ t.dev.queue q.toNat = s.dev.queue q.toNat ∧
       t.dev.reg .QUEUE_W1 q.toNat = s.dev.reg .QUEUE_W1 q.toNat ∧
       (s.dev.gb F.EVT_QFAULT_VALID = true → t.dev.reg .EVT_QFAULT = s.dev.reg .EVT_QFAULT) ∧
       (s.dev.gb F.EVT_QFAULT_VALID = false → t.dev.gf F.EVT_QFAULT_VALID = 1 ∧
           t.dev.gf F.EVT_QFAULT_QUEUE = q.toNat ∧
         t.dev.gf F.EVT_QFAULT_CAUSE = if w.check.1 = .double then 2 else 1) ∧
       (w.check.1 ≠ .double → s.dev.gb F.ERR_FIRST_VALID = false → t.dev.gf F.ERR_FIRST_SRC = 0x53 ∧
         t.dev.gf F.ERR_FIRST_DETAIL_VALUE = q.toNat) ∧
       (∀ a, a < larWords → t.dev.larWord a = if a = wa then w else s.dev.larWord a) ∧ t.nch = s.nch ∧
           t.hb = s.hb))) ∧
   (∀ (q : BitVec 14) (u : BitVec 72) (s : State), s.dev.queuesRun = false ∨ s.dev.qState q.toNat ≠ qRun ∨
     s.dev.qCount q.toNat = 0 ∨ (s.dev.queue q.toNat).cur ≠ none → Does (.queueHeadFetch q u) s s.dev) ∧
   (∀ s : State, s.dev.evOn = true → Yields .stopAll s (fun t =>
     (∀ q : BitVec 14, t.dev.qState q.toNat = if s.dev.qState q.toNat = qRun then qStopped else s.dev.qState q.toNat)
         ∧
     (∀ q : BitVec 14, (∀ c, (s.dev.queue q.toNat).cur = some c → c.commit = none) →
       t.dev.reg .QUEUE_W1 q.toNat = s.dev.reg .QUEUE_W1 q.toNat) ∧ t.nch = s.nch))) ∧
  ((∀ (r : Fin 4) (v : Word) (s : State), s.dev.evOn = true → s.dev.gb F.EVT_ECHO_CFG_EN r = false → bits v 31 1 = 1 →
     let wa := s.dev.gf F.EVT_ECHO_CTL_CTRL_WA r
     let size := bits v 21 4
     s.dev.larServes evId wa = true →
     Yields (.echoRingEnable r v) s (fun t =>
       t.dev.gf F.EVT_ECHO_CFG_EN r = 1 ∧ t.dev.gf F.EVT_ECHO_STAT_TAIL r = 0 ∧
           t.dev.gf F.EVT_ECHO_CFG_BASE r = bits v 0 21 ∧
       t.dev.gf F.EVT_ECHO_CFG_SIZE r = (if size = 15 then s.dev.gf F.EVT_ECHO_CFG_SIZE r else size) ∧
       (size ≠ 15 → s.dev.keepsKinds t.dev (.EVT_ECHO_CFG :: .EVT_ECHO_STAT :: larKinds)) ∧
       Map.get (fun _ => 0) t.dev.ev.echoHead r = 0 ∧ t.dev.ev.queues = s.dev.ev.queues ∧
       (∀ a, a < larWords → t.dev.larWord a = if a = wa then ⟨0, 0⟩ else s.dev.larWord a) ∧ t.nch = s.nch ∧
           t.hb = s.hb)) ∧
   (∀ (r : Fin 4) (v : Word) (s : State), s.dev.evOn = true → s.dev.gb F.EVT_ECHO_CFG_EN r = true → bits v 31 1 = 1 →
     (bits v 21 4 ≠ s.dev.gf F.EVT_ECHO_CFG_SIZE r ∨ bits v 0 21 ≠ s.dev.gf F.EVT_ECHO_CFG_BASE r) →
     Does (.echoRingEnable r v) s (s.dev.notice 0x56 (0x90200 + 0x10 * r))) ∧
   (∀ (r : Fin 4) (v : Word) (s : State), s.dev.evOn = true → s.dev.gb F.EVT_ECHO_CFG_EN r = true → bits v 31 1 = 0 →
     bits v 21 4 ≠ 15 → Yields (.echoRingEnable r v) s (fun t => t.dev.gf F.EVT_ECHO_CFG_EN r = 0 ∧
       t.dev.gf F.EVT_ECHO_CFG_BASE r = bits v 0 21 ∧ t.dev.gf F.EVT_ECHO_CFG_SIZE r = bits v 21 4 ∧
       s.dev.keepsRegs t.dev [(.EVT_ECHO_CFG, r, 0)] ∧ t.dev.lar = s.dev.lar ∧ t.dev.ev = s.dev.ev)))

/-- Internal appends (R228, R229, R253, R284). The oldest record of an attachment's or the host bus's post buffer, to
a queue with room and no append under way, goes to the slot that TAIL names, TAIL staying, and no other word changes;
where the slot's quadrant is not UP no word changes, and the append fails with QUAD_DOWN. Its OK acknowledge advances
TAIL by one, and is counted for its poster; a failed one puts the queue in FAULT, TAIL staying. A record for a full
queue, or one in FAULT, is counted in EVT_POST_CNT, and its poster gets a refusal: a room a word with the reason, the
host bus POST_REFUSED. -/
def Obligations.InternalAppends : Prop :=
  (∀ (i : Fin 2) (r : PostRec) (l : List PostRec) (s : State), s.dev.evOn = true → s.dev.postBuf i = r :: l →
    s.dev.ev.mesh = [] → s.dev.appendJudge r.queue = .go →
    let wa := s.dev.qSlot r.queue (s.dev.gf F.QUEUE_W1_TAIL r.queue)
    s.dev.larServes evId wa = true ∨ (larAddrOk (larQuad wa) wa 0 = true ∧ s.dev.quadState (larQuad wa) ≠ 2) →
    Yields (.internalAppend (.att i)) s (fun t => t.dev.postBuf i = l ∧ s.dev.keepsKinds t.dev larKinds ∧
      (∀ a, a < larWords → t.dev.larWord a =
        if a = wa ∧ s.dev.quadState (larQuad wa) = 2 then ⟨r.word, 0⟩ else s.dev.larWord a) ∧
      (t.dev.queue r.queue).append = some
        { status := if s.dev.quadState (larQuad wa) = 2 then stOk else stQuadDown, poster := 2 * r.room + r.port } ∧
            t.nch = s.nch ∧ t.hb = s.hb)) ∧
  (∀ (r : Nat × BitVec 64) (l : List (Nat × BitVec 64)) (s : State), s.dev.evOn = true →
      s.dev.gb F.HBT_STAT_CLK_RUN = true →
    s.hb.posts = r :: l → s.dev.appendJudge r.1 = .go →
    let wa := s.dev.qSlot r.1 (s.dev.gf F.QUEUE_W1_TAIL r.1)
    s.dev.larServes evId wa = true ∨ (larAddrOk (larQuad wa) wa 0 = true ∧ s.dev.quadState (larQuad wa) ≠ 2) →
    Yields (.internalAppend .host) s (fun t => t.hb = { s.hb with posts := l } ∧ s.dev.keepsKinds t.dev larKinds ∧
      (∀ a, a < larWords → t.dev.larWord a =
        if a = wa ∧ s.dev.quadState (larQuad wa) = 2 then ⟨r.2, 0⟩ else s.dev.larWord a) ∧
      (t.dev.queue r.1).append = some
        { status := if s.dev.quadState (larQuad wa) = 2 then stOk else stQuadDown, poster := 128 } ∧ t.nch = s.nch)) ∧
  (∀ (i : Fin 2) (r : PostRec) (l : List PostRec) (s : State), s.dev.evOn = true → s.dev.postBuf i = r :: l →
    s.dev.ev.mesh = [] → r.room < 64 → r.port < 2 → s.dev.noDelivery r.room = false →
        s.dev.evRoom r.room r.port = true →
    ∀ (j : Accept) (f : Fld) (reason : Nat), (j, f, reason) ∈ [(.full, F.EVT_POST_CNT_FULL, 0), (.fault,
        F.EVT_POST_CNT_STATE, 1)] →
    s.dev.appendJudge r.queue = j →
    Yields (.internalAppend (.att i)) s (fun t => t.dev.postBuf i = l ∧ t.dev.gf f =
        min (s.dev.gf f + 1) (2 ^ f.width - 1) ∧
      (t.dev.room r.room).ev r.port = (s.dev.room r.room).ev r.port ++ [deliveryWord 2 r.queue reason 0 s.dev.now] ∧
      t.dev.ev.queues = s.dev.ev.queues ∧ t.dev.lar = s.dev.lar ∧ t.nch = s.nch)) ∧
  (∀ (r : Nat × BitVec 64) (l : List (Nat × BitVec 64)) (s : State), s.dev.evOn = true →
      s.dev.gb F.HBT_STAT_CLK_RUN = true →
    s.hb.posts = r :: l →
    ∀ (j : Accept) (f : Fld) (reason : Nat), (j, f, reason) ∈ [(.full, F.EVT_POST_CNT_FULL, 0), (.fault,
        F.EVT_POST_CNT_STATE, 1)] →
    s.dev.appendJudge r.1 = j →
    Yields (.internalAppend .host) s (fun t => t.dev.gf f = min (s.dev.gf f + 1) (2 ^ f.width - 1) ∧
      t.hb.posts = l ∧ t.hb.refused = s.hb.refused + 1 ∧ t.hb.intStat.getLsbD 1 = true ∧
      t.hb.postLast = (if s.hb.postLast.getLsbD 31 then s.hb.postLast else BitVec.ofNat 32 (0x80000000 + reason *
          65536 + r.1)) ∧
      t.dev.ev = s.dev.ev ∧ t.dev.lar = s.dev.lar ∧ t.nch = s.nch)) ∧
  (∀ (q : BitVec 14) (a : Append) (s : State), s.dev.evOn = true → (s.dev.queue q.toNat).append = some a →
    (a.status = stOk → a.poster < 128 → Does (.appendAck q) s
      ((s.dev.onQueue q.toNat (fun x => { x with append := none })).sf F.QUEUE_W1_TAIL q.toNat 0
        ((s.dev.gf F.QUEUE_W1_TAIL q.toNat + 1) % 65536))) ∧
    (a.status = stOk → a.poster = 128 → Yields (.appendAck q) s (fun t => t.hb =
        { s.hb with accepted := s.hb.accepted + 1 } ∧
      t.dev.gf F.QUEUE_W1_TAIL q.toNat = (s.dev.gf F.QUEUE_W1_TAIL q.toNat + 1) % 65536 ∧
      s.dev.keepsRegs t.dev [(.QUEUE_W1, q.toNat, 0)])) ∧
    (∀ k : Fin 4, a.status = stOk → a.poster = 129 + k → Yields (.appendAck q) s (fun t => t.hb = s.hb ∧
      t.dev.gf F.EVT_PLY_CNT_EVENTS k = min (s.dev.gf F.EVT_PLY_CNT_EVENTS k + 1) (2 ^ F.EVT_PLY_CNT_EVENTS.width - 1)
          ∧
      t.dev.gf F.QUEUE_W1_TAIL q.toNat = (s.dev.gf F.QUEUE_W1_TAIL q.toNat + 1) % 65536 ∧
      s.dev.keepsRegs t.dev [(.QUEUE_W1, q.toNat, 0), (.EVT_PLY_CNT, k, 0)])) ∧
    (a.status ≠ stOk → a.poster ≤ 132 → Yields (.appendAck q) s (fun t => t.dev.qState q.toNat = qFault ∧
      t.dev.reg .QUEUE_W1 q.toNat = s.dev.reg .QUEUE_W1 q.toNat ∧ (t.dev.queue q.toNat).append = none)))

/-- Placement of the record of the only queue in RUN with a current record (R239, R244, R246 to R248, R251), with a
token. In its window, aimed at a direct pin, with headroom: it fires now: the pin takes the action, HEAD and FIRED
advance by one. Past its window, by policy: dropped, HEAD advancing and LATE counting it, FIRED not; or the queue
stops with the record at HEAD. In Hold nothing fires and no channel changes. Outside Run, Quiet and Hold only time
passes. -/
def Obligations.PlacementOfRecords : Prop :=
  (∀ (q : BitVec 14) (x : Queue) (c : Cur) (e : Int) (dt : Nat) (s : State), s.dev.queuesRun = true →
      s.dev.mode ≠ mHold →
    s.dev.ev.queues = [(q.toNat, x)] → x.cur = some c → s.dev.qState q.toNat = qRun → c.commit = none →
        c.behind = false →
    c.due = some e → 0 < s.dev.ev.tokens → s.dev.ev.handed = [] →
    let d := s.dev.tick dt
    let w := c.word
    e ≤ (d.now : Int) →
    ((d.now : Int) < d.windowEnd q.toNat c + d.evPeriod → s.dev.aimsPin q.toNat w = true →
      (d.effect q.toNat w).2 ≤ d.headroom (s.dev.gf F.QUEUE_W2_FEED q.toNat) false →
      Yields (.placementStep dt) s (fun t =>
        t.dev.chan (.pin (BitVec.ofNat 8 (s.dev.qIndex q.toNat))) = d.actOn q.toNat w
          ((d.chan (.pin (BitVec.ofNat 8 (s.dev.qIndex q.toNat)))).at d.now) d.now false ∧
        (t.dev.queue q.toNat).cur = none ∧ (t.dev.queue q.toNat).ref = d.ev.time ∧
        t.dev.gf F.QUEUE_W1_HEAD q.toNat = (s.dev.gf F.QUEUE_W1_HEAD q.toNat + 1) % 65536 ∧
        t.dev.gf F.QUEUE_W1_TAIL q.toNat = s.dev.gf F.QUEUE_W1_TAIL q.toNat ∧
        t.dev.gf F.QUEUE_W3_FIRED q.toNat = (s.dev.gf F.QUEUE_W3_FIRED q.toNat + 1) % 2 ^ F.QUEUE_W3_FIRED.width ∧
        t.dev.gf F.QUEUE_W3_LATE q.toNat = s.dev.gf F.QUEUE_W3_LATE q.toNat ∧
        t.dev.ev.chans = s.dev.ev.chans ∧ t.nch = s.nch)) ∧
    (d.windowEnd q.toNat c + d.evPeriod ≤ (d.now : Int) → s.dev.aimsPin q.toNat w = true →
      (s.dev.gf F.QUEUE_W0_LATE q.toNat = 1 → Yields (.placementStep dt) s (fun t =>
        (t.dev.queue q.toNat).cur = none ∧ (t.dev.queue q.toNat).ref = d.ev.time ∧
        t.dev.gf F.QUEUE_W1_HEAD q.toNat = (s.dev.gf F.QUEUE_W1_HEAD q.toNat + 1) % 65536 ∧
        t.dev.gf F.QUEUE_W3_FIRED q.toNat = s.dev.gf F.QUEUE_W3_FIRED q.toNat ∧
        t.dev.gf F.QUEUE_W3_LATE q.toNat = min (s.dev.gf F.QUEUE_W3_LATE q.toNat + 1) (2 ^ F.QUEUE_W3_LATE.width - 1)
            ∧
        t.dev.ev.chans = s.dev.ev.chans ∧ t.dev.ev.pins = s.dev.ev.pins ∧ t.nch = s.nch)) ∧
      (s.dev.gf F.QUEUE_W0_LATE q.toNat = 2 → Yields (.placementStep dt) s (fun t =>
        t.dev.qState q.toNat = qStopped ∧ t.dev.reg .QUEUE_W1 q.toNat = s.dev.reg .QUEUE_W1 q.toNat ∧
        t.dev.gf F.QUEUE_W3_LATE q.toNat = min (s.dev.gf F.QUEUE_W3_LATE q.toNat + 1) (2 ^ F.QUEUE_W3_LATE.width - 1)
            ∧
        t.dev.ev.chans = s.dev.ev.chans ∧ t.dev.ev.pins = s.dev.ev.pins ∧ t.nch = s.nch)))) ∧
  (∀ (dt : Nat) (s : State), s.dev.mode = mHold → s.dev.evOn = true → s.dev.ev.handed = [] →
    (∀ x ∈ s.dev.ev.queues, ∀ c, x.2.cur = some c → c.commit = none) →
    Yields (.placementStep dt) s (fun t => t.dev.regs = s.dev.regs ∧ t.dev.ev.chans = s.dev.ev.chans ∧
      t.dev.ev.pins = s.dev.ev.pins ∧ t.dev.lar = s.dev.lar ∧ t.nch = s.nch ∧ t.hb = s.hb)) ∧
  (∀ (dt : Nat) (s : State), s.dev.queuesRun = false → Does (.placementStep dt) s (s.dev.tick dt))

/-- Ends of phases and pulses (R240, R243), after the events committed to a frame that has begun (R239): a pull-in
whose duration is over goes to hold, for the hold duration counted from that end or until the next event; a hold whose
duration is over, and a pulse whose width is over, go off; before its end, and in Alarm, nothing changes. Without
telemetry for 64 frames a feed's measurement is no longer valid and its OFS is 0. -/
def Obligations.PhaseAndPulseEnds : Prop :=
  (∀ (ch : ChanId) (dt : Nat) (s : State), (s.dev.tick dt).fireCommits.mode ≠ mAlarm →
    let d := (s.dev.tick dt).fireCommits
    let c := d.chan ch
    (∀ e, c.phaseEnd = some e → e ≤ d.now →
      (c.phase = .pull → Does (.phaseEnd ch dt) s (d.onChan ch (fun _ => { c with
        phase := .hold, phaseEnd := if c.holdTicks = 0 then none else some (e + c.holdTicks) }))) ∧
      (c.phase = .hold → Does (.phaseEnd ch dt) s (d.onChan ch (fun _ => {})))) ∧
    ((∀ e, c.phaseEnd = some e → d.now < e) → Does (.phaseEnd ch dt) s d) ∧
    (∀ e, c.pulseEnd = some e → e ≤ d.now → Does (.pulseEnd ch dt) s (d.onChan ch (fun _ => {}))) ∧
    ((∀ e, c.pulseEnd = some e → d.now < e) → Does (.pulseEnd ch dt) s d)) ∧
  (∀ (c : Instr) (ch : ChanId) (dt : Nat) (s : State), c ∈ [.phaseEnd ch dt, .pulseEnd ch dt] →
    (s.dev.tick dt).fireCommits.mode = mAlarm → Does c s (s.dev.tick dt).fireCommits) ∧
  (∀ (f : Fin 64) (s : State), (s.dev.gb F.EVT_FEED_STAT_MEAS_VALID f = false ∨
      s.dev.now < (s.dev.str (s.dev.gf F.EVT_FEED_CFG_SRC f)).telemAt + 40960) → Does (.measTimeout f) s s.dev) ∧
  (∀ (f : Fin 64) (s : State), s.dev.gb F.EVT_FEED_STAT_MEAS_VALID f = true →
    (s.dev.str (s.dev.gf F.EVT_FEED_CFG_SRC f)).telemAt + 40960 ≤ s.dev.now →
    Does (.measTimeout f) s (((s.dev.sf F.EVT_FEED_STAT_MEAS_VALID f 0 0).sf F.EVT_FEED_MEAS_OFS f 0 0).onFeed f
      (fun x => { x with ofsStep := 0 })))

/-- Posts of rooms (R250, R253, Table 6.4). A packet of 1 to 16 records for a queue within the room's range that finds
room in the buffer of 64 is buffered whole and in order, and answered OK; for a queue outside the range it is answered
OK and each record is refused: counted, and answered by a refusal word with reason 2; without room in the buffer it
stays in the mesh, unanswered. A room held in reset, or whose clamps are engaged, issues none. A room that is up takes
the oldest word of its delivery FIFO. -/
def Obligations.RoomPosts : Prop :=
  (∀ (n : Fin 64) (port att : Fin 2) (addr : Word) (recs : List (BitVec 64)) (s : State),
    0 < recs.length → recs.length ≤ 16 → (∀ p ∈ s.dev.ev.mesh, p.att ≠ att) →
    let q := addr.toNat % 16384
    let inside := addr.toNat < 16384 ∧ s.dev.gb F.EVT_EVP_EN n = true ∧ s.dev.gf F.EVT_EVP_QLO n ≤ q ∧
      q ≤ s.dev.gf F.EVT_EVP_QHI n
    let d := s.dev.onRoom n (fun r => r.setAck port stOk)
    (s.dev.room n).gsr = false → (s.dev.room n).clamps = false →
    (s.dev.evOn = true → inside → (s.dev.postBuf att).length + recs.length ≤ 64 →
      Does (.eventPost n port att addr recs) s (d.setPostBuf att
        (s.dev.postBuf att ++ recs.map (fun w => { room := n, port := port, queue := q, word := w })))) ∧
    (s.dev.evOn = true → ¬ inside → Yields (.eventPost n port att addr recs) s (fun t =>
      t.dev.postBuf att = s.dev.postBuf att ∧ t.dev.ev.mesh = s.dev.ev.mesh ∧
      t.dev.gf F.EVT_EVP_CNT_REFUSED n =
        min (s.dev.gf F.EVT_EVP_CNT_REFUSED n + recs.length) (2 ^ F.EVT_EVP_CNT_REFUSED.width - 1) ∧
      (recs.length = 1 → s.dev.noDelivery n = false → s.dev.evRoom n port = true →
        (t.dev.room n).ev port = (s.dev.room n).ev port ++ [deliveryWord 2 q 2 0 s.dev.now]) ∧ t.nch = s.nch)) ∧
    (s.dev.evOn = false ∨ (inside ∧ 64 < (s.dev.postBuf att).length + recs.length) →
      Does (.eventPost n port att addr recs) s { s.dev with ev := { s.dev.ev with
        mesh := s.dev.ev.mesh ++ [{ room := n, port := port, att := att, addr := addr.toNat, recs := recs }] } })) ∧
  (∀ (n : Fin 64) (port att : Fin 2) (addr : Word) (recs : List (BitVec 64)) (s : State),
    (s.dev.room n).gsr = true ∨ (s.dev.room n).clamps = true → Does (.eventPost n port att addr recs) s s.dev) ∧
  (∀ (n : Fin 64) (port : Fin 2) (s : State),
    (s.dev.noDelivery n = false →
      Does (.deliveryTake n port) s (s.dev.onRoom n (fun r => r.setEv port (r.ev port).tail))) ∧
    (s.dev.noDelivery n = true → Does (.deliveryTake n port) s s.dev))

/-- Pattern players (R255 to R257). RUN set while it is 0 takes the other fields, but a LEAD outside 1 to 8 is
refused, clears the image unless KEEP_IMAGE, and waits; while RUN is 1 the other fields cannot change. RUN cleared
ends in IDLE with the image kept. WAIT ends in FETCH once (rev − (REV − LEAD)) mod 2^32 < 2^31, in Run and Quiet only.
A pick (R256, R257). FETCH takes a record whose checks pass and enters POST, where a channel differs; a record of a
channel that does not serve ends in FAULT with cause 3, RUN cleared and source 0x59 logged. POST appends, for the
lowest channel left, the record of R256, and updates that channel's image bit; after the last one the pick is counted,
REV advances, and the player waits for the next record or is DONE. A full queue makes it STALLED, the image unchanged,
until the queue has room. -/
def Obligations.PatternPlayers : Prop :=
  ((∀ (k : Fin 4) (v : Word) (s : State), s.dev.evOn = true →
     (s.dev.gb F.EVT_PLY_CTRL_RUN k = false → Yields (.playerRun k v) s (fun t =>
       let ok := 0 < bits v 24 4 ∧ bits v 24 4 ≤ 8
       t.dev.gf F.EVT_PLY_CTRL_RUN k = 1 ∧ t.dev.plyState k = pWait ∧
       t.dev.gf F.EVT_PLY_CTRL_LEAD k = (if ok then bits v 24 4 else s.dev.gf F.EVT_PLY_CTRL_LEAD k) ∧
       t.dev.gf F.EVT_PLY_CTRL_QBASE k = bits v 0 14 ∧
       t.dev.gf F.EVT_PLY_CTRL_CHAN k = bits v 22 2 ∧ t.dev.gf F.EVT_PLY_CTRL_ANGLE_UNIT k = bits v 28 2 ∧
       t.dev.player k = { image := if v.getLsbD 30 then (s.dev.player k).image else 0, pick := [], index := 0 } ∧
       (ok → s.dev.keepsRegs t.dev [(.EVT_PLY_CTRL, k, 0), (.EVT_PLY_STAT, k, 0)]) ∧ t.nch = s.nch ∧ t.hb = s.hb)) ∧
     (s.dev.gb F.EVT_PLY_CTRL_RUN k = true →
       (bits v 0 14 ≠ s.dev.gf F.EVT_PLY_CTRL_QBASE k ∨ bits v 22 2 ≠ s.dev.gf F.EVT_PLY_CTRL_CHAN k ∨
         bits v 24 4 ≠ s.dev.gf F.EVT_PLY_CTRL_LEAD k ∨ bits v 28 2 ≠ s.dev.gf F.EVT_PLY_CTRL_ANGLE_UNIT k ∨
         bits v 30 1 ≠ s.dev.gf F.EVT_PLY_CTRL_KEEP_IMAGE k) →
       Does (.playerRun k v) s (s.dev.notice 0x56 (0x91400 + 0x20 * k)))) ∧
   (∀ (k : Fin 4) (s : State), s.dev.evOn = true →
     (s.dev.gb F.EVT_PLY_CTRL_RUN k = true → Does (.playerStop k) s (((s.dev.sf F.EVT_PLY_CTRL_RUN k 0 0).sf
       F.EVT_PLY_STAT_STATE k 0 pIdle).onPlayer k (fun p => { p with pick := [], index := 0 }))) ∧
     (s.dev.gb F.EVT_PLY_CTRL_RUN k = false → Does (.playerStop k) s s.dev)) ∧
   (∀ (k : Fin 4) (s : State), s.dev.evOn = true → s.dev.plyState k = pWait →
     let rev : Nat := (s.dev.pPred (s.dev.gf F.EVT_PLY_CTRL_ANGLE_UNIT k)).toNat / 2 ^ 32
     let ahead := ((rev : Int) - ((s.dev.gf F.EVT_PLY_REV_REV k : Int) - s.dev.gf F.EVT_PLY_CTRL_LEAD k)) % 4294967296
     (s.dev.mode = mRun ∨ s.dev.mode = mQuiet → ahead < 2147483648 →
       Does (.playerWaitEnd k) s (s.dev.sf F.EVT_PLY_STAT_STATE k 0 pFetch)) ∧
     (s.dev.mode = mHold ∨ 2147483648 ≤ ahead → Does (.playerWaitEnd k) s s.dev))) ∧
  ((∀ (k : Fin 4) (hd l : List (BitVec 8)) (s : State), s.dev.evOn = true → s.dev.plyState k = pFetch →
     let wa := s.dev.gf F.EVT_PLY_ADDR_WA k
     let h := s.dev.playerRead k wa 4
     let r := h.1.playerRead k wa ((pickLen hd + 15) / 16)
     s.dev.dramWaits (s.dev.gf F.EVT_PLY_CTRL_CHAN k) (79 + k) = false → wa % 8 = 0 → h.2 = some hd →
         pickHeaderOk hd = true → r.2 = some l → pickCheckOk l = true →
     s.dev.gf F.EVT_PLY_CTRL_QBASE k + pickBits l ≤ 16384 →
     ({ s.dev.player k with pick := l.take (pickLen l), index := 0 } : Player).left ≠ [] →
     Yields (.playerFetchDone k) s (fun t => t.dev.plyState k = pPost ∧
       t.dev.player k = { s.dev.player k with pick := l.take (pickLen l), index := 0 } ∧ t.nch = s.nch)) ∧
   (∀ (k : Fin 4) (s : State), s.dev.evOn = true → s.dev.plyState k = pFetch → s.dev.gf F.EVT_PLY_ADDR_WA k % 8 = 0 →
     s.dev.pairServes (s.dev.gf F.EVT_PLY_CTRL_CHAN k) = false →
     Does (.playerFetchDone k) s (((((s.dev.sf F.EVT_PLY_CTRL_RUN k 0 0).sf F.EVT_PLY_STAT_STATE k 0 pFault).sf
       F.EVT_PLY_STAT_CAUSE k 0 3).onPlayer k (fun p => { p with pick := [], index := 0 })).fault 0x59 (16 * k + 3)))
           ∧
   (∀ (k : Fin 4) (i : Nat) (rest : List Nat) (s : State), s.dev.evOn = true → (s.dev.player k).left = i :: rest →
       i < 16384 →
     let q := s.dev.gf F.EVT_PLY_CTRL_QBASE k + i
     let wa := s.dev.qSlot q (s.dev.gf F.QUEUE_W1_TAIL q)
     (∀ c : Instr, (c = .playerAppend k ∧ s.dev.plyState k = pPost ∨ c = .playerStallResume k ∧
         s.dev.plyState k = pStalled) →
       s.dev.appendJudge q = .go → s.dev.larServes evId wa = true →
       Yields c s (fun t => (∀ a, a < larWords → t.dev.larWord a = if a = wa then ⟨s.dev.pickRecord k i,
           0⟩ else s.dev.larWord a) ∧
         (t.dev.queue q).append = some { status := stOk, poster := 129 + k } ∧
         (t.dev.player k).image.getLsbD i = pickBit (s.dev.player k).pick i ∧
         (∀ j, j ≠ i → (t.dev.player k).image.getLsbD j = (s.dev.player k).image.getLsbD j) ∧
         (if rest = [] then let l := (s.dev.player k).pick
           t.dev.gf F.EVT_PLY_STAT_PICKS k = (s.dev.gf F.EVT_PLY_STAT_PICKS k + 1) % 2 ^ F.EVT_PLY_STAT_PICKS.width ∧
           t.dev.gf F.EVT_PLY_REV_REV k = (s.dev.gf F.EVT_PLY_REV_REV k + 1) % 4294967296 ∧
           t.dev.gf F.EVT_PLY_ADDR_WA k = pickNext l % 16777216 ∧ (t.dev.player k).pick = [] ∧
           t.dev.plyState k = if pickNext l = 0xFFFFFFFF ∨ pickLast l = true then pDone else pWait
         else t.dev.plyState k = pPost ∧ (t.dev.player k).pick = (s.dev.player k).pick) ∧ t.nch = s.nch)) ∧
     (s.dev.plyState k = pPost → s.dev.appendJudge q = .full → Yields (.playerAppend k) s (fun t =>
       t.dev.plyState k = pStalled ∧ t.dev.player k = s.dev.player k ∧ t.dev.lar = s.dev.lar ∧ t.nch = s.nch)) ∧
     (s.dev.plyState k = pStalled → s.dev.appendJudge q = .full → Does (.playerStallResume k) s s.dev)))

/-- Forward frames (R262 to R264, Table 12.4). At a multiple of 640 ticks, with nothing committed, a string that is
enabled and UP on a running island sends a COMMAND frame in Run, Quiet and Hold: SYNC 0xA5C, the frame counter, TYPE
1, FLAGS with HOLD in Hold and TELEM once in 16 frames, every channel's code, channel 0 first, in Hold hold for
pull-in and boost, and the CRC. No register changes. At another time no frame starts. Return frames of a string that
is UP (R267, R271, R272). A good type A frame to a frame that was sent updates the status of all 256 channels, and
counts or sets what its flags and reported coils say, and without those nothing else; a good type B frame gives
CURRENT, TEMP, BOARD_ID and BFLAGS, and MEAS of its feeds. A bad frame is counted; the third in a row puts the string
into FAULT, logged with source 0x5D; the other two leave it UP. A return to no such frame is not judged. -/
def Obligations.StringFrames : Prop :=
  ((∀ (dt : Nat) (s : State), (∀ x ∈ s.dev.ev.queues, ∀ c, x.2.cur = some c → c.commit = none) →
      s.dev.ev.handed = [] →
     s.dev.gb F.EVT_TIME_STAT_COUNTING = true → s.dev.mode = mRun ∨ s.dev.mode = mQuiet ∨ s.dev.mode = mHold →
     let d := s.dev.tick dt
     let n := d.now / 640
     let hold := s.dev.mode = mHold
     d.now % 640 = 0 →
     Yields (.forwardFrame dt) s (fun t => t.dev.regs = s.dev.regs ∧ t.dev.ev.chans = s.dev.ev.chans ∧ t.nch = s.nch ∧
       ∀ g : Fin 64, s.dev.gb F.CLK_ISL_STAT_RUN (82 + g / 8) = true → s.dev.gb F.STG_CFG_EN g = true →
         s.dev.gf F.STG_STAT_STATE g = sUp →
         ∃ f : BitVec 560, (t.dev.str g).lastFrame = some f ∧ f.extractLsb' 548 12 = 0xA5C#12 ∧
           f.extractLsb' 540 8 = BitVec.ofNat 8 n ∧ f.extractLsb' 536 4 = 1#4 ∧
           f.extractLsb' 528 8 = BitVec.ofNat 8 ((if hold then 1 else 0) + if n % 16 = 15 then 8 else 0) ∧
           f.setWidth 16 = crc16Bits f 547 16 ∧
           ∀ c : Fin 256, let k := ((s.dev.chan (strChan g c)).at d.now).code
             f.extractLsb' (526 - 2 * c) 2 = if hold ∧ 1 < k.toNat then 1 else k)) ∧
   (∀ (dt : Nat) (s : State), (s.dev.tick dt).now % 640 ≠ 0 → Does (.forwardFrame dt) s (s.dev.tick dt))) ∧
  ((∀ (g : Fin 64) (f : BitVec 560) (dt : Nat) (x : SentFrame) (s : State), s.dev.gf F.STG_STAT_STATE g = sUp →
     let d := s.dev.tick dt
     d.returnJudged g = some x →
     (retGood f x.n = true → x.n % 16 ≠ 15 → Yields (.returnFrame g f dt) s (fun t =>
       (∀ c : Fin 256, bits (t.dev.reg .STG_CHST g (c / 16)) (2 * (c % 16)) 2 = retStatus f c) ∧
       (∀ c : Fin 256, bitOf (t.dev.gf F.STG_COIL_FAULT g (c / 32)) (c % 32) =
         (bitOf (s.dev.gf F.STG_COIL_FAULT g (c / 32)) (c % 32) || decide (2 ≤ retStatus f c))) ∧
       t.dev.gf F.STG_CNT_FWD_REJ g = min (s.dev.gf F.STG_CNT_FWD_REJ g + retFlags f % 2) (2 ^ F.STG_CNT_FWD_REJ.width
           - 1) ∧
       t.dev.gf F.STG_BFLT_WDOG_SEEN g = (if bitOf (retFlags f) 1 then 1 else s.dev.gf F.STG_BFLT_WDOG_SEEN g) ∧
       (retFlags f % 4 = 0 → (∀ c : Fin 256, retStatus f c < 2) →
         s.dev.keepsRegs t.dev ((List.range 16).map (fun k => (.STG_CHST, g.val, k)))) ∧
       (t.dev.str g).bad = 0 ∧ t.dev.ev = d.ev ∧ t.nch = s.nch)) ∧
     (retGood f x.n = true → x.n % 16 = 15 → Yields (.returnFrame g f dt) s (fun t =>
       t.dev.gf F.STG_TELEM_CURRENT g = retCurrent f ∧ t.dev.gf F.STG_TELEM_TEMP g = retTemp f ∧
       t.dev.gf F.STG_ID_BOARD_ID g = retBoard f ∧ t.dev.gf F.STG_BFLT_BFLAGS g = retBflags f ∧
       (∀ k : Fin 64, s.dev.gf F.EVT_FEED_CFG_SRC k = g → s.dev.gb F.EVT_FEED_CFG_MEAS_EN k = true →
         t.dev.gf F.EVT_FEED_MEAS_MEAS k = retCurrent f ∧ t.dev.gf F.EVT_FEED_STAT_MEAS_VALID k = 1) ∧
       t.dev.gf F.STG_STAT_STATE g = sUp ∧ (t.dev.str g).bad = 0 ∧ (t.dev.str g).telemAt = d.now ∧
       t.dev.ev.queues = s.dev.ev.queues ∧ t.dev.ev.chans = s.dev.ev.chans ∧ t.nch = s.nch)) ∧
     (retGood f x.n = false → (s.dev.str g).bad < 2 → Yields (.returnFrame g f dt) s (fun t =>
       t.dev.gf F.STG_CNT_BAD_RX g = min (s.dev.gf F.STG_CNT_BAD_RX g + 1) (2 ^ F.STG_CNT_BAD_RX.width - 1) ∧
       s.dev.keepsRegs t.dev [(.STG_CNT, g, 0)] ∧ (t.dev.str g).bad = (s.dev.str g).bad + 1 ∧ t.dev.ev = d.ev ∧
       t.nch = s.nch)) ∧
     (retGood f x.n = false → (s.dev.str g).bad = 2 →
       Yields (.returnFrame g f dt) s (fun t => t.dev.gf F.STG_STAT_STATE g = sFault ∧
         t.dev.gf F.STG_CNT_BAD_RX g = min (s.dev.gf F.STG_CNT_BAD_RX g + 1) (2 ^ F.STG_CNT_BAD_RX.width - 1) ∧
         t.dev.gf F.ERR_CNT_COUNT 0x5D = min (s.dev.gf F.ERR_CNT_COUNT 0x5D + 1) (2 ^ F.ERR_CNT_COUNT.width - 1) ∧
         t.dev.ev.chans = s.dev.ev.chans ∧ t.dev.ev.queues = s.dev.ev.queues ∧ t.nch = s.nch))) ∧
   (∀ (g : Fin 64) (f : BitVec 560) (dt : Nat) (s : State),
     (∀ x ∈ (s.dev.str g).sent, x.n ≠ (s.dev.tick dt).returnFor g ∨ x.type = ftTrain) →
     Does (.returnFrame g f dt) s (s.dev.tick dt)))

/-- Link training (R268, R269, R273). TRAIN from DOWN, UP or FAULT with EN at 1 in Run, Quiet or Hold starts step 1
with the pattern's register at all ones; otherwise it ends REFUSED. Good steps lead on, recording PHASE, RDLY and
OFFSET, and the last one sets the string UP with RESULT OK; of two centres either may be PHASE. What the step under
way does not see changes nothing. A failed one sets it DOWN, or FAULT where it came from there, with RESULT FAILED,
FAIL_STEP and a FAULT of source 0x5F. EN cleared with all channels off sets it DOWN, else is refused. -/
def Obligations.StringTraining : Prop :=
  (∀ (g : Fin 64) (s : State), s.dev.gf F.STG_STAT_STATE g ≠ sTraining → s.dev.gb F.STG_CFG_EN g = true →
    s.dev.ready = true → Does (.stringTrain g) s ((s.dev.onStr g (fun x => { x with
      train := 1, fromFault := s.dev.gf F.STG_STAT_STATE g == sFault, bad := 0, badInStep := false,
          prbs := 0x1FF })).sf
      F.STG_STAT_STATE g 0 sTraining)) ∧
  (∀ (g : Fin 64) (s : State), (s.dev.gf F.STG_STAT_STATE g = sTraining ∨ s.dev.gb F.STG_CFG_EN g = false ∨
      s.dev.ready = false) →
    Does (.stringTrain g) s (((s.dev.sf F.STG_STAT_DONE g 0 1).sf F.STG_STAT_RESULT g 0 1).sf F.STG_STAT_FAIL_STEP g 0
        0)) ∧
  (∀ (g : Fin 64) (s : State), s.dev.gf F.STG_STAT_STATE g = sTraining →
    let next := fun (d : Dev) (k : Nat) => d.onStr g (fun x => { x with train := k, badInStep := false })
    let fails := fun (o : TrainObs) (k : Nat) => Yields (.trainStepDone g o) s (fun t =>
      t.dev.gf F.STG_STAT_STATE g = (if (s.dev.str g).fromFault then sFault else sDown) ∧
          t.dev.gf F.STG_STAT_DONE g = 1 ∧
      t.dev.gf F.STG_STAT_RESULT g = 2 ∧ t.dev.gf F.STG_STAT_FAIL_STEP g = k ∧ (t.dev.str g).train = 0 ∧
      t.dev.gf F.ERR_CNT_COUNT 0x5F = min (s.dev.gf F.ERR_CNT_COUNT 0x5F + 1) (2 ^ F.ERR_CNT_COUNT.width - 1) ∧
          t.nch = s.nch)
    ((s.dev.str g).train = 1 → Does (.trainStepDone g .lock) s (next s.dev 2)) ∧
    (∀ m p, (s.dev.str g).train = 2 → phaseCentres m = [p] →
      Does (.trainStepDone g (.phase m)) s (next (s.dev.sf F.STG_STAT_PHASE g 0 p) 3)) ∧
    (∀ m, (s.dev.str g).train = 2 → phaseCentres m ≠ [] → Yields (.trainStepDone g (.phase m)) s (fun t =>
      t.dev.gf F.STG_STAT_PHASE g ∈ phaseCentres m ∧ t.dev.str g = { s.dev.str g with train := 3, badInStep := false }
          ∧
      s.dev.keepsRegs t.dev [(.STG_STAT, g, 0)] ∧ t.nch = s.nch)) ∧
    (∀ m, (s.dev.str g).train = 2 → phaseCentres m = [] → fails (.phase m) 2) ∧
    (∀ (r : Fin 9) (o : Fin 560), (s.dev.str g).train = 3 → r ≠ 0 → Does (.trainStepDone g (.align (some (r, o)))) s
      (next ((s.dev.sf F.STG_STAT_RDLY g 0 r).sf F.STG_STAT_OFFSET g 0 o) 4)) ∧
    ((s.dev.str g).train = 3 → fails (.align none) 3) ∧
    ((s.dev.str g).train = 4 → Does (.trainStepDone g (.verify false)) s (next s.dev 5)) ∧
    ((s.dev.str g).train = 4 → fails (.verify true) 4) ∧
    ((s.dev.str g).train = 5 → (s.dev.str g).badInStep = false →
      (s.dev.gb F.STG_CFG_ID_LOCK g = false ∨ s.dev.gf F.STG_ID_BOARD_ID g = s.dev.gf F.STG_ID_EXP_ID_EXP g) →
      Yields (.trainStepDone g .ident) s (fun t => t.dev.gf F.STG_STAT_STATE g = sUp ∧
          t.dev.gf F.STG_STAT_DONE g = 1 ∧
        t.dev.gf F.STG_STAT_RESULT g = 0 ∧ (t.dev.str g).train = 0 ∧ t.nch = s.nch)) ∧
    ((s.dev.str g).train = 5 → ((s.dev.str g).badInStep = true ∨
      s.dev.gb F.STG_CFG_ID_LOCK g = true ∧ s.dev.gf F.STG_ID_BOARD_ID g ≠ s.dev.gf F.STG_ID_EXP_ID_EXP g) →
      fails .ident 5) ∧
    (∀ o, (o, (s.dev.str g).train) ∉ [(.lock, 1), (.verify true, 4), (.verify false, 4), (.ident, 5), (.align none,
        3)] →
      (∀ m, (o, (s.dev.str g).train) ≠ (.phase m, 2)) →
      (∀ x, 0 < x.1.val → (o, (s.dev.str g).train) ≠ (.align (some x), 3)) → Does (.trainStepDone g o) s s.dev)) ∧
  (∀ (g : Fin 64) (o : TrainObs) (s : State), s.dev.gf F.STG_STAT_STATE g ≠ sTraining →
      Does (.trainStepDone g o) s s.dev) ∧
  (∀ (g : Fin 64) (s : State), s.dev.gb F.STG_CFG_EN g = true →
    (s.dev.channelsOff g = true → Yields (.stringDisable g) s (fun t => t.dev.gf F.STG_CFG_EN g = 0 ∧
      t.dev.gf F.STG_STAT_STATE g = sDown ∧ t.dev.ev.chans = s.dev.ev.chans ∧ t.nch = s.nch)) ∧
    (s.dev.channelsOff g = false → Yields (.stringDisable g) s (fun t => t.dev.gf F.STG_CFG_EN g = 1 ∧
      t.dev.gf F.STG_STAT_STATE g = s.dev.gf F.STG_STAT_STATE g ∧
      t.dev.gf F.ERR_CNT_COUNT 0x75 = min (s.dev.gf F.ERR_CNT_COUNT 0x75 + 1) (2 ^ F.ERR_CNT_COUNT.width - 1) ∧
      t.dev.ev.chans = s.dev.ev.chans ∧ t.nch = s.nch))) ∧
  (∀ (g : Fin 64) (s : State), s.dev.gb F.STG_CFG_EN g = false → s.dev.gf F.STG_CFG_FAULT_POL g ≠ 3 →
    Yields (.stringDisable g) s (fun t => s.dev.keepsRegs t.dev [] ∧ t.dev.ev = s.dev.ev ∧ t.nch = s.nch))

/-- Host accesses to the mirror and status windows (R280, R281, R283, R285), with EN at 1 out of Off and Supply ramp;
each is also an edge of HB_CLK. What an access does follows from its address alone. Reads change nothing else; beyond
the two windows they return 0. With MIR_EN at 0 a mirror write changes nothing; with it at 1 a mirror write within the
region goes to the mirror and to the end of the write-through buffer; into a full buffer it is dropped and counted;
beyond the region, or in an unmapped window, it is counted as unmapped; each of these three logs a NOTICE of source
0x70. HB_INT_STAT and HB_POST_LAST.VALID clear by writing 1, HB_INT_EN takes six bits, other status words ignore a
write. -/
def Obligations.HostAccesses : Prop :=
  ∀ s : State, s.hbOn = true → s.dev.mode ≠ mOff → s.dev.mode ≠ mRamp →
    let d := s.dev.sf F.HBT_STAT_CLK_RUN 0 0 1
    let lost := fun h : HostBus => Host.Outcome.next { s with dev := d.noticeFree 0x70, hb := h }
    (∀ (c : Instr) (a : BitVec 16), c ∈ [.hbMirrorRead a, .hbStatusRead a] → (a.toNat < 0x4000 ∨ 0x4010 ≤ a.toNat) →
      let w := if a.toNat < 0x4000 ∧ s.dev.gb F.HBT_CFG_MIR_EN = true ∧ a.toNat < 2 * s.dev.mirWords then
        Map.get (fun _ => 0) s.hb.mirror a.toNat else 0
      exec c s = .next { s with dev := d, hb := { s.hb with out := w } }) ∧
    (∀ (c : Instr) (k : Nat) (v : Word), c ∈ [.hbMirrorRead (BitVec.ofNat 16 (0x4000 + k)),
        .hbStatusRead (BitVec.ofNat 16 (0x4000 + k))] → (k, v) ∈ [(0, 0x213100D3), (1, s.dev.reg .GBL_MODE), (2,
            s.dev.ev.time.setWidth 32),
        (3, s.hb.intStat), (4, s.hb.intEn), (5, s.hb.accepted.setWidth 32 <<< 16 ||| s.hb.refused.setWidth 32),
        (6, s.hb.postLast),
        (7, BitVec.ofNat 32 (s.dev.gf F.HBT_CFG_MIR_EN * 2 ^ 31 + s.dev.gf F.HBT_STAT_PASSES)), (8, s.hb.age), (9,
            s.hb.drops.setWidth 32 <<< 16 ||| s.hb.unmapped.setWidth 32),
        (10, s.dev.reg .RFX_FIRED_LO), (11, s.dev.reg .RFX_FIRED_HI), (12, 0), (13, 0), (14, 0), (15, 0)] →
      exec c s = .next { s with dev := d, hb := { s.hb with out := v } }) ∧
    (∀ (c : Instr) (a : BitVec 16) (v : Word), c ∈ [.hbMirrorWrite a v, .hbStatusWrite a v, .hbUnmappedWrite a v] →
      a.toNat < 0x4000 → s.dev.gb F.HBT_CFG_MIR_EN = true →
      (a.toNat < 2 * s.dev.mirWords → s.hb.buffer.length < 16 → exec c s = .next { s with
        dev := d
        hb := { s.hb with
          mirror := Map.put (fun _ => 0) s.hb.mirror a.toNat v
          buffer := s.hb.buffer ++ [(2 * s.dev.gf F.HBT_CFG_MIR_BASE + a.toNat, v)] } }) ∧
      (a.toNat < 2 * s.dev.mirWords → 16 ≤ s.hb.buffer.length → exec c s =
        lost { s.hb with drops := s.hb.drops + 1, intStat := s.hb.intStat ||| 4 }) ∧
      (2 * s.dev.mirWords ≤ a.toNat → exec c s = lost { s.hb with unmapped := s.hb.unmapped + 1 })) ∧
    (∀ (c : Instr) (a : BitVec 16) (v : Word), c ∈ [.hbMirrorWrite a v, .hbStatusWrite a v, .hbUnmappedWrite a v] →
      a.toNat < 0x4000 → s.dev.gb F.HBT_CFG_MIR_EN = false → exec c s = .next { s with dev := d }) ∧
    (∀ (c : Instr) (a : BitVec 16) (v : Word), c ∈ [.hbMirrorWrite a v, .hbStatusWrite a v, .hbUnmappedWrite a v] →
      0x4010 ≤ a.toNat → a.toNat < 0x8000 → exec c s = lost { s.hb with unmapped := s.hb.unmapped + 1 }) ∧
    (∀ (c : Instr) (a : BitVec 16) (v : Word), 0x8000 ≤ a.toNat →
      let q := BitVec.ofNat 14 ((a.toNat - 0x8000) / 2)
      c ∈ [.hbMirrorWrite a v, .hbStatusWrite a v, .hbUnmappedWrite a v] →
      exec c s = exec (if a.toNat % 2 = 0 then .hbPostHalf0 q v else .hbPostHalf1 q v) s) ∧
    (∀ (c : Instr) (k : Nat) (v : Word) (h : HostBus), c ∈ [.hbMirrorWrite (BitVec.ofNat 16 (0x4000 + k)) v,
        .hbStatusWrite (BitVec.ofNat 16 (0x4000 + k)) v, .hbUnmappedWrite (BitVec.ofNat 16 (0x4000 + k)) v] →
            (k, h) ∈ [(3, { s.hb with intStat := s.hb.intStat &&& ~~~v }),
        (4, { s.hb with intEn := v &&& 0x3F }),
        (6, { s.hb with postLast := if v.getLsbD 31 then 0 else s.hb.postLast }), (0, s.hb), (1, s.hb),
        (2, s.hb), (5, s.hb), (7, s.hb), (8, s.hb), (9, s.hb), (10, s.hb), (11, s.hb), (12, s.hb), (13, s.hb), (14,
            s.hb),
        (15, s.hb)] → exec c s = .next { s with dev := d, hb := h })

/-- Host posts (R254, R284), with EN at 1 out of Off and Supply ramp. Half 0 goes into the latch; a half it replaces
is refused with reason 2. Half 1 of the same queue completes the record, which joins the post buffer and empties the
latch; of another queue it is refused with reason 2, and a full buffer or a stopped event core refuses with reasons 3
and 4. A refusal is counted, sets POST_REF and is recorded where HB_POST_LAST is not VALID. Mirror traffic (R281 to
R283, R286). A pass starts at the first word once the gap after the last one is over; a refresh read of up to BURST +
1 words stores them, corrected, in the mirror, but for words that have a write-through entry, and moves the pass on;
where one is uncorrectable the mirror stays and MIR_FAIL is set. The oldest write-through entry replaces its half of
its Larder word, or sets MIR_FAIL where the word is uncorrectable or its quadrant not UP. HB_CLK stopped changes only
CLK_RUN, and then no write-through goes on; without the mirror no refresh does. -/
def Obligations.HostPostsAndMirror : Prop :=
  (∀ (q : BitVec 14) (v : Word) (s : State), s.hbOn = true → s.dev.mode ≠ mOff → s.dev.mode ≠ mRamp →
     let d := s.dev.sf F.HBT_STAT_CLK_RUN 0 0 1
     let refused := fun (h : HostBus) (q reason : Nat) => { h with
       refused := h.refused + 1
       intStat := h.intStat ||| 2
       postLast := if h.postLast.getLsbD 31 then h.postLast else BitVec.ofNat 32 (0x80000000 + reason * 65536 + q) }
     (s.hb.latch = none → exec (.hbPostHalf0 q v) s = .next
         { s with dev := d, hb := { s.hb with latch := some (q.toNat, v) } }) ∧
     (∀ l, s.hb.latch = some l → exec (.hbPostHalf0 q v) s = .next { s with
       dev := d.notice 0x5A (0x7F0000 + l.1), hb := { refused s.hb l.1 2 with latch := some (q.toNat, v) } }) ∧
     (∀ w, s.hb.latch = some (q.toNat, w) →
       (s.hb.posts.length < 16 → s.dev.evOn = true → exec (.hbPostHalf1 q v) s = .next { s with
         dev := d
         hb := { s.hb with latch := none, posts := s.hb.posts ++ [(q.toNat, v ++ w)] } }) ∧
       (16 ≤ s.hb.posts.length → exec (.hbPostHalf1 q v) s = .next { s with
         dev := d.noticeFree 0x70, hb := refused { s.hb with latch := none } q.toNat 3 }) ∧
       (s.hb.posts.length < 16 → s.dev.evOn = false → exec (.hbPostHalf1 q v) s = .next { s with
         dev := d.noticeFree 0x70, hb := refused { s.hb with latch := none } q.toNat 4 })) ∧
     ((∀ l, s.hb.latch = some l → l.1 ≠ q.toNat) → exec (.hbPostHalf1 q v) s = .next { s with
       dev := d.notice 0x5A (0x7F0000 + q.toNat), hb := refused s.hb q.toNat 2 })) ∧
  ((∀ s : State, s.dev.gb F.HBT_CFG_MIR_EN = true → s.dev.mode ≠ mOff → s.dev.mode ≠ mRamp → s.hb.pass = none →
     let d := s.dev.sf F.HBT_STAT_CLK_RUN 0 0 1
     (s.gapOver = true → exec .mirrorPassStart s = .next { s with
       dev := d, hb := { s.hb with pass := some 0, passStart := s.dev.ev.time.setWidth 32 } }) ∧
     (s.gapOver = false → exec .mirrorPassStart s = .next { s with dev := d })) ∧
   (∀ (us : List (BitVec 72)) (i : Nat) (s : State), s.dev.gb F.HBT_CFG_MIR_EN = true → s.dev.mode ≠ mOff →
     s.dev.mode ≠ mRamp → s.hb.pass = some i → i < s.dev.mirWords →
     let wa := s.dev.gf F.HBT_CFG_MIR_BASE + i
     let n := min (s.dev.gf F.ARB_REQ_CFG_BURST (2 * larQuad wa + 1) hbId + 1) (s.dev.mirWords - i)
     let w := fun j => s.dev.larSeen (wa + j) (us.getD j 0)
     let bad := ∃ j ∈ List.range n, (w j).check.1 = .double
     larAddrOk (larQuad wa) wa (n - 1) = true → s.dev.larServes hbId wa = true →
     Yields (.mirrorRefreshData us) s (fun t =>
       t.hb.pass = (if i + n < s.dev.mirWords then some (i + n) else none) ∧ (bad → t.hb.intStat.getLsbD 5 = true) ∧
       (∀ a, Map.get (fun _ => 0) t.hb.mirror a =
         if i ≤ a / 2 ∧ a / 2 < i + n ∧ ¬ bad ∧ (∀ e ∈ s.hb.buffer, e.1 / 2 ≠ s.dev.gf F.HBT_CFG_MIR_BASE + a / 2)
         then halfOf (w (a / 2 - i)).check.2 (a % 2) else Map.get (fun _ => 0) s.hb.mirror a) ∧
       (∀ a, a < larWords → t.dev.larWord a = if wa ≤ a ∧ a < wa + n then w (a - wa) else s.dev.larWord a) ∧
       t.hb.buffer = s.hb.buffer ∧ s.dev.keepsKinds t.dev (.HBT_STAT :: larKinds) ∧ t.nch = s.nch)) ∧
   (∀ (u : BitVec 72) (e : Nat × Word) (l : List (Nat × Word)) (s : State), s.dev.gb F.HBT_STAT_CLK_RUN = true →
     s.hb.buffer = e :: l →
     let wa := e.1 / 2
     let w := s.dev.larSeen wa u
     (s.dev.larServes hbId wa = true → Yields (.writeThroughDone u) s (fun t => t.hb.buffer = l ∧
       (w.check.1 = .double → t.hb.intStat.getLsbD 5 = true) ∧ (w.check.1 ≠ .double →
           t.hb = { s.hb with buffer := l }) ∧
       s.dev.keepsKinds t.dev larKinds ∧ t.nch = s.nch ∧
       ∀ a, a < larWords → t.dev.larWord a = if a ≠ wa then s.dev.larWord a else if w.check.1 = .double then w
         else ⟨withHalf w.check.2 (e.1 % 2) e.2, 0⟩)) ∧
     (larAddrOk (larQuad wa) wa 0 = true → s.dev.quadState (larQuad wa) ≠ 2 → Yields (.writeThroughDone u) s (fun t =>
       t.hb.buffer = l ∧ t.hb.intStat.getLsbD 5 = true ∧ t.dev.lar.words = s.dev.lar.words))) ∧
   (∀ s : State, Does .hbClkStopped s (s.dev.sf F.HBT_STAT_CLK_RUN 0 0 0)) ∧
   (∀ (us : List (BitVec 72)) (u : BitVec 72) (s : State),
     (s.dev.gb F.HBT_CFG_MIR_EN = false → Yields (.mirrorRefreshData us) s (fun t => t.hb = s.hb ∧
         t.dev.lar = s.dev.lar)) ∧
     (s.dev.gb F.HBT_STAT_CLK_RUN = false → exec (.writeThroughDone u) s = .next s)))

/-- Reflex cells (R289 to R292, R294). On one edge of the crossbar's clock an ARMED cell with an active selected input
counts it; on the last of FILT + 1 such edges in a row it enters FIRED, by the lowest active input: its fired bit is
set, the fire counted and logged with source 0x72 and detail 64 j + FIRED_BY, FIRE_TIME 0 to 2 ticks back, and REFLEX
set for the host; an edge without one starts the count anew. In any other state only the levels change. CLEAR returns
a FIRED cell to ARMED or DISARMED, or sets CLR_REFUSED while an input is active. ARM arms a DISARMED cell and disarms
an ARMED one; a FIRED cell stays FIRED. -/
def Obligations.ReflexCells : Prop :=
  (∀ (j : Fin 64) (lv : BitVec 64) (dt : Nat) (s : State),
    let d := s.dev.tick dt
    let din := { d with pin := { d.pin with rfxIn := lv } }
    (s.dev.rfxOn = true → s.dev.gf F.RFX_CELL_STAT_STATE j = xArmed →
      (∀ i l, s.dev.rfxActive j lv = i :: l → s.dev.gf F.RFX_CELL_CTRL_FILT j ≤ s.dev.rfxRun j →
        Yields (.reflexFire j lv dt) s (fun t =>
          t.dev.gf F.RFX_CELL_STAT_STATE j = xFired ∧ t.dev.gf F.RFX_CELL_STAT_FIRED_BY j = i ∧
          (t.dev.reg (if j.val < 32 then .RFX_FIRED_LO else .RFX_FIRED_HI)).getLsbD (j % 32) = true ∧
          t.dev.gf F.RFX_CELL_STAT_FIRES j = (s.dev.gf F.RFX_CELL_STAT_FIRES j + 1) % 2 ^ F.RFX_CELL_STAT_FIRES.width
              ∧
          (∃ k < 3, t.dev.gf F.RFX_CELL_TIME_FIRE_TIME j = (d.ev.time - BitVec.ofNat 64 k).toNat % 2 ^ 30) ∧
          t.dev.gf F.ERR_CNT_COUNT 0x72 = min (s.dev.gf F.ERR_CNT_COUNT 0x72 + 1) (2 ^ F.ERR_CNT_COUNT.width - 1) ∧
          t.dev.err.notice = { src := 0x72, sev := .notice, detail := BitVec.ofNat 32 (64 * j + i), time := d.ev.time } ∧
          t.hb = { s.hb with intStat := s.hb.intStat ||| 1 } ∧ t.dev.ev = d.ev ∧ t.dev.rooms = s.dev.rooms ∧
          t.dev.rfxRun j = 0 ∧ t.dev.pin.rfxIn = lv ∧ t.nch = s.nch)) ∧
      (s.dev.rfxActive j lv ≠ [] → s.dev.rfxRun j < s.dev.gf F.RFX_CELL_CTRL_FILT j →
        Does (.reflexFire j lv dt) s (din.setRfxRun j (s.dev.rfxRun j + 1))) ∧
      (s.dev.rfxActive j lv = [] → Does (.reflexFire j lv dt) s (din.setRfxRun j 0))) ∧
    (s.dev.rfxOn = false ∨ s.dev.gf F.RFX_CELL_STAT_STATE j ≠ xArmed → Does (.reflexFire j lv dt) s din)) ∧
  (∀ (j : Fin 64) (lv : BitVec 64) (s : State),
    let d := { s.dev with pin := { s.dev.pin with rfxIn := lv } }
    (s.dev.gf F.RFX_CELL_STAT_STATE j = xFired → s.dev.rfxActive j lv = [] →
      Does (.reflexClear j lv) s ((d.sf F.RFX_CELL_STAT_STATE j 0
        (if s.dev.gb F.RFX_CELL_CTRL_ARM j then xArmed else xDisarmed)).setFired j false)) ∧
    (s.dev.gf F.RFX_CELL_STAT_STATE j = xFired → s.dev.rfxActive j lv ≠ [] →
      Does (.reflexClear j lv) s (d.sf F.RFX_CELL_STAT_CLR_REFUSED j 0 1)) ∧
    (s.dev.gf F.RFX_CELL_STAT_STATE j ≠ xFired → Does (.reflexClear j lv) s d)) ∧
  (∀ (j : Fin 64) (s : State),
    let armed := s.dev.sf F.RFX_CELL_CTRL_ARM j 0 1
    let not := s.dev.sf F.RFX_CELL_CTRL_ARM j 0 0
    (s.dev.gf F.RFX_CELL_STAT_STATE j = xDisarmed → Does (.reflexArm j) s (armed.sf F.RFX_CELL_STAT_STATE j 0 xArmed))
        ∧
    (s.dev.gf F.RFX_CELL_STAT_STATE j ≠ xDisarmed → Does (.reflexArm j) s armed) ∧
    (s.dev.gf F.RFX_CELL_STAT_STATE j = xArmed → Does (.reflexDisarm j) s
      ((not.sf F.RFX_CELL_STAT_STATE j 0 xDisarmed).setRfxRun j 0)) ∧
    (s.dev.gf F.RFX_CELL_STAT_STATE j ≠ xArmed → Does (.reflexDisarm j) s not))

/-- Clock islands (R11, R61 to R64, R67, R190). A write takes each field but those refused: REF_SEL while the new PLL
ramps, a new MULT or FLOOR out of range, a new MULT of 0 of islands 101, 102 and 104 or outside what the DRAM channel
lets, a MULT below FLOOR, BOND while the facing room is out of reset; any refusal logs a NOTICE of source 0x75.
Outside rooms, banks, DRAM channels and quadrants CUR follows MULT; a clock that starts runs unlocked, one that keeps
running slews. The end of a slew, lock, and loss of lock change their bits, the loss logged with source 0x74; an
island without a generator has no such register. -/
def Obligations.IslandClocks : Prop :=
  (∀ (n : Fin 106) (v : Word) (s : State), hasGen n = true →
    (82 ≤ n.val ∧ n.val < 90 ∨ 98 ≤ n.val) →
    let ref := bits v 27 3
    let mult := bits v 0 12
    let floor := bits v 12 12
    s.dev.multOk n ref mult = true → s.dev.multOk n ref floor = true → floor ≤ mult → 0 < mult →
    (ref = s.dev.gf F.CLK_ISL_CTRL_REF_SEL n ∨ s.dev.gb F.PLL_RAMP_CTRL_RUN ref = false) →
    Yields (.islandClockWrite n v) s (fun t => t.dev.gf F.CLK_ISL_CTRL_REF_SEL n = ref ∧
        t.dev.gf F.CLK_ISL_CTRL_MULT n = mult ∧
      t.dev.gf F.CLK_ISL_CTRL_FLOOR n = floor ∧ t.dev.gf F.CLK_ISL_STAT_CUR n = mult ∧
      (s.dev.gf F.CLK_ISL_STAT_CUR n = 0 → t.dev.gf F.CLK_ISL_STAT_RUN n = 1 ∧ t.dev.gf F.CLK_ISL_STAT_LOCKED n = 0) ∧
      (s.dev.gf F.CLK_ISL_STAT_CUR n ≠ 0 → s.dev.gf F.CLK_ISL_STAT_CUR n ≠ mult →
          t.dev.gf F.CLK_ISL_STAT_SLEWING n = 1) ∧
      s.dev.keepsRegs t.dev [(.CLK_ISL_CTRL, n, 0), (.CLK_ISL_STAT, n, 0)] ∧ t.nch = s.nch ∧ s.hostKept t)) ∧
  (∀ (n : Fin 106) (v : Word) (s : State), hasGen n = true →
    let ref := bits v 27 3
    let mult := bits v 0 12
    let floor := bits v 12 12
    let bond := bits v 26 1
    let old := fun f : Fld => s.dev.gf f n
    let ramp := ref ≠ old F.CLK_ISL_CTRL_REF_SEL ∧ mult ≠ 0 ∧ s.dev.gb F.PLL_RAMP_CTRL_RUN ref = true
    let badMult := mult ≠ old F.CLK_ISL_CTRL_MULT ∧ (s.dev.multOk n ref mult = false ∨
      mult = 0 ∧ (n = 101 ∨ n = 102 ∨ n = 104) ∨ 90 ≤ n.val ∧ n.val < 94 ∧ s.dev.dramMultOk n ref mult = false)
    let badFloor := floor ≠ old F.CLK_ISL_CTRL_FLOOR ∧ s.dev.multOk n ref floor = false
    let m := if badMult then old F.CLK_ISL_CTRL_MULT else mult
    let f := if badFloor then old F.CLK_ISL_CTRL_FLOOR else floor
    let cross := m < f ∧ (m ≠ old F.CLK_ISL_CTRL_MULT ∨ f ≠ old F.CLK_ISL_CTRL_FLOOR)
    let bank := 64 ≤ n.val ∧ n.val < 82
    let badBond := bank ∧ bond ≠ old F.CLK_ISL_CTRL_BOND ∧ (s.dev.room (facingRoom (n - 64))).gsr = false
    Yields (.islandClockWrite n v) s (fun t =>
      t.dev.gf F.CLK_ISL_CTRL_REF_SEL n = (if ramp then old F.CLK_ISL_CTRL_REF_SEL else ref) ∧
      t.dev.gf F.CLK_ISL_CTRL_MULT n = (if cross then old F.CLK_ISL_CTRL_MULT else m) ∧
      t.dev.gf F.CLK_ISL_CTRL_FLOOR n = (if cross then old F.CLK_ISL_CTRL_FLOOR else f) ∧
      t.dev.gf F.CLK_ISL_CTRL_BOND n = (if bank ∧ ¬badBond then bond else old F.CLK_ISL_CTRL_BOND) ∧
      (ramp ∨ badMult ∨ badFloor ∨ cross ∨ badBond → t.dev.gf F.ERR_CNT_COUNT 0x75 =
        min (s.dev.gf F.ERR_CNT_COUNT 0x75 + 1) (2 ^ F.ERR_CNT_COUNT.width - 1)))) ∧
  (∀ (n : Fin 106) (v : Word) (s : State), hasGen n = false →
    Does (.islandClockWrite n v) s ((s.dev.cnt F.HAT_CNT_NO_REG 0 0).notice 0x75 (0x52000 + 0x10 * n))) ∧
  (∀ (n : Fin 106) (s : State), s.dev.gb F.CLK_ISL_STAT_SLEWING n = true →
    Does (.islandSlewDone n) s (s.dev.sf F.CLK_ISL_STAT_SLEWING n 0 0)) ∧
  (∀ (c : Instr) (n : Fin 106) (s : State), (c = .islandSlewDone n ∧ s.dev.gb F.CLK_ISL_STAT_SLEWING n = false ∨
      c ∈ [.islandLock n, .islandLockLoss n] ∧ (hasGen n = false ∨ s.dev.gb F.CLK_ISL_STAT_RUN n = false)) →
    Does c s s.dev) ∧
  (∀ (n : Fin 106) (s : State), hasGen n = true → s.dev.gb F.CLK_ISL_STAT_RUN n = true →
    (s.dev.pllFeeds (s.dev.gf F.CLK_ISL_CTRL_REF_SEL n) = true → Does (.islandLock n) s (s.dev.sf
        F.CLK_ISL_STAT_LOCKED n 0 1)) ∧
    (s.dev.gb F.CLK_ISL_STAT_LOCKED n = true → Does (.islandLockLoss n) s
      (((s.dev.sf F.CLK_ISL_STAT_LOCKED n 0 0).sf F.CLK_ISL_STAT_UNLOCK_SEEN n 0 1).fault 0x74 n)))

/-- Starting and stopping a PLL and its outputs (R325, R327, R334, R335). A write of a stopped PLL takes its settings;
EN set with settings in range starts it unlocked, REF_OK as its pin shows edges; out of range EN is refused, as is a
change of a running PLL's settings, with source 0x75. EN cleared while something uses the PLL is refused with source
0x76; otherwise it stops and forgets its steps. A write of a stopped output takes its divider and format, and starts
it within its format's limit; OUT_1 of a PLL in use does not stop. Lock and reference of a PLL (R330, R331). An
enabled PLL with its reference locks once the error is below LOCK_WIN; at LOCK_WIN it loses lock, a running ramp ends
LOST, and 1 µs later a FAULT of source 0x76 is logged if REF_OK is still 1. When a pin with its receiver on shows
edges, REF_OK of the enabled PLLs that select it rises; when it shows none, those that had it fall into holdover,
unlocked, and the others keep their status. -/
def Obligations.PllControlAndLock : Prop :=
  ((∀ (n : Fin 8) (v : Word) (s : State), s.dev.gb F.PLL_CTRL_EN n = false → bits v 29 2 ≠ 3 → bits v 0 16 ≠ 0 →
     let d := ((((s.dev.sf F.PLL_CTRL_MODE n 0 (bits v 29 2)).sf F.PLL_CTRL_REF_SEL n 0 (bits v 26 3)).sf
       F.PLL_CTRL_DITHER n 0 (bits v 25 1)).sf F.PLL_CTRL_DAMP n 0 (bits v 23 2)).sf F.PLL_CTRL_SEED n 0 (bits v 0 16)
     let set := fun (t : State) => t.dev.gf F.PLL_CTRL_MODE n = bits v 29 2 ∧
         t.dev.gf F.PLL_CTRL_REF_SEL n = bits v 26 3 ∧
       t.dev.gf F.PLL_CTRL_DITHER n = bits v 25 1 ∧ t.dev.gf F.PLL_CTRL_DAMP n = bits v 23 2 ∧
       t.dev.gf F.PLL_CTRL_SEED n = bits v 0 16 ∧ t.nch = s.nch ∧ t.hb = s.hb
     (d.pllEnOk n = true → Yields (.pllEnable n v) s (fun t => set t ∧ t.dev.gf F.PLL_CTRL_EN n = 1 ∧
       t.dev.gf F.PLL_STAT_LOCKED n = 0 ∧ t.dev.gf F.PLL_STAT_HOLDOVER n = 0 ∧
       t.dev.gf F.PLL_STAT_REF_OK n = b2n (s.dev.pin.refEdges.getLsbD (bits v 26 3)) ∧
       s.dev.keepsRegs t.dev [(.PLL_CTRL, n, 0), (.PLL_STAT, n, 0)])) ∧
     (d.pllEnOk n = false → Yields (.pllEnable n v) s (fun t => set t ∧ t.dev.gf F.PLL_CTRL_EN n = 0 ∧
       t.dev.reg .PLL_STAT n = s.dev.reg .PLL_STAT n ∧
       t.dev.gf F.ERR_CNT_COUNT 0x75 = min (s.dev.gf F.ERR_CNT_COUNT 0x75 + 1) (2 ^ F.ERR_CNT_COUNT.width - 1)))) ∧
   (∀ (n : Fin 8) (v : Word) (s : State), s.dev.gb F.PLL_CTRL_EN n = true →
     (bits v 29 2 ≠ s.dev.gf F.PLL_CTRL_MODE n ∨ bits v 26 3 ≠ s.dev.gf F.PLL_CTRL_REF_SEL n ∨
       bits v 25 1 ≠ s.dev.gf F.PLL_CTRL_DITHER n ∨ bits v 23 2 ≠ s.dev.gf F.PLL_CTRL_DAMP n ∨
       bits v 0 16 ≠ s.dev.gf F.PLL_CTRL_SEED n) →
     Does (.pllEnable n v) s (s.dev.notice 0x75 (0x50000 + 0x400 * n))) ∧
   (∀ (n : Fin 8) (s : State), s.dev.gb F.PLL_CTRL_EN n = true →
     (s.dev.pllUsed n = true → Does (.pllDisable n) s (s.dev.notice 0x76 (0x50000 + 0x400 * n))) ∧
     (s.dev.pllUsed n = false → Yields (.pllDisable n) s (fun t => t.dev.gf F.PLL_CTRL_EN n = 0 ∧
       t.dev.gf F.PLL_STAT_LOCKED n = 0 ∧ t.dev.gf F.PLL_STAT_REF_OK n = 0 ∧ t.dev.gf F.PLL_STEP_BUSY n = 0 ∧
       (t.dev.pll n).steps = [] ∧ (t.dev.pll n).move = none ∧ t.dev.ev = s.dev.ev ∧ t.nch = s.nch))) ∧
   (∀ (n : Fin 8) (k : Fin 4) (v : Word) (s : State), s.dev.gb F.PLL_OUT_EN n k = false → bits v 28 3 < 4 →
     k ≠ 1 ∨ s.dev.pllUsed n = false →
     let d := (if k = 0 then s.dev.sf F.PLL_OUT_FMT n k (bits v 28 3) else s.dev).sf F.PLL_OUT_CDIV n k (bits v 0 9)
     let set := fun (t : State) => t.dev.gf F.PLL_OUT_CDIV n k = bits v 0 9 ∧
         (k = 0 → t.dev.gf F.PLL_OUT_FMT n k = bits v 28 3) ∧
       t.nch = s.nch ∧ t.hb = s.hb
     (bits v 31 1 = 0 ∨ d.outEnOk n k = true → Yields (.pllOutputEnable n k v) s (fun t => set t ∧
       t.dev.gf F.PLL_OUT_EN n k = bits v 31 1 ∧ s.dev.keepsRegs t.dev [(.PLL_OUT, n, k)])) ∧
     (bits v 31 1 = 1 → d.outEnOk n k = false → Yields (.pllOutputEnable n k v) s (fun t => set t ∧
       t.dev.gf F.PLL_OUT_EN n k = 0 ∧
       t.dev.gf F.ERR_CNT_COUNT 0x75 = min (s.dev.gf F.ERR_CNT_COUNT 0x75 + 1) (2 ^ F.ERR_CNT_COUNT.width - 1)))) ∧
   (∀ (n : Fin 8) (k : Fin 4) (s : State),
     (s.dev.gb F.PLL_OUT_EN n k = true →
       let v := putBits (s.dev.reg .PLL_OUT n k) 31 1 0
       (k = 1 → s.dev.pllUsed n = true →
         Does (.pllOutputEnable n k v) s (s.dev.notice 0x76 (0x50010 + 0x400 * n + 4 * k))) ∧
       (k ≠ 1 ∨ s.dev.pllUsed n = false → Does (.pllOutputEnable n k v) s (s.dev.sf F.PLL_OUT_EN n k 0))))) ∧
  ((∀ (n : Fin 8) (e : BitVec 16) (s : State), s.dev.gb F.PLL_CTRL_EN n = true → s.dev.gb F.PLL_STAT_REF_OK n = true →
     s.dev.gb F.PLL_STAT_LOCKED n = false → e.toInt.natAbs < 100 * 2 ^ s.dev.gf F.PLL_LOCK_LOCK_WIN n →
     Does (.pllLock n e) s (((s.dev.sf F.PLL_STAT_LOCKED n 0 1).sf F.PLL_STAT_HOLDOVER n 0 0).sf F.PLL_STAT_PH_ERR n 0
         e.toNat)) ∧
   (∀ (n : Fin 8) (e : BitVec 16) (s : State), s.dev.gb F.PLL_STAT_LOCKED n = true →
     100 * 2 ^ s.dev.gf F.PLL_LOCK_LOCK_WIN n ≤ e.toInt.natAbs →
     Yields (.pllLockLoss n e) s (fun t => t.dev.gf F.PLL_STAT_LOCKED n = 0 ∧ t.dev.gf F.PLL_STAT_UNLOCK_SEEN n = 1 ∧
       t.dev.gf F.PLL_STAT_PH_ERR n = e.toNat ∧ (t.dev.pll n).lossPending = true ∧
       (t.dev.pll n).lfsr = BitVec.ofNat 16 (s.dev.gf F.PLL_CTRL_SEED n) ∧ t.dev.gf F.PLL_RAMP_CTRL_RUN n = 0 ∧
       t.dev.gf F.PLL_RAMP_CTRL_RESULT n =
         (if s.dev.gb F.PLL_RAMP_CTRL_RUN n then 3 else s.dev.gf F.PLL_RAMP_CTRL_RESULT n) ∧ t.nch = s.nch ∧
             t.hb = s.hb)) ∧
   (∀ (n : Fin 8) (s : State), (s.dev.pll n).lossPending = true →
     let d := s.dev.onPll n (fun x => { x with lossPending := false })
     Does (.pllUnlockFault n) s (if s.dev.gb F.PLL_STAT_REF_OK n then d.faultFree 0x76 else d)) ∧
   (∀ (pin : Fin 8) (s : State), s.dev.gf F.PLL_REFIN_FMT pin = 0 → Does (.pllRefEdges pin) s { s.dev with
     pin := { s.dev.pin with refEdges := s.dev.pin.refEdges ||| BitVec.ofNat 8 (2 ^ pin.val) } }) ∧
   (∀ (pin : Fin 8) (s : State), s.dev.gf F.PLL_REFIN_FMT pin ≠ 0 → Yields (.pllRefEdges pin) s (fun t =>
     t.dev.pin = { s.dev.pin with refEdges := s.dev.pin.refEdges ||| BitVec.ofNat 8 (2 ^ pin.val) } ∧
     (∀ m : Fin 8, s.dev.gb F.PLL_CTRL_EN m = true → s.dev.gf F.PLL_CTRL_REF_SEL m = pin →
       t.dev.gf F.PLL_STAT_REF_OK m = 1 ∧ t.dev.gf F.PLL_STAT_HOLDOVER m = s.dev.gf F.PLL_STAT_HOLDOVER m) ∧
     (∀ m : Fin 8, (s.dev.gb F.PLL_CTRL_EN m = false ∨ s.dev.gf F.PLL_CTRL_REF_SEL m ≠ pin) →
       t.dev.reg .PLL_STAT m = s.dev.reg .PLL_STAT m) ∧ t.nch = s.nch ∧ t.hb = s.hb)) ∧
   (∀ (pin : Fin 8) (s : State), Yields (.pllRefLoss pin) s (fun t =>
     t.dev.pin.refEdges = (s.dev.pin.refEdges &&& ~~~(BitVec.ofNat 8 (2 ^ pin.val))) ∧
     (∀ m : Fin 8, s.dev.gb F.PLL_CTRL_EN m = true → s.dev.gf F.PLL_CTRL_REF_SEL m = pin →
         s.dev.gb F.PLL_STAT_REF_OK m = true →
       t.dev.gf F.PLL_STAT_REF_OK m = 0 ∧ t.dev.gf F.PLL_STAT_LOCKED m = 0 ∧ t.dev.gf F.PLL_STAT_UNLOCK_SEEN m = 1 ∧
       t.dev.gf F.PLL_STAT_HOLDOVER m = 1 ∧ (t.dev.pll m).lossPending = false) ∧
     (∀ m : Fin 8, (s.dev.gb F.PLL_CTRL_EN m = false ∨ s.dev.gf F.PLL_CTRL_REF_SEL m ≠ pin ∨
         s.dev.gb F.PLL_STAT_REF_OK m = false) →
       t.dev.reg .PLL_STAT m = s.dev.reg .PLL_STAT m) ∧ t.nch = s.nch ∧ t.hb = s.hb)))

/-- Phase steps and ramps (R333, R336, R337, R339). GO in stepping mode, not BUSY, starts moving the output that it
names by the signed COUNT; otherwise it is refused with source 0x75; the end adds COUNT to that output's phase. A ramp
GO whose checks pass starts segment 0 and takes its target, else it ends REFUSED without change, logged with source
0x75 where R327 names the PLL; a segment's end sets N and FRAC for the target taken when it began and goes on to the
next, or ends OK after the last; STOP ends at the frequency reached on the way to the target, with RESULT STOPPED. -/
def Obligations.PllStepsAndRamps : Prop :=
  (∀ (n : Fin 8) (v : Word) (s : State),
    let d := (s.dev.sf F.PLL_STEP_OUT n 0 (bits v 28 2)).sf F.PLL_STEP_COUNT n 0 (bits v 0 8)
    (s.dev.gb F.PLL_CTRL_EN n = true → s.dev.gf F.PLL_CTRL_MODE n = 2 → s.dev.gb F.PLL_STEP_BUSY n = false →
      Does (.pllStepGo n v) s ((d.sf F.PLL_STEP_BUSY n 0 1).onPll n (fun x => { x with
        move := some (bits v 28 2, signed 8 (bits v 0 8)) }))) ∧
    (s.dev.gb F.PLL_CTRL_EN n = false ∨ s.dev.gf F.PLL_CTRL_MODE n ≠ 2 ∨ s.dev.gb F.PLL_STEP_BUSY n = true →
      Does (.pllStepGo n v) s (d.notice 0x75 (0x50024 + 0x400 * n)))) ∧
  (∀ (n : Fin 8) (k : Nat) (c : Int) (s : State), (s.dev.pll n).move = some (k, c) →
    Yields (.pllStepDone n) s (fun t => t.dev.gf F.PLL_STEP_BUSY n = 0 ∧ (t.dev.pll n).move = none ∧
      (∀ j, Map.get (fun _ => 0) (t.dev.pll n).steps j =
        Map.get (fun _ => 0) (s.dev.pll n).steps j + if j = k then c else 0) ∧
      s.dev.keepsRegs t.dev [(.PLL_STEP, n, 0)] ∧ t.nch = s.nch ∧ t.hb = s.hb)) ∧
  (∀ (n : Fin 8) (s : State),
    (s.dev.rampOk n = true → Yields (.pllRampGo n) s (fun t => t.dev.gf F.PLL_RAMP_CTRL_RUN n = 1 ∧
      t.dev.gf F.PLL_RAMP_CTRL_SEG n = 0 ∧ t.dev.gf F.PLL_STAT_RAMPING n = 1 ∧
      t.dev.pll n = { s.dev.pll n with
        rampTo := s.dev.ratioFor n (s.dev.gf F.PLL_SEG_W0_TARGET n 0), rampLast := s.dev.gb F.PLL_SEG_W0_LAST n 0 } ∧
      s.dev.keepsRegs t.dev [(.PLL_RAMP_CTRL, n, 0), (.PLL_STAT, n, 0)] ∧ t.nch = s.nch ∧ t.hb = s.hb)) ∧
    (s.dev.rampOk n = false → s.dev.pllUsed n = false → Does (.pllRampGo n) s (s.dev.sf F.PLL_RAMP_CTRL_RESULT n 0 1))
        ∧
    (s.dev.pllUsed n = true → Does (.pllRampGo n) s
      ((s.dev.sf F.PLL_RAMP_CTRL_RESULT n 0 1).notice 0x75 (0x50028 + 0x400 * n)))) ∧
  (∀ (n : Fin 8) (reached : BitVec 33) (r result : Nat) (c : Instr) (s : State),
      s.dev.gb F.PLL_RAMP_CTRL_RUN n = true →
    (c = .pllRampStop n reached ∧ result = 2 ∧
        r = max (min (s.dev.pllRatio n) (s.dev.pll n).rampTo) (min reached.toNat (max (s.dev.pllRatio n) (s.dev.pll
            n).rampTo)) ∨
      c = .pllRampSegmentEnd n ∧ result = 0 ∧ r = (s.dev.pll n).rampTo ∧ (s.dev.pll n).rampLast = true) →
    Yields c s (fun t => t.dev.gf F.PLL_DIV_N n = r / 2 ^ 24 % 512 ∧ t.dev.gf F.PLL_FRAC_FRAC n = r % 2 ^ 24 ∧
      t.dev.gf F.PLL_RAMP_CTRL_RUN n = 0 ∧ t.dev.gf F.PLL_RAMP_CTRL_RESULT n = result ∧
          t.dev.gf F.PLL_STAT_RAMPING n = 0 ∧
      s.dev.keepsRegs t.dev [(.PLL_DIV, n, 0), (.PLL_FRAC, n, 0), (.PLL_RAMP_CTRL, n, 0), (.PLL_STAT, n, 0)] ∧
      t.nch = s.nch ∧ t.hb = s.hb)) ∧
  (∀ (n : Fin 8) (s : State), s.dev.gb F.PLL_RAMP_CTRL_RUN n = true → s.dev.gf F.PLL_RAMP_CTRL_SEG n < 31 →
    (s.dev.pll n).rampLast = false →
    let r := (s.dev.pll n).rampTo
    let k := s.dev.gf F.PLL_RAMP_CTRL_SEG n + 1
    Yields (.pllRampSegmentEnd n) s (fun t => t.dev.gf F.PLL_DIV_N n = r / 2 ^ 24 % 512 ∧
      t.dev.gf F.PLL_FRAC_FRAC n = r % 2 ^ 24 ∧ t.dev.gf F.PLL_RAMP_CTRL_SEG n = k ∧
      (t.dev.pll n).rampTo = s.dev.ratioFor n (s.dev.gf F.PLL_SEG_W0_TARGET n k) ∧
      (t.dev.pll n).rampLast = (k == 31 || s.dev.gb F.PLL_SEG_W0_LAST n k) ∧
      s.dev.keepsRegs t.dev [(.PLL_DIV, n, 0), (.PLL_FRAC, n, 0), (.PLL_RAMP_CTRL, n, 0)] ∧ t.nch = s.nch ∧
          t.hb = s.hb))

/-- Life-cycle transitions (R342 to R344, Table 16.3). A request that the table allows, with its level and
prerequisites and VPP good, starts phase 1 with BUSY and TARGET; in Alarm and Dormant End of life needs only VPP.
Without its level it ends DENIED, without VPP NO_VPP, without another prerequisite PREREQ; a transition that the table
lacks ends REFUSED, each with a NOTICE of source 0x18. P1 drops the keys for End of life; P2 writes the sector with
the new identity key into the copy not in use for Test and erases both copies for End of life; P3 erases the eight
copies, P4 writes them, and with a good read-back the state is the target's and the result is OK; a second bad one
ends FAILED in the old state. -/
def Obligations.LifeCycle : Prop :=
  (∀ (target : BitVec 4) (s : State), s.dev.on = true → s.dev.secBusyNow = false → s.dev.vppGood = true →
    (target = 2 ∧ s.dev.lcState = 1 ∧ s.dev.sec.entropyOk = true ∨
      target = 4 ∧ s.dev.lcState = 2 ∧ s.dev.gf F.SEC_DBG_LEVEL = 3 ∧ s.dev.gb F.SEC_KEYS_IDK = true ∧
        (∃ k : Fin 4, s.dev.oikUsable k = true) ∧ s.dev.cfg.recordVerified = true ∨
      target = 8 ∧ (s.dev.lcState = 1 ∨ s.dev.lcState = 2 ∧ s.dev.gf F.SEC_DBG_LEVEL = 3 ∨
        s.dev.lcState = 4 ∧ 2 ≤ s.dev.gf F.SEC_DBG_LEVEL ∨
        s.dev.lcState ≠ 0 ∧ (s.dev.mode = mDormant ∨ s.dev.mode = mAlarm))) →
    Yields (.lcTransitionRequest target) s (fun t =>
      t.dev.sec = { s.dev.sec with lc := some { target := target, phase := 1 } } ∧
      t.dev.gf F.SEC_LCS_TARGET = target.toNat ∧ t.dev.gf F.SEC_LCS_BUSY = 1 ∧ t.dev.lcState = s.dev.lcState ∧
      s.dev.keepsRegs t.dev [(.SEC_LCS, 0, 0)] ∧ t.dev.rooms = s.dev.rooms ∧ t.nch = s.nch)) ∧
  (∀ (target result : Nat) (s : State), s.dev.on = true → s.dev.secBusyNow = false → s.dev.mode ≠ mDormant →
    s.dev.mode ≠ mAlarm →
    (target, result) ∈ (if s.dev.lcState = 0 then [(2, 1), (4, 1), (8, 1)]
      else if s.dev.lcState = 1 ∧ s.dev.sec.entropyOk = false then [(2, 4), (4, 1)]
      else if s.dev.lcState = 2 ∧ s.dev.gf F.SEC_DBG_LEVEL = 3 ∧ s.dev.cfg.recordVerified = false then [(4, 4), (2,
          1)]
      else if s.dev.lcState = 2 ∧ s.dev.gf F.SEC_DBG_LEVEL ≠ 3 then [(4, 2), (8, 2), (2, 1)]
      else if s.dev.lcState = 4 ∧ s.dev.gf F.SEC_DBG_LEVEL < 2 then [(8, 2), (2, 1), (4, 1)]
      else if s.dev.lcState = 1 ∧ s.dev.vppGood = false ∧ s.dev.sec.entropyOk = true then [(2, 3), (8, 3), (4, 1)]
      else if s.dev.lcState = 8 then [(2, 1), (4, 1), (8, 1)] else []) →
    Does (.lcTransitionRequest (BitVec.ofNat 4 target)) s
      (((s.dev.sf F.SEC_LC_STAT_DONE 0 0 1).sf F.SEC_LC_STAT_RESULT 0 0 result).noticeFree 0x18)) ∧
  (∀ (target : BitVec 4) (s : State), s.dev.on = true →
    (target ≠ 2 ∧ target ≠ 4 ∧ target ≠ 8 ∨ s.dev.secBusyNow = true) →
    Does (.lcTransitionRequest target) s (s.dev.notice 0x75 0x20004)) ∧
  (∀ (w : LcWork) (ok : Bool) (s : State), s.dev.sec.lc = some w →
    (w.phase = 1 → w.target ≠ 8 → Does (.lcPhaseDone ok) s { s.dev with
      sec := { s.dev.sec with lc := some { w with phase := if w.target = 4 then 3 else 2 } } }) ∧
    (w.phase = 1 → w.target = 8 → Yields (.lcPhaseDone ok) s (fun t => t.dev.sec =
      { s.dev.sec with keyIdk := none, keyImg := none, lc := some { w with phase := 2 } } ∧ t.dev.cfg = s.dev.cfg)) ∧
    (w.phase = 2 → Yields (.lcPhaseDone ok) s (fun t => t.dev.sec.lc = some { w with phase := 3 } ∧
      (w.target = 2 → t.dev.gf F.SEC_KEYS_COPY = (if s.dev.gf F.SEC_KEYS_COPY = 1 then 2 else 1) ∧
        t.dev.gf F.SEC_KEYS_IDK = b2n t.dev.sec.keyIdk.isSome ∧ t.dev.sec.lcCopies = s.dev.sec.lcCopies) ∧
      (w.target = 8 → t.dev.sec.keyIdk = none ∧ t.dev.sec.keyImg = none ∧ t.dev.sec.sector = [] ∧
        ∀ a, 0x20000 ≤ a → a < 0x40000 → Map.get erasedByte t.dev.cfg.cellar a = 0xFF))) ∧
    (w.phase = 3 → Does (.lcPhaseDone ok) s { s.dev with
      sec := { s.dev.sec with lcCopies := List.replicate 8 0xFF, lc := some { w with phase := 4 } } }) ∧
    (w.phase = 4 → s.dev.sec.resetHeld = false → Yields (.lcPhaseDone true) s (fun t =>
      t.dev.sec.lcCopies = List.replicate 8 (lcByte w.target.toNat) ∧ t.dev.sec.lc = none ∧
      t.dev.gf F.SEC_LCS_STATE = w.target.toNat ∧ t.dev.gf F.SEC_LCS_TARGET = 0 ∧ t.dev.gf F.SEC_LC_STAT_DONE = 1 ∧
      t.dev.gf F.SEC_LC_STAT_RESULT = 0 ∧ t.dev.sec.granted = 0 ∧ t.dev.cfg = s.dev.cfg ∧ t.nch = s.nch)) ∧
    (w.phase = 4 → w.again = false → Does (.lcPhaseDone false) s { s.dev with
      sec := { s.dev.sec with lc := some { w with again := true } } }) ∧
    (w.phase = 4 → w.again = true → s.dev.sec.resetHeld = false → Yields (.lcPhaseDone false) s (fun t =>
      t.dev.sec.lc = none ∧ t.dev.gf F.SEC_LCS_TARGET = 0 ∧ t.dev.lcState = s.dev.lcState ∧
      t.dev.gf F.SEC_LC_STAT_DONE = 1 ∧ t.dev.gf F.SEC_LC_STAT_RESULT = 5 ∧ t.dev.cfg = s.dev.cfg ∧ t.nch = s.nch))) ∧
  (∀ (ok : Bool) (s : State), s.dev.sec.lc = none → s.dev.sec.resetHeld = false → Does (.lcPhaseDone ok) s s.dev)

/-- Key loads and sector updates (R349, R352). A load outside Test or below level 3 ends DENIED and changes nothing
else; of a key already there REFUSED; each with a NOTICE of source 0x18. In Test at level 3 with VPP good it starts an
update that holds the key of the buffer (the image key wrapped), its flag, and, for an owner key, its hash. The end of
an update uses the other copy, ends OK, and leaves the rest of the Cellar alone. Owner commands (R355, R356). In Test
or Production, signed by a usable key, for this unit and with a counter above CMD_COUNT, a command starts an update
that stores the counter and sets the flag of one of two usable keys revoked, adds a ROOT not yet in the index, removes
one that is there, or replaces the debug key; one that is not possible, and any in another state, ends REFUSED, with a
signature that does not verify BAD_SIG, each with a NOTICE of source 0x18. While work is under way a command is
ignored; a load without VPP ends PREREQ. -/
def Obligations.KeyLoadsAndOwnerCommands : Prop :=
  ((∀ (c : Instr) (slot : BitVec 4) (s : State), c ∈ [.loadOik slot, .loadDbg, .loadImg] → s.dev.on = true →
     s.dev.secBusyNow = false → (s.dev.lcState ≠ 2 ∨ s.dev.gf F.SEC_DBG_LEVEL ≠ 3) →
     Does c s (((({ s.dev with sec := { s.dev.sec with cmd := none } } : Dev).sf F.SEC_CMD_STAT_DONE 0 0 1).sf
       F.SEC_CMD_STAT_BUSY 0 0 0).sf F.SEC_CMD_STAT_RESULT 0 0 2 |>.noticeFree 0x18)) ∧
   (∀ (c : Instr) (slot : BitVec 4) (s : State), s.dev.on = true → s.dev.secBusyNow = true →
     c ∈ [.loadOik slot, .loadDbg, .loadImg, .owner] → Does c s (s.dev.notice 0x75 0x20020)) ∧
   (∀ (slot : BitVec 4) (s : State), s.dev.on = true → s.dev.secBusyNow = false → s.dev.mayLoadKeys = true →
       3 < slot.toNat →
     Does (.loadOik slot) s (((({ s.dev with sec := { s.dev.sec with cmd := none } } : Dev).sf F.SEC_CMD_STAT_DONE 0 0
         1).sf
       F.SEC_CMD_STAT_BUSY 0 0 0).sf F.SEC_CMD_STAT_RESULT 0 0 1 |>.noticeFree 0x18)) ∧
   (∀ (slot : Fin 4) (c : Instr) (s : State), s.dev.on = true → s.dev.secBusyNow = false → s.dev.mayLoadKeys = true →
     s.dev.vppGood = false → (c = .loadOik (BitVec.ofNat 4 slot.val) ∧ bitOf (s.dev.gf F.SEC_KEYS_OIK) slot = false ∧
       bitOf (s.dev.gf F.SEC_KEYS_REVOKED) slot = false ∨ c = .loadDbg ∧ s.dev.gb F.SEC_KEYS_DBG = false ∨
       c = .loadImg ∧ s.dev.gb F.SEC_KEYS_IMG = false) →
     Does c s ((((({ s.dev with sec := { s.dev.sec with cmd := none } } : Dev).sf F.SEC_CMD_STAT_DONE 0 0 1).sf
       F.SEC_CMD_STAT_BUSY 0 0 0).sf F.SEC_CMD_STAT_RESULT 0 0 6))) ∧
   (∀ (slot : Fin 4) (s : State), s.dev.on = true → s.dev.secBusyNow = false → s.dev.mayLoadKeys = true →
     s.dev.vppGood = true → s.dev.sectorBase.length = 0x2200 →
     let k := s.dev.secBuf.take 64
     let refused := (((({ s.dev with sec := { s.dev.sec with cmd := none } } : Dev).sf F.SEC_CMD_STAT_DONE 0 0 1).sf
       F.SEC_CMD_STAT_BUSY 0 0 0).sf F.SEC_CMD_STAT_RESULT 0 0 1).noticeFree 0x18
     (bitOf (s.dev.gf F.SEC_KEYS_OIK) slot = true ∨ bitOf (s.dev.gf F.SEC_KEYS_REVOKED) slot = true →
       Does (.loadOik (BitVec.ofNat 4 slot.val)) s refused) ∧
     (bitOf (s.dev.gf F.SEC_KEYS_OIK) slot = false → bitOf (s.dev.gf F.SEC_KEYS_REVOKED) slot = false →
       Yields (.loadOik (BitVec.ofNat 4 slot.val)) s (fun t => ∃ b : List (BitVec 8),
         t.dev.sec = { s.dev.sec with upd := some { cmd := 1, bytes := b } } ∧
         slice b (0x80 + 64 * slot) 64 = k ∧ slice b (0x180 + 32 * slot) 32 = sha256 k ∧
         bitOf (field4 b 0xC) slot = true ∧ t.dev.gf F.SEC_CMD_STAT_BUSY = 1 ∧ t.dev.cfg = s.dev.cfg ∧
             t.nch = s.nch)) ∧
     (s.dev.gb F.SEC_KEYS_DBG = true → Does .loadDbg s refused) ∧ (s.dev.gb F.SEC_KEYS_IMG = true →
         Does .loadImg s refused) ∧
     (s.dev.gb F.SEC_KEYS_DBG = false → Yields .loadDbg s (fun t => ∃ b : List (BitVec 8),
       t.dev.sec = { s.dev.sec with upd := some { cmd := 2, bytes := b } } ∧ slice b 0x200 64 = k ∧
       bitOf (field4 b 0xC) 8 = true ∧ t.dev.cfg = s.dev.cfg ∧ t.nch = s.nch)) ∧
     (s.dev.gb F.SEC_KEYS_IMG = false → Yields .loadImg s (fun t => ∃ b : List (BitVec 8),
       t.dev.sec = { s.dev.sec with upd := some { cmd := 3, bytes := b } } ∧ bitOf (field4 b 0xC) 9 = true ∧
       slice b 0x260 40 = beBytes 40 (Config.wrapKey (BitVec.ofNat 256 (beNat (s.dev.secBuf.take 32)))).toNat ∧
       t.dev.cfg = s.dev.cfg ∧ t.nch = s.nch))) ∧
   (∀ (u : SecUpd) (s : State), s.dev.sec.upd = some u → s.dev.sec.resetHeld = false →
     s.dev.gb F.SEC_KEYS_ERASE_PENDING = false →
     let copy := if s.dev.gf F.SEC_KEYS_COPY = 1 then 1 else 0
     Yields .sectorUpdateDone s (fun t => t.dev.sec.upd = none ∧ t.dev.gf F.SEC_KEYS_COPY = copy + 1 ∧
       t.dev.gf F.SEC_CMD_STAT_DONE = 1 ∧ t.dev.gf F.SEC_CMD_STAT_BUSY = 0 ∧ t.dev.gf F.SEC_CMD_STAT_RESULT = 0 ∧
       (∀ a, (a < 0x20000 + 0x10000 * copy ∨ 0x30000 + 0x10000 * copy ≤ a) → u.bytes.length ≤ 0x2200 →
         Map.get erasedByte t.dev.cfg.cellar a = Map.get erasedByte s.dev.cfg.cellar a) ∧ t.nch = s.nch))) ∧
  ((∀ s : State, s.dev.on = true → s.dev.secBusyNow = false →
     let cmd := s.dev.secBuf
     let signer := field4 cmd 0xC
     let c := s.dev.sectorBase
     let refused := fun (r : Nat) => Does .owner s (((({ s.dev with sec := { s.dev.sec with cmd := none } } : Dev).sf
       F.SEC_CMD_STAT_DONE 0 0 1).sf F.SEC_CMD_STAT_BUSY 0 0 0).sf F.SEC_CMD_STAT_RESULT 0 0 r |>.noticeFree 0x18)
     let signed := Config.ecdsaOk (s.dev.oikPub signer) (sha256 (cmd.take 0xC0)) (slice cmd 0xC0 64)
     (s.dev.lcState ≠ 2 → s.dev.lcState ≠ 4 → refused 1) ∧
     ((s.dev.lcState = 2 ∨ s.dev.lcState = 4) →
       (3 < signer ∨ s.dev.oikUsable signer = false ∨ signed = false → refused 3) ∧
       (signer ≤ 3 → s.dev.oikUsable signer = true → signed = true →
         (s.dev.gb F.SEC_KEYS_IDK = false ∨ slice cmd 0x10 32 ≠ sha256 (slice c 0x40 64) ∨
             field4 cmd 8 ≤ field4 c 0x10 ∨
           ownerChange c cmd = none) → refused 1) ∧
       (signer ≤ 3 → s.dev.oikUsable signer = true → signed = true → s.dev.gb F.SEC_KEYS_IDK = true →
         slice cmd 0x10 32 = sha256 (slice c 0x40 64) → field4 c 0x10 < field4 cmd 8 → c.length = 0x2200 →
             s.dev.vppGood = true →
         let starts := fun P : List (BitVec 8) → Prop => Yields .owner s (fun t => ∃ b : List (BitVec 8),
           t.dev.sec = { s.dev.sec with upd := some { cmd := 4, bytes := b } } ∧ (field4 b 0x10 = field4 cmd 8 ∧
               P b) ∧
           t.dev.gf F.SEC_CMD_STAT_BUSY = 1 ∧ t.dev.cfg = s.dev.cfg ∧ t.nch = s.nch)
         let n := field4 c 0x14
         let root := slice cmd 0x30 32
         (field4 cmd 0 = 1 → field4 cmd 4 ≤ 3 →
           (∃ k < 4, k ≠ field4 cmd 4 ∧ bitOf (field4 c 0xC) k = true ∧ bitOf (field4 c 0xC) (4 + k) = false) →
           starts (fun b => bitOf (field4 b 0xC) (4 + field4 cmd 4) = true)) ∧
         (field4 cmd 0 = 2 → n < 240 → root ∉ indexRoots c →
           starts (fun b => slice b (0x400 + 32 * n) 32 = root ∧ field4 b 0x14 = n + 1)) ∧
         (field4 cmd 0 = 3 → root ∈ indexRoots c → n ≤ 240 → starts (fun b => field4 b 0x14 = n - 1)) ∧
         (field4 cmd 0 = 4 → starts (fun b => slice b 0x200 64 = slice cmd 0x50 64 ∧
             bitOf (field4 b 0xC) 8 = true))))))

/-- The debug exchange (R358 to R360). CHALLENGE ends any nonce; for a level that the state allows it starts, without
a debug key outside Test it ends NO_KEY, without entropy PREREQ, for another level REFUSED; its end draws a nonce into
the buffer, with the level pending. RESPOND without a nonce is STALE, without a debug key NO_KEY; with a nonce, it is
spent whatever the signature. A signature that verifies grants the level and clears FAILS; one that does not counts in
FAILS, grants nothing and is logged with source 0x19, and at the limit raises V4. RELEASE ends the grant, the expiry
of the nonce the nonce. While work is under way a command is ignored, with a NOTICE of source 0x75. -/
def Obligations.DebugExchange : Prop :=
  (∀ (level : BitVec 4) (s : State), s.dev.on = true → s.dev.secBusyNow = false →
    let d := ({ s.dev with sec := { s.dev.sec with nonce := none } } : Dev).sf F.SEC_DBG_PENDING 0 0 0
    let ended := fun r : Nat => ((({ d with sec := { d.sec with cmd := none } } : Dev).sf F.SEC_CMD_STAT_DONE 0 0
        1).sf
      F.SEC_CMD_STAT_BUSY 0 0 0).sf F.SEC_CMD_STAT_RESULT 0 0 r
    (0 < level.toNat → level.toNat ≤ exchangeMax s.dev.lcState → (s.dev.gb F.SEC_KEYS_DBG = true ∨
        s.dev.lcState = 2) →
      s.dev.sec.entropyOk = true → Does (.challenge level) s (({ d with sec := { d.sec with cmd := some (5, level) } }
          : Dev).sf
        F.SEC_CMD_STAT_BUSY 0 0 1)) ∧
    (0 < level.toNat → level.toNat ≤ exchangeMax s.dev.lcState → s.dev.gb F.SEC_KEYS_DBG = false → s.dev.lcState ≠ 2 →
      Does (.challenge level) s (ended 4)) ∧
    (0 < level.toNat → level.toNat ≤ exchangeMax s.dev.lcState → (s.dev.gb F.SEC_KEYS_DBG = true ∨
        s.dev.lcState = 2) →
      s.dev.sec.entropyOk = false → Does (.challenge level) s (ended 6)) ∧
    (level = 0 ∨ exchangeMax s.dev.lcState < level.toNat → Yields (.challenge level) s (fun t => t.dev.gf
        F.SEC_CMD_STAT_RESULT = 1 ∧
      t.dev.sec.nonce = none ∧ t.dev.gf F.SEC_DBG_LEVEL = s.dev.gf F.SEC_DBG_LEVEL ∧ t.nch = s.nch))) ∧
  (∀ s : State, s.dev.on = true → s.dev.secBusyNow = false →
    (s.dev.sec.nonce = none → Yields .respond s (fun t => t.dev.gf F.SEC_CMD_STAT_RESULT = 5 ∧
      t.dev.gf F.SEC_CMD_STAT_DONE = 1 ∧ t.dev.gf F.SEC_DBG_LEVEL = s.dev.gf F.SEC_DBG_LEVEL ∧
      s.dev.keepsRegs t.dev [(.SEC_CMD_STAT, 0, 0)] ∧ t.nch = s.nch)) ∧
    (∀ n, s.dev.sec.nonce = some n → s.dev.gb F.SEC_KEYS_DBG = false → Yields .respond s (fun t => t.dev.sec.nonce =
        none ∧
      t.dev.gf F.SEC_DBG_PENDING = 0 ∧ t.dev.gf F.SEC_CMD_STAT_RESULT = 4 ∧ t.dev.gf F.SEC_CMD_STAT_DONE = 1 ∧
      s.dev.keepsRegs t.dev [(.SEC_CMD_STAT, 0, 0), (.SEC_DBG, 0, 0)] ∧ t.nch = s.nch)) ∧
    (∀ n, s.dev.sec.nonce = some n → s.dev.gb F.SEC_KEYS_DBG = true →
      let level := s.dev.gf F.SEC_DBG_PENDING
      let ok := Config.ecdsaOk (slice s.dev.sectorBase 0x200 64)
        (sha256 (challengeBytes (sha256 (slice s.dev.sectorBase 0x40 64)) n level)) (s.dev.secBuf.take 64)
      Does .respond s (({ s.dev with sec := { s.dev.sec with
        nonce := none, hold := [BitVec.ofNat 8 level], cmd := some (6, BitVec.ofNat 4 (b2n ok)) } } : Dev).sf
        F.SEC_CMD_STAT_BUSY 0 0 1))) ∧
  (∀ (c : Instr) (level : BitVec 4) (s : State), s.dev.on = true → s.dev.secBusyNow = true →
    c ∈ [.challenge level, .respond, .release] → Does c s (s.dev.notice 0x75 0x20020)) ∧
  (∀ (op arg : BitVec 4) (s : State), s.dev.on = true → s.dev.sec.resetHeld = false → s.dev.sec.cmd = some (op, arg) →
    (op = 5 → Yields .secCmdDone s (fun t => ∃ n, t.dev.sec = { s.dev.sec with nonce := some n, cmd := none } ∧
      t.dev.secBuf.take 32 = beBytes 32 n.toNat ∧ t.dev.gf F.SEC_DBG_PENDING = arg.toNat % 4 ∧
      t.dev.gf F.SEC_CMD_STAT_DONE = 1 ∧ t.dev.gf F.SEC_CMD_STAT_BUSY = 0 ∧ t.dev.gf F.SEC_CMD_STAT_RESULT = 0 ∧
      t.dev.gf F.SEC_DBG_LEVEL = s.dev.gf F.SEC_DBG_LEVEL ∧ t.nch = s.nch)) ∧
    (∀ g : BitVec 2, op = 6 → s.dev.sec.hold = [g.setWidth 8] →
      (arg = 1 → Yields .secCmdDone s (fun t => t.dev.sec.granted = g.toNat ∧
        t.dev.gf F.SEC_DBG_LEVEL = max g.toNat s.dev.heldLevel ∧ t.dev.gf F.SEC_DBG_FAILS = 0 ∧
        t.dev.gf F.SEC_DBG_PENDING = 0 ∧ t.dev.gf F.SEC_CMD_STAT_RESULT = 0 ∧ t.dev.sec.cmd = none ∧ t.nch = s.nch)) ∧
      (arg = 0 → min (s.dev.gf F.SEC_DBG_FAILS + 1) (2 ^ F.SEC_DBG_FAILS.width - 1) < s.dev.gf F.SEC_DBG_LIMIT →
        Yields .secCmdDone s (fun t => t.dev.sec.granted = s.dev.sec.granted ∧
          t.dev.gf F.SEC_DBG_LEVEL = s.dev.gf F.SEC_DBG_LEVEL ∧
          t.dev.gf F.SEC_DBG_FAILS = min (s.dev.gf F.SEC_DBG_FAILS + 1) (2 ^ F.SEC_DBG_FAILS.width - 1) ∧
          t.dev.gf F.SEC_CMD_STAT_RESULT = 3 ∧ t.dev.gf F.ERR_CNT_COUNT 0x19 =
            min (s.dev.gf F.ERR_CNT_COUNT 0x19 + 1) (2 ^ F.ERR_CNT_COUNT.width - 1) ∧ t.nch = s.nch)) ∧
      (arg = 0 → s.dev.mode ≠ mRamp →
        s.dev.gf F.SEC_DBG_LIMIT ≤ min (s.dev.gf F.SEC_DBG_FAILS + 1) (2 ^ F.SEC_DBG_FAILS.width - 1) →
        Yields .secCmdDone s (fun t => t.dev.gf F.SEC_VSEEN_SEEN = s.dev.gf F.SEC_VSEEN_SEEN ||| 16 ∧
          t.dev.gf F.SEC_CMD_STAT_RESULT = 3 ∧ t.dev.sec.granted = s.dev.sec.granted)))) ∧
  (∀ s : State, s.dev.on = true → s.dev.secBusyNow = false → Yields .release s (fun t => t.dev.sec.granted = 0 ∧
    t.dev.gf F.SEC_DBG_LEVEL = s.dev.heldLevel ∧ t.dev.gf F.SEC_CMD_STAT_RESULT = 0 ∧ t.nch = s.nch)) ∧
  (∀ (n : BitVec 256) (s : State), s.dev.on = true → s.dev.sec.nonce = some n → Does .nonceExpiry s
    (({ s.dev with sec := { s.dev.sec with nonce := none } } : Dev).sf F.SEC_DBG_PENDING 0 0 0))

/-- Attestation and the entropy source (R366, R368). ATTEST in Test or Production with an identity key keeps the 32
bytes of the buffer and starts, without one it ends NO_KEY; in another state it ends REFUSED. While the source fails
its health tests ATTEST ends PREREQ; the failure is logged with source 0x1C. The tamper watch (R361 to R364), out of
Off and Supply ramp. A good mesh sets MESH_OK; an open or shorted one clears it and raises V3: its bit in SEC_VSEEN,
the first one in SEC_VIOL with its detail, and under policy NOTE a NOTICE and nothing more, under HALT an ALARM and
Alarm with CAUSE 0x12, under ERASE with CAUSE 0x13, the keys gone and the erase pending; so does a clock glitch as V1,
but not of islands 100 and 103. In Supply ramp nothing acts. The end of an erase clears ERASE_PENDING and leaves no
key. Without VCC_AO a broken mesh is remembered, under BAT_ERASE with an erase pending. -/
def Obligations.AttestAndTamperWatch : Prop :=
  ((∀ s : State, s.dev.on = true → s.dev.secBusyNow = false →
     ((s.dev.lcState = 2 ∨ s.dev.lcState = 4) → s.dev.gb F.SEC_KEYS_IDK = true →
       (s.dev.sec.entropyOk = true → Does .attest s (({ s.dev with sec := { s.dev.sec with
         hold := s.dev.secBuf.take 32, cmd := some (8, 0) } } : Dev).sf F.SEC_CMD_STAT_BUSY 0 0 1)) ∧
       (s.dev.sec.entropyOk = false → Yields .attest s (fun t => t.dev.gf F.SEC_CMD_STAT_RESULT = 6 ∧
         t.dev.gf F.SEC_CMD_STAT_DONE = 1 ∧ s.dev.keepsRegs t.dev [(.SEC_CMD_STAT, 0, 0)] ∧ t.nch = s.nch))) ∧
     ((s.dev.lcState = 2 ∨ s.dev.lcState = 4) → s.dev.gb F.SEC_KEYS_IDK = false → Yields .attest s (fun t =>
       t.dev.gf F.SEC_CMD_STAT_RESULT = 4 ∧ t.dev.gf F.SEC_CMD_STAT_DONE = 1 ∧
       s.dev.keepsRegs t.dev [(.SEC_CMD_STAT, 0, 0)] ∧ t.nch = s.nch)) ∧
     (s.dev.lcState ≠ 2 → s.dev.lcState ≠ 4 → Yields .attest s (fun t => t.dev.gf F.SEC_CMD_STAT_RESULT = 1 ∧
       t.dev.gf F.ERR_CNT_COUNT 0x18 = min (s.dev.gf F.ERR_CNT_COUNT 0x18 + 1) (2 ^ F.ERR_CNT_COUNT.width - 1) ∧
           t.nch = s.nch))) ∧
   (∀ s : State, s.dev.on = true → s.dev.secBusyNow = true → Does .attest s (s.dev.notice 0x75 0x20020)) ∧
   (∀ s : State, s.dev.on = true → Does .entropyHealthTestFail s
     (({ s.dev with sec := { s.dev.sec with entropyOk := false } } : Dev).faultFree 0x1C))) ∧
  ((∀ s : State, s.dev.on = true → Does (.meshCheck .good) s (s.dev.sf F.SEC_TAMP_MESH_OK 0 0 1)) ∧
   (∀ (c : Instr) (v detail : Nat) (n : Fin 106) (s : State), n.val ≠ 100 → n.val ≠ 103 →
     (c, v, detail) ∈ [(.meshCheck .open, 3, 0), (.meshCheck .short, 3, 1), (.clockGlitch n, 1, n.val)] →
     s.dev.on = true → s.dev.mode ≠ mRamp →
     (s.dev.policy v = 0 → Yields c s (fun t => t.dev.mode = s.dev.mode ∧
       t.dev.gf F.SEC_VSEEN_SEEN = s.dev.gf F.SEC_VSEEN_SEEN ||| 2 ^ v ∧
       (s.dev.gb F.SEC_VIOL_VALID = false → t.dev.gf F.SEC_VIOL_VALID = 1 ∧ t.dev.gf F.SEC_VIOL_SRC = v ∧
         t.dev.gf F.SEC_VIOL_POLICY = 0 ∧ t.dev.gf F.SEC_VIOL_DETAIL = detail) ∧
       t.dev.gf F.ERR_CNT_COUNT (0x10 + v) = min (s.dev.gf F.ERR_CNT_COUNT (0x10 + v) + 1) (2 ^ F.ERR_CNT_COUNT.width
           - 1) ∧
       t.dev.sec = s.dev.sec ∧ t.dev.rooms = s.dev.rooms ∧ t.nch = s.nch)) ∧
     (s.dev.policy v = 1 → s.dev.mode ≠ mAlarm → s.dev.mode ≠ mDormant → Yields c s (fun t => t.dev.mode = mAlarm ∧
       t.dev.gf F.GBL_MODE_CAUSE = 0x12 ∧ t.dev.gf F.GBL_MODE_PREV = s.dev.mode ∧
           t.dev.gb F.ERR_ALARM_VALID = true)) ∧
     (2 ≤ s.dev.policy v → Yields c s (fun t => t.dev.gf F.SEC_KEYS_ERASE_PENDING = 1 ∧ t.dev.sec.keyIdk = none ∧
       t.dev.sec.keyImg = none ∧ (if s.dev.mode = mAlarm ∨ s.dev.mode = mDormant then t.dev.mode = s.dev.mode
         else t.dev.mode = mAlarm ∧ t.dev.gf F.GBL_MODE_CAUSE = 0x13) ∧
       (s.dev.vppGood = true → t.dev.sec.lc = none → t.dev.sec.upd = none → t.dev.sec.erasing = true)))) ∧
   (∀ (n : Fin 106) (s : State), s.dev.mode = mRamp → Does (.clockGlitch n) s s.dev) ∧
   (∀ (m : Mesh) (s : State), s.dev.mode = mRamp → m ≠ .good → Does (.meshCheck m) s (s.dev.sf F.SEC_TAMP_MESH_OK 0 0
       0)) ∧
   (∀ (n : Fin 106) (s : State), n.val = 100 ∨ n.val = 103 → Does (.clockGlitch n) s s.dev) ∧
   (∀ s : State, s.dev.sec.erasing = true → s.dev.sec.resetHeld = false → Yields .eraseDone s (fun t =>
     t.dev.gf F.SEC_KEYS_ERASE_PENDING = 0 ∧ t.dev.sec.keyIdk = none ∧ t.dev.sec.keyImg = none ∧
         t.dev.sec.sector = [] ∧
     t.dev.sec.erasing = false ∧ (∀ a, 0x20000 ≤ a → a < 0x40000 → Map.get erasedByte t.dev.cfg.cellar a = 0xFF) ∧
     t.dev.sec.lcCopies = s.dev.sec.lcCopies ∧ t.dev.gf F.SEC_DBG_LEVEL = (if s.dev.sec.granted =
         0 then t.dev.heldLevel
       else max s.dev.sec.granted t.dev.heldLevel) % 4)) ∧
   (∀ s : State, s.dev.sec.erasing = false → Does .eraseDone s s.dev) ∧
   (∀ (broken : Bool) (s : State), s.dev.mode = mOff → s.dev.pin.bat = true → s.dev.gb F.SEC_TAMP_BAT_ERASE = false →
     Yields (.vbatMeshCheck broken) s (fun t => t.dev = if broken then s.dev.sf F.SEC_TAMP_BAT_SEEN 0 0 1 else s.dev))
         ∧
   (∀ s : State, s.dev.mode = mOff → s.dev.pin.bat = true → s.dev.gb F.SEC_TAMP_BAT_ERASE = true →
       Yields (.vbatMeshCheck true) s
     (fun t => t.dev = (s.dev.sf F.SEC_TAMP_BAT_SEEN 0 0 1).sf F.SEC_KEYS_ERASE_PENDING 0 0 1)) ∧
   (∀ (broken : Bool) (s : State), (s.dev.on = true ∨ s.dev.pin.bat = false) → Does (.vbatMeshCheck broken) s s.dev))

/-- Re-applying settings (R380, R381), for each of the six sections. Outside Run, Quiet and Hold a re-apply ends at
once with RESULT NOT_UP, while another is under way or a sleep handshake runs with BUSY, with a record that fails its
checks with BAD_RECORD and a NOTICE. An accepted one reads BUSY, for its one section; with nothing to apply it changes
nothing else, and an entry outside its section's registers is skipped. Its end applies what is left, and shows DONE,
RESULT 0 and the number of entries skipped. -/
def Obligations.ReapplyOfSettings : Prop :=
  (∀ (c : Instr) (x : Fin 6) (s : State), [Instr.reapplyClock, .reapplyIo, .reapplyControl, .reapplyDram,
      .reapplyEngine, .reapplyRoom][x]? = some c →
    let ended := fun (d : Dev) (result : Nat) => (d.sf F.GBL_REAPPLY_STAT_DONE 0 0 1).sf F.GBL_REAPPLY_STAT_RESULT 0 0
        result
    let l := s.dev.reapplyList (Section.all.getD x .room)
    (s.dev.ready = false → Does c s (ended s.dev 2)) ∧
    (s.dev.ready = true → (s.dev.cfg.reapply.isSome = true ∨ s.dev.inHandshake = true) → Does c s (ended s.dev 1)) ∧
    (s.dev.ready = true → s.dev.cfg.reapply = none → s.dev.inHandshake = false →
      (s.dev.runningRecord = .invalid → Does c s (ended (s.dev.notice 0x00 (s.dev.gf F.CFG_STATUS_RECORD - 1)) 3)) ∧
      (s.dev.runningRecord.ok = false → Yields c s (fun t => t.dev.gf F.GBL_REAPPLY_STAT_DONE = 1 ∧
        t.dev.gf F.GBL_REAPPLY_STAT_RESULT = 3 ∧ t.dev.cfg.reapply = none)) ∧
      (s.dev.runningRecord.ok = true → Yields c s (fun t => t.dev.gf F.GBL_REAPPLY_STAT_BUSY = 1 ∧
        t.dev.cfg.reapply.map (fun w => w.sections) = some (BitVec.ofNat 6 (2 ^ x.val)) ∧
        (l = [] → t.dev.cfg.reapply.map (fun w => (w.skipped, w.rest)) = some (0, []) ∧
          s.dev.keepsRegs t.dev [(.GBL_REAPPLY_STAT, 0, 0)] ∧ t.nch = s.nch) ∧
        (l.length = 1 → l.all (fun e => !(Section.all.getD x .room).covers e.1) = true →
          t.dev.cfg.reapply.map (fun w => w.skipped + w.rest.length) = some 1 ∧
          s.dev.keepsKinds t.dev [.GBL_REAPPLY_STAT, .ERR_NOTICE, .ERR_CNT, .ERR_STAT, .ERR_FIRST, .ERR_FIRST_TIME_LO,
            .ERR_FIRST_TIME_HI, .ERR_FIRST_DETAIL]))))) ∧
  (∀ (w : Machine.Reapply) (s : State), s.dev.cfg.reapply = some w →
    Yields .reapplyDone s (fun t => t.dev.cfg.reapply = none ∧ t.dev.gf F.GBL_REAPPLY_STAT_BUSY = 0 ∧
      t.dev.gf F.GBL_REAPPLY_STAT_DONE = 1 ∧ t.dev.gf F.GBL_REAPPLY_STAT_RESULT = 0 ∧
      (w.rest.length = 1 → w.rest.all (fun e => !(Section.all.getD e.1 .room).covers e.2.1) = true →
        t.dev.gf F.GBL_REAPPLY_STAT_SKIPPED = min (w.skipped + 1) 0xFFFF)) ∧
    (w.rest = [] → Does .reapplyDone s
      ((((({ s.dev with cfg := { s.dev.cfg with reapply := none } } : Dev).sf F.GBL_REAPPLY_STAT_BUSY 0 0 0).sf
        F.GBL_REAPPLY_STAT_DONE 0 0 1).sf F.GBL_REAPPLY_STAT_RESULT 0 0 0).sf F.GBL_REAPPLY_STAT_SKIPPED 0 0 (min
            w.skipped 0xFFFF))))

/-- SPI reads (R384 to R386, R392 to R394), with no write waiting. A read answers the status byte and the word of the
address it names, with HAT_STAT showing the status and the port. Data that are not ready answer BUSY and 0, and are
counted, but registers of island 102 are always ready. An address that is not a whole word's, or that no register has,
answers NO_REG; the governor's registers in Deep hold answer ASLEEP; each is counted and logged. A burst read answers
every slot, advances by 4 after each word, and repeats the address after BUSY. SPI writes (R385, R387, R392). A write
of a plain register stores the word, and Status then answers OK and 0xFFFFFFFF; a refused address is discarded,
counted and logged, and Status answers its status and address. Words not performed yet wait in the buffer of 8, in
order, and Status answers BUSY; a word that finds it full is discarded with the rest of its burst and recorded as
BUSY. Any other command code is counted in PROTO and logged, and changes nothing else. -/
def Obligations.SpiPort : Prop :=
  ((∀ (s : State), s.dev.on = true → s.dev.hat.buffer = [] →
     let q : Dev := { s.dev with hat := { s.dev.hat with quad := s.dev.gb F.HAT_CFG_QUAD } }
     let answer := fun (d : Dev) (status : Nat) (w : Word) =>
       ({ d.sf F.HAT_STAT_LAST 0 0 status with hat := { d.hat with out := [(status, w)] } } : Dev).sf F.HAT_STAT_PORT
           0 0 0
     let read := fun (a : Word) (ready : Bool) => let r := q.hatchRead a.toNat
       if ready = false ∧ alwaysReady a.toNat = false ∧ (r.2.1 = 1 ∨ r.2.1 = 0x21) then (8, 0) else r.2
     (∀ (a : Word) (ready : Bool), Yields (.spiReadWord a ready) s (fun t => t.dev.hat.out = [read a ready] ∧
       t.dev.gf F.HAT_STAT_LAST = (read a ready).1 % 256 ∧ t.dev.gf F.HAT_STAT_PORT = 0)) ∧
     (∀ (a : Word) (k : RK) (mask : Word) (ready : Bool),
       (a, k, mask) ∈ [(0x0#32, RK.GBL_IDCODE, 0xFFFFFFFF#32), (0x88, .GBL_RESET, 0xC01FFFFF), (0x10000, .HAT_CFG, 1),
           (0xE0010, .ERR_FIRST, 0xE000007F)] →
       Does (.spiReadWord a ready) s (answer q 1 (s.dev.reg k &&& mask))) ∧
     (s.dev.evOn = true → Does (.spiReadWord 0x90050 true) s (answer q 1 (s.dev.reg .EVT_MARK_ROOMS_LO)) ∧
       Does (.spiReadWord 0x90050 false) s (answer (q.cnt F.HAT_CNT_BUSY 0 0) 8 0)) ∧
     (∀ (a : Word) (ready : Bool), a.toNat % 4 ≠ 0 ∨ a ∈ [0x4#32, 0xF0000, 0x140000, 0x240000, 0x70000000, 0x90000000,
         0xFFFFFFFC] →
       Does (.spiReadWord a ready) s (answer ((q.cnt F.HAT_CNT_NO_REG 0 0).notice 0x75 a.toNat) 4 0)) ∧
     (∀ ready : Bool, s.dev.mode = mDeep → s.dev.gov.sleep = none → Does (.spiReadWord 0x40010 ready) s
       (answer ((q.cnt F.HAT_CNT_ASLEEP 0 0).notice 0x73 0x40010) 2 0x0BAD0FF0)) ∧
     (∀ (a : Word) (r : Bool) (l : List Bool), Yields (.spiBurstRead a (r :: l)) s (fun t =>
       t.dev.hat.out.length = l.length + 1 ∧ t.dev.hat.out.head? = some (read a r) ∧ t.dev.gf F.HAT_STAT_PORT = 0))) ∧
   (∀ s : State, s.dev.on = true → s.dev.hat.buffer = [] →
     Yields (.spiBurstRead 0xE0010 [true, true, true]) s (fun t =>
       t.dev.hat.out = [(1, s.dev.reg .ERR_FIRST &&& 0xE000007F), (1, s.dev.reg .ERR_FIRST_TIME_LO), (1,
           s.dev.reg .ERR_FIRST_TIME_HI)] ∧
       s.dev.keepsRegs t.dev [(.HAT_STAT, 0, 0)] ∧ t.dev.gf F.HAT_STAT_LAST = 1 ∧ t.nch = s.nch) ∧
     (s.dev.evOn = true → Yields (.spiBurstRead 0x90050 [false, true]) s (fun t =>
       t.dev.hat.out = [(8, 0), (1, s.dev.reg .EVT_MARK_ROOMS_LO)] ∧
       t.dev.gf F.HAT_CNT_BUSY = min (s.dev.gf F.HAT_CNT_BUSY + 1) 255 ∧
       s.dev.keepsRegs t.dev [(.HAT_STAT, 0, 0), (.HAT_CNT, 0, 0)] ∧ t.nch = s.nch)))) ∧
  ((∀ (s : State), s.dev.on = true → s.dev.hat.buffer = [] →
     let q : Dev := { s.dev with hat := { s.dev.hat with
       quad := s.dev.gb F.HAT_CFG_QUAD, writeStatus := 1, writeFail := 0xFFFFFFFF, dropped := none, buffer := [] } }
     let answer := fun (d : Dev) (status : Nat) =>
       ({ d.sf F.HAT_STAT_LAST 0 0 status with hat := { d.hat with out := [(status, 0)] } } : Dev).sf F.HAT_STAT_PORT
           0 0 0
     let record := fun (d : Dev) (status : Nat) (a : Word) =>
       ({ d with hat := { d.hat with writeStatus := status, writeFail := a } } : Dev)
     let waiting := fun (a : Word) (vs : List Word) => ({ q with hat := { q.hat with
       buffer := (List.range vs.length).map (fun i =>
           { addr := a + BitVec.ofNat 32 (4 * i), val := vs.getD i 0, last := true }) } } : Dev)
     (∀ (v : Word), s.dev.evOn = true → Does (.spiWriteWord 0x90050 ⟨v, true⟩) s (answer (q.setReg .EVT_MARK_ROOMS_LO 0 0
         v) 1)) ∧
     (∀ (a v : Word), a.toNat % 4 ≠ 0 → Does (.spiWriteWord a ⟨v, true⟩) s
       (record (answer ((q.cnt F.HAT_CNT_NO_REG 0 0).notice 0x75 a.toNat) 4) 4 a)) ∧
     (∀ (a v : Word), Does (.spiWriteWord a ⟨v, false⟩) s (waiting a [v])) ∧
     (∀ (v w : Word), s.dev.evOn = true → Does (.spiBurstWrite 0x90050 [v, w] []) s
       (answer ((answer (q.setReg .EVT_MARK_ROOMS_LO 0 0 v) 1).setReg .EVT_MARK_ROOMS_HI 0 0 w) 1)) ∧
     (∀ (a : Word) (vs : List Word) (ks : List Nat), vs.length ≤ 8 → ks.length = vs.length + 1 →
         ks.all (· == 0) = true →
       Does (.spiBurstWrite a vs ks) s (waiting a vs)) ∧
     (∀ (a : Word) (vs : List Word) (ks : List Nat), 8 < vs.length → ks.length = vs.length + 1 →
         ks.all (· == 0) = true →
       Yields (.spiBurstWrite a vs ks) s (fun t => t.dev.hat.buffer = (waiting a (vs.take 8)).hat.buffer ∧
         t.dev.hat.dropped = some (a + 32) ∧ t.dev.gf F.HAT_STAT_LAST = 8 ∧
         t.dev.gf F.HAT_CNT_BUSY = min (s.dev.gf F.HAT_CNT_BUSY + 1) 255 ∧
         s.dev.keepsRegs t.dev [(.HAT_STAT, 0, 0), (.HAT_CNT, 0, 0)] ∧ t.nch = s.nch)) ∧
     (∀ code : BitVec 8, code.toNat < 0xA1 ∨ 0xA5 < code.toNat → Does (.spiUnknownCommand code) s
       (({ s.dev with hat := { s.dev.hat with quad := s.dev.gb F.HAT_CFG_QUAD } } : Dev).cnt F.HAT_CNT_PROTO 0 0
         |>.notice 0x75 code.toNat))) ∧
   (∀ s : State, s.dev.on = true →
     let h := s.dev.hat
     Does .spiStatus s { s.dev with hat := { h with
       quad := s.dev.gb F.HAT_CFG_QUAD
       out := [if h.buffer.any (fun x => x.last) then (8, 0xFFFFFFFF) else if h.writeStatus ≠ 1 then (h.writeStatus,
           h.writeFail)
         else match h.dropped with
           | some a => (8, a)
           | none => (1, 0xFFFFFFFF)] } }))

/-- Configuration readback (R395). Below level 1 every read is DENIED. From level 1, an index beyond the frames of its
kind answers NO_REG; kind 0 answers the words of the active plane's frame as its cells stand, which is as loaded where
no memory LUT has changed; kind 1 the block RAM as stored, and ASLEEP while the room is parked or off; kind 2 answers
0; kind 3 the words of the shadow plane's frame. The TAP (R389, R390, Table 18.3). Each instruction selects its data
register: EXTEST needs level 2 and SAMPLE/PRELOAD level 1, below which they act as BYPASS and log a NOTICE of source
0x18; IDCODE and HATCH need none; every other code is BYPASS. While the HATCH register is selected, and no write
waits, Update-DR with 0xA1 reads, with 0xA2 writes, with 0xA5 answers the Status of the last write, and with any other
code performs nothing and answers NO_REG. The accesses show port 1. -/
def Obligations.ReadbackAndTap : Prop :=
  (∀ (n : Fin 64) (kind : Fin 4) (index : Fin 4096) (w : Fin 64) (s : State), s.dev.on = true →
     let a := 0x80000000 + 256 * (n.val * 0x4000 + kind.val * 0x1000 + index.val) + 4 * w.val
     let c := Instr.readbackRead (BitVec.ofNat 32 a)
     let answer := fun (d : Dev) (status : Nat) (x : Word) =>
       ({ d.sf F.HAT_STAT_LAST 0 0 status with hat := { d.hat with out := [(status, x)] } } : Dev)
     let frames := [2304, 720, 1, 2304]
     (s.dev.gf F.SEC_DBG_LEVEL = 0 → Does c s (answer (s.dev.notice 0x18 a) 0x10 0)) ∧
     (0 < s.dev.gf F.SEC_DBG_LEVEL → frames.getD kind 0 ≤ index.val →
       Does c s (answer ((s.dev.cnt F.HAT_CNT_NO_REG 0 0).notice 0x75 a) 4 0)) ∧
     (0 < s.dev.gf F.SEC_DBG_LEVEL → index.val < frames.getD kind 0 →
       (kind.val = 0 → Does c s (answer s.dev 1 (payloadWord ((s.dev.room n).liveFrame index) w)) ∧
         ((s.dev.room n).mem = [] → (s.dev.room n).liveFrame index = Map.get (fun _ => 0) (s.dev.room n).act.frames
             index)) ∧
       (kind.val = 1 → s.dev.parkedOrOff n = true →
         Does c s (answer ((s.dev.cnt F.HAT_CNT_ASLEEP 0 0).notice 0x73 a) 2 0x0BAD0FF0)) ∧
       (kind.val = 1 → s.dev.parkedOrOff n = false → Does c s (answer s.dev 1
         (payloadWord (s.dev.bramFrame n index) w))) ∧
       (kind.val = 2 → Does c s (answer s.dev 1 0)) ∧
       (kind.val = 3 → Does c s (answer s.dev 1 (payloadWord (Map.get (fun _ => 0) (s.dev.room n).shd.frames index)
           w))))) ∧
  ((∀ (c : Instr) (code sel : BitVec 8) (level : Nat) (s : State), s.dev.on = true →
     (c, code, sel, level) ∈ [(Instr.tapExtest, 0x00#8, 0x00#8, 2), (.tapIdcode, 0x01, 0x01, 0), (.tapSamplePreload,
         0x02, 0x02, 1),
       (.tapHatch, 0x20, 0x20, 0)] ∨
       (c = .tapBypass code ∧ code ∉ [0x00#8, 0x01, 0x02, 0x20] ∧ sel = 0xFF ∧ level = 0) →
     let loaded := fun (x : BitVec 8) =>
       ({ s.dev with hat := { s.dev.hat with ir := code, drSel := x, bypass := if x = 0xFF then false else s.dev.hat.bypass } } : Dev)
     (level ≤ s.dev.gf F.SEC_DBG_LEVEL → Does c s (loaded sel)) ∧
     (s.dev.gf F.SEC_DBG_LEVEL < level → Does c s ((loaded 0xFF).noticeFree 0x18))) ∧
   (∀ (w a : Word) (cmd : BitVec 8) (s : State), s.dev.on = true → s.dev.hat.buffer = [] →
     let c := Instr.hatchUpdateDr (w ++ a ++ cmd)
     let answer := fun (d : Dev) (status : Nat) (x : Word) =>
       ({ d.sf F.HAT_STAT_LAST 0 0 status with hat := { d.hat with out := [(status, x)] } } : Dev).sf F.HAT_STAT_PORT
           0 0 1
     let capture := fun (d : Dev) (status : Nat) (x : Word) =>
       ({ d with hat := { d.hat with dr := x ++ a ++ BitVec.ofNat 8 status } } : Dev)
     (s.dev.hat.drSel ≠ 0x20 → Does c s s.dev) ∧
     (s.dev.hat.drSel = 0x20 →
       (cmd = 0xA1 → let r := s.dev.hatchRead a.toNat
         Yields c s (fun t => t.dev.hat.out = [r.2] ∧ t.dev.hat.dr = r.2.2 ++ a ++ BitVec.ofNat 8 r.2.1 ∧
           t.dev.gf F.HAT_STAT_LAST = r.2.1 % 256 ∧ t.dev.gf F.HAT_STAT_PORT = 1)) ∧
       (cmd = 0xA1 → a = 0 → Does c s (capture (answer s.dev 1 (s.dev.reg .GBL_IDCODE)) 1 (s.dev.reg .GBL_IDCODE))) ∧
       (cmd = 0xA1 → a.toNat % 4 ≠ 0 →
         Does c s (capture (answer ((s.dev.cnt F.HAT_CNT_NO_REG 0 0).notice 0x75 a.toNat) 4 0) 4 0)) ∧
       (cmd = 0xA2 → a = 0x90050 → s.dev.evOn = true → Yields c s (fun t => t.dev.reg .EVT_MARK_ROOMS_LO = w ∧
         t.dev.hat.writeStatus = 1 ∧ t.dev.hat.writeFail = 0xFFFFFFFF ∧ t.dev.hat.dr.extractLsb' 0 40 = a ++ 0x01#8 ∧
         t.dev.gf F.HAT_STAT_PORT = 1 ∧ s.dev.keepsRegs t.dev [(.EVT_MARK_ROOMS_LO, 0, 0), (.HAT_STAT, 0, 0)] ∧
             t.nch = s.nch)) ∧
       (cmd = 0xA5 → Does c s (capture s.dev s.dev.hat.statusNow.1 s.dev.hat.statusNow.2)) ∧
       (cmd ≠ 0xA1 → cmd ≠ 0xA2 → cmd ≠ 0xA5 → Does c s (capture s.dev 4 0)))))

/-- Register writes field by field (R8 to R11): a write answers the status of the access, NO_REG where the address is
no whole word's. GOV_VCC out of Deep hold: a MARGIN above 80 mV is reserved and keeps its value, with one NOTICE that
names the register, while the write's other fields are stored. A bank's standard (R405) is refused alike unless the
facing room is held, parked or off; then every field of the write is stored but a reserved standard, and a change of
it ends the goodness of the bank's rail. VCCIO outside the window of a standard sets MISMATCH, with a FAULT when it
was 0, and back inside clears it; without a standard nothing is compared. -/
def Obligations.RegisterWritesAndBanks : Prop :=
  (∀ (v : Word) (s : State), s.dev.on = true → s.dev.mode ≠ mDeep → Yields (.registerWrite 0x40020 v) s (fun t =>
    t.dev.gf F.GOV_VCC_MARGIN = (if bits v 24 8 ≤ 80 then bits v 24 8 else s.dev.gf F.GOV_VCC_MARGIN) ∧
    t.dev.gf F.GOV_VCC_VSRAM_RUN = (if 800 ≤ bits v 12 12 ∧ bits v 12 12 ≤ 900 then bits v 12 12 else s.dev.gf
        F.GOV_VCC_VSRAM_RUN) ∧
    t.dev.gf F.GOV_VCC_VSRAM_RET = (if 800 ≤ bits v 0 12 ∧ bits v 0 12 ≤ 900 then bits v 0 12 else s.dev.gf
        F.GOV_VCC_VSRAM_RET) ∧
    t.dev.gf F.HAT_STAT_LAST = 1 ∧ t.dev.rooms = s.dev.rooms ∧ t.nch = s.nch ∧
    (bits v 24 8 ≤ 80 → 800 ≤ bits v 12 12 → bits v 12 12 ≤ 900 → 800 ≤ bits v 0 12 → bits v 0 12 ≤ 900 →
      s.dev.keepsRegs t.dev [(.GOV_VCC, 0, 0), (.HAT_STAT, 0, 0)]) ∧
    (80 < bits v 24 8 → bits v 24 8 ≠ s.dev.gf F.GOV_VCC_MARGIN →
      t.dev.gf F.ERR_CNT_COUNT 0x75 = min (s.dev.gf F.ERR_CNT_COUNT 0x75 + 1) (2 ^ F.ERR_CNT_COUNT.width - 1) ∧
      t.dev.err.notice = { src := 0x75, sev := .notice, detail := 0x40020, time := s.dev.ev.time }))) ∧
  (∀ (a v : Word) (s : State), s.dev.on = true → Yields (.registerWrite a v) s (fun t =>
    t.dev.gf F.HAT_STAT_LAST = (s.dev.hatchWrite a.toNat v).2 % 256 ∧
    (a.toNat % 4 ≠ 0 → (s.dev.hatchWrite a.toNat v).2 = 4 ∧ t.dev.ev = s.dev.ev ∧ t.dev.rooms = s.dev.rooms))) ∧
  (∀ (b : Fin 18) (v : Word) (s : State), s.dev.on = true → s.dev.gf F.IOB_CFG_STD b ≠ bits v 28 4 →
    (s.dev.bankHeld b = false → Yields (.iobStdWrite b v) s (fun t =>
      t.dev.gf F.IOB_CFG_STD b = s.dev.gf F.IOB_CFG_STD b ∧ t.dev.gf F.GBL_RAIL_STAT_GOOD =
          s.dev.gf F.GBL_RAIL_STAT_GOOD ∧
      t.dev.err.notice = { src := 0x75, sev := .notice, detail := BitVec.ofNat 32 (0xD0000 + 0x400 * b.val), time := s.dev.ev.time } ∧
      t.dev.rooms = s.dev.rooms ∧ t.nch = s.nch))) ∧
  (∀ (b : Fin 18) (v : Word) (s : State), s.dev.on = true → s.dev.bankHeld b = true →
    let old := s.dev.gf F.IOB_CFG_STD b
    let std := if 6 < bits v 28 4 ∨ (lowStd (bits v 28 4) = true ∧ (List.range 40).any (s.dev.gf F.IOB_PIN_DRIVE b ·
        == 3) = true) then old
      else bits v 28 4
    Yields (.iobStdWrite b v) s (fun t => t.dev.gf F.IOB_CFG_STD b = std ∧
      (∀ f ∈ [F.IOB_CFG_FCLK_EN, F.IOB_CFG_FCLK_PLL, F.IOB_CFG_FCLK_OUT], t.dev.gf f b = bits v f.lo f.width) ∧
      (∀ r < 28, t.dev.railGood r = (s.dev.railGood r && !(r == 10 + b.val && std != old))) ∧
      (bits v 28 4 = std → s.dev.keepsRegs t.dev [(.IOB_CFG, b, 0), (.GBL_RAIL_STAT, 0, 0), (.IOB_STAT, b, 0)]) ∧
      t.dev.rooms = s.dev.rooms ∧ t.nch = s.nch)) ∧
  (∀ (b : Fin 18) (s : State), s.dev.on = true →
    let d := { s.dev with pin := { s.dev.pin with vccio := s.dev.pin.vccio ||| BitVec.ofNat 18 (2 ^ b.val) } }
    let out := (d.sf F.IOB_STAT_MISMATCH b 0 1).bankLeaves b
    (s.dev.gf F.IOB_CFG_STD b = 0 → ∀ out : Bool, Does (.vccioMismatch b out) s d) ∧
    (s.dev.gf F.IOB_CFG_STD b ≠ 0 →
      (s.dev.gb F.IOB_STAT_MISMATCH b = false → Does (.vccioMismatch b true) s (out.fault 0x69 b)) ∧
      (s.dev.gb F.IOB_STAT_MISMATCH b = true → Does (.vccioMismatch b true) s out) ∧
      Does (.vccioMismatch b false) s (d.sf F.IOB_STAT_MISMATCH b 0 0)))

/-- The error unit (R397 to R399). Each record is counted. A NOTICE goes into ERR_NOTICE, and on only under NOTICE_Q.
A record that goes on becomes the first record if there is none, joins the queue below 16, and is else lost, with OVF,
OVF_SEV and LOST; an ALARM is copied into ERR_ALARM unless one is held. ERR_ACK takes the oldest queued record
forward. A read of ERR_NOTICE word 0 latches words 1 to 3. -/
def Obligations.ErrorUnit : Prop :=
  (∀ (src : BitVec 7) (sev : Severity) (detail : Word) (s : State), s.dev.on = true →
    let r : ErrRec := { src := src, sev := sev, detail := detail, time := s.dev.ev.time }
    let n := if sev = .notice then 1 else if sev = .fault then 2 else 3
    let c := Instr.errRecordArrive src sev detail
    let word0 : Word := BitVec.ofNat 32 (0x80000000 + n * 0x20000000 + src.toNat)
    Yields c s (fun t => t.dev.gf F.ERR_CNT_COUNT src.toNat = min (s.dev.gf F.ERR_CNT_COUNT src.toNat + 1) (2 ^ 32 -
        1) ∧
      t.dev.mode = s.dev.mode ∧ t.dev.rooms = s.dev.rooms ∧ t.nch = s.nch) ∧
    (sev = .notice → s.dev.gb F.ERR_CTRL_NOTICE_Q = false → Yields c s (fun t => t.dev.reg .ERR_NOTICE = word0 ∧
      t.dev.err = { s.dev.err with notice := r } ∧ s.dev.keepsRegs t.dev [(.ERR_CNT, src.toNat, 0), (.ERR_NOTICE, 0,
          0)])) ∧
    (sev = .notice → Yields c s (fun t => t.dev.reg .ERR_NOTICE = word0 ∧ t.dev.err.notice = r)) ∧
    (sev ≠ .notice ∨ s.dev.gb F.ERR_CTRL_NOTICE_Q = true →
      (s.dev.gb F.ERR_FIRST_VALID = false → Yields c s (fun t => t.dev.reg .ERR_FIRST = word0 ∧
        t.dev.reg .ERR_FIRST_TIME_LO = r.time.setWidth 32 ∧ t.dev.reg .ERR_FIRST_TIME_HI =
            (r.time >>> 32).setWidth 32 ∧
        t.dev.reg .ERR_FIRST_DETAIL = detail ∧ t.dev.gf F.ERR_STAT_FIRST_VALID = 1 ∧
            t.dev.err.queue = s.dev.err.queue)) ∧
      (s.dev.gb F.ERR_FIRST_VALID = true → s.dev.err.queue.length < 16 → Yields c s (fun t =>
        t.dev.err.queue = s.dev.err.queue ++ [r] ∧ t.dev.gf F.ERR_STAT_QLEN = s.dev.err.queue.length + 1 ∧
        t.dev.reg .ERR_FIRST = s.dev.reg .ERR_FIRST ∧ t.dev.reg .ERR_FIRST_DETAIL = s.dev.reg .ERR_FIRST_DETAIL)) ∧
      (s.dev.gb F.ERR_FIRST_VALID = true → 16 ≤ s.dev.err.queue.length → Yields c s (fun t =>
        t.dev.err.queue = s.dev.err.queue ∧ t.dev.gf F.ERR_STAT_OVF = 1 ∧
        t.dev.gf F.ERR_STAT_OVF_SEV = max (s.dev.gf F.ERR_STAT_OVF_SEV) n ∧
        t.dev.gf F.ERR_STAT_LOST = min (s.dev.gf F.ERR_STAT_LOST + 1) 0xFFFF ∧
            t.dev.reg .ERR_FIRST = s.dev.reg .ERR_FIRST))) ∧
    (sev = .alarm → Yields c s (fun t => if s.dev.gb F.ERR_ALARM_VALID then
        (∀ k ∈ [RK.ERR_ALARM, .ERR_ALARM_TIME_LO, .ERR_ALARM_TIME_HI, .ERR_ALARM_DETAIL], t.dev.reg k = s.dev.reg k)
      else t.dev.reg .ERR_ALARM = word0 ∧ t.dev.reg .ERR_ALARM_DETAIL = detail ∧
        t.dev.reg .ERR_ALARM_TIME_LO = r.time.setWidth 32 ∧ t.dev.reg .ERR_ALARM_TIME_HI =
            (r.time >>> 32).setWidth 32)) ∧
    (sev ≠ .alarm → Yields c s (fun t =>
      ∀ k ∈ [RK.ERR_ALARM, .ERR_ALARM_TIME_LO, .ERR_ALARM_TIME_HI, .ERR_ALARM_DETAIL], t.dev.reg k = s.dev.reg k))) ∧
  (∀ s : State, s.dev.on = true →
    (s.dev.gb F.ERR_FIRST_VALID = false → Does .errAck s s.dev) ∧
    (s.dev.gb F.ERR_FIRST_VALID = true → s.dev.err.queue = [] → Does .errAck s
      ((s.dev.sf F.ERR_FIRST_VALID 0 0 0).sf F.ERR_STAT_FIRST_VALID 0 0 0)) ∧
    (∀ r l, s.dev.gb F.ERR_FIRST_VALID = true → s.dev.err.queue = r :: l → l.length < 16 → Yields .errAck s (fun t =>
      t.dev.reg .ERR_FIRST = r.word0 ∧ t.dev.reg .ERR_FIRST_DETAIL = r.detail ∧
          t.dev.reg .ERR_FIRST_TIME_LO = r.time.setWidth 32 ∧
      t.dev.reg .ERR_FIRST_TIME_HI = (r.time >>> 32).setWidth 32 ∧ t.dev.err = { s.dev.err with queue := l } ∧
      t.dev.gf F.ERR_STAT_QLEN = l.length ∧ t.nch = s.nch ∧
      ∀ k ∈ [RK.ERR_ALARM, .ERR_ALARM_TIME_LO, .ERR_ALARM_TIME_HI, .ERR_ALARM_DETAIL], t.dev.reg k = s.dev.reg k)) ∧
    Does .errAlarmClear s ((((s.dev.setReg .ERR_ALARM 0 0 0).setReg .ERR_ALARM_TIME_LO 0 0 0).setReg
      .ERR_ALARM_TIME_HI 0 0 0).setReg .ERR_ALARM_DETAIL 0 0 0) ∧
    Does .errNoticeRead s (((s.dev.setReg .ERR_NOTICE_TIME_LO 0 0 (s.dev.err.notice.time.setWidth 32)).setReg
      .ERR_NOTICE_TIME_HI 0 0 ((s.dev.err.notice.time >>> 32).setWidth 32)).setReg .ERR_NOTICE_DETAIL 0 0
          s.dev.err.notice.detail))
end

