-- ==== Sys2Proof/Laws/Map.lean ====
section
/-! SUPPORT. What reads and writes of sparse tables do: a read after a write of the same key gives the value
written, a write leaves every other key alone, and writes keep the canonical form. -/

namespace Sys2Proof.Machine

variable {α : Type}

theorem Map.get_insert_same (dflt : Nat → α) (m : Map α) (k : Nat) (v : α) : Map.get dflt (m.insert k v) k = v := by
  induction m with
  | nil => simp [Map.insert, Map.get]
  | cons e m ih =>
    obtain ⟨k', v'⟩ := e
    unfold Map.insert
    split
    · simp [Map.get]
    · split
      · simp [Map.get]
      · rename_i h1 h2
        simp [Map.get, ih, Ne.symm h2]

theorem Map.get_insert_ne (dflt : Nat → α) (m : Map α) {k k' : Nat} (v : α) (h : k ≠ k') :
    Map.get dflt (m.insert k v) k' = Map.get dflt m k' := by
  induction m with
  | nil => simp [Map.insert, Map.get, h]
  | cons e m ih =>
    obtain ⟨a, w⟩ := e
    unfold Map.insert
    split
    · simp [Map.get, h]
    · split
      · rename_i h2; subst h2; simp [Map.get, h]
      · simp [Map.get, ih]

theorem Map.get_erase_same (dflt : Nat → α) (m : Map α) (k : Nat) : Map.get dflt (m.erase k) k = dflt k := by
  induction m with
  | nil => rfl
  | cons e m ih =>
    obtain ⟨a, w⟩ := e
    by_cases h : a = k
    · subst h; simpa [Map.erase] using ih
    · have : Map.erase ((a, w) :: m) k = (a, w) :: Map.erase m k := by simp [Map.erase, h]
      rw [this]; simp [Map.get, h, ih]

theorem Map.get_erase_ne (dflt : Nat → α) (m : Map α) {k k' : Nat} (h : k ≠ k') :
    Map.get dflt (m.erase k) k' = Map.get dflt m k' := by
  induction m with
  | nil => rfl
  | cons e m ih =>
    obtain ⟨a, w⟩ := e
    by_cases ha : a = k
    · subst ha
      have : Map.erase ((a, w) :: m) a = Map.erase m a := by simp [Map.erase]
      rw [this, ih]; simp [Map.get, h]
    · have : Map.erase ((a, w) :: m) k = (a, w) :: Map.erase m k := by simp [Map.erase, ha]
      rw [this]; simp [Map.get, ih]

/-- A read after a write of the same key gives the value written. -/
@[simp] theorem Map.get_put_same [DecidableEq α] (dflt : Nat → α) (m : Map α) (k : Nat) (v : α) :
    Map.get dflt (Map.put dflt m k v) k = v := by
  unfold Map.put
  split
  · rename_i h; rw [Map.get_erase_same, h]
  · rw [Map.get_insert_same]

/-- A write leaves every other key alone. -/
theorem Map.get_put_ne [DecidableEq α] (dflt dflt' : Nat → α) (m : Map α) {k k' : Nat} (v : α) (h : k ≠ k') :
    Map.get dflt' (Map.put dflt m k v) k' = Map.get dflt' m k' := by
  unfold Map.put
  split
  · rw [Map.get_erase_ne _ _ h]
  · rw [Map.get_insert_ne _ _ _ h]

theorem Map.mem_insert {m : Map α} {k : Nat} {v : α} {e : Nat × α} (h : e ∈ m.insert k v) : e = (k, v) ∨ e ∈ m := by
  induction m with
  | nil => simp [Map.insert] at h; exact .inl h
  | cons x m ih =>
    obtain ⟨a, w⟩ := x
    unfold Map.insert at h
    split at h
    · rcases List.mem_cons.1 h with h | h
      · exact .inl h
      · exact .inr h
    · split at h
      · rcases List.mem_cons.1 h with h | h
        · exact .inl h
        · exact .inr (List.mem_cons_of_mem _ h)
      · rcases List.mem_cons.1 h with h | h
        · exact .inr (by simp [h])
        · rcases ih h with h | h
          · exact .inl h
          · exact .inr (List.mem_cons_of_mem _ h)

/-- A value that every entry has, and the one written has, every entry has afterwards. -/
theorem Map.forall_put [DecidableEq α] {dflt : Nat → α} {m : Map α} {k : Nat} {v : α} {P : Nat × α → Prop}
    (hm : ∀ e ∈ m, P e) (hv : P (k, v)) : ∀ e ∈ Map.put dflt m k v, P e := by
  intro e he
  unfold Map.put at he
  split at he
  · exact hm e (List.mem_of_mem_filter he)
  · rcases Map.mem_insert he with rfl | h
    · exact hv
    · exact hm e h

/-- A read finds a value with a property that every entry and the default have. -/
theorem Map.get_of_forall {dflt : Nat → α} {m : Map α} {P : α → Prop} (hm : ∀ e ∈ m, P e.2) (k : Nat)
    (hd : P (dflt k)) : P (Map.get dflt m k) := by
  induction m with
  | nil => exact hd
  | cons e m ih =>
    obtain ⟨a, w⟩ := e
    unfold Map.get
    split
    · exact hm (a, w) (by simp)
    · exact ih (fun e he => hm e (List.mem_cons_of_mem _ he))

/-- Keys rise strictly. -/
theorem Map.keys_insert {m : Map α} (h : (m.map Prod.fst).Pairwise (· < ·)) (k : Nat) (v : α) :
    ((m.insert k v).map Prod.fst).Pairwise (· < ·) := by
  induction m with
  | nil => simp [Map.insert]
  | cons x m ih =>
    obtain ⟨a, w⟩ := x
    simp only [List.map_cons, List.pairwise_cons] at h
    unfold Map.insert
    split
    · rename_i hlt
      simp only [List.map_cons, List.pairwise_cons]
      refine ⟨?_, h⟩
      intro b hb
      rcases List.mem_cons.1 hb with rfl | hb
      · exact hlt
      · exact Nat.lt_trans hlt (h.1 b hb)
    · split
      · rename_i _ he; subst he; simpa [List.pairwise_cons] using h
      · rename_i h1 h2
        simp only [List.map_cons, List.pairwise_cons]
        refine ⟨?_, ih h.2⟩
        intro b hb
        obtain ⟨e, he, rfl⟩ := List.mem_map.1 hb
        rcases Map.mem_insert he with rfl | he
        · simp only; omega
        · exact h.1 _ (List.mem_map_of_mem he)

theorem Map.keys_erase {m : Map α} (h : (m.map Prod.fst).Pairwise (· < ·)) (k : Nat) :
    ((m.erase k).map Prod.fst).Pairwise (· < ·) := by
  exact h.sublist (List.Sublist.map _ List.filter_sublist)

/-- A write keeps the canonical form. -/
theorem Map.wf_put [DecidableEq α] {dflt : Nat → α} {m : Map α} (h : Map.wf dflt m = true) (k : Nat) (v : α) :
    Map.wf dflt (Map.put dflt m k v) = true := by
  simp only [Map.wf, Bool.and_eq_true, decide_eq_true_eq, List.all_eq_true, bne_iff_ne] at h ⊢
  refine ⟨?_, ?_⟩
  · unfold Map.put
    split
    · exact Map.keys_erase h.1 k
    · exact Map.keys_insert h.1 k v
  · intro e he
    by_cases hv : v = dflt k
    · unfold Map.put at he
      rw [if_pos hv] at he
      exact h.2 e (List.mem_of_mem_filter he)
    · exact Map.forall_put (P := fun e => e.2 ≠ dflt e.1) h.2 hv e he

end Sys2Proof.Machine
end

