-- ==== Sys2Proof/Laws/Fields.lean ====
section
/-! SUPPORT. Registers and fields: what a read gives after a write, and what a write of a register leaves alone. -/

namespace Sys2Proof.Machine

/-! ### Bits of a word -/

theorem getLsbD_putBits (w : Word) (lo width v i : Nat) :
    (putBits w lo width v).getLsbD i =
      (decide (i < 32) && if lo ≤ i ∧ i < lo + width then v.testBit (i - lo) else w.getLsbD i) := by
  simp only [putBits, BitVec.getLsbD_or, BitVec.getLsbD_and, BitVec.getLsbD_not, BitVec.getLsbD_ofNat,
    Nat.testBit_shiftLeft, Nat.testBit_two_pow_sub_one]
  by_cases h32 : i < 32 <;> by_cases h1 : lo ≤ i <;> by_cases h2 : i < lo + width
  · have : i - lo < width := by omega
    simp [h32, h1, h2, this]
  · have : ¬ i - lo < width := by omega
    simp [h32, h1, h2, this]
  · simp [h32, h1]
  · simp [h32, h1]
  all_goals simp [h32, BitVec.getLsbD_of_ge _ _ (Nat.not_lt.1 h32)]

theorem testBit_bits (w : Word) (lo width i : Nat) :
    (bits w lo width).testBit i = (decide (i < width) && w.getLsbD (lo + i)) := by
  simp [bits, Nat.testBit_mod_two_pow, Nat.testBit_shiftRight, BitVec.testBit_toNat]

/-- A field reads as written. -/
theorem bits_putBits_same (w : Word) (lo width v : Nat) (h : lo + width ≤ 32) :
    bits (putBits w lo width v) lo width = v % 2 ^ width := by
  apply Nat.eq_of_testBit_eq
  intro i
  rw [testBit_bits, getLsbD_putBits, Nat.testBit_mod_two_pow]
  by_cases hi : i < width
  · have h1 : lo + i < 32 := by omega
    have h2 : lo + i < lo + width := by omega
    simp [hi, h1]
  · simp [hi]

/-- Bits outside a field keep their values. -/
theorem bits_putBits_of_disjoint (w : Word) (lo width v lo' width' : Nat)
    (h : lo + width ≤ lo' ∨ lo' + width' ≤ lo) :
    bits (putBits w lo width v) lo' width' = bits w lo' width' := by
  apply Nat.eq_of_testBit_eq
  intro i
  rw [testBit_bits, testBit_bits, getLsbD_putBits]
  by_cases hi : i < width'
  · have h1 : ¬ (lo ≤ lo' + i ∧ lo' + i < lo + width) := by omega
    by_cases h32 : lo' + i < 32
    · simp [hi, h1, h32]
    · simp [hi, h32, BitVec.getLsbD_of_ge _ _ (Nat.not_lt.1 h32)]
  · simp [hi]

theorem bits_lt (w : Word) (lo width : Nat) : bits w lo width < 2 ^ width := Nat.mod_lt _ (Nat.two_pow_pos _)

theorem getLsbD_eq_bits (w : Word) (i : Nat) : w.getLsbD i = (bits w i 1 == 1) := by
  have h : bits w i 1 = 0 ∨ bits w i 1 = 1 := by have := bits_lt w i 1; omega
  have := testBit_bits w i 1 0
  rcases h with h | h <;> rw [h] at this <;> simp_all

/-! ### Keys -/

/-- Registers of different kinds, or with different indices, stand under different keys. -/
theorem RK.ctorIdx_inj {k k' : RK} (h : k.ctorIdx = k'.ctorIdx) : k = k' := by
  simpa [RK.ofNat_ctorIdx] using congrArg RK.ofNat h

theorem RK.key_ne {k k' : RK} {i j i' j' : Nat} (h : k ≠ k' ∨ i ≠ i' ∨ j ≠ j') (hi : i < 65536) (hj : j < 256)
    (hi' : i' < 65536) (hj' : j' < 256) : k.key i j ≠ k'.key i' j' := by
  rcases h with h | h
  · have : k.ctorIdx ≠ k'.ctorIdx := fun he => h (RK.ctorIdx_inj he)
    unfold RK.key; omega
  · unfold RK.key; omega

/-! ### Registers -/

@[simp] theorem Dev.reg_setReg (d : Dev) (k : RK) (i j : Nat) (v : Word) : (d.setReg k i j v).reg k i j = v := by
  simp [Dev.reg, Dev.setReg]

theorem Dev.reg_setReg_of_key_ne (d : Dev) {k k' : RK} {i j i' j' : Nat} (v : Word) (h : k.key i j ≠ k'.key i' j') :
    (d.setReg k i j v).reg k' i' j' = d.reg k' i' j' := by
  simp only [Dev.reg, Dev.setReg]; exact Map.get_put_ne _ _ _ _ h

/-- A write of one kind of register leaves every other kind alone. -/
theorem Dev.reg_setReg_ne (d : Dev) {k k' : RK} {i j i' j' : Nat} (v : Word) (h : k ≠ k') (hi : i < 65536)
    (hj : j < 256) (hi' : i' < 65536) (hj' : j' < 256) : (d.setReg k i j v).reg k' i' j' = d.reg k' i' j' :=
  d.reg_setReg_of_key_ne v (RK.key_ne (.inl h) hi hj hi' hj')

/-- A write of one element of an array leaves the others alone. -/
theorem Dev.reg_setReg_idx (d : Dev) {k : RK} {i j i' j' : Nat} (v : Word) (h : i ≠ i' ∨ j ≠ j') (hi : i < 65536)
    (hj : j < 256) (hi' : i' < 65536) (hj' : j' < 256) : (d.setReg k i j v).reg k i' j' = d.reg k i' j' :=
  d.reg_setReg_of_key_ne v (RK.key_ne (.inr h) hi hj hi' hj')

/-! ### Fields -/

/-- A field reads as written. -/
theorem Dev.gf_sf (d : Dev) (f : Fld) (i j v : Nat) (h : f.lo + f.width ≤ 32) :
    (d.sf f i j v).gf f i j = v % 2 ^ f.width := by
  simp [Dev.gf, Dev.sf, bits_putBits_same _ _ _ _ h]

/-- A write of a field leaves the fields of other registers alone. -/
theorem Dev.gf_sf_reg (d : Dev) {f g : Fld} {i j i' j' : Nat} (v : Nat) (h : f.reg ≠ g.reg) (hi : i < 65536)
    (hj : j < 256) (hi' : i' < 65536) (hj' : j' < 256) : (d.sf f i j v).gf g i' j' = d.gf g i' j' := by
  simp [Dev.gf, Dev.sf, Dev.reg_setReg_ne d _ h hi hj hi' hj']

/-- A write of a field leaves the other fields of its register alone. -/
theorem Dev.gf_sf_bits (d : Dev) {f g : Fld} {i j : Nat} (v : Nat) (hr : f.reg = g.reg)
    (h : f.lo + f.width ≤ g.lo ∨ g.lo + g.width ≤ f.lo) : (d.sf f i j v).gf g i j = d.gf g i j := by
  simp [Dev.gf, Dev.sf, hr, bits_putBits_of_disjoint _ _ _ _ _ _ h]

/-- A write of a field of one element leaves the other elements of the array alone. -/
theorem Dev.gf_sf_idx (d : Dev) {f g : Fld} {i j i' j' : Nat} (v : Nat) (h : i ≠ i' ∨ j ≠ j') (hi : i < 65536)
    (hj : j < 256) (hi' : i' < 65536) (hj' : j' < 256) : (d.sf f i j v).gf g i' j' = d.gf g i' j' := by
  simp only [Dev.gf, Dev.sf]
  rw [d.reg_setReg_of_key_ne _ (RK.key_ne (.inr h) hi hj hi' hj')]

theorem Dev.reg_sf_ne (d : Dev) {f : Fld} {k : RK} {i j i' j' : Nat} (v : Nat) (h : f.reg ≠ k) (hi : i < 65536)
    (hj : j < 256) (hi' : i' < 65536) (hj' : j' < 256) : (d.sf f i j v).reg k i' j' = d.reg k i' j' :=
  d.reg_setReg_ne _ h hi hj hi' hj'

theorem Dev.reg_sf_idx (d : Dev) {f : Fld} {k : RK} {i j i' j' : Nat} (v : Nat) (h : i ≠ i' ∨ j ≠ j') (hi : i < 65536)
    (hj : j < 256) (hi' : i' < 65536) (hj' : j' < 256) : (d.sf f i j v).reg k i' j' = d.reg k i' j' :=
  d.reg_setReg_of_key_ne _ (RK.key_ne (.inr h) hi hj hi' hj')

theorem Dev.gf_setReg_ne (d : Dev) {k : RK} {g : Fld} {i j i' j' : Nat} (v : Word) (h : k ≠ g.reg) (hi : i < 65536)
    (hj : j < 256) (hi' : i' < 65536) (hj' : j' < 256) : (d.setReg k i j v).gf g i' j' = d.gf g i' j' := by
  simp [Dev.gf, Dev.reg_setReg_ne d v h hi hj hi' hj']

@[simp] theorem Dev.gf_setReg (d : Dev) (g : Fld) (i j : Nat) (v : Word) :
    (d.setReg g.reg i j v).gf g i j = bits v g.lo g.width := by
  simp [Dev.gf]

theorem Dev.gf_setReg_eq (d : Dev) {k : RK} (g : Fld) (i j : Nat) (v : Word) (h : k = g.reg) :
    (d.setReg k i j v).gf g i j = bits v g.lo g.width := by subst h; simp

theorem Dev.gf_lt (d : Dev) (f : Fld) (i j : Nat) : d.gf f i j < 2 ^ f.width := bits_lt _ _ _

/-- A saturating counter after `n` events (R12). -/
theorem Dev.gf_cnt (d : Dev) (f : Fld) (i j n : Nat) (h : f.lo + f.width ≤ 32) :
    (d.cnt f i j n).gf f i j = min (d.gf f i j + n) (2 ^ f.width - 1) := by
  have := Nat.two_pow_pos f.width
  rw [Dev.cnt, Dev.gf_sf _ _ _ _ _ h, Nat.mod_eq_of_lt (by omega)]

/-- A wrapping counter after `n` events (R12). -/
theorem Dev.gf_cntWrap (d : Dev) (f : Fld) (i j n : Nat) (h : f.lo + f.width ≤ 32) :
    (d.cntWrap f i j n).gf f i j = (d.gf f i j + n) % 2 ^ f.width := by
  rw [Dev.cntWrap, Dev.gf_sf _ _ _ _ _ h, Nat.mod_mod]

end Sys2Proof.Machine
end

