-- ==== Sys2Proof/Laws/State.lean ====
section
/-! SUPPORT. What each update of the state leaves alone, field by field, and what the error unit's work leaves
alone. -/

namespace Sys2Proof.Machine

/-! ### The state -/

@[simp] theorem State.dev_onDev (s : State) (f : Dev → Dev) : (s.onDev f).dev = f s.dev := rfl
@[simp] theorem State.nch_onDev (s : State) (f : Dev → Dev) : (s.onDev f).nch = s.nch := rfl
@[simp] theorem State.hb_onDev (s : State) (f : Dev → Dev) : (s.onDev f).hb = s.hb := rfl
@[simp] theorem State.pending_onDev (s : State) (f : Dev → Dev) : (s.onDev f).pending = s.pending := rfl

/-! ### Registers and fields -/

@[simp] theorem Dev.err_setReg (d : Dev) (k : RK) (i j : Nat) (v : Word) : (d.setReg k i j v).err = d.err := rfl
@[simp] theorem Dev.pin_setReg (d : Dev) (k : RK) (i j : Nat) (v : Word) : (d.setReg k i j v).pin = d.pin := rfl
@[simp] theorem Dev.sec_setReg (d : Dev) (k : RK) (i j : Nat) (v : Word) : (d.setReg k i j v).sec = d.sec := rfl
@[simp] theorem Dev.cfg_setReg (d : Dev) (k : RK) (i j : Nat) (v : Word) : (d.setReg k i j v).cfg = d.cfg := rfl
@[simp] theorem Dev.rooms_setReg (d : Dev) (k : RK) (i j : Nat) (v : Word) : (d.setReg k i j v).rooms = d.rooms := rfl
@[simp] theorem Dev.net_setReg (d : Dev) (k : RK) (i j : Nat) (v : Word) : (d.setReg k i j v).net = d.net := rfl
@[simp] theorem Dev.held_setReg (d : Dev) (k : RK) (i j : Nat) (v : Word) : (d.setReg k i j v).held = d.held := rfl
@[simp] theorem Dev.issued_setReg (d : Dev) (k : RK) (i j : Nat) (v : Word) : (d.setReg k i j v).issued = d.issued := rfl
@[simp] theorem Dev.netResp_setReg (d : Dev) (k : RK) (i j : Nat) (v : Word) : (d.setReg k i j v).netResp = d.netResp := rfl
@[simp] theorem Dev.lar_setReg (d : Dev) (k : RK) (i j : Nat) (v : Word) : (d.setReg k i j v).lar = d.lar := rfl
@[simp] theorem Dev.arbs_setReg (d : Dev) (k : RK) (i j : Nat) (v : Word) : (d.setReg k i j v).arbs = d.arbs := rfl
@[simp] theorem Dev.drams_setReg (d : Dev) (k : RK) (i j : Nat) (v : Word) : (d.setReg k i j v).drams = d.drams := rfl
@[simp] theorem Dev.ev_setReg (d : Dev) (k : RK) (i j : Nat) (v : Word) : (d.setReg k i j v).ev = d.ev := rfl
@[simp] theorem Dev.strings_setReg (d : Dev) (k : RK) (i j : Nat) (v : Word) : (d.setReg k i j v).strings = d.strings := rfl
@[simp] theorem Dev.gov_setReg (d : Dev) (k : RK) (i j : Nat) (v : Word) : (d.setReg k i j v).gov = d.gov := rfl
@[simp] theorem Dev.plls_setReg (d : Dev) (k : RK) (i j : Nat) (v : Word) : (d.setReg k i j v).plls = d.plls := rfl
@[simp] theorem Dev.hat_setReg (d : Dev) (k : RK) (i j : Nat) (v : Word) : (d.setReg k i j v).hat = d.hat := rfl
@[simp] theorem Dev.free_setReg (d : Dev) (k : RK) (i j : Nat) (v : Word) : (d.setReg k i j v).free = d.free := rfl
@[simp] theorem Dev.err_sf (d : Dev) (f : Fld) (i j v : Nat) : (d.sf f i j v).err = d.err := rfl
@[simp] theorem Dev.pin_sf (d : Dev) (f : Fld) (i j v : Nat) : (d.sf f i j v).pin = d.pin := rfl
@[simp] theorem Dev.sec_sf (d : Dev) (f : Fld) (i j v : Nat) : (d.sf f i j v).sec = d.sec := rfl
@[simp] theorem Dev.cfg_sf (d : Dev) (f : Fld) (i j v : Nat) : (d.sf f i j v).cfg = d.cfg := rfl
@[simp] theorem Dev.rooms_sf (d : Dev) (f : Fld) (i j v : Nat) : (d.sf f i j v).rooms = d.rooms := rfl
@[simp] theorem Dev.net_sf (d : Dev) (f : Fld) (i j v : Nat) : (d.sf f i j v).net = d.net := rfl
@[simp] theorem Dev.held_sf (d : Dev) (f : Fld) (i j v : Nat) : (d.sf f i j v).held = d.held := rfl
@[simp] theorem Dev.issued_sf (d : Dev) (f : Fld) (i j v : Nat) : (d.sf f i j v).issued = d.issued := rfl
@[simp] theorem Dev.netResp_sf (d : Dev) (f : Fld) (i j v : Nat) : (d.sf f i j v).netResp = d.netResp := rfl
@[simp] theorem Dev.lar_sf (d : Dev) (f : Fld) (i j v : Nat) : (d.sf f i j v).lar = d.lar := rfl
@[simp] theorem Dev.arbs_sf (d : Dev) (f : Fld) (i j v : Nat) : (d.sf f i j v).arbs = d.arbs := rfl
@[simp] theorem Dev.drams_sf (d : Dev) (f : Fld) (i j v : Nat) : (d.sf f i j v).drams = d.drams := rfl
@[simp] theorem Dev.ev_sf (d : Dev) (f : Fld) (i j v : Nat) : (d.sf f i j v).ev = d.ev := rfl
@[simp] theorem Dev.strings_sf (d : Dev) (f : Fld) (i j v : Nat) : (d.sf f i j v).strings = d.strings := rfl
@[simp] theorem Dev.gov_sf (d : Dev) (f : Fld) (i j v : Nat) : (d.sf f i j v).gov = d.gov := rfl
@[simp] theorem Dev.plls_sf (d : Dev) (f : Fld) (i j v : Nat) : (d.sf f i j v).plls = d.plls := rfl
@[simp] theorem Dev.hat_sf (d : Dev) (f : Fld) (i j v : Nat) : (d.sf f i j v).hat = d.hat := rfl
@[simp] theorem Dev.free_sf (d : Dev) (f : Fld) (i j v : Nat) : (d.sf f i j v).free = d.free := rfl
@[simp] theorem Dev.err_cnt (d : Dev) (f : Fld) (i j n : Nat) : (d.cnt f i j n).err = d.err := rfl
@[simp] theorem Dev.pin_cnt (d : Dev) (f : Fld) (i j n : Nat) : (d.cnt f i j n).pin = d.pin := rfl
@[simp] theorem Dev.sec_cnt (d : Dev) (f : Fld) (i j n : Nat) : (d.cnt f i j n).sec = d.sec := rfl
@[simp] theorem Dev.cfg_cnt (d : Dev) (f : Fld) (i j n : Nat) : (d.cnt f i j n).cfg = d.cfg := rfl
@[simp] theorem Dev.rooms_cnt (d : Dev) (f : Fld) (i j n : Nat) : (d.cnt f i j n).rooms = d.rooms := rfl
@[simp] theorem Dev.net_cnt (d : Dev) (f : Fld) (i j n : Nat) : (d.cnt f i j n).net = d.net := rfl
@[simp] theorem Dev.held_cnt (d : Dev) (f : Fld) (i j n : Nat) : (d.cnt f i j n).held = d.held := rfl
@[simp] theorem Dev.issued_cnt (d : Dev) (f : Fld) (i j n : Nat) : (d.cnt f i j n).issued = d.issued := rfl
@[simp] theorem Dev.netResp_cnt (d : Dev) (f : Fld) (i j n : Nat) : (d.cnt f i j n).netResp = d.netResp := rfl
@[simp] theorem Dev.lar_cnt (d : Dev) (f : Fld) (i j n : Nat) : (d.cnt f i j n).lar = d.lar := rfl
@[simp] theorem Dev.arbs_cnt (d : Dev) (f : Fld) (i j n : Nat) : (d.cnt f i j n).arbs = d.arbs := rfl
@[simp] theorem Dev.drams_cnt (d : Dev) (f : Fld) (i j n : Nat) : (d.cnt f i j n).drams = d.drams := rfl
@[simp] theorem Dev.ev_cnt (d : Dev) (f : Fld) (i j n : Nat) : (d.cnt f i j n).ev = d.ev := rfl
@[simp] theorem Dev.strings_cnt (d : Dev) (f : Fld) (i j n : Nat) : (d.cnt f i j n).strings = d.strings := rfl
@[simp] theorem Dev.gov_cnt (d : Dev) (f : Fld) (i j n : Nat) : (d.cnt f i j n).gov = d.gov := rfl
@[simp] theorem Dev.plls_cnt (d : Dev) (f : Fld) (i j n : Nat) : (d.cnt f i j n).plls = d.plls := rfl
@[simp] theorem Dev.hat_cnt (d : Dev) (f : Fld) (i j n : Nat) : (d.cnt f i j n).hat = d.hat := rfl
@[simp] theorem Dev.free_cnt (d : Dev) (f : Fld) (i j n : Nat) : (d.cnt f i j n).free = d.free := rfl
@[simp] theorem Dev.err_cntWrap (d : Dev) (f : Fld) (i j n : Nat) : (d.cntWrap f i j n).err = d.err := rfl
@[simp] theorem Dev.pin_cntWrap (d : Dev) (f : Fld) (i j n : Nat) : (d.cntWrap f i j n).pin = d.pin := rfl
@[simp] theorem Dev.sec_cntWrap (d : Dev) (f : Fld) (i j n : Nat) : (d.cntWrap f i j n).sec = d.sec := rfl
@[simp] theorem Dev.cfg_cntWrap (d : Dev) (f : Fld) (i j n : Nat) : (d.cntWrap f i j n).cfg = d.cfg := rfl
@[simp] theorem Dev.rooms_cntWrap (d : Dev) (f : Fld) (i j n : Nat) : (d.cntWrap f i j n).rooms = d.rooms := rfl
@[simp] theorem Dev.net_cntWrap (d : Dev) (f : Fld) (i j n : Nat) : (d.cntWrap f i j n).net = d.net := rfl
@[simp] theorem Dev.held_cntWrap (d : Dev) (f : Fld) (i j n : Nat) : (d.cntWrap f i j n).held = d.held := rfl
@[simp] theorem Dev.issued_cntWrap (d : Dev) (f : Fld) (i j n : Nat) : (d.cntWrap f i j n).issued = d.issued := rfl
@[simp] theorem Dev.netResp_cntWrap (d : Dev) (f : Fld) (i j n : Nat) : (d.cntWrap f i j n).netResp = d.netResp := rfl
@[simp] theorem Dev.lar_cntWrap (d : Dev) (f : Fld) (i j n : Nat) : (d.cntWrap f i j n).lar = d.lar := rfl
@[simp] theorem Dev.arbs_cntWrap (d : Dev) (f : Fld) (i j n : Nat) : (d.cntWrap f i j n).arbs = d.arbs := rfl
@[simp] theorem Dev.drams_cntWrap (d : Dev) (f : Fld) (i j n : Nat) : (d.cntWrap f i j n).drams = d.drams := rfl
@[simp] theorem Dev.ev_cntWrap (d : Dev) (f : Fld) (i j n : Nat) : (d.cntWrap f i j n).ev = d.ev := rfl
@[simp] theorem Dev.strings_cntWrap (d : Dev) (f : Fld) (i j n : Nat) : (d.cntWrap f i j n).strings = d.strings := rfl
@[simp] theorem Dev.gov_cntWrap (d : Dev) (f : Fld) (i j n : Nat) : (d.cntWrap f i j n).gov = d.gov := rfl
@[simp] theorem Dev.plls_cntWrap (d : Dev) (f : Fld) (i j n : Nat) : (d.cntWrap f i j n).plls = d.plls := rfl
@[simp] theorem Dev.hat_cntWrap (d : Dev) (f : Fld) (i j n : Nat) : (d.cntWrap f i j n).hat = d.hat := rfl
@[simp] theorem Dev.free_cntWrap (d : Dev) (f : Fld) (i j n : Nat) : (d.cntWrap f i j n).free = d.free := rfl

/-! ### Units -/

@[simp] theorem Dev.regs_onRoom (d : Dev) (n : Nat) (f : Room → Room) : (d.onRoom n f).regs = d.regs := rfl
@[simp] theorem Dev.err_onRoom (d : Dev) (n : Nat) (f : Room → Room) : (d.onRoom n f).err = d.err := rfl
@[simp] theorem Dev.pin_onRoom (d : Dev) (n : Nat) (f : Room → Room) : (d.onRoom n f).pin = d.pin := rfl
@[simp] theorem Dev.sec_onRoom (d : Dev) (n : Nat) (f : Room → Room) : (d.onRoom n f).sec = d.sec := rfl
@[simp] theorem Dev.cfg_onRoom (d : Dev) (n : Nat) (f : Room → Room) : (d.onRoom n f).cfg = d.cfg := rfl
@[simp] theorem Dev.net_onRoom (d : Dev) (n : Nat) (f : Room → Room) : (d.onRoom n f).net = d.net := rfl
@[simp] theorem Dev.held_onRoom (d : Dev) (n : Nat) (f : Room → Room) : (d.onRoom n f).held = d.held := rfl
@[simp] theorem Dev.issued_onRoom (d : Dev) (n : Nat) (f : Room → Room) : (d.onRoom n f).issued = d.issued := rfl
@[simp] theorem Dev.netResp_onRoom (d : Dev) (n : Nat) (f : Room → Room) : (d.onRoom n f).netResp = d.netResp := rfl
@[simp] theorem Dev.lar_onRoom (d : Dev) (n : Nat) (f : Room → Room) : (d.onRoom n f).lar = d.lar := rfl
@[simp] theorem Dev.arbs_onRoom (d : Dev) (n : Nat) (f : Room → Room) : (d.onRoom n f).arbs = d.arbs := rfl
@[simp] theorem Dev.drams_onRoom (d : Dev) (n : Nat) (f : Room → Room) : (d.onRoom n f).drams = d.drams := rfl
@[simp] theorem Dev.ev_onRoom (d : Dev) (n : Nat) (f : Room → Room) : (d.onRoom n f).ev = d.ev := rfl
@[simp] theorem Dev.strings_onRoom (d : Dev) (n : Nat) (f : Room → Room) : (d.onRoom n f).strings = d.strings := rfl
@[simp] theorem Dev.gov_onRoom (d : Dev) (n : Nat) (f : Room → Room) : (d.onRoom n f).gov = d.gov := rfl
@[simp] theorem Dev.plls_onRoom (d : Dev) (n : Nat) (f : Room → Room) : (d.onRoom n f).plls = d.plls := rfl
@[simp] theorem Dev.hat_onRoom (d : Dev) (n : Nat) (f : Room → Room) : (d.onRoom n f).hat = d.hat := rfl
@[simp] theorem Dev.free_onRoom (d : Dev) (n : Nat) (f : Room → Room) : (d.onRoom n f).free = d.free := rfl
@[simp] theorem Dev.reg_onRoom (d : Dev) (n : Nat) (f : Room → Room) (k : RK) (i j : Nat) : (d.onRoom n f).reg k i j = d.reg k i j := rfl
@[simp] theorem Dev.gf_onRoom (d : Dev) (n : Nat) (f : Room → Room) (g : Fld) (i j : Nat) : (d.onRoom n f).gf g i j = d.gf g i j := rfl
@[simp] theorem Dev.gb_onRoom (d : Dev) (n : Nat) (f : Room → Room) (g : Fld) (i j : Nat) : (d.onRoom n f).gb g i j = d.gb g i j := rfl
@[simp] theorem Dev.regs_onArb (d : Dev) (n : Nat) (f : Arbiter → Arbiter) : (d.onArb n f).regs = d.regs := rfl
@[simp] theorem Dev.err_onArb (d : Dev) (n : Nat) (f : Arbiter → Arbiter) : (d.onArb n f).err = d.err := rfl
@[simp] theorem Dev.pin_onArb (d : Dev) (n : Nat) (f : Arbiter → Arbiter) : (d.onArb n f).pin = d.pin := rfl
@[simp] theorem Dev.sec_onArb (d : Dev) (n : Nat) (f : Arbiter → Arbiter) : (d.onArb n f).sec = d.sec := rfl
@[simp] theorem Dev.cfg_onArb (d : Dev) (n : Nat) (f : Arbiter → Arbiter) : (d.onArb n f).cfg = d.cfg := rfl
@[simp] theorem Dev.rooms_onArb (d : Dev) (n : Nat) (f : Arbiter → Arbiter) : (d.onArb n f).rooms = d.rooms := rfl
@[simp] theorem Dev.net_onArb (d : Dev) (n : Nat) (f : Arbiter → Arbiter) : (d.onArb n f).net = d.net := rfl
@[simp] theorem Dev.held_onArb (d : Dev) (n : Nat) (f : Arbiter → Arbiter) : (d.onArb n f).held = d.held := rfl
@[simp] theorem Dev.issued_onArb (d : Dev) (n : Nat) (f : Arbiter → Arbiter) : (d.onArb n f).issued = d.issued := rfl
@[simp] theorem Dev.netResp_onArb (d : Dev) (n : Nat) (f : Arbiter → Arbiter) : (d.onArb n f).netResp = d.netResp := rfl
@[simp] theorem Dev.lar_onArb (d : Dev) (n : Nat) (f : Arbiter → Arbiter) : (d.onArb n f).lar = d.lar := rfl
@[simp] theorem Dev.drams_onArb (d : Dev) (n : Nat) (f : Arbiter → Arbiter) : (d.onArb n f).drams = d.drams := rfl
@[simp] theorem Dev.ev_onArb (d : Dev) (n : Nat) (f : Arbiter → Arbiter) : (d.onArb n f).ev = d.ev := rfl
@[simp] theorem Dev.strings_onArb (d : Dev) (n : Nat) (f : Arbiter → Arbiter) : (d.onArb n f).strings = d.strings := rfl
@[simp] theorem Dev.gov_onArb (d : Dev) (n : Nat) (f : Arbiter → Arbiter) : (d.onArb n f).gov = d.gov := rfl
@[simp] theorem Dev.plls_onArb (d : Dev) (n : Nat) (f : Arbiter → Arbiter) : (d.onArb n f).plls = d.plls := rfl
@[simp] theorem Dev.hat_onArb (d : Dev) (n : Nat) (f : Arbiter → Arbiter) : (d.onArb n f).hat = d.hat := rfl
@[simp] theorem Dev.free_onArb (d : Dev) (n : Nat) (f : Arbiter → Arbiter) : (d.onArb n f).free = d.free := rfl
@[simp] theorem Dev.reg_onArb (d : Dev) (n : Nat) (f : Arbiter → Arbiter) (k : RK) (i j : Nat) : (d.onArb n f).reg k i j = d.reg k i j := rfl
@[simp] theorem Dev.gf_onArb (d : Dev) (n : Nat) (f : Arbiter → Arbiter) (g : Fld) (i j : Nat) : (d.onArb n f).gf g i j = d.gf g i j := rfl
@[simp] theorem Dev.gb_onArb (d : Dev) (n : Nat) (f : Arbiter → Arbiter) (g : Fld) (i j : Nat) : (d.onArb n f).gb g i j = d.gb g i j := rfl
@[simp] theorem Dev.regs_onDram (d : Dev) (n : Nat) (f : Dram → Dram) : (d.onDram n f).regs = d.regs := rfl
@[simp] theorem Dev.err_onDram (d : Dev) (n : Nat) (f : Dram → Dram) : (d.onDram n f).err = d.err := rfl
@[simp] theorem Dev.pin_onDram (d : Dev) (n : Nat) (f : Dram → Dram) : (d.onDram n f).pin = d.pin := rfl
@[simp] theorem Dev.sec_onDram (d : Dev) (n : Nat) (f : Dram → Dram) : (d.onDram n f).sec = d.sec := rfl
@[simp] theorem Dev.cfg_onDram (d : Dev) (n : Nat) (f : Dram → Dram) : (d.onDram n f).cfg = d.cfg := rfl
@[simp] theorem Dev.rooms_onDram (d : Dev) (n : Nat) (f : Dram → Dram) : (d.onDram n f).rooms = d.rooms := rfl
@[simp] theorem Dev.net_onDram (d : Dev) (n : Nat) (f : Dram → Dram) : (d.onDram n f).net = d.net := rfl
@[simp] theorem Dev.held_onDram (d : Dev) (n : Nat) (f : Dram → Dram) : (d.onDram n f).held = d.held := rfl
@[simp] theorem Dev.issued_onDram (d : Dev) (n : Nat) (f : Dram → Dram) : (d.onDram n f).issued = d.issued := rfl
@[simp] theorem Dev.netResp_onDram (d : Dev) (n : Nat) (f : Dram → Dram) : (d.onDram n f).netResp = d.netResp := rfl
@[simp] theorem Dev.lar_onDram (d : Dev) (n : Nat) (f : Dram → Dram) : (d.onDram n f).lar = d.lar := rfl
@[simp] theorem Dev.arbs_onDram (d : Dev) (n : Nat) (f : Dram → Dram) : (d.onDram n f).arbs = d.arbs := rfl
@[simp] theorem Dev.ev_onDram (d : Dev) (n : Nat) (f : Dram → Dram) : (d.onDram n f).ev = d.ev := rfl
@[simp] theorem Dev.strings_onDram (d : Dev) (n : Nat) (f : Dram → Dram) : (d.onDram n f).strings = d.strings := rfl
@[simp] theorem Dev.gov_onDram (d : Dev) (n : Nat) (f : Dram → Dram) : (d.onDram n f).gov = d.gov := rfl
@[simp] theorem Dev.plls_onDram (d : Dev) (n : Nat) (f : Dram → Dram) : (d.onDram n f).plls = d.plls := rfl
@[simp] theorem Dev.hat_onDram (d : Dev) (n : Nat) (f : Dram → Dram) : (d.onDram n f).hat = d.hat := rfl
@[simp] theorem Dev.free_onDram (d : Dev) (n : Nat) (f : Dram → Dram) : (d.onDram n f).free = d.free := rfl
@[simp] theorem Dev.reg_onDram (d : Dev) (n : Nat) (f : Dram → Dram) (k : RK) (i j : Nat) : (d.onDram n f).reg k i j = d.reg k i j := rfl
@[simp] theorem Dev.gf_onDram (d : Dev) (n : Nat) (f : Dram → Dram) (g : Fld) (i j : Nat) : (d.onDram n f).gf g i j = d.gf g i j := rfl
@[simp] theorem Dev.gb_onDram (d : Dev) (n : Nat) (f : Dram → Dram) (g : Fld) (i j : Nat) : (d.onDram n f).gb g i j = d.gb g i j := rfl
@[simp] theorem Dev.regs_onStr (d : Dev) (n : Nat) (f : StringS → StringS) : (d.onStr n f).regs = d.regs := rfl
@[simp] theorem Dev.err_onStr (d : Dev) (n : Nat) (f : StringS → StringS) : (d.onStr n f).err = d.err := rfl
@[simp] theorem Dev.pin_onStr (d : Dev) (n : Nat) (f : StringS → StringS) : (d.onStr n f).pin = d.pin := rfl
@[simp] theorem Dev.sec_onStr (d : Dev) (n : Nat) (f : StringS → StringS) : (d.onStr n f).sec = d.sec := rfl
@[simp] theorem Dev.cfg_onStr (d : Dev) (n : Nat) (f : StringS → StringS) : (d.onStr n f).cfg = d.cfg := rfl
@[simp] theorem Dev.rooms_onStr (d : Dev) (n : Nat) (f : StringS → StringS) : (d.onStr n f).rooms = d.rooms := rfl
@[simp] theorem Dev.net_onStr (d : Dev) (n : Nat) (f : StringS → StringS) : (d.onStr n f).net = d.net := rfl
@[simp] theorem Dev.held_onStr (d : Dev) (n : Nat) (f : StringS → StringS) : (d.onStr n f).held = d.held := rfl
@[simp] theorem Dev.issued_onStr (d : Dev) (n : Nat) (f : StringS → StringS) : (d.onStr n f).issued = d.issued := rfl
@[simp] theorem Dev.netResp_onStr (d : Dev) (n : Nat) (f : StringS → StringS) : (d.onStr n f).netResp = d.netResp := rfl
@[simp] theorem Dev.lar_onStr (d : Dev) (n : Nat) (f : StringS → StringS) : (d.onStr n f).lar = d.lar := rfl
@[simp] theorem Dev.arbs_onStr (d : Dev) (n : Nat) (f : StringS → StringS) : (d.onStr n f).arbs = d.arbs := rfl
@[simp] theorem Dev.drams_onStr (d : Dev) (n : Nat) (f : StringS → StringS) : (d.onStr n f).drams = d.drams := rfl
@[simp] theorem Dev.ev_onStr (d : Dev) (n : Nat) (f : StringS → StringS) : (d.onStr n f).ev = d.ev := rfl
@[simp] theorem Dev.gov_onStr (d : Dev) (n : Nat) (f : StringS → StringS) : (d.onStr n f).gov = d.gov := rfl
@[simp] theorem Dev.plls_onStr (d : Dev) (n : Nat) (f : StringS → StringS) : (d.onStr n f).plls = d.plls := rfl
@[simp] theorem Dev.hat_onStr (d : Dev) (n : Nat) (f : StringS → StringS) : (d.onStr n f).hat = d.hat := rfl
@[simp] theorem Dev.free_onStr (d : Dev) (n : Nat) (f : StringS → StringS) : (d.onStr n f).free = d.free := rfl
@[simp] theorem Dev.reg_onStr (d : Dev) (n : Nat) (f : StringS → StringS) (k : RK) (i j : Nat) : (d.onStr n f).reg k i j = d.reg k i j := rfl
@[simp] theorem Dev.gf_onStr (d : Dev) (n : Nat) (f : StringS → StringS) (g : Fld) (i j : Nat) : (d.onStr n f).gf g i j = d.gf g i j := rfl
@[simp] theorem Dev.gb_onStr (d : Dev) (n : Nat) (f : StringS → StringS) (g : Fld) (i j : Nat) : (d.onStr n f).gb g i j = d.gb g i j := rfl
@[simp] theorem Dev.regs_onPll (d : Dev) (n : Nat) (f : Pll → Pll) : (d.onPll n f).regs = d.regs := rfl
@[simp] theorem Dev.err_onPll (d : Dev) (n : Nat) (f : Pll → Pll) : (d.onPll n f).err = d.err := rfl
@[simp] theorem Dev.pin_onPll (d : Dev) (n : Nat) (f : Pll → Pll) : (d.onPll n f).pin = d.pin := rfl
@[simp] theorem Dev.sec_onPll (d : Dev) (n : Nat) (f : Pll → Pll) : (d.onPll n f).sec = d.sec := rfl
@[simp] theorem Dev.cfg_onPll (d : Dev) (n : Nat) (f : Pll → Pll) : (d.onPll n f).cfg = d.cfg := rfl
@[simp] theorem Dev.rooms_onPll (d : Dev) (n : Nat) (f : Pll → Pll) : (d.onPll n f).rooms = d.rooms := rfl
@[simp] theorem Dev.net_onPll (d : Dev) (n : Nat) (f : Pll → Pll) : (d.onPll n f).net = d.net := rfl
@[simp] theorem Dev.held_onPll (d : Dev) (n : Nat) (f : Pll → Pll) : (d.onPll n f).held = d.held := rfl
@[simp] theorem Dev.issued_onPll (d : Dev) (n : Nat) (f : Pll → Pll) : (d.onPll n f).issued = d.issued := rfl
@[simp] theorem Dev.netResp_onPll (d : Dev) (n : Nat) (f : Pll → Pll) : (d.onPll n f).netResp = d.netResp := rfl
@[simp] theorem Dev.lar_onPll (d : Dev) (n : Nat) (f : Pll → Pll) : (d.onPll n f).lar = d.lar := rfl
@[simp] theorem Dev.arbs_onPll (d : Dev) (n : Nat) (f : Pll → Pll) : (d.onPll n f).arbs = d.arbs := rfl
@[simp] theorem Dev.drams_onPll (d : Dev) (n : Nat) (f : Pll → Pll) : (d.onPll n f).drams = d.drams := rfl
@[simp] theorem Dev.ev_onPll (d : Dev) (n : Nat) (f : Pll → Pll) : (d.onPll n f).ev = d.ev := rfl
@[simp] theorem Dev.strings_onPll (d : Dev) (n : Nat) (f : Pll → Pll) : (d.onPll n f).strings = d.strings := rfl
@[simp] theorem Dev.gov_onPll (d : Dev) (n : Nat) (f : Pll → Pll) : (d.onPll n f).gov = d.gov := rfl
@[simp] theorem Dev.hat_onPll (d : Dev) (n : Nat) (f : Pll → Pll) : (d.onPll n f).hat = d.hat := rfl
@[simp] theorem Dev.free_onPll (d : Dev) (n : Nat) (f : Pll → Pll) : (d.onPll n f).free = d.free := rfl
@[simp] theorem Dev.reg_onPll (d : Dev) (n : Nat) (f : Pll → Pll) (k : RK) (i j : Nat) : (d.onPll n f).reg k i j = d.reg k i j := rfl
@[simp] theorem Dev.gf_onPll (d : Dev) (n : Nat) (f : Pll → Pll) (g : Fld) (i j : Nat) : (d.onPll n f).gf g i j = d.gf g i j := rfl
@[simp] theorem Dev.gb_onPll (d : Dev) (n : Nat) (f : Pll → Pll) (g : Fld) (i j : Nat) : (d.onPll n f).gb g i j = d.gb g i j := rfl
@[simp] theorem Dev.regs_onQueue (d : Dev) (n : Nat) (f : Queue → Queue) : (d.onQueue n f).regs = d.regs := rfl
@[simp] theorem Dev.err_onQueue (d : Dev) (n : Nat) (f : Queue → Queue) : (d.onQueue n f).err = d.err := rfl
@[simp] theorem Dev.pin_onQueue (d : Dev) (n : Nat) (f : Queue → Queue) : (d.onQueue n f).pin = d.pin := rfl
@[simp] theorem Dev.sec_onQueue (d : Dev) (n : Nat) (f : Queue → Queue) : (d.onQueue n f).sec = d.sec := rfl
@[simp] theorem Dev.cfg_onQueue (d : Dev) (n : Nat) (f : Queue → Queue) : (d.onQueue n f).cfg = d.cfg := rfl
@[simp] theorem Dev.rooms_onQueue (d : Dev) (n : Nat) (f : Queue → Queue) : (d.onQueue n f).rooms = d.rooms := rfl
@[simp] theorem Dev.net_onQueue (d : Dev) (n : Nat) (f : Queue → Queue) : (d.onQueue n f).net = d.net := rfl
@[simp] theorem Dev.held_onQueue (d : Dev) (n : Nat) (f : Queue → Queue) : (d.onQueue n f).held = d.held := rfl
@[simp] theorem Dev.issued_onQueue (d : Dev) (n : Nat) (f : Queue → Queue) : (d.onQueue n f).issued = d.issued := rfl
@[simp] theorem Dev.netResp_onQueue (d : Dev) (n : Nat) (f : Queue → Queue) : (d.onQueue n f).netResp = d.netResp := rfl
@[simp] theorem Dev.lar_onQueue (d : Dev) (n : Nat) (f : Queue → Queue) : (d.onQueue n f).lar = d.lar := rfl
@[simp] theorem Dev.arbs_onQueue (d : Dev) (n : Nat) (f : Queue → Queue) : (d.onQueue n f).arbs = d.arbs := rfl
@[simp] theorem Dev.drams_onQueue (d : Dev) (n : Nat) (f : Queue → Queue) : (d.onQueue n f).drams = d.drams := rfl
@[simp] theorem Dev.strings_onQueue (d : Dev) (n : Nat) (f : Queue → Queue) : (d.onQueue n f).strings = d.strings := rfl
@[simp] theorem Dev.gov_onQueue (d : Dev) (n : Nat) (f : Queue → Queue) : (d.onQueue n f).gov = d.gov := rfl
@[simp] theorem Dev.plls_onQueue (d : Dev) (n : Nat) (f : Queue → Queue) : (d.onQueue n f).plls = d.plls := rfl
@[simp] theorem Dev.hat_onQueue (d : Dev) (n : Nat) (f : Queue → Queue) : (d.onQueue n f).hat = d.hat := rfl
@[simp] theorem Dev.free_onQueue (d : Dev) (n : Nat) (f : Queue → Queue) : (d.onQueue n f).free = d.free := rfl
@[simp] theorem Dev.reg_onQueue (d : Dev) (n : Nat) (f : Queue → Queue) (k : RK) (i j : Nat) : (d.onQueue n f).reg k i j = d.reg k i j := rfl
@[simp] theorem Dev.gf_onQueue (d : Dev) (n : Nat) (f : Queue → Queue) (g : Fld) (i j : Nat) : (d.onQueue n f).gf g i j = d.gf g i j := rfl
@[simp] theorem Dev.gb_onQueue (d : Dev) (n : Nat) (f : Queue → Queue) (g : Fld) (i j : Nat) : (d.onQueue n f).gb g i j = d.gb g i j := rfl
@[simp] theorem Dev.regs_onFeed (d : Dev) (n : Nat) (f : Feed → Feed) : (d.onFeed n f).regs = d.regs := rfl
@[simp] theorem Dev.err_onFeed (d : Dev) (n : Nat) (f : Feed → Feed) : (d.onFeed n f).err = d.err := rfl
@[simp] theorem Dev.pin_onFeed (d : Dev) (n : Nat) (f : Feed → Feed) : (d.onFeed n f).pin = d.pin := rfl
@[simp] theorem Dev.sec_onFeed (d : Dev) (n : Nat) (f : Feed → Feed) : (d.onFeed n f).sec = d.sec := rfl
@[simp] theorem Dev.cfg_onFeed (d : Dev) (n : Nat) (f : Feed → Feed) : (d.onFeed n f).cfg = d.cfg := rfl
@[simp] theorem Dev.rooms_onFeed (d : Dev) (n : Nat) (f : Feed → Feed) : (d.onFeed n f).rooms = d.rooms := rfl
@[simp] theorem Dev.net_onFeed (d : Dev) (n : Nat) (f : Feed → Feed) : (d.onFeed n f).net = d.net := rfl
@[simp] theorem Dev.held_onFeed (d : Dev) (n : Nat) (f : Feed → Feed) : (d.onFeed n f).held = d.held := rfl
@[simp] theorem Dev.issued_onFeed (d : Dev) (n : Nat) (f : Feed → Feed) : (d.onFeed n f).issued = d.issued := rfl
@[simp] theorem Dev.netResp_onFeed (d : Dev) (n : Nat) (f : Feed → Feed) : (d.onFeed n f).netResp = d.netResp := rfl
@[simp] theorem Dev.lar_onFeed (d : Dev) (n : Nat) (f : Feed → Feed) : (d.onFeed n f).lar = d.lar := rfl
@[simp] theorem Dev.arbs_onFeed (d : Dev) (n : Nat) (f : Feed → Feed) : (d.onFeed n f).arbs = d.arbs := rfl
@[simp] theorem Dev.drams_onFeed (d : Dev) (n : Nat) (f : Feed → Feed) : (d.onFeed n f).drams = d.drams := rfl
@[simp] theorem Dev.strings_onFeed (d : Dev) (n : Nat) (f : Feed → Feed) : (d.onFeed n f).strings = d.strings := rfl
@[simp] theorem Dev.gov_onFeed (d : Dev) (n : Nat) (f : Feed → Feed) : (d.onFeed n f).gov = d.gov := rfl
@[simp] theorem Dev.plls_onFeed (d : Dev) (n : Nat) (f : Feed → Feed) : (d.onFeed n f).plls = d.plls := rfl
@[simp] theorem Dev.hat_onFeed (d : Dev) (n : Nat) (f : Feed → Feed) : (d.onFeed n f).hat = d.hat := rfl
@[simp] theorem Dev.free_onFeed (d : Dev) (n : Nat) (f : Feed → Feed) : (d.onFeed n f).free = d.free := rfl
@[simp] theorem Dev.reg_onFeed (d : Dev) (n : Nat) (f : Feed → Feed) (k : RK) (i j : Nat) : (d.onFeed n f).reg k i j = d.reg k i j := rfl
@[simp] theorem Dev.gf_onFeed (d : Dev) (n : Nat) (f : Feed → Feed) (g : Fld) (i j : Nat) : (d.onFeed n f).gf g i j = d.gf g i j := rfl
@[simp] theorem Dev.gb_onFeed (d : Dev) (n : Nat) (f : Feed → Feed) (g : Fld) (i j : Nat) : (d.onFeed n f).gb g i j = d.gb g i j := rfl
@[simp] theorem Dev.room_onRoom (d : Dev) (n : Nat) f : (d.onRoom n f).room n = f (d.room n) := by simp [Dev.room, Dev.onRoom]
theorem Dev.room_onRoom_ne (d : Dev) {n m : Nat} f (h : n ≠ m) : (d.onRoom n f).room m = d.room m := by
  simpa [Dev.room, Dev.onRoom] using Map.get_put_ne _ _ _ _ h
@[simp] theorem Dev.room_setReg (d : Dev) (k : RK) (i j : Nat) (v : Word) (u : Nat) : (d.setReg k i j v).room u = d.room u := rfl
@[simp] theorem Dev.room_sf (d : Dev) (f : Fld) (i j v : Nat) (u : Nat) : (d.sf f i j v).room u = d.room u := rfl
@[simp] theorem Dev.room_cnt (d : Dev) (f : Fld) (i j n : Nat) (u : Nat) : (d.cnt f i j n).room u = d.room u := rfl
@[simp] theorem Dev.room_cntWrap (d : Dev) (f : Fld) (i j n : Nat) (u : Nat) : (d.cntWrap f i j n).room u = d.room u := rfl
@[simp] theorem Dev.arb_onArb (d : Dev) (n : Nat) f : (d.onArb n f).arb n = f (d.arb n) := by simp [Dev.arb, Dev.onArb]
theorem Dev.arb_onArb_ne (d : Dev) {n m : Nat} f (h : n ≠ m) : (d.onArb n f).arb m = d.arb m := by
  simpa [Dev.arb, Dev.onArb] using Map.get_put_ne _ _ _ _ h
@[simp] theorem Dev.arb_setReg (d : Dev) (k : RK) (i j : Nat) (v : Word) (u : Nat) : (d.setReg k i j v).arb u = d.arb u := rfl
@[simp] theorem Dev.arb_sf (d : Dev) (f : Fld) (i j v : Nat) (u : Nat) : (d.sf f i j v).arb u = d.arb u := rfl
@[simp] theorem Dev.arb_cnt (d : Dev) (f : Fld) (i j n : Nat) (u : Nat) : (d.cnt f i j n).arb u = d.arb u := rfl
@[simp] theorem Dev.arb_cntWrap (d : Dev) (f : Fld) (i j n : Nat) (u : Nat) : (d.cntWrap f i j n).arb u = d.arb u := rfl
@[simp] theorem Dev.dram_onDram (d : Dev) (n : Nat) f : (d.onDram n f).dram n = f (d.dram n) := by simp [Dev.dram, Dev.onDram]
theorem Dev.dram_onDram_ne (d : Dev) {n m : Nat} f (h : n ≠ m) : (d.onDram n f).dram m = d.dram m := by
  simpa [Dev.dram, Dev.onDram] using Map.get_put_ne _ _ _ _ h
@[simp] theorem Dev.dram_setReg (d : Dev) (k : RK) (i j : Nat) (v : Word) (u : Nat) : (d.setReg k i j v).dram u = d.dram u := rfl
@[simp] theorem Dev.dram_sf (d : Dev) (f : Fld) (i j v : Nat) (u : Nat) : (d.sf f i j v).dram u = d.dram u := rfl
@[simp] theorem Dev.dram_cnt (d : Dev) (f : Fld) (i j n : Nat) (u : Nat) : (d.cnt f i j n).dram u = d.dram u := rfl
@[simp] theorem Dev.dram_cntWrap (d : Dev) (f : Fld) (i j n : Nat) (u : Nat) : (d.cntWrap f i j n).dram u = d.dram u := rfl
@[simp] theorem Dev.str_onStr (d : Dev) (n : Nat) f : (d.onStr n f).str n = f (d.str n) := by simp [Dev.str, Dev.onStr]
theorem Dev.str_onStr_ne (d : Dev) {n m : Nat} f (h : n ≠ m) : (d.onStr n f).str m = d.str m := by
  simpa [Dev.str, Dev.onStr] using Map.get_put_ne _ _ _ _ h
@[simp] theorem Dev.str_setReg (d : Dev) (k : RK) (i j : Nat) (v : Word) (u : Nat) : (d.setReg k i j v).str u = d.str u := rfl
@[simp] theorem Dev.str_sf (d : Dev) (f : Fld) (i j v : Nat) (u : Nat) : (d.sf f i j v).str u = d.str u := rfl
@[simp] theorem Dev.str_cnt (d : Dev) (f : Fld) (i j n : Nat) (u : Nat) : (d.cnt f i j n).str u = d.str u := rfl
@[simp] theorem Dev.str_cntWrap (d : Dev) (f : Fld) (i j n : Nat) (u : Nat) : (d.cntWrap f i j n).str u = d.str u := rfl
@[simp] theorem Dev.pll_onPll (d : Dev) (n : Nat) f : (d.onPll n f).pll n = f (d.pll n) := by simp [Dev.pll, Dev.onPll]
theorem Dev.pll_onPll_ne (d : Dev) {n m : Nat} f (h : n ≠ m) : (d.onPll n f).pll m = d.pll m := by
  simpa [Dev.pll, Dev.onPll] using Map.get_put_ne _ _ _ _ h
@[simp] theorem Dev.pll_setReg (d : Dev) (k : RK) (i j : Nat) (v : Word) (u : Nat) : (d.setReg k i j v).pll u = d.pll u := rfl
@[simp] theorem Dev.pll_sf (d : Dev) (f : Fld) (i j v : Nat) (u : Nat) : (d.sf f i j v).pll u = d.pll u := rfl
@[simp] theorem Dev.pll_cnt (d : Dev) (f : Fld) (i j n : Nat) (u : Nat) : (d.cnt f i j n).pll u = d.pll u := rfl
@[simp] theorem Dev.pll_cntWrap (d : Dev) (f : Fld) (i j n : Nat) (u : Nat) : (d.cntWrap f i j n).pll u = d.pll u := rfl
@[simp] theorem Dev.queue_onQueue (d : Dev) (n : Nat) f : (d.onQueue n f).queue n = f (d.queue n) := by simp [Dev.queue, Dev.onQueue]
theorem Dev.queue_onQueue_ne (d : Dev) {n m : Nat} f (h : n ≠ m) : (d.onQueue n f).queue m = d.queue m := by
  simpa [Dev.queue, Dev.onQueue] using Map.get_put_ne _ _ _ _ h
@[simp] theorem Dev.queue_setReg (d : Dev) (k : RK) (i j : Nat) (v : Word) (u : Nat) : (d.setReg k i j v).queue u = d.queue u := rfl
@[simp] theorem Dev.queue_sf (d : Dev) (f : Fld) (i j v : Nat) (u : Nat) : (d.sf f i j v).queue u = d.queue u := rfl
@[simp] theorem Dev.queue_cnt (d : Dev) (f : Fld) (i j n : Nat) (u : Nat) : (d.cnt f i j n).queue u = d.queue u := rfl
@[simp] theorem Dev.queue_cntWrap (d : Dev) (f : Fld) (i j n : Nat) (u : Nat) : (d.cntWrap f i j n).queue u = d.queue u := rfl
@[simp] theorem Dev.feed_onFeed (d : Dev) (n : Nat) f : (d.onFeed n f).feed n = f (d.feed n) := by simp [Dev.feed, Dev.onFeed]
theorem Dev.feed_onFeed_ne (d : Dev) {n m : Nat} f (h : n ≠ m) : (d.onFeed n f).feed m = d.feed m := by
  simpa [Dev.feed, Dev.onFeed] using Map.get_put_ne _ _ _ _ h
@[simp] theorem Dev.feed_setReg (d : Dev) (k : RK) (i j : Nat) (v : Word) (u : Nat) : (d.setReg k i j v).feed u = d.feed u := rfl
@[simp] theorem Dev.feed_sf (d : Dev) (f : Fld) (i j v : Nat) (u : Nat) : (d.sf f i j v).feed u = d.feed u := rfl
@[simp] theorem Dev.feed_cnt (d : Dev) (f : Fld) (i j n : Nat) (u : Nat) : (d.cnt f i j n).feed u = d.feed u := rfl
@[simp] theorem Dev.feed_cntWrap (d : Dev) (f : Fld) (i j n : Nat) (u : Nat) : (d.cntWrap f i j n).feed u = d.feed u := rfl

/-! ### The error unit -/

/-- Registers of the error unit that records change. -/
def RK.isErr : RK → Bool
  | .ERR_STAT => true
  | .ERR_FIRST => true
  | .ERR_FIRST_TIME_LO => true
  | .ERR_FIRST_TIME_HI => true
  | .ERR_FIRST_DETAIL => true
  | .ERR_ALARM => true
  | .ERR_ALARM_TIME_LO => true
  | .ERR_ALARM_TIME_HI => true
  | .ERR_ALARM_DETAIL => true
  | .ERR_NOTICE => true
  | .ERR_CNT => true
  | _ => false

/-- Two devices agree on everything but the error unit. -/
def Dev.errOnly (d d' : Dev) : Prop :=
  (∀ (k : RK) (i j : Nat), k.isErr = false → i < 65536 → j < 256 → d'.reg k i j = d.reg k i j) ∧
  d' = { d with regs := d'.regs, err := d'.err }

theorem Dev.errOnly_refl (d : Dev) : d.errOnly d := ⟨fun _ _ _ _ _ _ => rfl, rfl⟩

theorem Dev.errOnly.trans {a b c : Dev} (h : a.errOnly b) (h' : b.errOnly c) : a.errOnly c :=
  ⟨fun k i j hk hi hj => (h'.1 k i j hk hi hj).trans (h.1 k i j hk hi hj), by rw [h'.2, h.2]⟩

theorem Dev.errOnly_setReg (d : Dev) (k : RK) (i j : Nat) (v : Word) (h : k.isErr = true) (hi : i < 65536) (hj : j < 256) :
    d.errOnly (d.setReg k i j v) :=
  ⟨fun k' i' j' hk hi' hj' => d.reg_setReg_ne v (fun he => by rw [he, hk] at h; exact absurd h (by decide)) hi hj hi' hj', rfl⟩

theorem Dev.errOnly_sf (d : Dev) (f : Fld) (i j v : Nat) (h : f.reg.isErr = true) (hi : i < 65536) (hj : j < 256) :
    d.errOnly (d.sf f i j v) := d.errOnly_setReg _ _ _ _ h hi hj

theorem Dev.errOnly_err (d : Dev) (e : ErrUnit) : d.errOnly { d with err := e } := ⟨fun _ _ _ _ _ _ => rfl, rfl⟩

theorem Dev.errOnly_putFirst (d : Dev) (r : ErrRec) : d.errOnly (d.putFirst r) := by
  unfold Dev.putFirst
  refine Dev.errOnly.trans ?_ (Dev.errOnly_sf _ _ _ _ _ (by rfl) (by decide) (by decide))
  refine Dev.errOnly.trans ?_ (Dev.errOnly_setReg _ _ _ _ _ (by rfl) (by decide) (by decide))
  refine Dev.errOnly.trans ?_ (Dev.errOnly_setReg _ _ _ _ _ (by rfl) (by decide) (by decide))
  refine Dev.errOnly.trans ?_ (Dev.errOnly_setReg _ _ _ _ _ (by rfl) (by decide) (by decide))
  exact Dev.errOnly_setReg _ _ _ _ _ (by rfl) (by decide) (by decide)

theorem Dev.errOnly_putAlarm (d : Dev) (r : ErrRec) : d.errOnly (d.putAlarm r) := by
  unfold Dev.putAlarm
  refine Dev.errOnly.trans ?_ (Dev.errOnly_setReg _ _ _ _ _ (by rfl) (by decide) (by decide))
  refine Dev.errOnly.trans ?_ (Dev.errOnly_setReg _ _ _ _ _ (by rfl) (by decide) (by decide))
  refine Dev.errOnly.trans ?_ (Dev.errOnly_setReg _ _ _ _ _ (by rfl) (by decide) (by decide))
  exact Dev.errOnly_setReg _ _ _ _ _ (by rfl) (by decide) (by decide)

theorem Dev.errOnly_enqueueErr (d : Dev) (r : ErrRec) : d.errOnly (d.enqueueErr r) := by
  unfold Dev.enqueueErr
  split
  · exact d.errOnly_putFirst r
  · split
    · exact (d.errOnly_err _).trans (Dev.errOnly_sf _ _ _ _ _ (by rfl) (by decide) (by decide))
    · refine Dev.errOnly.trans ?_ (Dev.errOnly_sf _ _ _ _ _ (by rfl) (by decide) (by decide))
      refine Dev.errOnly.trans ?_ (Dev.errOnly_sf _ _ _ _ _ (by rfl) (by decide) (by decide))
      exact Dev.errOnly_sf _ _ _ _ _ (by rfl) (by decide) (by decide)

/-- A record that arrives changes only the error unit (R397, R399). -/
theorem Dev.errOnly_arrive (d : Dev) (r : ErrRec) : d.errOnly (d.arrive r) := by
  unfold Dev.arrive
  have h0 : d.errOnly (d.cnt F.ERR_CNT_COUNT r.src.toNat 0) :=
    Dev.errOnly_sf _ _ _ _ _ (by rfl) (Nat.lt_trans r.src.isLt (by decide)) (by decide)
  simp only
  split
  · have h1 := (h0.trans (Dev.errOnly_err _ { (d.cnt F.ERR_CNT_COUNT r.src.toNat 0).err with notice := r })).trans
      (Dev.errOnly_setReg _ .ERR_NOTICE 0 0 r.word0 (by rfl) (by decide) (by decide))
    split
    · exact h1.trans (Dev.errOnly_enqueueErr _ _)
    · exact h1
  · exact h0.trans (Dev.errOnly_enqueueErr _ _)
  · have h1 := h0.trans (Dev.errOnly_enqueueErr _ r)
    split
    · exact h1
    · exact h1.trans (Dev.errOnly_putAlarm _ _)

theorem Dev.errOnly_raise (d : Dev) (src : Nat) (sev : Severity) (detail : Nat) : d.errOnly (d.raise src sev detail) :=
  d.errOnly_arrive _

theorem Dev.errOnly.gf {d d' : Dev} (h : d.errOnly d') (f : Fld) (i j : Nat) (hf : f.reg.isErr = false) (hi : i < 65536)
    (hj : j < 256) : d'.gf f i j = d.gf f i j := by
  simp [Dev.gf, h.1 _ _ _ hf hi hj]

theorem Dev.reg_raise (d : Dev) (src : Nat) (sev : Severity) (detail : Nat) {k : RK} {i j : Nat} (h : k.isErr = false) (hi : i < 65536) (hj : j < 256) :
    (d.raise src sev detail).reg k i j = d.reg k i j := (d.errOnly_raise _ _ _).1 k i j h hi hj
theorem Dev.gf_raise (d : Dev) (src : Nat) (sev : Severity) (detail : Nat) {f : Fld} {i j : Nat} (h : f.reg.isErr = false) (hi : i < 65536) (hj : j < 256) :
    (d.raise src sev detail).gf f i j = d.gf f i j := (d.errOnly_raise _ _ _).gf f i j h hi hj
@[simp] theorem Dev.pin_raise (d : Dev) (src : Nat) (sev : Severity) (detail : Nat) : (d.raise src sev detail).pin = d.pin := by rw [show d.raise src sev detail = _ from (d.errOnly_raise _ _ _).2]
@[simp] theorem Dev.sec_raise (d : Dev) (src : Nat) (sev : Severity) (detail : Nat) : (d.raise src sev detail).sec = d.sec := by rw [show d.raise src sev detail = _ from (d.errOnly_raise _ _ _).2]
@[simp] theorem Dev.cfg_raise (d : Dev) (src : Nat) (sev : Severity) (detail : Nat) : (d.raise src sev detail).cfg = d.cfg := by rw [show d.raise src sev detail = _ from (d.errOnly_raise _ _ _).2]
@[simp] theorem Dev.rooms_raise (d : Dev) (src : Nat) (sev : Severity) (detail : Nat) : (d.raise src sev detail).rooms = d.rooms := by rw [show d.raise src sev detail = _ from (d.errOnly_raise _ _ _).2]
@[simp] theorem Dev.net_raise (d : Dev) (src : Nat) (sev : Severity) (detail : Nat) : (d.raise src sev detail).net = d.net := by rw [show d.raise src sev detail = _ from (d.errOnly_raise _ _ _).2]
@[simp] theorem Dev.held_raise (d : Dev) (src : Nat) (sev : Severity) (detail : Nat) : (d.raise src sev detail).held = d.held := by rw [show d.raise src sev detail = _ from (d.errOnly_raise _ _ _).2]
@[simp] theorem Dev.issued_raise (d : Dev) (src : Nat) (sev : Severity) (detail : Nat) : (d.raise src sev detail).issued = d.issued := by rw [show d.raise src sev detail = _ from (d.errOnly_raise _ _ _).2]
@[simp] theorem Dev.netResp_raise (d : Dev) (src : Nat) (sev : Severity) (detail : Nat) : (d.raise src sev detail).netResp = d.netResp := by rw [show d.raise src sev detail = _ from (d.errOnly_raise _ _ _).2]
@[simp] theorem Dev.lar_raise (d : Dev) (src : Nat) (sev : Severity) (detail : Nat) : (d.raise src sev detail).lar = d.lar := by rw [show d.raise src sev detail = _ from (d.errOnly_raise _ _ _).2]
@[simp] theorem Dev.arbs_raise (d : Dev) (src : Nat) (sev : Severity) (detail : Nat) : (d.raise src sev detail).arbs = d.arbs := by rw [show d.raise src sev detail = _ from (d.errOnly_raise _ _ _).2]
@[simp] theorem Dev.drams_raise (d : Dev) (src : Nat) (sev : Severity) (detail : Nat) : (d.raise src sev detail).drams = d.drams := by rw [show d.raise src sev detail = _ from (d.errOnly_raise _ _ _).2]
@[simp] theorem Dev.ev_raise (d : Dev) (src : Nat) (sev : Severity) (detail : Nat) : (d.raise src sev detail).ev = d.ev := by rw [show d.raise src sev detail = _ from (d.errOnly_raise _ _ _).2]
@[simp] theorem Dev.strings_raise (d : Dev) (src : Nat) (sev : Severity) (detail : Nat) : (d.raise src sev detail).strings = d.strings := by rw [show d.raise src sev detail = _ from (d.errOnly_raise _ _ _).2]
@[simp] theorem Dev.gov_raise (d : Dev) (src : Nat) (sev : Severity) (detail : Nat) : (d.raise src sev detail).gov = d.gov := by rw [show d.raise src sev detail = _ from (d.errOnly_raise _ _ _).2]
@[simp] theorem Dev.plls_raise (d : Dev) (src : Nat) (sev : Severity) (detail : Nat) : (d.raise src sev detail).plls = d.plls := by rw [show d.raise src sev detail = _ from (d.errOnly_raise _ _ _).2]
@[simp] theorem Dev.hat_raise (d : Dev) (src : Nat) (sev : Severity) (detail : Nat) : (d.raise src sev detail).hat = d.hat := by rw [show d.raise src sev detail = _ from (d.errOnly_raise _ _ _).2]
@[simp] theorem Dev.free_raise (d : Dev) (src : Nat) (sev : Severity) (detail : Nat) : (d.raise src sev detail).free = d.free := by rw [show d.raise src sev detail = _ from (d.errOnly_raise _ _ _).2]
@[simp] theorem Dev.room_raise (d : Dev) (src : Nat) (sev : Severity) (detail : Nat) (n : Nat) : (d.raise src sev detail).room n = d.room n := by simp [Dev.room]
@[simp] theorem Dev.arb_raise (d : Dev) (src : Nat) (sev : Severity) (detail : Nat) (n : Nat) : (d.raise src sev detail).arb n = d.arb n := by simp [Dev.arb]
@[simp] theorem Dev.dram_raise (d : Dev) (src : Nat) (sev : Severity) (detail : Nat) (n : Nat) : (d.raise src sev detail).dram n = d.dram n := by simp [Dev.dram]
@[simp] theorem Dev.str_raise (d : Dev) (src : Nat) (sev : Severity) (detail : Nat) (n : Nat) : (d.raise src sev detail).str n = d.str n := by simp [Dev.str]
@[simp] theorem Dev.pll_raise (d : Dev) (src : Nat) (sev : Severity) (detail : Nat) (n : Nat) : (d.raise src sev detail).pll n = d.pll n := by simp [Dev.pll]
@[simp] theorem Dev.queue_raise (d : Dev) (src : Nat) (sev : Severity) (detail : Nat) (n : Nat) : (d.raise src sev detail).queue n = d.queue n := by simp [Dev.queue]
@[simp] theorem Dev.feed_raise (d : Dev) (src : Nat) (sev : Severity) (detail : Nat) (n : Nat) : (d.raise src sev detail).feed n = d.feed n := by simp [Dev.feed]
theorem Dev.reg_notice (d : Dev) (src detail : Nat) {k : RK} {i j : Nat} (h : k.isErr = false) (hi : i < 65536) (hj : j < 256) :
    (d.notice src detail).reg k i j = d.reg k i j := (d.errOnly_raise _ _ _).1 k i j h hi hj
theorem Dev.gf_notice (d : Dev) (src detail : Nat) {f : Fld} {i j : Nat} (h : f.reg.isErr = false) (hi : i < 65536) (hj : j < 256) :
    (d.notice src detail).gf f i j = d.gf f i j := (d.errOnly_raise _ _ _).gf f i j h hi hj
@[simp] theorem Dev.pin_notice (d : Dev) (src detail : Nat) : (d.notice src detail).pin = d.pin := by rw [show d.notice src detail = _ from (d.errOnly_raise _ _ _).2]
@[simp] theorem Dev.sec_notice (d : Dev) (src detail : Nat) : (d.notice src detail).sec = d.sec := by rw [show d.notice src detail = _ from (d.errOnly_raise _ _ _).2]
@[simp] theorem Dev.cfg_notice (d : Dev) (src detail : Nat) : (d.notice src detail).cfg = d.cfg := by rw [show d.notice src detail = _ from (d.errOnly_raise _ _ _).2]
@[simp] theorem Dev.rooms_notice (d : Dev) (src detail : Nat) : (d.notice src detail).rooms = d.rooms := by rw [show d.notice src detail = _ from (d.errOnly_raise _ _ _).2]
@[simp] theorem Dev.net_notice (d : Dev) (src detail : Nat) : (d.notice src detail).net = d.net := by rw [show d.notice src detail = _ from (d.errOnly_raise _ _ _).2]
@[simp] theorem Dev.held_notice (d : Dev) (src detail : Nat) : (d.notice src detail).held = d.held := by rw [show d.notice src detail = _ from (d.errOnly_raise _ _ _).2]
@[simp] theorem Dev.issued_notice (d : Dev) (src detail : Nat) : (d.notice src detail).issued = d.issued := by rw [show d.notice src detail = _ from (d.errOnly_raise _ _ _).2]
@[simp] theorem Dev.netResp_notice (d : Dev) (src detail : Nat) : (d.notice src detail).netResp = d.netResp := by rw [show d.notice src detail = _ from (d.errOnly_raise _ _ _).2]
@[simp] theorem Dev.lar_notice (d : Dev) (src detail : Nat) : (d.notice src detail).lar = d.lar := by rw [show d.notice src detail = _ from (d.errOnly_raise _ _ _).2]
@[simp] theorem Dev.arbs_notice (d : Dev) (src detail : Nat) : (d.notice src detail).arbs = d.arbs := by rw [show d.notice src detail = _ from (d.errOnly_raise _ _ _).2]
@[simp] theorem Dev.drams_notice (d : Dev) (src detail : Nat) : (d.notice src detail).drams = d.drams := by rw [show d.notice src detail = _ from (d.errOnly_raise _ _ _).2]
@[simp] theorem Dev.ev_notice (d : Dev) (src detail : Nat) : (d.notice src detail).ev = d.ev := by rw [show d.notice src detail = _ from (d.errOnly_raise _ _ _).2]
@[simp] theorem Dev.strings_notice (d : Dev) (src detail : Nat) : (d.notice src detail).strings = d.strings := by rw [show d.notice src detail = _ from (d.errOnly_raise _ _ _).2]
@[simp] theorem Dev.gov_notice (d : Dev) (src detail : Nat) : (d.notice src detail).gov = d.gov := by rw [show d.notice src detail = _ from (d.errOnly_raise _ _ _).2]
@[simp] theorem Dev.plls_notice (d : Dev) (src detail : Nat) : (d.notice src detail).plls = d.plls := by rw [show d.notice src detail = _ from (d.errOnly_raise _ _ _).2]
@[simp] theorem Dev.hat_notice (d : Dev) (src detail : Nat) : (d.notice src detail).hat = d.hat := by rw [show d.notice src detail = _ from (d.errOnly_raise _ _ _).2]
@[simp] theorem Dev.free_notice (d : Dev) (src detail : Nat) : (d.notice src detail).free = d.free := by rw [show d.notice src detail = _ from (d.errOnly_raise _ _ _).2]
@[simp] theorem Dev.room_notice (d : Dev) (src detail : Nat) (n : Nat) : (d.notice src detail).room n = d.room n := by simp [Dev.room]
@[simp] theorem Dev.arb_notice (d : Dev) (src detail : Nat) (n : Nat) : (d.notice src detail).arb n = d.arb n := by simp [Dev.arb]
@[simp] theorem Dev.dram_notice (d : Dev) (src detail : Nat) (n : Nat) : (d.notice src detail).dram n = d.dram n := by simp [Dev.dram]
@[simp] theorem Dev.str_notice (d : Dev) (src detail : Nat) (n : Nat) : (d.notice src detail).str n = d.str n := by simp [Dev.str]
@[simp] theorem Dev.pll_notice (d : Dev) (src detail : Nat) (n : Nat) : (d.notice src detail).pll n = d.pll n := by simp [Dev.pll]
@[simp] theorem Dev.queue_notice (d : Dev) (src detail : Nat) (n : Nat) : (d.notice src detail).queue n = d.queue n := by simp [Dev.queue]
@[simp] theorem Dev.feed_notice (d : Dev) (src detail : Nat) (n : Nat) : (d.notice src detail).feed n = d.feed n := by simp [Dev.feed]
theorem Dev.reg_fault (d : Dev) (src detail : Nat) {k : RK} {i j : Nat} (h : k.isErr = false) (hi : i < 65536) (hj : j < 256) :
    (d.fault src detail).reg k i j = d.reg k i j := (d.errOnly_raise _ _ _).1 k i j h hi hj
theorem Dev.gf_fault (d : Dev) (src detail : Nat) {f : Fld} {i j : Nat} (h : f.reg.isErr = false) (hi : i < 65536) (hj : j < 256) :
    (d.fault src detail).gf f i j = d.gf f i j := (d.errOnly_raise _ _ _).gf f i j h hi hj
@[simp] theorem Dev.pin_fault (d : Dev) (src detail : Nat) : (d.fault src detail).pin = d.pin := by rw [show d.fault src detail = _ from (d.errOnly_raise _ _ _).2]
@[simp] theorem Dev.sec_fault (d : Dev) (src detail : Nat) : (d.fault src detail).sec = d.sec := by rw [show d.fault src detail = _ from (d.errOnly_raise _ _ _).2]
@[simp] theorem Dev.cfg_fault (d : Dev) (src detail : Nat) : (d.fault src detail).cfg = d.cfg := by rw [show d.fault src detail = _ from (d.errOnly_raise _ _ _).2]
@[simp] theorem Dev.rooms_fault (d : Dev) (src detail : Nat) : (d.fault src detail).rooms = d.rooms := by rw [show d.fault src detail = _ from (d.errOnly_raise _ _ _).2]
@[simp] theorem Dev.net_fault (d : Dev) (src detail : Nat) : (d.fault src detail).net = d.net := by rw [show d.fault src detail = _ from (d.errOnly_raise _ _ _).2]
@[simp] theorem Dev.held_fault (d : Dev) (src detail : Nat) : (d.fault src detail).held = d.held := by rw [show d.fault src detail = _ from (d.errOnly_raise _ _ _).2]
@[simp] theorem Dev.issued_fault (d : Dev) (src detail : Nat) : (d.fault src detail).issued = d.issued := by rw [show d.fault src detail = _ from (d.errOnly_raise _ _ _).2]
@[simp] theorem Dev.netResp_fault (d : Dev) (src detail : Nat) : (d.fault src detail).netResp = d.netResp := by rw [show d.fault src detail = _ from (d.errOnly_raise _ _ _).2]
@[simp] theorem Dev.lar_fault (d : Dev) (src detail : Nat) : (d.fault src detail).lar = d.lar := by rw [show d.fault src detail = _ from (d.errOnly_raise _ _ _).2]
@[simp] theorem Dev.arbs_fault (d : Dev) (src detail : Nat) : (d.fault src detail).arbs = d.arbs := by rw [show d.fault src detail = _ from (d.errOnly_raise _ _ _).2]
@[simp] theorem Dev.drams_fault (d : Dev) (src detail : Nat) : (d.fault src detail).drams = d.drams := by rw [show d.fault src detail = _ from (d.errOnly_raise _ _ _).2]
@[simp] theorem Dev.ev_fault (d : Dev) (src detail : Nat) : (d.fault src detail).ev = d.ev := by rw [show d.fault src detail = _ from (d.errOnly_raise _ _ _).2]
@[simp] theorem Dev.strings_fault (d : Dev) (src detail : Nat) : (d.fault src detail).strings = d.strings := by rw [show d.fault src detail = _ from (d.errOnly_raise _ _ _).2]
@[simp] theorem Dev.gov_fault (d : Dev) (src detail : Nat) : (d.fault src detail).gov = d.gov := by rw [show d.fault src detail = _ from (d.errOnly_raise _ _ _).2]
@[simp] theorem Dev.plls_fault (d : Dev) (src detail : Nat) : (d.fault src detail).plls = d.plls := by rw [show d.fault src detail = _ from (d.errOnly_raise _ _ _).2]
@[simp] theorem Dev.hat_fault (d : Dev) (src detail : Nat) : (d.fault src detail).hat = d.hat := by rw [show d.fault src detail = _ from (d.errOnly_raise _ _ _).2]
@[simp] theorem Dev.free_fault (d : Dev) (src detail : Nat) : (d.fault src detail).free = d.free := by rw [show d.fault src detail = _ from (d.errOnly_raise _ _ _).2]
@[simp] theorem Dev.room_fault (d : Dev) (src detail : Nat) (n : Nat) : (d.fault src detail).room n = d.room n := by simp [Dev.room]
@[simp] theorem Dev.arb_fault (d : Dev) (src detail : Nat) (n : Nat) : (d.fault src detail).arb n = d.arb n := by simp [Dev.arb]
@[simp] theorem Dev.dram_fault (d : Dev) (src detail : Nat) (n : Nat) : (d.fault src detail).dram n = d.dram n := by simp [Dev.dram]
@[simp] theorem Dev.str_fault (d : Dev) (src detail : Nat) (n : Nat) : (d.fault src detail).str n = d.str n := by simp [Dev.str]
@[simp] theorem Dev.pll_fault (d : Dev) (src detail : Nat) (n : Nat) : (d.fault src detail).pll n = d.pll n := by simp [Dev.pll]
@[simp] theorem Dev.queue_fault (d : Dev) (src detail : Nat) (n : Nat) : (d.fault src detail).queue n = d.queue n := by simp [Dev.queue]
@[simp] theorem Dev.feed_fault (d : Dev) (src detail : Nat) (n : Nat) : (d.fault src detail).feed n = d.feed n := by simp [Dev.feed]
theorem Dev.reg_noticeFree (d : Dev) (src : Nat) {k : RK} {i j : Nat} (h : k.isErr = false) (hi : i < 65536) (hj : j < 256) :
    (d.noticeFree src).reg k i j = d.reg k i j := by
  simp only [Dev.noticeFree, Dev.raiseFree]; rw [Dev.reg_raise _ _ _ _ h hi hj]; rfl
theorem Dev.gf_noticeFree (d : Dev) (src : Nat) {f : Fld} {i j : Nat} (h : f.reg.isErr = false) (hi : i < 65536) (hj : j < 256) :
    (d.noticeFree src).gf f i j = d.gf f i j := by
  simp [Dev.gf, Dev.reg_noticeFree d src h hi hj]
@[simp] theorem Dev.pin_noticeFree (d : Dev) (src : Nat) : (d.noticeFree src).pin = d.pin := by simp [Dev.noticeFree, Dev.raiseFree]
@[simp] theorem Dev.sec_noticeFree (d : Dev) (src : Nat) : (d.noticeFree src).sec = d.sec := by simp [Dev.noticeFree, Dev.raiseFree]
@[simp] theorem Dev.cfg_noticeFree (d : Dev) (src : Nat) : (d.noticeFree src).cfg = d.cfg := by simp [Dev.noticeFree, Dev.raiseFree]
@[simp] theorem Dev.rooms_noticeFree (d : Dev) (src : Nat) : (d.noticeFree src).rooms = d.rooms := by simp [Dev.noticeFree, Dev.raiseFree]
@[simp] theorem Dev.net_noticeFree (d : Dev) (src : Nat) : (d.noticeFree src).net = d.net := by simp [Dev.noticeFree, Dev.raiseFree]
@[simp] theorem Dev.held_noticeFree (d : Dev) (src : Nat) : (d.noticeFree src).held = d.held := by simp [Dev.noticeFree, Dev.raiseFree]
@[simp] theorem Dev.issued_noticeFree (d : Dev) (src : Nat) : (d.noticeFree src).issued = d.issued := by simp [Dev.noticeFree, Dev.raiseFree]
@[simp] theorem Dev.netResp_noticeFree (d : Dev) (src : Nat) : (d.noticeFree src).netResp = d.netResp := by simp [Dev.noticeFree, Dev.raiseFree]
@[simp] theorem Dev.lar_noticeFree (d : Dev) (src : Nat) : (d.noticeFree src).lar = d.lar := by simp [Dev.noticeFree, Dev.raiseFree]
@[simp] theorem Dev.arbs_noticeFree (d : Dev) (src : Nat) : (d.noticeFree src).arbs = d.arbs := by simp [Dev.noticeFree, Dev.raiseFree]
@[simp] theorem Dev.drams_noticeFree (d : Dev) (src : Nat) : (d.noticeFree src).drams = d.drams := by simp [Dev.noticeFree, Dev.raiseFree]
@[simp] theorem Dev.ev_noticeFree (d : Dev) (src : Nat) : (d.noticeFree src).ev = d.ev := by simp [Dev.noticeFree, Dev.raiseFree]
@[simp] theorem Dev.strings_noticeFree (d : Dev) (src : Nat) : (d.noticeFree src).strings = d.strings := by simp [Dev.noticeFree, Dev.raiseFree]
@[simp] theorem Dev.gov_noticeFree (d : Dev) (src : Nat) : (d.noticeFree src).gov = d.gov := by simp [Dev.noticeFree, Dev.raiseFree]
@[simp] theorem Dev.plls_noticeFree (d : Dev) (src : Nat) : (d.noticeFree src).plls = d.plls := by simp [Dev.noticeFree, Dev.raiseFree]
@[simp] theorem Dev.hat_noticeFree (d : Dev) (src : Nat) : (d.noticeFree src).hat = d.hat := by simp [Dev.noticeFree, Dev.raiseFree]
@[simp] theorem Dev.room_noticeFree (d : Dev) (src : Nat) (n : Nat) : (d.noticeFree src).room n = d.room n := by simp [Dev.room]
@[simp] theorem Dev.arb_noticeFree (d : Dev) (src : Nat) (n : Nat) : (d.noticeFree src).arb n = d.arb n := by simp [Dev.arb]
@[simp] theorem Dev.dram_noticeFree (d : Dev) (src : Nat) (n : Nat) : (d.noticeFree src).dram n = d.dram n := by simp [Dev.dram]
@[simp] theorem Dev.str_noticeFree (d : Dev) (src : Nat) (n : Nat) : (d.noticeFree src).str n = d.str n := by simp [Dev.str]
@[simp] theorem Dev.pll_noticeFree (d : Dev) (src : Nat) (n : Nat) : (d.noticeFree src).pll n = d.pll n := by simp [Dev.pll]
@[simp] theorem Dev.queue_noticeFree (d : Dev) (src : Nat) (n : Nat) : (d.noticeFree src).queue n = d.queue n := by simp [Dev.queue]
@[simp] theorem Dev.feed_noticeFree (d : Dev) (src : Nat) (n : Nat) : (d.noticeFree src).feed n = d.feed n := by simp [Dev.feed]
theorem Dev.reg_faultFree (d : Dev) (src : Nat) {k : RK} {i j : Nat} (h : k.isErr = false) (hi : i < 65536) (hj : j < 256) :
    (d.faultFree src).reg k i j = d.reg k i j := by
  simp only [Dev.faultFree, Dev.raiseFree]; rw [Dev.reg_raise _ _ _ _ h hi hj]; rfl
theorem Dev.gf_faultFree (d : Dev) (src : Nat) {f : Fld} {i j : Nat} (h : f.reg.isErr = false) (hi : i < 65536) (hj : j < 256) :
    (d.faultFree src).gf f i j = d.gf f i j := by
  simp [Dev.gf, Dev.reg_faultFree d src h hi hj]
@[simp] theorem Dev.pin_faultFree (d : Dev) (src : Nat) : (d.faultFree src).pin = d.pin := by simp [Dev.faultFree, Dev.raiseFree]
@[simp] theorem Dev.sec_faultFree (d : Dev) (src : Nat) : (d.faultFree src).sec = d.sec := by simp [Dev.faultFree, Dev.raiseFree]
@[simp] theorem Dev.cfg_faultFree (d : Dev) (src : Nat) : (d.faultFree src).cfg = d.cfg := by simp [Dev.faultFree, Dev.raiseFree]
@[simp] theorem Dev.rooms_faultFree (d : Dev) (src : Nat) : (d.faultFree src).rooms = d.rooms := by simp [Dev.faultFree, Dev.raiseFree]
@[simp] theorem Dev.net_faultFree (d : Dev) (src : Nat) : (d.faultFree src).net = d.net := by simp [Dev.faultFree, Dev.raiseFree]
@[simp] theorem Dev.held_faultFree (d : Dev) (src : Nat) : (d.faultFree src).held = d.held := by simp [Dev.faultFree, Dev.raiseFree]
@[simp] theorem Dev.issued_faultFree (d : Dev) (src : Nat) : (d.faultFree src).issued = d.issued := by simp [Dev.faultFree, Dev.raiseFree]
@[simp] theorem Dev.netResp_faultFree (d : Dev) (src : Nat) : (d.faultFree src).netResp = d.netResp := by simp [Dev.faultFree, Dev.raiseFree]
@[simp] theorem Dev.lar_faultFree (d : Dev) (src : Nat) : (d.faultFree src).lar = d.lar := by simp [Dev.faultFree, Dev.raiseFree]
@[simp] theorem Dev.arbs_faultFree (d : Dev) (src : Nat) : (d.faultFree src).arbs = d.arbs := by simp [Dev.faultFree, Dev.raiseFree]
@[simp] theorem Dev.drams_faultFree (d : Dev) (src : Nat) : (d.faultFree src).drams = d.drams := by simp [Dev.faultFree, Dev.raiseFree]
@[simp] theorem Dev.ev_faultFree (d : Dev) (src : Nat) : (d.faultFree src).ev = d.ev := by simp [Dev.faultFree, Dev.raiseFree]
@[simp] theorem Dev.strings_faultFree (d : Dev) (src : Nat) : (d.faultFree src).strings = d.strings := by simp [Dev.faultFree, Dev.raiseFree]
@[simp] theorem Dev.gov_faultFree (d : Dev) (src : Nat) : (d.faultFree src).gov = d.gov := by simp [Dev.faultFree, Dev.raiseFree]
@[simp] theorem Dev.plls_faultFree (d : Dev) (src : Nat) : (d.faultFree src).plls = d.plls := by simp [Dev.faultFree, Dev.raiseFree]
@[simp] theorem Dev.hat_faultFree (d : Dev) (src : Nat) : (d.faultFree src).hat = d.hat := by simp [Dev.faultFree, Dev.raiseFree]
@[simp] theorem Dev.room_faultFree (d : Dev) (src : Nat) (n : Nat) : (d.faultFree src).room n = d.room n := by simp [Dev.room]
@[simp] theorem Dev.arb_faultFree (d : Dev) (src : Nat) (n : Nat) : (d.faultFree src).arb n = d.arb n := by simp [Dev.arb]
@[simp] theorem Dev.dram_faultFree (d : Dev) (src : Nat) (n : Nat) : (d.faultFree src).dram n = d.dram n := by simp [Dev.dram]
@[simp] theorem Dev.str_faultFree (d : Dev) (src : Nat) (n : Nat) : (d.faultFree src).str n = d.str n := by simp [Dev.str]
@[simp] theorem Dev.pll_faultFree (d : Dev) (src : Nat) (n : Nat) : (d.faultFree src).pll n = d.pll n := by simp [Dev.pll]
@[simp] theorem Dev.queue_faultFree (d : Dev) (src : Nat) (n : Nat) : (d.faultFree src).queue n = d.queue n := by simp [Dev.queue]
@[simp] theorem Dev.feed_faultFree (d : Dev) (src : Nat) (n : Nat) : (d.faultFree src).feed n = d.feed n := by simp [Dev.feed]

end Sys2Proof.Machine
end

