-- ==== Sys2Proof/Laws/Act.lean ====
section
/-! SUPPORT. What `State.act` adds to a change of the device: the neighbour channels of rooms that enter or leave
reset, with their counters, and the host bus target. Everything else is the change alone. -/

namespace Sys2Proof.Machine

/-- Registers that the neighbour channels count and mark in. -/
def RK.isNch : RK → Bool
  | .ROOM_NCH_STAT => true
  | .ROOM_NCH_CNT => true
  | k => k.isErr

/-- Two devices agree on everything but the neighbour channels' registers, the error unit and the number of free
values taken. -/
def Dev.nchOnly (d d' : Dev) : Prop :=
  (∀ (k : RK) (i j : Nat), k.isNch = false → i < 65536 → j < 256 → d'.reg k i j = d.reg k i j) ∧
  d' = { d with regs := d'.regs, err := d'.err, free := d'.free }

theorem Dev.nchOnly_refl (d : Dev) : d.nchOnly d := ⟨fun _ _ _ _ _ _ => rfl, rfl⟩

theorem Dev.nchOnly.trans {a b c : Dev} (h : a.nchOnly b) (h' : b.nchOnly c) : a.nchOnly c :=
  ⟨fun k i j hk hi hj => (h'.1 k i j hk hi hj).trans (h.1 k i j hk hi hj), by rw [h'.2, h.2]⟩

theorem RK.isErr_of_isNch {k : RK} (h : k.isNch = false) : k.isErr = false := by
  cases k <;> first | exact h | (exact absurd h (by decide))

theorem Dev.errOnly.nchOnly {d d' : Dev} (h : d.errOnly d') : d.nchOnly d' :=
  ⟨fun k i j hk hi hj => h.1 k i j (RK.isErr_of_isNch hk) hi hj, by rw [h.2]⟩

theorem Dev.nchOnly_sf (d : Dev) (f : Fld) (i j v : Nat) (h : f.reg.isNch = true) (hi : i < 65536) (hj : j < 256) :
    d.nchOnly (d.sf f i j v) :=
  ⟨fun k i' j' hk hi' hj' => d.reg_sf_ne v (fun he => by rw [he, hk] at h; exact absurd h (by decide)) hi hj hi' hj', rfl⟩

theorem Dev.nchOnly_cnt (d : Dev) (f : Fld) (i j n : Nat) (h : f.reg.isNch = true) (hi : i < 65536) (hj : j < 256) :
    d.nchOnly (d.cnt f i j n) := d.nchOnly_sf f i j _ h hi hj

theorem Dev.nchOnly_noticeFree (d : Dev) (src : Nat) : d.nchOnly (d.noticeFree src) :=
  Dev.nchOnly.trans (b := { d with free := d.free + 1 }) ⟨fun _ _ _ _ _ _ => rfl, rfl⟩ (Dev.errOnly_raise _ _ _ _).nchOnly

theorem Dev.nchOnly.gf {d d' : Dev} (h : d.nchOnly d') (f : Fld) (i j : Nat) (hf : f.reg.isNch = false) (hi : i < 65536)
    (hj : j < 256) : d'.gf f i j = d.gf f i j := by
  simp [Dev.gf, h.1 _ _ _ hf hi hj]

/-! ### Rooms that enter or leave reset -/

theorem State.nchOnly_flushRx (s : State) (m side j : Nat) (hm : m < 64) (hs : side < 4) (hj : j < 4) :
    s.dev.nchOnly (s.flushRx m side j).dev := by
  unfold State.flushRx
  split
  · exact Dev.nchOnly_refl _
  · simp only
    split
    · exact Dev.nchOnly_refl _
    · have h : rxPort side j < 256 := by unfold rxPort; omega
      rw [State.dev_onDev]
      refine Dev.nchOnly.trans ?_ (Dev.nchOnly_noticeFree _ _)
      exact Dev.nchOnly_cnt s.dev F.ROOM_NCH_CNT_FLUSHED m (rxPort side j) _ (by rfl) (by omega) h

theorem txPorts_lt {p : Nat × Nat} (h : p ∈ txPorts) : p.1 < 4 ∧ p.2 < 4 := by
  obtain ⟨x, hx, rfl⟩ := List.mem_map.1 h
  have := List.mem_range.1 hx
  simp only; omega

theorem State.nchOnly_foldl {α : Type} (l : List α) (f : State → α → State)
    (h : ∀ (s : State), ∀ x ∈ l, s.dev.nchOnly (f s x).dev) (s : State) : s.dev.nchOnly (l.foldl f s).dev := by
  induction l generalizing s with
  | nil => exact Dev.nchOnly_refl _
  | cons x l ih =>
    exact (h s x (by simp)).trans (ih (fun s y hy => h s y (List.mem_cons_of_mem _ hy)) (f s x))

theorem State.nchOnly_flushRoom (s : State) (m : Nat) (hm : m < 64) : s.dev.nchOnly (s.flushRoom m).dev :=
  State.nchOnly_foldl _ _ (fun s p hp => s.nchOnly_flushRx m p.1 p.2 hm (txPorts_lt hp).1 (txPorts_lt hp).2) s

theorem State.nchOnly_freshTx (s : State) (n : Nat) (hn : n < 64) : s.dev.nchOnly (s.freshTx n).dev :=
  State.nchOnly_foldl _ _ (fun s p hp => Dev.nchOnly_sf s.dev ⟨.ROOM_NCH_STAT, 4 * p.1 + p.2, 1⟩ n 0 (b2n false) rfl (by omega) (by omega)) s

theorem roomIds_lt {n : Nat} (h : n ∈ roomIds) : n < 64 := by simpa [roomIds] using h

theorem State.nchOnly_syncRooms (s : State) (old : Dev) : s.dev.nchOnly (s.syncRooms old).dev := by
  unfold State.syncRooms
  refine State.nchOnly_foldl _ _ (fun s n hn => ?_) s
  dsimp only
  split
  · exact s.nchOnly_flushRoom n (roomIds_lt hn)
  · split
    · exact s.nchOnly_freshTx n (roomIds_lt hn)
    · exact Dev.nchOnly_refl _

/-- The host bus target's part leaves the device and the channels alone. -/
theorem State.syncHost_eq (s : State) (old : Dev) : s.syncHost old = { s with hb := (s.syncHost old).hb } := by
  unfold State.syncHost
  simp only
  split_ifs <;> rfl

@[simp] theorem State.dev_syncHost (s : State) (old : Dev) : (s.syncHost old).dev = s.dev := by rw [State.syncHost_eq]
@[simp] theorem State.nch_syncHost (s : State) (old : Dev) : (s.syncHost old).nch = s.nch := by rw [State.syncHost_eq]
@[simp] theorem State.pending_syncHost (s : State) (old : Dev) : (s.syncHost old).pending = s.pending := by rw [State.syncHost_eq]

/-- After `act`, the device is the change, but for what the neighbour channels count and mark. -/
theorem State.nchOnly_act (s : State) (f : Dev → Dev) : (f s.dev).nchOnly (s.act f).dev := by
  simpa [State.act] using (s.onDev f).nchOnly_syncRooms s.dev

theorem State.reg_act (s : State) (f : Dev → Dev) {k : RK} {i j : Nat} (h : k.isNch = false) (hi : i < 65536)
    (hj : j < 256) : (s.act f).dev.reg k i j = (f s.dev).reg k i j := (s.nchOnly_act f).1 k i j h hi hj

theorem State.gf_act (s : State) (f : Dev → Dev) {g : Fld} {i j : Nat} (h : g.reg.isNch = false) (hi : i < 65536)
    (hj : j < 256) : (s.act f).dev.gf g i j = (f s.dev).gf g i j := (s.nchOnly_act f).gf g i j h hi hj
@[simp] theorem State.pin_act (s : State) (f : Dev → Dev) : (s.act f).dev.pin = (f s.dev).pin := by rw [(s.nchOnly_act f).2]
@[simp] theorem State.sec_act (s : State) (f : Dev → Dev) : (s.act f).dev.sec = (f s.dev).sec := by rw [(s.nchOnly_act f).2]
@[simp] theorem State.cfg_act (s : State) (f : Dev → Dev) : (s.act f).dev.cfg = (f s.dev).cfg := by rw [(s.nchOnly_act f).2]
@[simp] theorem State.rooms_act (s : State) (f : Dev → Dev) : (s.act f).dev.rooms = (f s.dev).rooms := by rw [(s.nchOnly_act f).2]
@[simp] theorem State.net_act (s : State) (f : Dev → Dev) : (s.act f).dev.net = (f s.dev).net := by rw [(s.nchOnly_act f).2]
@[simp] theorem State.netResp_act (s : State) (f : Dev → Dev) : (s.act f).dev.netResp = (f s.dev).netResp := by rw [(s.nchOnly_act f).2]
@[simp] theorem State.lar_act (s : State) (f : Dev → Dev) : (s.act f).dev.lar = (f s.dev).lar := by rw [(s.nchOnly_act f).2]
@[simp] theorem State.arbs_act (s : State) (f : Dev → Dev) : (s.act f).dev.arbs = (f s.dev).arbs := by rw [(s.nchOnly_act f).2]
@[simp] theorem State.drams_act (s : State) (f : Dev → Dev) : (s.act f).dev.drams = (f s.dev).drams := by rw [(s.nchOnly_act f).2]
@[simp] theorem State.ev_act (s : State) (f : Dev → Dev) : (s.act f).dev.ev = (f s.dev).ev := by rw [(s.nchOnly_act f).2]
@[simp] theorem State.strings_act (s : State) (f : Dev → Dev) : (s.act f).dev.strings = (f s.dev).strings := by rw [(s.nchOnly_act f).2]
@[simp] theorem State.gov_act (s : State) (f : Dev → Dev) : (s.act f).dev.gov = (f s.dev).gov := by rw [(s.nchOnly_act f).2]
@[simp] theorem State.plls_act (s : State) (f : Dev → Dev) : (s.act f).dev.plls = (f s.dev).plls := by rw [(s.nchOnly_act f).2]
@[simp] theorem State.hat_act (s : State) (f : Dev → Dev) : (s.act f).dev.hat = (f s.dev).hat := by rw [(s.nchOnly_act f).2]

/-! ### Changes under which no room enters or leaves reset -/

/-- Without a change of any room's GSR, `act` adds nothing in the neighbour channels. -/
theorem State.act_of_gsr (s : State) (f : Dev → Dev) (h : ∀ n, ((f s.dev).room n).gsr = (s.dev.room n).gsr) :
    s.act f = (s.onDev f).syncHost s.dev := by
  have : (s.onDev f).syncRooms s.dev = s.onDev f := by
    unfold State.syncRooms
    have hl : ∀ (l : List Nat) (x : State), (∀ n, (x.dev.room n).gsr = (s.dev.room n).gsr) →
        l.foldl (fun s' n =>
          let was := (s.dev.room n).gsr
          let is := (s'.dev.room n).gsr
          if !was && is then s'.flushRoom n else if was && !is then s'.freshTx n else s') x = x := by
      intro l
      induction l with
      | nil => intro x _; rfl
      | cons n l ih =>
        intro x hx
        rw [List.foldl_cons]
        have : (if !(s.dev.room n).gsr && (x.dev.room n).gsr then x.flushRoom n
          else if (s.dev.room n).gsr && !(x.dev.room n).gsr then x.freshTx n else x) = x := by
          rw [hx n]; cases (s.dev.room n).gsr <;> rfl
        simp only [this]
        exact ih x hx
    exact hl _ _ h
  rw [State.act, this]

/-- Without a change of any room's GSR, `act` changes the device as `f` does, and no channel. -/
theorem State.dev_act_of_rooms (s : State) (f : Dev → Dev) (h : (f s.dev).rooms = s.dev.rooms) :
    (s.act f).dev = f s.dev ∧ (s.act f).nch = s.nch := by
  rw [State.act_of_gsr s f (fun n => by simp [Dev.room, h])]
  simp

end Sys2Proof.Machine
end

