-- ==== Sys2Proof/Laws/Completes.lean ====
section
/-! SUPPORT. How a claim `Does c s d` follows for a meaning written with `State.act` or `State.onDev`. -/

namespace Sys2Proof.Machine

theorem State.pending_foldl {α : Type} (l : List α) (f : State → α → State)
    (h : ∀ s x, (f s x).pending = s.pending) (s : State) : (l.foldl f s).pending = s.pending := by
  induction l generalizing s with
  | nil => rfl
  | cons x l ih => rw [List.foldl_cons, ih, h]

theorem State.pending_flushRx (s : State) (m side j : Nat) : (s.flushRx m side j).pending = s.pending := by
  unfold State.flushRx; split; rfl; dsimp only; split
  · rfl
  · simp [State.setCh]

theorem State.pending_syncRooms (s : State) (o : Dev) : (s.syncRooms o).pending = s.pending := by
  refine State.pending_foldl _ _ (fun s n => ?_) s
  dsimp only; split
  · exact State.pending_foldl _ _ (fun s n => State.pending_flushRx _ _ _ _) s
  · split
    · exact State.pending_foldl _ _ (fun s n => by simp [State.setCh]) s
    · rfl

/-- A device operation leaves the queue of waiting commands alone. -/
@[simp] theorem State.pending_act (s : State) (f : Dev → Dev) : (s.act f).pending = s.pending := by
  simp [State.act, State.pending_syncRooms]

/-- The host bus target keeps its state where neither the mode nor MIR_EN changes. -/
theorem State.hb_syncHost (s : State) (o : Dev) (h1 : s.dev.mode ≠ mOff) (h2 : s.dev.mode ≠ mRamp)
    (hm : s.dev.mode = o.mode) (hs : s.dev.gf F.GBL_MODE_SEQ = o.gf F.GBL_MODE_SEQ)
    (he : s.dev.gf F.HBT_CFG_MIR_EN = o.gf F.HBT_CFG_MIR_EN) : (s.syncHost o).hb = s.hb := by
  simp only [State.syncHost, he, hs, hm] at *
  rw [if_neg (by simp [h1, h2])]
  by_cases ha : o.mode = mAlarm <;> simp [ha]

/-- A meaning written with `act` that changes no room, no mode and not MIR_EN does what its function says. -/
theorem does_act {c : Instr} {s : State} {f : Dev → Dev} {d : Dev} (hx : exec c s = .next (s.act f)) (hd : f s.dev = d)
    (hr : d.rooms = s.dev.rooms) (hm : d.mode = s.dev.mode) (hs : d.gf F.GBL_MODE_SEQ = s.dev.gf F.GBL_MODE_SEQ)
    (he : d.gf F.HBT_CFG_MIR_EN = s.dev.gf F.HBT_CFG_MIR_EN) : Does c s d := by
  subst hd
  have hg : ∀ n, ((f s.dev).room n).gsr = (s.dev.room n).gsr := fun n => by simp [Dev.room, hr]
  have hr' := State.dev_act_of_rooms s f hr
  refine ⟨_, hx, hr'.1, hr'.2, State.pending_act s f, fun h1 h2 => ?_⟩
  rw [State.act_of_gsr s f hg]
  exact State.hb_syncHost (s.onDev f) s.dev (by rw [State.dev_onDev, hm]; exact h1) (by rw [State.dev_onDev, hm]; exact h2)
    hm hs he

/-- As `does_act`, for a meaning that changes rooms but no room's GSR. -/
theorem does_act_gsr {c : Instr} {s : State} {f : Dev → Dev} {d : Dev} (hx : exec c s = .next (s.act f)) (hd : f s.dev = d)
    (hg : ∀ n, (d.room n).gsr = (s.dev.room n).gsr) (hm : d.mode = s.dev.mode) (hs : d.gf F.GBL_MODE_SEQ = s.dev.gf F.GBL_MODE_SEQ)
    (he : d.gf F.HBT_CFG_MIR_EN = s.dev.gf F.HBT_CFG_MIR_EN) : Does c s d := by
  subst hd
  have ha := State.act_of_gsr s f hg
  refine ⟨_, hx, by simp [ha], by simp [ha], State.pending_act s f, fun h1 h2 => ?_⟩
  rw [ha]
  exact State.hb_syncHost (s.onDev f) s.dev (by rw [State.dev_onDev, hm]; exact h1) (by rw [State.dev_onDev, hm]; exact h2)
    hm hs he

/-- A meaning written with `onDev` does what its function says. -/
theorem does_onDev {c : Instr} {s : State} {f : Dev → Dev} {d : Dev} (hx : exec c s = .next (s.onDev f)) (hd : f s.dev = d) :
    Does c s d := ⟨_, hx, hd, rfl, rfl, fun _ _ => rfl⟩

end Sys2Proof.Machine
end

