-- ==== Sys2Proof/Laws/Memory.lean ====
section
/-! SUPPORT. The block's memories: the Cellar, the Larder, the DRAM channels, the host mirror and the register table.
Every operation on one keeps its canonical form; a read after a write gives the value written, and a write leaves
every other place alone. -/

namespace Sys2Proof.Machine

/-! ### The Cellar -/

theorem Map.wf_storeFrom (l : List (BitVec 8 × Nat)) (a : Nat) (m : Map (BitVec 8)) (h : Map.wf erasedByte m = true) :
    Map.wf erasedByte (l.foldl (fun m (b, i) => Map.put erasedByte m (a + i) b) m) = true := by
  induction l generalizing m with
  | nil => exact h
  | cons x l ih => exact ih _ (Map.wf_put h _ _)

/-- Storing bytes keeps the Cellar's canonical form. -/
theorem Dev.cellarStore_wf (d : Dev) (a : Nat) (l : List (BitVec 8)) (h : Map.wf erasedByte d.cfg.cellar = true) :
    Map.wf erasedByte (d.cellarStore a l).cfg.cellar = true := Map.wf_storeFrom _ a _ h

/-- Erasing keeps the Cellar's canonical form. -/
theorem Dev.cellarErase_wf (d : Dev) (a n : Nat) (h : Map.wf erasedByte d.cfg.cellar = true) :
    Map.wf erasedByte (d.cellarErase a n).cfg.cellar = true := by
  simp only [Map.wf, Bool.and_eq_true, decide_eq_true_eq, List.all_eq_true] at h ⊢
  exact ⟨h.1.sublist (List.Sublist.map _ List.filter_sublist), fun e he => h.2 e (List.mem_of_mem_filter he)⟩

theorem Map.get_storeFrom_ne (l : List (BitVec 8 × Nat)) (a k : Nat) (m : Map (BitVec 8)) (h : ∀ x ∈ l, a + x.2 ≠ k) :
    Map.get erasedByte (l.foldl (fun m (b, i) => Map.put erasedByte m (a + i) b) m) k = Map.get erasedByte m k := by
  induction l generalizing m with
  | nil => rfl
  | cons x l ih =>
    rw [List.foldl_cons, ih _ (fun y hy => h y (by simp [hy]))]
    exact Map.get_put_ne _ _ _ _ (h x (by simp))

/-- Storing bytes leaves every other byte alone. -/
theorem Dev.cellarStore_out (d : Dev) (a k : Nat) (l : List (BitVec 8)) (h : k < a ∨ a + l.length ≤ k) :
    Map.get erasedByte (d.cellarStore a l).cfg.cellar k = Map.get erasedByte d.cfg.cellar k := by
  refine Map.get_storeFrom_ne _ a k _ (fun x hx => ?_)
  have : x.2 < l.length := by
    obtain ⟨b, i⟩ := x
    have := List.mem_zipIdx hx
    omega
  omega

theorem Map.get_storeFrom_in (l : List (BitVec 8)) (o a i : Nat) (m : Map (BitVec 8)) (h : i < l.length) :
    Map.get erasedByte ((l.zipIdx o).foldl (fun m (b, i) => Map.put erasedByte m (a + i) b) m) (a + o + i) = l[i] := by
  induction l generalizing o i m with
  | nil => simp at h
  | cons x l ih =>
    rw [List.zipIdx_cons, List.foldl_cons]
    cases i with
    | zero =>
      rw [Map.get_storeFrom_ne _ _ _ _ (fun y hy => by
        obtain ⟨b, j⟩ := y
        have := List.mem_zipIdx hy
        simp only; omega)]
      simp
    | succ i =>
      have := ih (o + 1) i (Map.put erasedByte m (a + o) x) (by simpa using h)
      rw [show a + o + (i + 1) = a + (o + 1) + i by omega]
      simpa using this

/-- A byte reads as it was stored. -/
theorem Dev.cellarStore_in (d : Dev) (a i : Nat) (l : List (BitVec 8)) (h : i < l.length) :
    Map.get erasedByte (d.cellarStore a l).cfg.cellar (a + i) = l[i] := Map.get_storeFrom_in l 0 a i _ h

/-- An erased byte reads 0xFF, and erasing leaves every other byte alone. -/
theorem Dev.cellarErase_get (d : Dev) (a n k : Nat) :
    Map.get erasedByte (d.cellarErase a n).cfg.cellar k =
      if a ≤ k ∧ k < a + n then 0xFF else Map.get erasedByte d.cfg.cellar k := by
  unfold Dev.cellarErase
  simp only
  induction d.cfg.cellar with
  | nil => simp [Map.get, erasedByte]
  | cons e m ih =>
    obtain ⟨b, v⟩ := e
    rw [List.filter_cons]
    by_cases hb : b < a ∨ a + n ≤ b
    · simp only [Bool.or_eq_true, decide_eq_true_eq, hb, if_true, Map.get]
      by_cases hk : b = k
      · subst hk
        rw [if_pos rfl, if_neg (by omega), if_pos rfl]
      · rw [if_neg hk, if_neg hk, ih]
    · simp only [Bool.or_eq_true, decide_eq_true_eq, hb, if_false, Map.get, ih]
      by_cases hk : b = k
      · subst hk
        rw [if_pos (by omega), if_pos (by omega)]
      · rw [if_neg hk]

/-! ### The Larder -/

/-- Setting a cell keeps the Larder's canonical form. -/
theorem Dev.setLarCell_wf (d : Dev) (x : Nat) (w : LarWord) (h : Map.wf (fun _ => {}) d.lar.words = true) :
    Map.wf (fun _ => {}) (d.setLarCell x w).lar.words = true := Map.wf_put h _ _

/-- A cell reads as it was set. -/
@[simp] theorem Dev.larCell_setLarCell (d : Dev) (x : Nat) (w : LarWord) : (d.setLarCell x w).larCell x = w := by
  simp [Dev.larCell, Dev.setLarCell]

/-- Setting a cell leaves every other cell alone. -/
theorem Dev.larCell_setLarCell_ne (d : Dev) {x y : Nat} (w : LarWord) (h : x ≠ y) :
    (d.setLarCell x w).larCell y = d.larCell y := by
  simp only [Dev.larCell, Dev.setLarCell]
  exact Map.get_put_ne _ _ _ _ h

/-- Setting a cell leaves every register alone. -/
@[simp] theorem Dev.reg_setLarCell (d : Dev) (x : Nat) (w : LarWord) (k : RK) (i j : Nat) :
    (d.setLarCell x w).reg k i j = d.reg k i j := rfl

/-! ### The DRAM channels -/

/-- A burst reads as it was set. -/
theorem Dev.burst_setBurst (d : Dev) (n b : Nat) (v : Burst) : (d.setBurst n b v).burst n b = v := by
  unfold Dev.burst Dev.setBurst
  rw [Dev.dram_onDram]
  simp only
  by_cases hz : (d.dram n).zeroed = true
  · have hu : Dram.unlisted { d.dram n with mem := Map.put (fun _ => {}) (d.dram n).mem b v } n = fun _ => {} := by
      funext c; simp [Dram.unlisted, hz]
    simp only [hz, if_true] at hu ⊢
    rw [show (Dram.unlisted _ n) = fun _ => ({} : Burst) from hu, Map.get_put_same]
  · simp only [hz, if_false, Bool.false_eq_true]
    rw [Map.get_insert_same]

/-- Setting a burst leaves every other burst of its channel alone. -/
theorem Dev.burst_setBurst_ne (d : Dev) (n : Nat) {b c : Nat} (v : Burst) (h : b ≠ c) :
    (d.setBurst n b v).burst n c = d.burst n c := by
  unfold Dev.burst Dev.setBurst
  rw [Dev.dram_onDram]
  simp only
  have hu (m : Map Burst) : Dram.unlisted { d.dram n with mem := m } n = (d.dram n).unlisted n := rfl
  rw [hu]
  split
  · rw [Map.get_put_ne _ _ _ _ h]
  · rw [Map.get_insert_ne _ _ _ h]

/-- Setting a burst keeps a channel's addresses rising; over cleared contents it keeps the canonical form. -/
theorem Dev.setBurst_keys (d : Dev) (n b : Nat) (v : Burst) (h : ((d.dram n).mem.map Prod.fst).Pairwise (· < ·)) :
    ((((d.setBurst n b v).dram n).mem).map Prod.fst).Pairwise (· < ·) := by
  unfold Dev.setBurst
  rw [Dev.dram_onDram]
  simp only
  split
  · unfold Map.put
    split
    · exact Map.keys_erase h _
    · exact Map.keys_insert h _ _
  · exact Map.keys_insert h _ _

theorem Dev.setBurst_wf (d : Dev) (n b : Nat) (v : Burst) (hz : (d.dram n).zeroed = true)
    (h : Map.wf (fun _ => {}) (d.dram n).mem = true) : Map.wf (fun _ => {}) ((d.setBurst n b v).dram n).mem = true := by
  unfold Dev.setBurst
  rw [Dev.dram_onDram]
  simp only [hz, if_true]
  exact Map.wf_put h _ _

/-! ### The host mirror -/

/-- Storing a half word of the mirror keeps its canonical form. -/
theorem HostBus.mirror_wf (h : HostBus) (a : Nat) (v : Word) (hw : Map.wf (fun _ => 0) h.mirror = true) :
    Map.wf (fun _ => 0) (Map.put (fun _ => 0) h.mirror a v) = true := Map.wf_put hw _ _


/-! ### Memories right after reset -/

/-- Reset lists nothing in any memory. -/
theorem State.reset_memories : Map.wf erasedByte State.reset.dev.cfg.cellar = true ∧
    Map.wf (fun _ => {}) State.reset.dev.lar.words = true ∧ State.reset.dev.drams = [] ∧
    Map.wf (fun _ => 0) State.reset.hb.mirror = true ∧ State.reset.dev.regs = [] := by decide

/-! ### The register table -/

/-- Writing a register keeps the table's keys rising. -/
theorem Dev.setReg_keys (d : Dev) (k : RK) (i j : Nat) (v : Word) (h : (d.regs.map Prod.fst).Pairwise (· < ·)) :
    ((d.setReg k i j v).regs.map Prod.fst).Pairwise (· < ·) := by
  unfold Dev.setReg Map.put
  simp only
  split
  · exact Map.keys_erase h _
  · exact Map.keys_insert h _ _

/-- A register at its reset value has no entry. -/
theorem Dev.setReg_rst (d : Dev) (k : RK) (i j : Nat) : ∀ e ∈ (d.setReg k i j (k.rst i j)).regs, e.1 ≠ k.key i j := by
  intro e he
  unfold Dev.setReg Map.put at he
  simp only [if_true] at he
  have := (List.mem_filter.1 he).2
  simpa using this

end Sys2Proof.Machine
end

