-- ==== Sys2Proof/WellFormed.lean ====
section
/-! DEFINITION. What a command's operands must satisfy beyond their types: the lengths of the lists it
carries. A command that does not is not one the device's surroundings can send; `exec` is total on it. -/

namespace Sys2Proof

/-- A payload of whole 64-bit flits: 1 to 16 (R77). -/
def payloadOk (l : List (BitVec 64)) : Bool := decide (1 ≤ l.length) && decide (l.length ≤ 16)

/-- Sensors and rooms that a governor cycle reads are named at most once (R298). -/
def onceEach {α : Type} [BEq α] (l : List α) : Bool := l.eraseDups.length == l.length

/-- A well-formed command. -/
def Instr.wellFormed : Instr → Bool
  | .governorCycle _ temps acts => onceEach (temps.map Prod.fst) && onceEach (acts.map Prod.fst)
  | .corRequestIssue _ _ _ _ _ _ _ flits => decide (flits.length ≤ 16)
  | .corTargetResponse _ _ _ data => decide (data.length ≤ 16)
  | .larRead _ _ _ len upsets => decide (upsets.flips.length ≤ len.val + 1)
  | .larWrite _ _ _ data overG => payloadOk data && decide (overG.length ≤ data.length)
  | .dramWrite _ _ _ data => payloadOk data
  | .eventPost _ _ _ _ recs => payloadOk recs
  | .arbDecision _ c => onceEach c.lowered
  | .spiBurstWrite _ vs drains => decide (drains.length ≤ vs.length + 1)
  | _ => true

end Sys2Proof
end

