-- ==== Sys2Proof/Tests/Slice0.lean ====
section
/-! SUPPORT. The author's own tests: commands that are not well formed, figures that the spec works out, and for
every statement the operands and states that meet its hypotheses, each found by evaluation in the kernel. Where a
hypothesis asks that a signature verifies, or compares a digest, the witness is for a signature check and a hash
that say so: both are functions without a body in the model (log entry 10). -/

set_option maxRecDepth 20000
set_option Elab.async false

namespace Sys2Proof.Machine

/-- The state with its device changed. -/
def State.dv (s : State) (f : Dev → Dev) : State := { s with dev := f s.dev }
/-- The device with the listed register fields set: field, first index, second index, value. -/
def Dev.st (d : Dev) (l : List (Fld × Nat × Nat × Nat)) : Dev := l.foldl (fun d x => d.sf x.1 x.2.1 x.2.2.1 x.2.2.2) d
/-- The device in another mode. -/
def Dev.md (d : Dev) (m : Nat) : Dev := d.sf F.GBL_MODE_MODE 0 0 m
/-- The device with other Cellar contents. -/
def Dev.cel (d : Dev) (l : List Host.Cell) : Dev := { d with cfg := { d.cfg with cellar := l } }
/-- A room that is up. -/
def Room.up (r : Room) : Room := { r with gsr := false, clamps := false, down := false }

end Sys2Proof.Machine

namespace Sys2Proof.Tests

open Sys2Proof Sys2Proof.Machine

/-- Bytes of zero. -/
def zeros (n : Nat) : List (BitVec 8) := List.replicate n 0

/-- An image header (Table 5.3) of a kind, room mask and flags, without digests and signature. -/
def hdrBytes (kind mask flags : Nat) : List (BitVec 8) :=
  let cnt := if kind = 1 then 193536 else ones mask 64 * recsPerRoom 2 (bitOf flags 2)
  leBytes 4 0x5445554E ++ leBytes 4 1 ++ [0x13, 0x10, 0x2A, 0, 0, 0xF, 0, 0] ++ leBytes 4 kind ++ leBytes 8 mask ++
    leBytes 4 cnt ++ leBytes 4 (cnt * 264) ++ leBytes 4 flags ++ zeros (512 - 0x28)

/-- A frame record: its address, payload and CRC. -/
def recBytes (addr : Nat) (p : BitVec 2048) : List (BitVec 8) :=
  leBytes 4 addr ++ leBytes 256 p.toNat ++ leBytes 4 (frameCrc addr p).toNat

/-- Bytes placed in the Cellar from an address on. -/
def cellsAt (base : Nat) (l : List (BitVec 8)) : List Host.Cell :=
  (l.zipIdx.map (fun x => (base + x.2, x.1))).filter (fun x => x.2 != 0xFF)

/-- A read request packet of the corridor. -/
def pk : Packet :=
  { op := 0, len := 0, dstRtr := 9, dstPort := 2, srcRtr := 3, srcPort := 1, gen := true, slot := 4, addr := 0,
    flits := [], need := 0 }

/-- A response packet of the corridor. -/
def rp : RespPkt :=
  { isRead := false, len := 0, dstRtr := 9, dstPort := 2, srcRtr := 3, srcPort := 1, gen := true, slot := 4,
    status := 0, data := [] }

/-- A state in a mode with RESET_N at a level. -/
def up (s : State) (m : Nat) (rn : Bool) : State := s.dv (fun d => { d.md m with pin := { d.pin with resetN := rn } })

/-- A state in a mode with HOLD_N at a level and a wake under way or none. -/
def hp (s : State) (m : Nat) (h : Bool) (x : Option Sleep) : State :=
  s.dv (fun d => { d.md m with pin := { d.pin with holdN := h }, gov := { d.gov with sleep := x } })

/-- A state with an AVSBus exchange under way. -/
def av (s : State) (w : AvsWork) (f : Governor → Governor := id) : State :=
  s.dv (fun d => { d with gov := f { d.gov with avs := some w } })

/-- A state with ticket `n` of a KIND and STATE for room or channel 2, its work begun at counter `w`. -/
def tk (s : State) (n k st : Nat) (w : Nat) (l : List (Fld × Nat × Nat × Nat)) : State :=
  s.dv (fun d => ({ d.md mRun with gov := {d.gov with work := [(n, w)]} }).st ([(F.GOV_TKT_W0_STATE, n, 0, st),
      (F.GOV_TKT_W0_KIND, n, 0, k), (F.GOV_TKT_W0_TARGET, n, 0, 2)] ++ l))

/-- A state in Run with room `n` in a stage of the quiesce protocol. -/
def qu (s : State) (n : Nat) (q : Quiesce) (l : List (Fld × Nat × Nat × Nat) := []) (g : Bool := false) : State :=
  s.dv (fun d => (d.onRoom n (fun r => { r with gsr := g, clamps := g, down := g, quiesce := q })).st
      ([(F.GBL_MODE_MODE, 0, 0, 5), (F.GOV_STAT_LEVEL, 0, 0, 0), (F.ROOM_PLANE_STAT_SH_STATE, n, 0, 0)] ++ l))

/-- A state in Run with room 7 waking, its keep registers saved or not. -/
def wk (s : State) (st : Stage) (v : Option Saved) (l : List (Fld × Nat × Nat × Nat) := [])
    (x : Option Sleep := none) : State :=
  s.dv (fun d => (({ d with gov := { d.gov with sleep := x } }).onRoom 7 (fun r =>
    { r with stage := st, saved := v })).st ([(F.GBL_MODE_MODE, 0, 0, 5), (F.GOV_ROOM_PSTATE, 7, 0, 3)] ++ l))

/-- A state with a sleep handshake or wake under way. -/
def sl (s : State) (x : Sleep) (l : List (Fld × Nat × Nat × Nat) := []) (f : Dev → Dev := id) : State :=
    s.dv (fun d => f (({ d with gov := { d.gov with sleep := some x } }).st l))

/-- A state in Deep hold with a wake under way, room 60 saved at 500 MHz. -/
def dh (s : State) (x : Sleep) (l : List (Fld × Nat × Nat × Nat)) : State :=
  s.dv (fun d => (({ d.md mDeep with gov := { d.gov with vccSram := 900, raiseFails := 2, sleep := some x } }).onRoom 60
    (fun r => { r with saved := some ⟨[], 500⟩ })).st l)

/-- A header with a number of digests. -/
def hdr0 (k : Nat) : List (BitVec 8) :=
  let h := hdrBytes 2 0 0
  h.take 0x80 ++ leBytes 1 k ++ h.drop 0x81

/-- A state checking an image of slot 0, with its ROOT written right on request. -/
def hst (s : State) (st m lc : Nat) (root : Bool) (l : List (Fld × Nat × Nat × Nat)) : State :=
  let s := s.dv (fun d =>
    ({ d.md m with cfg := { d.cfg with slot := 0, order := [1, 2] } }.cel (cellsAt (slotBase 0) (hdr0 1))).st
      ([(F.CFG_STATUS_STATE, 0, 0, st), (F.SEC_LCS_STATE, 0, 0, lc)] ++ l))
  if root then s.dv (fun d =>
    let b := slotBase 0
    d.cel (cellsAt b ((hdr0 1).take 0x40 ++ sha256 (d.cellarRange (b + 512) 2048) ++ (hdr0 1).drop 0x60)))
  else s

/-- A state with room 5 loading, an image header in slot 1 and the record that comes next. -/
def ldf (s : State) (l : Load) (hdr : List (BitVec 8)) (addr : Nat) (p : BitVec 2048)
    (f : Room → Room := id) : State :=
  s.dv (fun d => (d.onRoom 5 (fun r => f { r with load := some l })).cel (cellsAt (slotBase 1) hdr ++
      cellsAt (l.records + 264 * l.pos) (recBytes addr p)))

/-- A load of 3,024 records or fewer at a position. -/
def ldx (a f : Bool) (pos total : Nat) : Load :=
    { active := a, full := f, image := 0x04000000, records := 0x04000A00, pos := pos, total := total }

/-- A state in Run with room 0 at the last record of a load. -/
def rlc (s : State) (a : Bool) (image total : Nat) (c : List Host.Cell) (l : List (Fld × Nat × Nat × Nat)) : State :=
  s.dv (fun d => (((d.md mRun).onRoom 0 (fun r =>
    { r with
      load := some { active := a, image := image, records := image + 0xA00, pos := total, total := total } })).st
        ([(F.GOV_ROOM_PSTATE, 0, 0, 0), (F.CLK_ISL_STAT_RUN, 0, 0, 1)] ++ l)).cel c)

/-- A state in Run with room 5 scrubbed from the image in pool block 0, whose frame 72 has a record. -/
def scr (s : State) (fr : List (Nat × BitVec 2048)) (l : List (Fld × Nat × Nat × Nat)) : State :=
  s.dv (fun d => (((d.md mRun).onRoom 5 (fun r =>
      { r with gsr := false, clamps := false, down := false, act := { frames := fr } })).cel
    (cellsAt 0x400000 ((hdrBytes 2 0x20 4).take 0x28) ++
      cellsAt (0x400000 + 0xA00 + 264 * 72) (recBytes (frameAddr true 5 72) 1))).st
    ([(F.ROOM_PLANE_STAT_ACT_STATE, 5, 0, actValid), (F.ROOM_PLANE_STAT_ACT_SRC, 5, 0, 0),
      (F.ROOM_PLANE_STAT_ACT_BLOCK, 5, 0, 0), (F.ROOM_PLANE_STAT_SH_STATE, 5, 0, shEmpty),
      (F.GOV_ROOM_PSTATE, 5, 0, 0), (F.ROOM_SCRUB_CFG_MODE, 5, 0, 1), (F.ROOM_SCRUB_STAT_PLANE, 5, 0, 0),
      (F.ROOM_SCRUB_STAT_RUNNING, 5, 0, 1)] ++ l))

/-- A state in Run with block RAM 39 of room 9 as given. -/
def bk (s : State) (x : Bram) : State :=
  s.dv (fun d => (d.md mRun).onRoom 9 (fun r => { r.up with bram := [(39, x)] }))

/-- A state with Larder words, quadrant 0 up and nothing in its arbiters. -/
def lw (s : State) (w : Map LarWord) (l : List (Fld × Nat × Nat × Nat) := []) (f : Dev → Dev := id) : State :=
    s.dv (fun d => f (({ d with lar := { words := w, writeback := [(5, 1), (4, 7)] }, arbs := [], held := [] }).st
    ([(F.LAR_QSTAT_STATE, 0, 0, 2), (F.ARB_REQ_STAT_FENCED, 0, 70, 0), (F.ARB_REQ_STAT_FENCED, 1, 5, 0),
    (F.ARB_REQ_STAT_FENCED, 1, 64, 0), (F.ARB_REQ_STAT_FENCED, 1, 68, 0), (F.ARB_CTRL_FREEZE, 0, 0, 0),
    (F.ARB_CTRL_FREEZE, 1, 0, 0), (F.ARB_REQ_CFG_BURST, 0, 70, 15), (F.ARB_REQ_CFG_BURST, 1, 5, 3),
    (F.ARB_REQ_CFG_BURST, 1, 68, 3), (F.LAR_TEST_STAT_BUSY, 0, 0, 0)] ++ l)))

/-- The device with a packet of room 5 waiting at quadrant 0. -/
def inw (p : Packet) (d : Dev) : Dev := { d with held := [{ p with dstRtr := 1, dstPort := 6, srcRtr := 5 }] }

/-- The device with arbiter `a` granted to a requester. -/
def own (a i burst : Nat) (d : Dev) : Dev := { d with arbs := [(a, { owner := some i, burst := burst })] }

/-- A state in Run with three Larder words, two write-backs and a spare row in use. -/
def qp (s : State) (l : List (Fld × Nat × Nat × Nat)) (f : Larder → Larder := id) : State :=
  s.dv (fun d => ({ d.md mRun with
    lar := f {
      spares := [(50, (5, 6))], words := [(4, ⟨7 + 0x700000000, 0⟩), (5, ⟨6, 9⟩), (524293, ⟨1, 1⟩)],
      writeback := [(5, 1), (4, 7)] } }).st l)

/-- A state with an arbiter as given and packets of rooms 5 and 6 waiting. -/
def aw (s : State) (a : Nat) (x : Arbiter) (l : List (Fld × Nat × Nat × Nat)) : State :=
  s.dv (fun d => ({ d with
    arbs := [(a, x)],
    held := [{ pk with dstRtr := 1, dstPort := 6, srcRtr := 5 }, { pk with dstRtr := 1, dstPort := 6, srcRtr := 6 },
      { pk with dstRtr := 59, dstPort := 6, srcRtr := 5 }] }).st l)

/-- A state with an arbiter as given, quadrant 0 up and a packet of room 6 waiting. -/
def awCycle (s : State) (a : Nat) (x : Arbiter) (l : List (Fld × Nat × Nat × Nat)) : State :=
  s.dv (fun d => ({ d with
    arbs := [(a, x)], held := [{ pk with dstRtr := 1, dstPort := 6, srcRtr := 6, len := 3 }] }).st
      ([(F.LAR_QSTAT_STATE, 0, 0, 2), (F.ARB_CTRL_FREEZE, 1, 0, 0), (F.DRC_STAT_STATE, 2, 0, 3),
        (F.ARB_REQ_CFG_WAIT_LIMIT, 1, 6, 0)] ++ l))

/-- A state with DRAM channel `n` in a state, a request of room 5 under way and its packet waiting. -/
def dq (s : State) (n st : Nat) (f : Dram → Dram) (l : List (Fld × Nat × Nat × Nat) := []) : State :=
  s.dv (fun d => (({ d with
    arbs := [],
    held := [{ pk with
      op := 1, addr := 4, len := 3, flits := [1, 2], need := 4, dstRtr := 60, dstPort := 6, srcRtr := 5, no := 9 }] }).onDram n (fun x => f { x with
      nextTag := 7, reqs := [{ req := 5, tag := 6, write := true, first := 3, count := 1, left := 1 }] })).st
        ([(F.DRC_STAT_STATE, n, 0, st), (F.DRC_CFG_MIRROR, 2, 0, 0), (F.ARB_REQ_STAT_FENCED, 8 + n, 78, 0),
          (F.ARB_REQ_STAT_FENCED, 8 + n, 66, 0), (F.ARB_CTRL_FREEZE, 8 + n, 0, 0)] ++ l))

/-- A state with DRAM channel `n` in a state, a read queued and a burst with a wrong bit. -/
def dqBursts (s : State) (n st : Nat) (f : Dram → Dram) (l : List (Fld × Nat × Nat × Nat) := []) : State :=
  s.dv (fun d => (({ d with
    arbs := [],
    held := [{ pk with
      op := 1, addr := 4, len := 3, flits := [1, 2], need := 4, dstRtr := 60, dstPort := 6, srcRtr := 5, no := 9 }] }).onDram n (fun x => f { x with
      mem := [(5, { data := 3, flips := 1 })], nextTag := 7, queue := [{ id := 1, write := false, burst := 2 }],
      reading := [] })).st
        ([(F.DRC_STAT_STATE, n, 0, st), (F.DRC_CFG_MIRROR, 2, 0, 0), (F.ARB_REQ_STAT_FENCED, 8 + n, 5, 0),
          (F.ARB_REQ_STAT_FENCED, 8 + n, 66, 0), (F.ARB_CTRL_FREEZE, 8 + n, 0, 0)] ++ l))

/-- A state with Larder words, quadrant 0 up and the Hatch not fenced. -/
def hl (s : State) (w : Map LarWord) (f : Dev → Dev := id) (l : List (Fld × Nat × Nat × Nat) := []) : State :=
    s.dv (fun d => f (({ d with arbs := [], lar := {words := w, writeback := [(5, 1), (4, 7)]} }).st
    ([(F.LAR_QSTAT_STATE, 0, 0, 2), (F.ARB_REQ_STAT_FENCED, 1, hatchId, 0), (F.ARB_CTRL_FREEZE, 1, 0, 0),
    (F.LAR_TEST_STAT_BUSY, 0, 0, 0)] ++ l)))

/-- A state with DRAM channel 3 online, a burst with contents and a read queued. -/
def hd (s : State) (f : Dram → Dram := id) (l : List (Fld × Nat × Nat × Nat) := []) : State :=
  s.dv (fun d => (({ d with arbs := [] }).onDram 3 (fun x => f { x with
    mem := [(2, { data := 3 + 2 ^ 64 * 5 + 2 ^ 96 * 9 })], queue := [{ id := 1, write := false, burst := 2 }] })).st
      ([(F.DRC_STAT_STATE, 3, 0, 3), (F.DRC_CFG_MIRROR, 2, 0, 0), (F.ARB_REQ_STAT_FENCED, 11, hatchId, 0),
        (F.ARB_CTRL_FREEZE, 11, 0, 0)] ++ l))

/-- A state with DRAM channel 3 idle, of DEVTYPE 1, and a burst with a wrong bit. -/
def dt (s : State) (f : Dram → Dram) (l : List (Fld × Nat × Nat × Nat)) : State :=
  s.dv (fun d => ({ d.onDram 3 (fun x => f { x with
    mem := [(5, { data := 3, flips := 1 })], queue := [], reading := [], reqs := [] }) with
      arbs := [], gov := { d.gov with sleep := none } }).st
        ([(F.DRC_CFG_MIRROR, 2, 0, 0), (F.DRC_CFG_DEVTYPE, 3, 0, 1)] ++ l))

/-- A state with DRAM channel 3 idle and one burst with contents. -/
def dtPair (s : State) (f : Dram → Dram) (l : List (Fld × Nat × Nat × Nat)) : State :=
  s.dv (fun d => ({ d.onDram 3 (fun x => f { x with
    mem := [(4, { data := 6 })], queue := [], reading := [], reqs := [] }) with
      arbs := [], gov := { d.gov with sleep := none } }).st ([(F.DRC_CFG_MIRROR, 2, 0, 0)] ++ l))

/-- A state in a mode with the event core and the Larder running. -/
def evb (s : State) (l : List (Fld × Nat × Nat × Nat)) (m : Nat := mRun) (f : Dev → Dev := id) : State :=
  s.dv (fun d => f ((d.md m).st ([(F.CLK_ISL_STAT_RUN, 98, 0, 1), (F.LAR_QSTAT_STATE, 0, 0, 2),
    (F.LAR_QSTAT_STATE, 1, 0, 2), (F.LAR_QSTAT_STATE, 2, 0, 2), (F.LAR_QSTAT_STATE, 3, 0, 2),
    (F.ARB_REQ_STAT_FENCED, 0, evId, 0), (F.ARB_REQ_STAT_FENCED, 1, evId, 0),
    (F.ARB_REQ_STAT_FENCED, 2, evId, 0), (F.ARB_REQ_STAT_FENCED, 3, evId, 0)] ++ l)))

/-- Queue 5 with a state, base, size, head, tail and target, the other queues near it idle. -/
def q5 (st base size hd tl tg : Nat) : List (Fld × Nat × Nat × Nat) :=
  (List.range 5).map (fun q => (F.QUEUE_W0_STATE, q, 0, 0)) ++
  [(F.QUEUE_W0_STATE, 5, 0, st), (F.QUEUE_W0_BASE, 5, 0, base), (F.QUEUE_W0_SIZE, 5, 0, size),
    (F.QUEUE_W1_HEAD, 5, 0, hd), (F.QUEUE_W1_TAIL, 5, 0, tl), (F.QUEUE_W2_TARGET, 5, 0, tg)] ++
  (List.range 3).map (fun q => (F.QUEUE_W0_STATE, q + 6, 0, 0))

/-- A state in a mode with the event core and the Larder running and every arbiter idle. -/
def evbIdle (s : State) (l : List (Fld × Nat × Nat × Nat)) (m : Nat := mRun) (f : Dev → Dev := id) : State :=
  s.dv (fun d => f ((({ d with arbs := [] }).md m).st ([(F.CLK_ISL_STAT_RUN, 98, 0, 1)] ++
      (List.range 4).flatMap (fun q => [(F.LAR_QSTAT_STATE, q, 0, 2),
   (F.ARB_REQ_STAT_FENCED, 2*q, evId, 0), (F.ARB_REQ_STAT_FENCED, 2*q+1, hbId, 0), (F.ARB_CTRL_FREEZE, 2*q, 0, 0),
       (F.ARB_CTRL_FREEZE, 2*q+1, 0, 0)]) ++ l)))

/-- A state with queue 5 in RUN and a Larder word at its head. -/
def hf (s : State) (w : LarWord) (l : List (Fld × Nat × Nat × Nat) := []) (tl : Nat := 12) : State :=
    evbIdle s (q5 1 16 1 9 tl 0x4003 ++ l) mRun
    (fun d => { d with lar := {words := [(17, w)]}, ev := { d.ev with queues := [] } })

/-- A state with echo ring registers as given and a Larder word at 0x105. -/
def eb (s : State) (l : List (Fld × Nat × Nat × Nat)) : State :=
  evbIdle s l mRun (fun d => { d with lar := { words := [(0x105, ⟨5, 0⟩)] } })

/-- A record of room 3 for queue 5. -/
def r77 : PostRec := {room := 3, port := 1, queue := 5, word := 77}

/-- A state with queue 5 in a state, a record of room 3 in both post buffers, and two of the host bus. -/
def ia (s : State) (st tl m : Nat) (l : List (Fld × Nat × Nat × Nat) := []) : State :=
  { (evbIdle s (q5 st 16 1 9 tl 0x4003 ++ [(F.HBT_STAT_CLK_RUN, 0, 0, 1), (F.GOV_ROOM_PSTATE, 3, 0, 0)] ++ l) m
      (fun d => ({ d with
        lar := { words := [(20, ⟨3, 1⟩)] },
        ev := { d.ev with post0 := [r77], post1 := [r77], mesh := [] } }).onRoom 3 Room.up)) with
    hb := { posts := [(5, 77), (1, 2)] } }

/-- A state with queue 5 in a state and an append under way. -/
def aa (s : State) (st : Nat) (a : Append) : State :=
  evbIdle s (q5 st 16 1 9 0xFFFF 0x4003) mRun (fun d => d.onQueue 5 (fun x => { x with append := some a }))

/-- An event record (Table 10.1). -/
def evrec (base due slack ac prof arg : Nat) : BitVec 64 :=
  BitVec.ofNat 64 (base * 2 ^ 62 + due * 2 ^ 32 + slack * 2 ^ 24 + ac * 2 ^ 20 + prof * 2 ^ 14 + arg)

/-- A state with one record at the head of queue 5, due at `e`, at device time `now`. -/
def place (s : State) (m : Nat) (w : BitVec 64) (e : Int) (now : Nat) (l : List (Fld × Nat × Nat × Nat)) : State :=
  evb s (q5 1 16 1 9 12 0x4003 ++ [(F.QUEUE_W2_FEED, 5, 0, 2), (F.EVT_FEED_STAT_MEAS_VALID, 2, 0, 0),
      (F.EVT_FEED_CFG_BUDGET, 2, 0, 500), (F.QUEUE_W2_DEF_PROFILE, 5, 0, 1),
      (F.EVT_PROF_DRV_PULL_DUR, 1, 0, 3)] ++ l) m (fun d =>
    { d with ev := { d.ev with
      time := BitVec.ofNat 64 now, tokens := 9, handed := [], chans := [], pins := [],
      queues := [(5, { cur := some { word := w, seen := true, due := some e } })] } })

/-- A state with one output channel as given. -/
def chb (s : State) (c : Channel) (now : Nat) (ch : ChanId := .str 300) : State :=
  (evb s [(F.EVT_TIME_STAT_COUNTING, 0, 0, 1)]).dv
    (fun d => ({ d with ev := { d.ev with time := BitVec.ofNat 64 now } }).onChan ch (fun _ => c))

/-- A pick record (Table 10.10) before its CRC is written. -/
def pick0 : List (BitVec 8) :=
  leBytes 4 0x4B434950 ++ leBytes 4 0 ++ leBytes 2 64 ++ leBytes 2 0x1111 ++ leBytes 2 0x2222 ++ leBytes 1 3 ++
    leBytes 1 2 ++ leBytes 1 5 ++ leBytes 1 6 ++ leBytes 2 0 ++ leBytes 4 0xFFFFFFFF ++ leBytes 4 0 ++ zeros 36 ++
    leBytes 8 0x8000000000000005

/-- The pick record with its CRC. -/
def pick1 : List (BitVec 8) := pick0.take 0x18 ++ leBytes 4 (crc32c pick0).toNat ++ pick0.drop 0x1C

/-- The DRAM bursts that hold the pick record. -/
def pickMem : Map Burst :=
  (List.range 5).map (fun i => (2 + i, { data := BitVec.ofNat 128 (leNat (slice (pick1 ++ zeros 8) (16 * i) 16)) }))

/-- A state with pattern player 2 in a state. -/
def plyb (s : State) (st : Nat) (p : Player) (l : List (Fld × Nat × Nat × Nat)) (mem : Map Burst := []) : State :=
  evb s ([(F.EVT_PLY_CTRL_RUN, 2, 0, 1), (F.EVT_PLY_STAT_STATE, 2, 0, st), (F.EVT_PLY_ADDR_WA, 2, 0, 4),
      (F.EVT_PLY_CTRL_CHAN, 2, 0, 3), (F.EVT_PLY_CTRL_QBASE, 2, 0, 5), (F.DRC_STAT_STATE, 3, 0, 6),
      (F.DRC_CFG_MIRROR, 2, 0, 0), (F.ARB_REQ_STAT_FENCED, 11, 81, 0)] ++ l) mRun
    (fun d => (d.onPlayer 2 (fun _ => p)).onDram 3 (fun x => { x with mem := mem }))

/-- As `place`, with the measurement and the channels as they stand. -/
def placeAny (s : State) (m : Nat) (w : BitVec 64) (e : Int) (now : Nat)
    (l : List (Fld × Nat × Nat × Nat)) : State :=
  evb s (q5 1 16 1 9 12 0x4003 ++ [(F.QUEUE_W2_FEED, 5, 0, 2), (F.EVT_FEED_CFG_BUDGET, 2, 0, 500),
      (F.QUEUE_W2_DEF_PROFILE, 5, 0, 1), (F.EVT_PROF_DRV_PULL_DUR, 1, 0, 3)] ++ l) m (fun d =>
    { d with ev := { d.ev with
      time := BitVec.ofNat 64 now, tokens := 9, queues := [(5, { cur := some { word := w, seen := true, due := some e } })] } })

/-- A state with room 3 up, its event port for queue 7, and three places free in the buffer. -/
def rpo (s : State) (l : List (Fld × Nat × Nat × Nat) := []) (f : Room → Room := id) : State :=
  evbIdle s ([(F.GOV_ROOM_PSTATE, 3, 0, 0), (F.EVT_EVP_EN, 3, 0, 1), (F.EVT_EVP_QLO, 3, 0, 7),
      (F.EVT_EVP_QHI, 3, 0, 7)] ++ l) mRun (fun d =>
    ({ d with ev := { d.ev with
      mesh := [],
      post0 := List.replicate 61 { room := 1, port := 1, queue := 1, word := 0 } } }).onRoom 3 (fun r => f r.up))

/-- As `plyb`, with the arbiters and channel 3 idle. -/
def plybIdle (s : State) (st : Nat) (p : Player) (l : List (Fld × Nat × Nat × Nat)) (mem : Map Burst := []) : State :=
  evbIdle s ([(F.EVT_PLY_CTRL_RUN, 2, 0, 1), (F.EVT_PLY_STAT_STATE, 2, 0, st), (F.EVT_PLY_ADDR_WA, 2, 0, 4),
      (F.EVT_PLY_CTRL_CHAN, 2, 0, 3), (F.EVT_PLY_CTRL_QBASE, 2, 0, 5), (F.DRC_STAT_STATE, 3, 0, 6),
      (F.DRC_CFG_MIRROR, 2, 0, 0), (F.ARB_REQ_STAT_FENCED, 11, 81, 0), (F.ARB_CTRL_FREEZE, 11, 0, 0)] ++ l) mRun
      (fun d => (d.onPlayer 2 (fun _ => p)).onDram 3
      (fun x => {x with mem := mem, queue := [], reading := [], reqs := []}))

/-- A state with string `g` in a state at device time `now`. -/
def strb (s : State) (g : Nat) (st : Nat) (now : Nat) (x : StringS) (l : List (Fld × Nat × Nat × Nat))
    (m : Nat := mRun) : State :=
  evbIdle s ([(F.STG_STAT_STATE, g, 0, st), (F.EVT_TIME_STAT_COUNTING, 0, 0, 1)] ++ l) m (fun d =>
    ({ d with ev := { d.ev with time := BitVec.ofNat 64 now, handed := [], queues := [] } }).onStr g (fun _ => x))

/-- A return frame with its CRC. -/
def fin (f : BitVec 560) : BitVec 560 := (f >>> 16) <<< 16 ||| (crc16Bits f 547 16).setWidth 560

/-- A return frame of its fields. -/
def fr (sync n ty flags : Nat) (body : Nat) : BitVec 560 :=
  fin (BitVec.ofNat 560 (sync * 2 ^ 548 + n * 2 ^ 540 + ty * 2 ^ 536 + flags * 2 ^ 528 + body * 2 ^ 16))

/-- A string that has sent one COMMAND frame. -/
def sfr (n : Nat) (b : Nat := 0) : StringS := { bad := b, sent := [{ n := n, type := 1, step := 0 }] }

/-- A type B return frame for frame 15. -/
def bfr (x : Nat := 0) : BitVec 560 := fr 0x3A5 15 11 0 (0xABCD * 2^496 + 0x77 * 2^488 + 0x12345678 * 2^456 + x)

/-- A state with two channels of string 8 that a frame carries. -/
def sch (s : State) : State :=
  s.dv (fun d => (d.onChan (.str 2049) (fun _ => { phase := .driven 2, pullI := 4, feed := 2 })).onChan (.str 2303)
    (fun _ => { phase := .pull, pullCode := 3, phaseEnd := some 99999999 }))

/-- As `strb`, with the queues as they stand. -/
def strbNow (s : State) (g : Nat) (st : Nat) (now : Nat) (x : StringS) (l : List (Fld × Nat × Nat × Nat))
    (m : Nat := mRun) : State :=
  evb s ([(F.STG_STAT_STATE, g, 0, st), (F.EVT_TIME_STAT_COUNTING, 0, 0, 1)] ++ l) m
      (fun d => ({ d with ev := {d.ev with time := BitVec.ofNat 64 now}}).onStr g (fun _ => x))

/-- A state with the host bus target enabled and as given. -/
def hbb (s : State) (h : HostBus) (l : List (Fld × Nat × Nat × Nat)) (m : Nat := mRun) : State :=
  { evb s ([(F.HBT_CFG_EN, 0, 0, 1)] ++ l) m with hb := h }

/-- The mirror on, at word 0x100. -/
def mirl : List (Fld × Nat × Nat × Nat) :=
  [(F.HBT_CFG_MIR_EN, 0, 0, 1), (F.HBT_STAT_CLK_RUN, 0, 0, 1), (F.HBT_CFG_MIR_SIZE, 0, 0, 0),
    (F.HBT_CFG_MIR_BASE, 0, 0, 0x100)] ++
  (List.range 4).map (fun q => (F.ARB_REQ_STAT_FENCED, 2 * q + 1, hbId, 0)) ++
  (List.range 4).map (fun q => (F.ARB_REQ_STAT_FENCED, 2 * q, hbId, 0)) ++
  (List.range 4).map (fun q => (F.ARB_REQ_CFG_BURST, 2 * q + 1, hbId, 0))

/-- Reflex cell 40 in a state, watching pin 4. -/
def rfl0 (s : State) (st : Nat) (l : List (Fld × Nat × Nat × Nat)) : State :=
  evb s ([(F.CLK_ISL_STAT_RUN, 99, 0, 1), (F.RFX_CELL_STAT_STATE, 40, 0, st), (F.RFX_CELL_SEL_LO_SEL, 40, 0, 0x30),
      (F.RFX_CELL_SEL_HI_SEL, 40, 0, 0), (F.RFX_IN_POL_LO_POL, 0, 0, 0xFFFFFFFF),
      (F.RFX_IN_POL_HI_POL, 0, 0, 0xFFFFFFFF), (F.IOB_CFG_STD, 0, 0, 1), (F.IOB_STAT_MISMATCH, 0, 0, 0)] ++ l) mRun
    (fun d => { d with ev := { d.ev with time := 100 } })

/-- As `hbb`, with every arbiter idle. -/
def hbbIdle (s : State) (h : HostBus) (l : List (Fld × Nat × Nat × Nat) := []) (m : Nat := mRun) : State :=
    { evbIdle s ([(F.HBT_CFG_EN, 0, 0, 1)] ++ l) m with hb := h }

/-- The mirror on, at word 0x100, in bursts of four words, with a gap. -/
def mirlGap : List (Fld × Nat × Nat × Nat) := [(F.HBT_CFG_MIR_EN, 0, 0, 1), (F.HBT_STAT_CLK_RUN, 0, 0, 1),
    (F.HBT_CFG_MIR_SIZE, 0, 0, 0), (F.HBT_CFG_MIR_BASE, 0, 0, 0x100), (F.ARB_REQ_CFG_BURST, 1, hbId, 3),
    (F.EVT_TIME_STAT_COUNTING, 0, 0, 1), (F.HBT_MIR_GAP_GAP, 0, 0, 4)]

/-- A state with a refresh pass at a word, three mirror words and two entries in the write-through buffer. -/
def mrr (s : State) (i : Nat) (w : LarWord := ⟨0x1234567800000000, 0⟩) (l : List (Fld × Nat × Nat × Nat) := [])
    (b : List (Nat × Word) := [(0x211, 9), (1, 2)]) : State :=
  (hbbIdle s { mirror := [(13, 4), (14, 77), (16, 2)], pass := some i, buffer := b } (mirlGap ++ l)).dv (fun d =>
    { d with lar := { words := [(0x107, w), (0x108, ⟨0x77, 0⟩)] } })

/-- Reflex cell 40 in a state, watching pin 4 with FILT 2. -/
def rflFilt (s : State) (st : Nat) (l : List (Fld × Nat × Nat × Nat)) (run : Nat := 0) : State :=
  evbIdle s ([(F.CLK_ISL_STAT_RUN, 99, 0, 1), (F.RFX_CELL_CTRL_FILT, 40, 0, 2), (F.RFX_CELL_STAT_STATE, 40, 0, st),
      (F.RFX_CELL_SEL_LO_SEL, 40, 0, 0x30), (F.RFX_CELL_SEL_HI_SEL, 40, 0, 0),
      (F.RFX_IN_POL_LO_POL, 0, 0, 0xFFFFFFFF), (F.RFX_IN_POL_HI_POL, 0, 0, 0xFFFFFFFF), (F.IOB_CFG_STD, 0, 0, 1),
      (F.IOB_STAT_MISMATCH, 0, 0, 0)] ++ l) mRun (fun d =>
    { d with
      ev := { d.ev with time := 100 },
      pin := { d.pin with vccio := 0x3FFFF, rfxRun := [(40, run)].filter (fun e => e.2 != 0) } })

/-- PLL 2 on pin 3 at 50 MHz, N 64 (3.2 GHz), its output 1 divided by 32 to 100 MHz. -/
def pllL (en : Nat) : List (Fld × Nat × Nat × Nat) :=
  [(F.PLL_CTRL_EN, 2, 0, en), (F.PLL_CTRL_REF_SEL, 2, 0, 3), (F.PLL_CTRL_MODE, 2, 0, 0), (F.PLL_CTRL_DITHER, 2, 0, 0),
    (F.PLL_REFIN_FREQ, 3, 0, 50000), (F.PLL_REFIN_FMT, 3, 0, 1), (F.PLL_DIV_N, 2, 0, 64), (F.PLL_DIV_RDIV, 2, 0, 0),
    (F.PLL_FRAC_FRAC, 2, 0, 0), (F.PLL_OUT_EN, 2, 1, en), (F.PLL_OUT_CDIV, 2, 1, 31), (F.PLL_OUT_CDIV, 2, 0, 3),
    (F.PLL_OUT_EN, 2, 0, 0), (F.PLL_OUT_FMT, 2, 0, 0), (F.PLL_RAMP_CTRL_RUN, 2, 0, 0)]

/-- A state with PLL 2 so set up and nothing else selecting it. -/
def pb (s : State) (en : Nat) (l : List (Fld × Nat × Nat × Nat)) : State :=
  evb s (pllL en ++ (List.range 10).map (fun i => (F.CLK_ISL_CTRL_REF_SEL, i, 0, 1)) ++
    [(F.EVT_TIME_CFG_REF_SEL, 0, 0, 1)] ++ (List.range 9).map (fun i => (F.IOB_CFG_FCLK_EN, i, 0, 0)) ++ l)

/-- Two segments of a ramp of PLL 2. -/
def segs : List (Fld × Nat × Nat × Nat) :=
  [(F.PLL_SEG_W0_TARGET, 2, 0, 2400000), (F.PLL_SEG_W1_SLOPE, 2, 0, 1), (F.PLL_SEG_W0_LAST, 2, 0, 0),
    (F.PLL_SEG_W0_TARGET, 2, 1, 4800000), (F.PLL_SEG_W1_SLOPE, 2, 1, 500), (F.PLL_SEG_W0_LAST, 2, 1, 1)]

/-- As `pb`, with every arbiter idle. -/
def pbIdle (s : State) (en : Nat) (l : List (Fld × Nat × Nat × Nat)) : State :=
  evbIdle s (pllL en ++ (List.range 10).map (fun i => (F.CLK_ISL_CTRL_REF_SEL, i, 0, 1)) ++
    [(F.EVT_TIME_CFG_REF_SEL, 0, 0, 1)] ++ (List.range 9).map (fun i => (F.IOB_CFG_FCLK_EN, i, 0, 0)) ++ l)

/-- A state with PLL 2 in a segment of a ramp. -/
def prun (s : State) (tgt : Nat) (last : Bool) (seg : Nat := 0) : State :=
  (pbIdle s 1 (segs ++ [(F.PLL_RAMP_CTRL_SEG, 2, 0, seg), (F.PLL_RAMP_CTRL_RUN, 2, 0, 1)])).dv (fun d =>
    d.onPll 2 (fun x => { x with rampTo := tgt, rampLast := last }))

/-- A state of a life cycle and an authorisation level. -/
def sb (s : State) (lc lvl : Nat) (l : List (Fld × Nat × Nat × Nat)) (m : Nat := mRun) (f : Security → Security := id) :
    State :=
  s.dv (fun d => ({ d.md m with sec := f d.sec }).st ([(F.SEC_LCS_STATE, 0, 0, lc), (F.SEC_LCS_BUSY, 0, 0, 0),
    (F.SEC_CMD_STAT_BUSY, 0, 0, 0), (F.SEC_DBG_LEVEL, 0, 0, lvl), (F.GBL_RAIL_STAT_GOOD, 0, 0, 0xFFFFFFF),
    (F.SEC_KEYS_IDK, 0, 0, 1), (F.SEC_KEYS_OIK, 0, 0, 2), (F.SEC_KEYS_REVOKED, 0, 0, 1),
    (F.SEC_KEYS_ERASE_PENDING, 0, 0, 0)] ++ l))

/-- The state with the running image's record verified or not. -/
def rv (s : State) (b : Bool) : State := s.dv (fun d => { d with cfg := { d.cfg with recordVerified := b } })

/-- The state with bytes in the security buffer. -/
def putb (s : State) (l : List (BitVec 8)) : State := s.dv (fun d => d.putSecBuf l)

/-- An owner command (Table 16.6) for this unit. -/
def ownc (s : State) (op arg n sg : Nat) : List (BitVec 8) :=
  leBytes 4 op ++ leBytes 4 arg ++ leBytes 4 n ++ leBytes 4 sg ++ sha256 (slice s.dev.sectorBase 0x40 64) ++
    zeros 32 ++ zeros (0xC0 - 0x50) ++ [1] ++ zeros 63

/-- A state in Production with owner keys 0 to 2, the first revoked, and CMD_COUNT 5. -/
def own2 (s : State) : State :=
  sb s 4 0 [(F.SEC_KEYS_OIK, 0, 0, 7), (F.SEC_KEYS_REVOKED, 0, 0, 1)] mRun
    (fun x => { x with
      sector := leBytes 4 0x5445554B ++ leBytes 4 1 ++ leBytes 4 0 ++ leBytes 4 0x417 ++ leBytes 4 5 ++ zeros 44 ++
        zeros (0x2200 - 64) })

/-- The policy of one violation. -/
def pol (v p : Nat) : Fld × Nat × Nat × Nat := (F.SEC_POL_POL, 0, 0, p * 4 ^ v)

/-- An owner command with a root and parameters. -/
def ownr (s : State) (op arg n sg : Nat) (root : List (BitVec 8)) : List (BitVec 8) :=
  leBytes 4 op ++ leBytes 4 arg ++ leBytes 4 n ++ leBytes 4 sg ++ sha256 (slice s.dev.sectorBase 0x40 64) ++ root ++
    (List.range 0x70).map (BitVec.ofNat 8) ++ [1] ++ zeros 63

/-- As `own2`, with `n` roots in the index. -/
def own3 (s : State) (n : Nat) : State :=
  sb s 4 0 [(F.SEC_KEYS_OIK, 0, 0, 7), (F.SEC_KEYS_REVOKED, 0, 0, 1)] mRun (fun x =>
    { x with
      sector := leBytes 4 0x5445554B ++ leBytes 4 1 ++ leBytes 4 0 ++ leBytes 4 0x417 ++ leBytes 4 5 ++ leBytes 4 n ++
        zeros 0x3E8 ++ (List.replicate n (List.replicate 32 (7 : BitVec 8))).flatten ++ zeros (0x1E00 - 32 * n) })

/-- A settings record with one entry after `ent` empty sections. -/
def recB (ent : Nat) (a v : Nat) : List (BitVec 8) :=
  let body := leBytes 4 0x54455553 ++ leBytes 4 1 ++ zeros 8 ++ [0x13, 0x10, 0x2A, 0, 0, 0xF, 0, 0] ++
    zeros (0x400 - 0x18) ++ List.replicate (0x800 * ent) 0xFF ++ leBytes 4 a ++ leBytes 4 v
  let body := body ++ List.replicate (0xFF00 - body.length) 0xFF
  body ++ leBytes 4 (crc32c body).toNat

/-- A state with the Cellar as given. -/
def rb (s : State) (c : List Host.Cell) (l : List (Fld × Nat × Nat × Nat)) (m : Nat := mRun) : State :=
  evb s ([(F.GBL_MODE_MODE, 0, 0, m), (F.CFG_STATUS_RECORD, 0, 0, 1), (F.SEC_LCS_STATE, 0, 0, 1),
    (F.GBL_IDCODE_REV, 0, 0, 3)] ++ l) m (fun d => d.cel c)

/-- A Cellar with a settings record without entries. -/
def recNone : List Host.Cell := cellsAt 0 (recB 0 0xFFFFFFFF 0)

/-- A Cellar with a settings record of one entry. -/
def recOne (e a : Nat) : List Host.Cell := cellsAt 0 (recB e a 7)

/-- A state with the TAP's HATCH register selected. -/
def th (s : State) : State :=
  (rb s [] []).dv (fun d => { d with hat := { d.hat with drSel := 0x20, writeStatus := 4, writeFail := 0x77 } })

/-- A state at an authorisation level, with two frames in each plane of room 9 and one block RAM stored. -/
def rdb (s : State) (lvl : Nat) (l : List (Fld × Nat × Nat × Nat)) : State :=
  (rb s [] ([(F.SEC_DBG_LEVEL, 0, 0, lvl)] ++ l)).dv (fun d => d.onRoom 9 (fun r =>
    { r with
      act := { r.act with frames := [(71, 0x123456789), (2303, 7 * 2 ^ 1995)] },
      shd := { r.shd with frames := [(71, 0x55), (2303, 99)] },
      bram := [(39, { d := 0x7777, p := 5 * 2 ^ 2048 + 7 })] }))

/-- Every room running. -/
def allUp (s : State) : State :=
  s.dv (fun d => (List.range 64).foldl (fun d n => (d.onRoom n Room.up).sf F.GOV_ROOM_PSTATE n 0 0) d)

/-- A state with `q` records in the error queue. -/
def errb (s : State) (q : Nat) (l : List (Fld × Nat × Nat × Nat)) : State :=
  (rb s [] l).dv (fun d =>
    { d with
      err := { d.err with queue := List.replicate q { src := 5, sev := .fault, detail := 77 } },
      ev := { d.ev with time := 0x123456789ABC } })

/-- A state with a re-apply under way. -/
def rpp (s : State) (l : List (Nat × Nat × Word) := []) : State :=
  (rb s [] []).dv (fun d =>
    { d with cfg := { d.cfg with reapply := some { sections := 1, skipped := 9, rest := l } } })

/-- A state in a mode with the write buffer of the Hatch empty. -/
def sp (s : State) (m : Nat := mRun) (f : Hatch → Hatch := id) : State :=
  (rb s [] [] m).dv (fun d => { d with hat := f { d.hat with buffer := [] } })

/-- As `th`, with nothing in the write buffer and nothing discarded. -/
def tap (s : State) : State :=
  (rb s [] []).dv (fun d =>
    { d with
      hat := { d.hat with buffer := [], dropped := none, drSel := 0x20, writeStatus := 4, writeFail := 0x77 } })

/-! ### Records and images whose codes are not evaluated -/

/-- The first bytes of a settings record: MAGIC, VERSION, SEQUENCE, IDENTITY and FLAGS (Table 5.2). -/
def recHead : List Host.Cell :=
  cellsAt 0 (leBytes 4 0x54455553 ++ leBytes 4 1 ++ zeros 8 ++ [0x13, 0x10, 0x2A, 0, 0, 0xF, 0, 0] ++ zeros 8)

/-- A byte of a Cellar with the given contents and no interrupted write. -/
def cellOf (c : List Host.Cell) (a : Nat) : BitVec 8 := Map.get erasedByte c a

/-- Contents below 0xFF00 with the CRC-32C of the record above them. -/
def sealed (c : List Host.Cell) : List Host.Cell :=
  let v := (crc32c ((List.range 0xFF00).map (cellOf c))).toNat
  c ++ [(0xFF00, BitVec.ofNat 8 v), (0xFF01, BitVec.ofNat 8 (v / 256)), (0xFF02, BitVec.ofNat 8 (v / 256 / 256)),
    (0xFF03, BitVec.ofNat 8 (v / 256 / 256 / 256))]

theorem get_append_of_lt (c t : List Host.Cell) (k : Nat) (h : ∀ e ∈ t, k ≠ e.1) : cellOf (c ++ t) k = cellOf c k := by
  induction c with
  | nil =>
    induction t with
    | nil => rfl
    | cons e t ih =>
      have h1 := h e (by simp)
      simp only [cellOf, List.nil_append, Map.get] at ih ⊢
      rw [if_neg (Ne.symm h1)]
      exact ih (fun e he => h e (by simp [he]))
  | cons e c ih =>
    simp only [cellOf, List.cons_append, Map.get] at ih ⊢
    rw [ih]

theorem cellOf_sealed (c : List Host.Cell) {k : Nat} (h : k < 0xFF00) : cellOf (sealed c) k = cellOf c k := by
  apply get_append_of_lt
  simp; omega

theorem get_append_ge (c t : List Host.Cell) (k : Nat) (h : ∀ e ∈ c, k ≠ e.1) : cellOf (c ++ t) k = cellOf t k := by
  induction c with
  | nil => rfl
  | cons e c ih =>
    have h1 := h e (by simp)
    simp only [cellOf, List.cons_append, Map.get] at ih ⊢
    rw [if_neg (Ne.symm h1)]
    exact ih (fun e he => h e (by simp [he]))

theorem slice_range (f : Nat → BitVec 8) {N k m : Nat} (h : k + m ≤ N) :
    slice ((List.range N).map f) k m = (List.range m).map (fun i => f (k + i)) := by
  unfold slice
  apply List.ext_getElem
  · simp; omega
  · intro i h1 h2
    simp

theorem field4_range (f : Nat → BitVec 8) {N k : Nat} (h : k + 4 ≤ N) :
    field4 ((List.range N).map f) k = leNat [f k, f (k + 1), f (k + 2), f (k + 3)] := by
  rw [field4, slice_range f h]; rfl

theorem recCrcOk_sealed (c : List Host.Cell) (hc : ∀ e ∈ c, e.1 < 0xFF00) :
    recCrcOk ((List.range 0x10000).map (cellOf (sealed c))) = true := by
  have hlt (k : Nat) (hk : 0xFF00 ≤ k) : ∀ e ∈ c, k ≠ e.1 := fun e he => by have := hc e he; omega
  unfold recCrcOk
  rw [field4_range _ (by omega), beq_iff_eq, ← List.map_take, List.take_range]
  have : (List.range (min 0xFF00 0x10000)).map (cellOf (sealed c)) = (List.range 0xFF00).map (cellOf c) := by
    apply List.map_congr_left
    intro a ha
    exact cellOf_sealed c (by simpa using ha)
  rw [this]
  generalize hv : crc32c ((List.range 0xFF00).map (cellOf c)) = v
  have hs : sealed c = c ++ [(0xFF00, BitVec.ofNat 8 v.toNat), (0xFF01, BitVec.ofNat 8 (v.toNat / 256)),
      (0xFF02, BitVec.ofNat 8 (v.toNat / 256 / 256)), (0xFF03, BitVec.ofNat 8 (v.toNat / 256 / 256 / 256))] := by
    rw [← hv]; rfl
  rw [hs, get_append_ge _ _ _ (hlt _ (by omega)), get_append_ge _ _ _ (hlt _ (by omega)),
    get_append_ge _ _ _ (hlt _ (by omega)), get_append_ge _ _ _ (hlt _ (by omega))]
  have h1 : (0xFF00 : Nat) ≠ 0xFF01 := by decide
  have h2 : (0xFF00 : Nat) ≠ 0xFF02 := by decide
  have h3 : (0xFF00 : Nat) ≠ 0xFF03 := by decide
  have h4 : (0xFF01 : Nat) ≠ 0xFF02 := by decide
  have h5 : (0xFF01 : Nat) ≠ 0xFF03 := by decide
  have h6 : (0xFF02 : Nat) ≠ 0xFF03 := by decide
  have := v.isLt
  simp only [cellOf, Map.get, leNat, if_pos, if_neg h1, if_neg h2, if_neg h3, if_neg h4, if_neg h5, if_neg h6,
    BitVec.toNat_ofNat]
  omega

theorem rb_gf (c : List Host.Cell) (f : Fld) (i j : Nat) :
    (rb State.reset c []).dev.gf f i j = (rb State.reset [] []).dev.gf f i j := rfl

theorem runningRecord_sealed (c : List Host.Cell) (hc : ∀ e ∈ c, e.1 < 0xFF00)
    (hf : field4 ((List.range 0x400).map (cellOf c)) 0x18 = 0)
    (hm : recFormOk ((List.range 0x400).map (cellOf c)) 3 = true) :
    (rb State.reset (sealed c) []).dev.runningRecord.ok = true := by
  have hb : (rb State.reset (sealed c) []).dev.recordBytes 0 = (List.range 0x10000).map (cellOf (sealed c)) := by
    unfold Dev.recordBytes Dev.cellarRange
    apply List.map_congr_left
    intro a _
    simp [recordBase]
    rfl
  have h1 : (rb State.reset (sealed c) []).dev.gf F.CFG_STATUS_RECORD = 1 := by
    rw [rb_gf]; decide +kernel
  have h2 : (rb State.reset (sealed c) []).dev.gf F.GBL_IDCODE_REV = 3 := by
    rw [rb_gf]; decide +kernel
  have h3 : (rb State.reset (sealed c) []).dev.lcState = 1 := by
    rw [Dev.lcState, rb_gf]; decide +kernel
  have e (k : Nat) (hk : k + 4 ≤ 0x400) : field4 ((List.range 0x10000).map (cellOf (sealed c))) k =
      field4 ((List.range 0x400).map (cellOf c)) k := by
    rw [field4_range _ (by omega), field4_range _ hk, cellOf_sealed c (by omega), cellOf_sealed c (by omega),
      cellOf_sealed c (by omega), cellOf_sealed c (by omega)]
  have e8 : slice ((List.range 0x10000).map (cellOf (sealed c))) 0x10 8 =
      slice ((List.range 0x400).map (cellOf c)) 0x10 8 := by
    rw [slice_range _ (by omega), slice_range _ (by omega)]
    apply List.map_congr_left
    intro a ha
    exact cellOf_sealed c (by simp at ha; omega)
  unfold Dev.runningRecord
  rw [h1]
  unfold Dev.checkRecord
  simp only [Nat.sub_self, Nat.one_ne_zero, if_false, hb, h2, h3, recCrcOk_sealed c hc]
  have hm' : recFormOk ((List.range 0x10000).map (cellOf (sealed c))) 3 = true := by
    unfold recFormOk at hm ⊢
    rw [e 0 (by omega), e 4 (by omega), e8]; exact hm
  rw [hm', recFlags, e 0x18 (by omega), hf]
  rfl

theorem rb_range (c : List Host.Cell) (a n : Nat) :
    (rb State.reset c []).dev.cellarRange a n = (List.range n).map (fun i => cellOf c (a + i)) := rfl

theorem leNat_sealed (c : List Host.Cell) {a : Nat} (h : a + 4 ≤ 0xFF00) :
    leNat ((rb State.reset (sealed c) []).dev.cellarRange a 4) = leNat ((List.range 4).map (fun i => cellOf c (a + i))) := by
  rw [rb_range]
  congr 1
  apply List.map_congr_left
  intro i hi
  exact cellOf_sealed c (by simp at hi; omega)

theorem sectionList_sealed_nil (c : List Host.Cell) (y : Section)
    (h : leNat ((List.range 4).map (fun i => cellOf c (y.offset + i))) = 0xFFFFFFFF) :
    (rb State.reset (sealed c) []).dev.sectionList y = [] := by
  have h1 : (rb State.reset (sealed c) []).dev.gf F.CFG_STATUS_RECORD = 1 := by
    rw [rb_gf]; decide +kernel
  unfold Dev.sectionList Dev.writeList
  simp only [h1, Nat.one_ne_zero, if_false, Nat.sub_self, recordBase]
  have hl := leNat_sealed c (a := y.offset) (by cases y <;> decide)
  obtain ⟨n, hn⟩ : ∃ n, y.entries = n + 1 := by cases y <;> exact ⟨_, rfl⟩
  rw [hn, List.range_succ_eq_map]
  simp [hl, h]

theorem sectionList_sealed_one (c : List Host.Cell) (y : Section) (a v : Nat)
    (h : leNat ((List.range 4).map (fun i => cellOf c (y.offset + i))) = a) (ha : a ≠ 0xFFFFFFFF)
    (hv : leNat ((List.range 4).map (fun i => cellOf c (y.offset + 4 + i))) = v)
    (h2 : leNat ((List.range 4).map (fun i => cellOf c (y.offset + 8 + i))) = 0xFFFFFFFF) :
    (rb State.reset (sealed c) []).dev.sectionList y = [(a, BitVec.ofNat 32 v)] := by
  have h1 : (rb State.reset (sealed c) []).dev.gf F.CFG_STATUS_RECORD = 1 := by
    rw [rb_gf]; decide +kernel
  unfold Dev.sectionList Dev.writeList
  simp only [h1, Nat.one_ne_zero, if_false, Nat.sub_self, recordBase]
  have hl := leNat_sealed c (a := y.offset) (by cases y <;> decide)
  have hl4 := leNat_sealed c (a := y.offset + 4) (by cases y <;> decide)
  have hl8 := leNat_sealed c (a := y.offset + 8) (by cases y <;> decide)
  obtain ⟨n, hn⟩ : ∃ n, y.entries = n + 2 := by cases y <;> exact ⟨_, rfl⟩
  rw [hn, List.range_succ_eq_map, List.range_succ_eq_map]
  simp [hl, hl4, hl8, h, h2, hv, ha]

/-- A record whose ENGINE section has one entry for a register outside it. -/
def recStray : List Host.Cell := recHead ++ cellsAt (Section.offset .engine) (leBytes 4 0x50000 ++ leBytes 4 7)

/-- A record without entries is valid. -/
theorem recHead_ok : (rb State.reset (sealed recHead) []).dev.runningRecord.ok = true ∧
    ∀ y : Section, (rb State.reset (sealed recHead) []).dev.sectionList y = [] :=
  ⟨runningRecord_sealed _ (by decide +kernel) (by decide +kernel) (by decide +kernel),
    fun y => sectionList_sealed_nil _ y (by cases y <;> decide +kernel)⟩

/-- A record with a stray entry is valid. -/
theorem recStray_ok : (rb State.reset (sealed recStray) []).dev.runningRecord.ok = true ∧
    (rb State.reset (sealed recStray) []).dev.sectionList .engine = [(0x50000, 7)] :=
  ⟨runningRecord_sealed _ (by decide +kernel) (by decide +kernel) (by decide +kernel),
    sectionList_sealed_one _ _ _ 7 (by decide +kernel) (by decide +kernel) (by decide +kernel) (by decide +kernel)⟩


/-- Bytes placed from an address on. -/
def placed : Nat → List (BitVec 8) → List Host.Cell
  | _, [] => []
  | b, x :: r => (b, x) :: placed (b + 1) r

theorem cellOf_placed (b : Nat) (r : List (BitVec 8)) {i : Nat} (h : i < r.length) : cellOf (placed b r) (b + i) = r[i] := by
  induction r generalizing b i with
  | nil => simp at h
  | cons x r ih =>
    cases i with
    | zero => simp [cellOf, placed, Map.get]
    | succ i =>
      have := ih (b + 1) (i := i) (by simpa using h)
      simp only [cellOf, placed, Map.get] at this ⊢
      rw [if_neg (by omega), show b + (i + 1) = b + 1 + i by omega, this]
      rfl

theorem placed_keys (b : Nat) (r : List (BitVec 8)) : ∀ e ∈ placed b r, b ≤ e.1 ∧ e.1 < b + r.length := by
  induction r generalizing b with
  | nil => simp [placed]
  | cons x r ih =>
    intro e he
    rcases List.mem_cons.1 he with rfl | he
    · simp
    · have := ih (b + 1) e he
      simp; omega

/-- Outside the bytes placed, contents are as they were. -/
theorem range_placed_out (c : List Host.Cell) (b : Nat) (r : List (BitVec 8)) {a n : Nat}
    (h : a + n ≤ b ∨ b + r.length ≤ a) :
    (List.range n).map (fun i => cellOf (c ++ placed b r) (a + i)) = (List.range n).map (fun i => cellOf c (a + i)) := by
  apply List.map_congr_left
  intro i hi
  apply get_append_of_lt
  intro e he
  have := placed_keys b r e he
  simp at hi
  omega

/-- The bytes placed read back. -/
theorem range_placed_in (c : List Host.Cell) (b : Nat) (r : List (BitVec 8)) (hc : ∀ e ∈ c, e.1 < b ∨ b + r.length ≤ e.1) :
    (List.range r.length).map (fun i => cellOf (c ++ placed b r) (b + i)) = r := by
  apply List.ext_getElem
  · simp
  · intro i h1 h2
    simp only [List.getElem_map, List.getElem_range]
    rw [get_append_ge, cellOf_placed b r h2]
    intro e he
    have := hc e he
    simp at h1
    omega

theorem leBytes_length (n v : Nat) : (leBytes n v).length = n := by
  induction n generalizing v with
  | zero => rfl
  | succ n ih => simp [leBytes, ih]

theorem sha256_length (l : List (BitVec 8)) : (sha256 l).length = 32 := by
  simp [sha256, beBytes, leBytes_length]

theorem recBytes_length (a : Nat) (p : BitVec 2048) : (recBytes a p).length = 264 := by
  simp [recBytes, leBytes_length]

theorem recBytes_crc (a : Nat) (p : BitVec 2048) : field4 (recBytes a p) 260 = (frameCrc a p).toNat := by
  have h : (leBytes 4 a ++ leBytes 256 p.toNat).length = 260 := by simp [leBytes_length]
  have hd : (recBytes a p).drop 260 = leBytes 4 (frameCrc a p).toNat := by
    unfold recBytes
    rw [← h, List.drop_left]
  have := (frameCrc a p).isLt
  unfold field4 slice
  rw [hd, List.take_of_length_le (by simp [leBytes_length])]
  simp only [leBytes, leNat, BitVec.toNat_ofNat]
  omega

/-- The header of slot 0 but for its ROOT. -/
def hdrCells : List Host.Cell :=
  (cellsAt (slotBase 0) (hdr0 1)).filter (fun e => !(slotBase 0 + 0x40 ≤ e.1 && e.1 < slotBase 0 + 0x60))

/-- What ROOT of slot 0 must be with empty digests. -/
def rootBytes : List (BitVec 8) := sha256 ((List.range 2048).map (fun i => cellOf hdrCells (slotBase 0 + 0x200 + i)))

/-- A state that checks the image of slot 0, with ROOT as given. -/
def rootState (lc st m : Nat) (root : List (BitVec 8)) (l : List (Fld × Nat × Nat × Nat)) : State :=
  State.reset.dv (fun d => ((({ d with cfg := { d.cfg with slot := 0, order := [1, 2] } } : Dev).md m).st
    ([(F.CFG_STATUS_STATE, 0, 0, st), (F.SEC_LCS_STATE, 0, 0, lc)] ++ l)).cel
      (hdrCells ++ placed (slotBase 0 + 0x40) root))

theorem rootState_range (lc st m : Nat) (root : List (BitVec 8)) (l : List (Fld × Nat × Nat × Nat)) (a n : Nat) :
    (rootState lc st m root l).dev.cellarRange a n =
      (List.range n).map (fun i => cellOf (hdrCells ++ placed (slotBase 0 + 0x40) root) (a + i)) := by
  have hsf (d : Dev) (l : List (Fld × Nat × Nat × Nat)) : (d.st l).cfg = d.cfg := by
    induction l generalizing d with
    | nil => rfl
    | cons x l ih => exact ih _
  unfold Dev.cellarRange
  apply List.map_congr_left
  intro i _
  have hj : (rootState lc st m root l).dev.cfg = { State.reset.dev.cfg with
      slot := 0, order := [1, 2], cellar := hdrCells ++ placed (slotBase 0 + 0x40) root } := by
    unfold rootState State.dv Dev.cel
    simp only [hsf]
    rfl
  unfold Dev.cellar Dev.cellarCell Dev.cellarAddr
  rw [hj]
  rfl

theorem rootState_rootOk (lc st m : Nat) (root : List (BitVec 8)) (l : List (Fld × Nat × Nat × Nat))
    (hr : root.length = 32) :
    (rootState lc st m root l).dev.rootOk (slotBase 0) = (rootBytes == root) := by
  have hk : ∀ e ∈ hdrCells, e.1 < slotBase 0 + 0x40 ∨ slotBase 0 + 0x40 + root.length ≤ e.1 := by
    rw [hr]; decide +kernel
  unfold Dev.rootOk Dev.header
  rw [rootState_range, rootState_range, slice_range _ (by omega), range_placed_out _ _ _ (by omega)]
  have h := range_placed_in hdrCells (slotBase 0 + 0x40) root hk
  rw [hr] at h
  have h' : (List.range 32).map (fun i => cellOf (hdrCells ++ placed (slotBase 0 + 0x40) root) (slotBase 0 + (0x40 + i))) =
      root := by simpa only [Nat.add_assoc] using h
  rw [h']
  unfold rootBytes
  rfl

/-- The digest of room 0's records in an erased slot 0. -/
def digest0 : List (BitVec 8) := sha256 ((List.range (264 * 2305)).map (fun _ => 0xFF))

/-- A state in which room 0's load from slot 0 has read its last record, with its digest table entry as given. -/
def digestState (active : Bool) (lc : Nat) (e : List (BitVec 8)) : State :=
  State.reset.dv (fun d => (((d.md mRun).onRoom 0 (fun r => { r with
    load := some { active := active, image := 0x04000000, records := 0x04000A00, pos := 2305, total := 2305 } })).st
      [(F.SEC_LCS_STATE, 0, 0, lc)]).cel (placed 0x04000200 e))

theorem digestState_reads (active : Bool) (lc : Nat) (e : List (BitVec 8)) (he : e.length = 32) :
    (digestState active lc e).dev.roomDigest ((digestState active lc e).dev.header 0x04000000) 0x04000000 0 = digest0 ∧
      (digestState active lc e).dev.digestEntry 0x04000000 0 = e := by
  have hrange (a n : Nat) : (digestState active lc e).dev.cellarRange a n =
      (List.range n).map (fun i => cellOf (placed 0x04000200 e) (a + i)) := rfl
  have hout {a n : Nat} (h : a + n ≤ 0x04000200 ∨ 0x04000220 ≤ a) :
      (List.range n).map (fun i => cellOf (placed 0x04000200 e) (a + i)) = (List.range n).map (fun _ => 0xFF) := by
    have := range_placed_out [] 0x04000200 e (a := a) (n := n) (by rw [he]; exact h)
    exact this
  have hh : (digestState active lc e).dev.header 0x04000000 = List.replicate 512 0xFF := by
    unfold Dev.header
    rw [hrange, hout (.inl (by omega))]
    decide +kernel
  have hin := range_placed_in [] 0x04000200 e (by intro x hx; cases hx)
  rw [he] at hin
  unfold Dev.roomDigest Dev.digestEntry
  rw [hh, show roomRecords (List.replicate 512 0xFF) 0x04000000 0 = 0x04000A00 by decide +kernel,
    show recsPerRoom (hdrKind (List.replicate 512 0xFF)) (hdrKeepBram (List.replicate 512 0xFF)) = 2305 by decide +kernel,
    hrange, hout (.inr (by omega)), hrange]
  exact ⟨rfl, hin⟩

theorem digest0_ok (active : Bool) (lc : Nat) :
    (digestState active lc digest0).dev.roomDigest ((digestState active lc digest0).dev.header 0x04000000) 0x04000000 0 =
      (digestState active lc digest0).dev.digestEntry 0x04000000 0 := by
  have h := digestState_reads active lc digest0 (sha256_length _)
  exact h.1.trans h.2.symm

/-- A value of 32 bytes with every bit changed is another one. -/
theorem map_not_ne {r : List (BitVec 8)} (h32 : r.length = 32) : r ≠ r.map (fun b => ~~~b) := by
  have hb : ∀ b : BitVec 8, b ≠ ~~~b := by decide +kernel
  cases r with
  | nil => cases h32
  | cons b r => exact fun h => hb b (List.cons.inj h).1

theorem digest0_wrong (active : Bool) (lc : Nat) :
    (digestState active lc (digest0.map (fun b => ~~~b))).dev.roomDigest
        ((digestState active lc (digest0.map (fun b => ~~~b))).dev.header 0x04000000) 0x04000000 0 ≠
      (digestState active lc (digest0.map (fun b => ~~~b))).dev.digestEntry 0x04000000 0 := by
  have h := digestState_reads active lc (digest0.map (fun b => ~~~b)) ((List.length_map _).trans (sha256_length _))
  rw [h.1, h.2]
  exact map_not_ne (sha256_length _)

/-- A root that is not right. -/
theorem rootBytes_ne : (rootBytes == rootBytes.map (fun b => ~~~b)) = false :=
  beq_eq_false_iff_ne.mpr (map_not_ne (sha256_length _))

/-- A state that copies channel 2, cleared but for one burst, to channel 3. -/
def dramState5 : State :=
  State.reset.dv (fun d => ((d.onDram 3 (fun x => { x with mem := [(4, { data := 6 })] })).onDram 2
    (fun x => { x with mem := [(5, { data := 7 })], zeroed := true })).st
      [(F.DRC_STAT_STATE, 3, 0, 5), (F.DRC_CFG_MIRROR, 2, 0, 1)])

theorem dramState5_good (b : Nat) : (dramState5.dev.burst 2 b).flips = 0 := by
  have h : (dramState5.dev.dram 2) = { mem := [(5, { data := 7 })], zeroed := true } := by decide +kernel
  unfold Dev.burst Dram.unlisted
  simp only [h, Map.get]
  split <;> rfl

/-- With a signature check that accepts, an image under a usable key is signed. -/
theorem imageSigOk_of (h : ∀ k m g, Config.ecdsaOk k m g = true) {d : Dev} {b : Nat}
    (hk : d.oikUsable (hdrKey (d.header b)) = true) : d.imageSigOk b = true := by
  simp [Dev.imageSigOk, h, hk]

/-- A value that a check lets pass. -/
theorem ok_of {ε α : Type} {x : Except ε α} {p : α} (h : x.toOption = some p) : x = .ok p := by
  cases x with
  | error e => cases h
  | ok a => exact congrArg _ (Option.some.inj h)

/-- The error of a check. -/
def errorOf {ε α : Type} : Except ε α → Option ε
  | .error e => some e
  | .ok _ => none

/-- A value that a check turns away. -/
theorem error_of {ε α : Type} {x : Except ε α} {e : ε} (h : errorOf x = some e) : x = .error e := by
  cases x with
  | error a => exact congrArg _ (Option.some.inj h)
  | ok a => cases h

/-- A fold whose every step returns what it was given. -/
theorem foldl_same {α β : Type} (f : β → α → β) (h : ∀ v x, f v x = v) (l : List α) (v : β) : l.foldl f v = v := by
  induction l with
  | nil => rfl
  | cons x l ih => rw [List.foldl_cons, h, ih]

/-- Minors 21 and above hold no truth table, so none of their bits belongs to a memory LUT (Table 2.4). -/
theorem memoryMask_zero (p : Plane) {idx : Nat} (h : 21 ≤ idx % 72) : p.memoryMask idx = 0 := by
  unfold Plane.memoryMask
  apply foldl_same
  intro v x
  have := (Config.lutBitAt x.2.1 (.tt x.2.2)).isLt
  have hne : (Config.lutBitAt x.2.1 (.tt x.2.2)).val / 51 ≠ idx % 72 := by omega
  simp [hne]

/-- Room 5's frame 71, as it stands at `scr`, with its memory bits none and some cells flipped. -/
def scrubState : State := scr State.reset [(71, 1)] [(F.ROOM_SCRUB_STAT_POSITION, 5, 0, 71)]

/-- The record that the frame was loaded from. -/
theorem scrubState_source : scrubState.dev.scrubSource 5 71 false =
    (scrubState.dev.header 0x400000, 0x400000 + 0xA00 + 264 * 72, 72) := by decide +kernel
theorem scrubState_record : scrubState.dev.record (0x400000 + 0xA00 + 264 * 72) = recBytes (frameAddr true 5 72) 1 := by
  decide +kernel
theorem scrubState_plain : scrubState.dev.plain (scrubState.dev.header 0x400000) 72 (recBytes (frameAddr true 5 72) 1) =
    1 := by decide +kernel
theorem scrubState_frame : Map.get (fun _ => 0) (scrubState.dev.room 5).act.frames 71 = 1 := by decide +kernel

/-- With `upset` of its cells flipped, the frame that the active plane holds at a position agrees with the CRC of the
record it was loaded from. -/
def frameAgrees (d : Dev) (n idx : Nat) (upset : BitVec 2048) : Prop :=
  let x := d.scrubSource n idx false
  let r := d.record x.2.1
  let p := d.plain x.1 x.2.2 r
  let mask := (d.room n).act.memoryMaskOf idx p
  (frameCrc (field4 r 0) (((Map.get (fun _ => 0) (d.room n).act.frames idx ^^^ upset) &&& ~~~mask) |||
    (p &&& mask))).toNat = field4 r 260

theorem scrubState_agrees : frameAgrees scrubState.dev 5 71 0 := by
  unfold frameAgrees
  simp only [scrubState_source, scrubState_record, scrubState_plain, scrubState_frame, Plane.memoryMaskOf]
  rw [memoryMask_zero _ (by decide)]
  decide +kernel

theorem scrubState_differs : ¬ frameAgrees scrubState.dev 5 71 3 := by
  unfold frameAgrees
  simp only [scrubState_source, scrubState_record, scrubState_plain, scrubState_frame, Plane.memoryMaskOf]
  rw [memoryMask_zero _ (by decide)]
  decide +kernel

/-! ### Ill-formed commands are refused -/

theorem test_governorCycle_sensor_twice :
    (Instr.governorCycle 0 [(3, .none), (3, .none)] []).wellFormed = false := by decide
theorem test_governorCycle_room_twice : (Instr.governorCycle 0 [] [(9, 1), (9, 2)]).wellFormed = false := by decide
theorem test_corRequestIssue_too_long :
    (Instr.corRequestIssue 0 0 0 0 0 0 0 (List.replicate 17 0)).wellFormed = false := by decide
theorem test_corTargetResponse_too_long :
    (Instr.corTargetResponse 0 0 0 (List.replicate 17 0)).wellFormed = false := by decide
theorem test_larRead_more_upsets_than_words : (Instr.larRead 0 0 0 1 ⟨[0, 0, 0], false⟩).wellFormed = false := by decide
theorem test_larWrite_empty : (Instr.larWrite 0 0 0 [] []).wellFormed = false := by decide
theorem test_larWrite_too_long : (Instr.larWrite 0 0 0 (List.replicate 17 0) []).wellFormed = false := by decide
theorem test_larWrite_more_marks_than_words : (Instr.larWrite 0 0 0 [0] [true, true]).wellFormed = false := by decide
theorem test_dramWrite_empty : (Instr.dramWrite 0 0 0 []).wellFormed = false := by decide
theorem test_eventPost_empty : (Instr.eventPost 0 0 0 0 []).wellFormed = false := by decide
theorem test_arbDecision_lowered_twice : (Instr.arbDecision 0 { lowered := [7, 7] }).wellFormed = false := by decide
theorem test_spiBurstWrite_more_drains_than_words : (Instr.spiBurstWrite 0 [1] [0, 0, 0]).wellFormed = false := by decide
theorem test_dramWrite_too_long : (Instr.dramWrite 0 0 0 (List.replicate 17 0)).wellFormed = false := by decide
theorem test_eventPost_too_long : (Instr.eventPost 0 0 0 0 (List.replicate 17 0)).wellFormed = false := by decide
theorem test_arbDecision_good : (Instr.arbDecision 0 { lowered := [7, 8] }).wellFormed = true := by decide

/-! ### Figures that the spec works out -/

/-- R114's check value over the ASCII bytes "123456789". -/
theorem test_crc32c_check : crc32c [0x31, 0x32, 0x33, 0x34, 0x35, 0x36, 0x37, 0x38, 0x39] = 0xE3069283 := by
  decide +kernel

/-- R263's check value over the same bytes. -/
theorem test_crc16_check : crc16Bytes [0x31, 0x32, 0x33, 0x34, 0x35, 0x36, 0x37, 0x38, 0x39] = 0x29B1 := by
  decide +kernel

/-- Example 2.1: one truth table gives both the exclusive OR and the AND of A1 and A2. -/
theorem test_lut_xor_and : ∀ a : BitVec 2,
    lutO5 0x8888888866666666 (a.setWidth 6) = (a.getLsbD 0 ^^ a.getLsbD 1) ∧
      (0x8888888866666666#64).getLsbD (32 + lutIdx (a.setWidth 6) % 32) = (a.getLsbD 0 && a.getLsbD 1) := by decide +kernel

/-- Example 2.3: line 2 of row 17 driven from column 3 and then from column 5. -/
theorem test_guard_line_driven_twice :
    ((guardCheck [] 287 (2 ^ 871)).toOption.bind fun m =>
      match guardCheck m 431 (2 ^ 871) with
      | .error h => some (h.rule, h.prior, h.bit)
      | .ok _ => none) = some (2, 3, 0x367) := by decide +kernel

/-- Example 2.3: what ROOM_GUARD then reads, and the FAULT's detail. -/
theorem test_guard_register :
    (State.reset.dev.guardRefused 9 431 (frameAddr true 9 432) { rule := 2, prior := 3, bit := 0x367 }).reg .ROOM_GUARD 9 =
      0xC18D7B67 ∧ frameAddr true 9 432 = 0x241AF000 := by decide +kernel

/-- Example 4.1: the address of frame 9 of BRAM_12 in Room 9. -/
theorem test_bram_frame_address : frameAddr true 9 (2305 + 225) = 0x250E1000 := by decide

/-- Example 7.1: quadrant, bank, row, region and Hatch address of Larder word 0x0A_4C3B. -/
theorem test_larder_word_place : larQuad 0x0A4C3B = 1 ∧ larBank 0x0A4C3B = 27 ∧ larRow 0x0A4C3B = 73 ∧
    larRegion 0x0A4C3B = 0x1B49 ∧ winWord 0x445261DC = 0x0A4C3B := by decide

/-- Example 9.1: the Hatch address of DRAM word 0x12_3450 on channel 0, and its bank. -/
theorem test_dram_word_place : dramWindow 0x5091A280 = some 0 ∧ dramWord 0x5091A280 = 0x123450 ∧
    burstBank (0x123450 / 2) = 8 := by decide

/-- Example 10.2: a due time 1,500,000 ticks ahead. -/
theorem test_due_time :
    (evb State.reset [] mRun (fun d => { d with ev := { d.ev with time := 0x123FFFFE00 } })).dev.dueTicks 5
      0x0016E16020100000 = 0x123FFFFE00 + 1500000 := by decide +kernel

/-- Example 13.1: the record of Example 10.2 posted to queue 5,000 in two halves. -/
theorem test_host_post : (match exec (.hbPostHalf1 5000 0x0016E160)
      (hbb State.reset { latch := some (5000, 0x20100000) } []) with
    | .next t => t.hb.posts
    | _ => []) = [(5000, 0x0016E16020100000)] := by decide +kernel

/-- Example 18.1: after a FAULT of source 0x5D and 20 of source 0x53, ERR_FIRST, ERR_STAT and ERR_CNT_83. -/
theorem test_error_unit_fills :
    let d := (List.range 20).foldl (fun d q => d.fault 0x53 (4864 + q)) ((State.reset.dev.md mRun).fault 0x5D 0x13)
    d.regView .ERR_FIRST 0 0 = 0xC000005D ∧ d.regView .ERR_STAT 0 0 = 0xE8100004 ∧ d.regView .ERR_CNT 83 0 = 20 := by decide +kernel

/-- Example 18.1: after the acknowledgement. -/
theorem test_error_unit_ack :
    let d := (List.range 20).foldl (fun d q => d.fault 0x53 (4864 + q)) (State.reset.dev.fault 0x5D 0x13)
    (match exec .errAck (State.reset.dv (fun _ => d)) with
      | .next t => (t.dev.reg .ERR_FIRST, t.dev.reg .ERR_FIRST_DETAIL, t.dev.gf F.ERR_STAT_QLEN)
      | _ => (0, 0, 0)) = (0xC0000053, 0x1300, 15) := by decide +kernel

/-! ### The block as a whole -/

/-- Right after power-up both invariants hold. -/
theorem witness_invariants : State.reset.channelsOk = true ∧ State.reset.hb.ok = true := by decide +kernel

/-- A command waits, and the step performs it. -/
theorem witness_StepTakesTheFrontCommand :
    ∃ (c : Instr) (l : List Instr) (s : State), s.pending = c :: l ∧ step s = exec c (s.withPending l) :=
  ⟨.errAck, [.resetNLow], { State.reset with pending := [.errAck, .resetNLow] }, rfl, rfl⟩

/-- No command waits, and the step lets a tick of device time pass. -/
theorem witness_step_idle : ∃ s : State, s.pending = [] ∧ step s = .next (s.onDev (fun d => d.tick 1)) :=
  ⟨State.reset, rfl, rfl⟩

/-- A command that is answered by a next state, and a step of it from a state that meets both invariants. -/
theorem witness_CommandsLeaveTheQueue :
    (∃ (c : Instr) (s t : State), exec c s = .next t) ∧
    (∃ s t : State, s.channelsOk = true ∧ s.hb.ok = true ∧ s.pending ≠ [] ∧ step s = .next t) :=
  ⟨⟨.errAck, State.reset, _, rfl⟩,
   ⟨{ State.reset with pending := [.txResync 9 1 0] }, _, by decide +kernel, by decide +kernel, by decide, rfl⟩⟩

/-- A command put at the front by the host is the one that the step performs. -/
theorem test_withFetchWord_without_bits (n w : Nat) : State.reset.withFetchWord n w = State.reset := rfl

/-! ### Operands and states that meet the statements' hypotheses -/

/-- Operands and states that meet the hypotheses of every clause of `PowerAndRails`, part 1. -/
theorem witness_PowerAndRails_1 :
    (∃ s : State, s.dev.on = false) ∧
    (∃ s : State, s.dev.on = true) ∧
    (∃ r : Fin 28, ∃ s : State, s.dev.on = true ∧ (s.dev.mode ≠ mRamp ∨ ((if 10 ≤ r.val then (s.dev.setVccio
        (r.val - 10) true).sf F.IOB_STAT_MISMATCH (r.val - 10) 0 0 else s.dev).sf F.GBL_RAIL_STAT_GOOD 0 0
        (s.dev.gf F.GBL_RAIL_STAT_GOOD ||| 2 ^ r.val)).rampDone = false ∨ s.dev.sec.resetHeld = true) ∧ (r ≠ 4 ∨
        s.dev.mode = mRamp ∨ s.dev.gb F.SEC_KEYS_ERASE_PENDING = false ∨ s.dev.secWorking = true)) ∧
    (∃ s : State, s.dev.on = true ∧ s.dev.mode ≠ mRamp ∧ s.dev.gb F.SEC_KEYS_ERASE_PENDING = true ∧
        s.dev.secWorking = false) ∧
    (∃ r : Fin 28, ∃ s : State, s.dev.railGood r.val = false) ∧
    (∃ r : Fin 28, ∃ s : State, s.dev.railGood r.val = true ∧ (r ≠ 4 ∨ s.dev.cfg.cw = none) ∧ s.dev.railUsed
        r.val = false) :=
  ⟨⟨(State.reset.dv (·.md mOff)), by decide +kernel⟩,
   ⟨(State.reset.dv (·.md mRun)), by decide +kernel⟩,
   ⟨27, (State.reset.dv (·.md mRun)), by decide +kernel⟩,
   ⟨(State.reset.dv (fun d => (d.md mRun).st [(F.SEC_KEYS_ERASE_PENDING, 0, 0, 1)])), by decide +kernel⟩,
   ⟨27, (State.reset.dv (fun d => (d.md mRun).st [(F.GBL_RAIL_STAT_GOOD, 0, 0, 0)])), by decide +kernel⟩,
   ⟨27, (State.reset.dv (fun d => (d.md mRun).st [(F.GBL_RAIL_STAT_GOOD, 0, 0, 0xFFFFFFF), (F.IOB_CFG_STD, 17,
        0, 0)])), by decide +kernel⟩⟩

/-- Operands and states that meet the hypotheses of every clause of `PowerAndRails`, part 2. -/
theorem witness_PowerAndRails_2 :
    (∃ w : CwWork, ∃ s : State, s.dev.railGood 4 = true ∧ s.dev.cfg.cw = some w ∧ w.ticket = false) ∧
    (∃ r : Fin 28, ∃ s : State, s.dev.railGood r.val = true ∧ r ≠ 4 ∧ s.dev.railUsed r.val = true ∧ s.dev.on =
        true ∧ s.dev.mode ≠ mRamp) :=
  ⟨⟨{ op := 1, addr := 0x50000 }, (State.reset.dv (fun d =>
        ({ d.md mRun with cfg := { d.cfg with cw := some { op := 1, addr := 0x50000 } } }).st
        [(F.GBL_RAIL_STAT_GOOD, 0, 0, 0xFFFFFFF)])), by decide +kernel⟩,
   ⟨0, (State.reset.dv (fun d => (d.md mRun).st [(F.GBL_RAIL_STAT_GOOD, 0, 0, 0xFFFFFFF), (F.SEC_POL_POL, 0, 0,
        1)])), by decide +kernel⟩⟩

/-- Operands and states that meet the hypotheses of every clause of `ResetsAndHoldPin`, part 1. -/
theorem witness_ResetsAndHoldPin_1 :
    (∃ s : State, s.dev.on = true ∧ s.dev.mode ≠ mRamp ∧ s.dev.pin.resetN = true) ∧
    (∃ s : State, s.dev.mode = mRamp ∧ s.dev.pin.resetN = true) ∧
    (∃ s : State, s.dev.pin.resetN = false) ∧
    (∃ r : Fin 28, ∃ s : State, s.dev.on = true ∧ s.dev.mode ≠ mRamp ∧ (r = 0 ∨ r = 1 ∨ r = 2 ∨ r = 3 ∨ r = 6)) ∧
    (∃ r : Fin 28, ∃ s : State, s.dev.on = false ∨ ¬(r = 0 ∨ r = 1 ∨ r = 2 ∨ r = 3 ∨ r = 6)) ∧
    (∃ s : State, s.dev.mode ≠ mRamp ∨ s.dev.sec.resetHeld = true ∨
        ({ s.dev with pin := { s.dev.pin with resetN := true } } : Dev).rampDone = false) :=
  ⟨⟨(up State.reset mRun true), by decide +kernel⟩,
   ⟨(up State.reset mRamp true), by decide +kernel⟩,
   ⟨(up State.reset mRun false), by decide +kernel⟩,
   ⟨6, (up State.reset mRun true), by decide +kernel⟩,
   ⟨5, (up State.reset mHold false), by decide +kernel⟩,
   ⟨(up State.reset mRun true), by decide +kernel⟩⟩

/-- Operands and states that meet the hypotheses of every clause of `ResetsAndHoldPin`, part 2. -/
theorem witness_ResetsAndHoldPin_2 :
    (∃ s : State, s.dev.mode = mRamp ∧ s.dev.sec.resetHeld = false ∧
        ({ s.dev with pin := { s.dev.pin with resetN := true } } : Dev).rampDone = true ∧ lcCode
        s.dev.sec.lcCopies = 0) ∧
    (∃ level : Bool, ∃ s : State, s.dev.mode ≠ mDeep ∨ level = false ∨ s.dev.pin.holdN = true) ∧
    (∃ x : Sleep, ∃ s : State, s.dev.mode = mDeep ∧ s.dev.gov.sleep = some x ∧ x.waking = false ∧ s.dev.pin.holdN
        = false) ∧
    (∃ x : Sleep, ∃ s : State, s.dev.mode = mDeep ∧ s.dev.gov.sleep = some x ∧ x.waking = false) ∧
    (∃ x : Sleep, ∃ s : State, s.dev.mode = mDeep ∧ s.dev.gov.sleep = some x ∧ x.waking = true) ∧
    (∃ s : State, s.dev.mode ≠ mDeep) :=
  ⟨⟨((up State.reset mRamp false).dv (fun d => ({ d with sec := { d.sec with lcCopies := [] } }).st
        [(F.GBL_RAIL_STAT_GOOD, 0, 0, 0xFFFFFFF)])), by decide +kernel⟩,
   ⟨true, (hp State.reset mRun false none), by decide +kernel⟩,
   ⟨{}, (hp State.reset mDeep false (some {})), by decide +kernel⟩,
   ⟨{}, (hp State.reset mDeep false (some {})), by decide +kernel⟩,
   ⟨{waking := true}, (hp State.reset mDeep false (some {waking := true})), by decide +kernel⟩,
   ⟨(hp State.reset mRun false (some {waking := true})), by decide +kernel⟩⟩

/-- Operands and states that meet the hypotheses of every clause of `ModeRequests`. -/
theorem witness_ModeRequests :
    (∃ c : Instr, ∃ s : State, c ∈ [Instr.reqRun, Instr.reqQuiet, Instr.reqHold, Instr.reqDeepHold,
        Instr.reqTest] ∧ s.dev.gf F.GBL_MODE_REQ_ST = 1) ∧
    (∃ c : Instr, ∃ r : Nat, ∃ s : State, (c, r) ∈ [(Instr.reqRun, 5), (Instr.reqQuiet, 6), (Instr.reqHold, 7),
        (Instr.reqDeepHold, 8), (Instr.reqTest, 10)] ∧ s.dev.on = true ∧ s.dev.gf F.GBL_MODE_REQ_ST ≠ 1 ∧
        s.dev.requestOk r = false) ∧
    (∃ c : Instr, ∃ r : Nat, ∃ s : State, (c, r) ∈ [(Instr.reqRun, 5), (Instr.reqQuiet, 6), (Instr.reqHold, 7),
        (Instr.reqDeepHold, 8), (Instr.reqTest, 10)] ∧ s.dev.on = true ∧ s.dev.mode ≠ mDeep ∧ s.dev.gf
        F.GBL_MODE_REQ_ST ≠ 1 ∧ s.dev.requestOk r = true) ∧
    (∃ s : State, s.dev.mode = mDeep ∧ s.dev.gf F.GBL_MODE_REQ_ST ≠ 1) :=
  ⟨⟨Instr.reqTest, (State.reset.dv (·.st [(F.GBL_MODE_REQ_ST, 0, 0, 1)])), by decide +kernel⟩,
   ⟨Instr.reqTest, 10, (State.reset.dv (fun d => (d.md mLoad).st [(F.GBL_MODE_REQ_ST, 0, 0, 2)])),
        by decide +kernel⟩,
   ⟨Instr.reqQuiet, 6, (State.reset.dv (fun d => (d.md mRun).st [(F.GBL_MODE_REQ_ST, 0, 0, 0)])),
        by decide +kernel⟩,
   ⟨(State.reset.dv (fun d => (d.md mDeep).st [(F.GBL_MODE_REQ_ST, 0, 0, 0)])), by decide +kernel⟩⟩

/-- Operands and states that meet the hypotheses of every clause of `GovernorCycleAndAvs`, part 1. -/
theorem witness_GovernorCycleAndAvs_1 :
    (∃ s : State, s.dev.mode = mOff ∨ s.dev.mode = mRamp ∨ s.dev.mode = mDeep ∧ ∀ (x : Sleep), s.dev.gov.sleep =
        some x → x.waking = false ∨ x.next = 20) ∧
    (∃ s : State, s.dev.mode = mRun ∧ s.dev.gov.sleep = none ∧ s.dev.pin.holdN = false) ∧
    (∃ s : State, s.dev.mode = mRun ∧ s.dev.gov.sleep = none ∧ s.dev.pin.holdN = true ∧ s.dev.tjCrit ≤ s.dev.tMax) ∧
    (∃ f : AvsFrame, ∃ v : BitVec 16, ∃ w : AvsWork, ∃ s : State, s.dev.gov.avs = some w ∧ s.dev.gov.sleep = none
        ∧ w.written = true ∧ (f = AvsFrame.status true ∧ w.voltage = false ∧ w.near = true ∨ f = AvsFrame.voltage
        v ∧ w.voltage = true ∧ w.done = true ∧ w.target ≤ v.toNat + s.dev.gf F.GOV_AVS_TOL ∧ v.toNat ≤ w.target +
        s.dev.gf F.GOV_AVS_TOL)) ∧
    (∃ w : AvsWork, ∃ s : State, s.dev.gov.avs = some w ∧ w.crcErr = false) ∧
    (∃ c : Instr, ∃ f : AvsFrame, ∃ w : AvsWork, ∃ s : State, s.dev.gov.avs = some w ∧ s.dev.gov.sleep = none ∧
        (c = Instr.avsResponse f false ∧ w.crcErr = true ∨ c = Instr.avsExchangeTimeout ∧ s.dev.gf F.GOV_AVS_TO ≤
        w.cycles)) :=
  ⟨⟨(State.reset.dv (fun d => (d.md mDeep))), by decide +kernel⟩,
   ⟨(State.reset.dv (fun d => { d.md mRun with pin := { d.pin with holdN := false } })), by decide +kernel⟩,
   ⟨(State.reset.dv (fun d => ({ d.md mRun with pin := { d.pin with holdN := true } }).st [(F.GOV_TLIM_TJ_CRIT,
        0, 0, 0)])), by decide +kernel⟩,
   ⟨(.status true), 0, { rail := 0, target := 800, raise := true, written := true, near := true }, (av
        State.reset { rail := 0, target := 800, raise := true, written := true, near := true }),
        by decide +kernel⟩,
   ⟨{ rail := 0, target := 800, raise := true }, (av State.reset { rail := 0, target := 800, raise := true }),
        by decide +kernel⟩,
   ⟨(.avsResponse (.status true) false), (.status true),
        { rail := 0, target := 800, raise := true, crcErr := true }, (av State.reset
        { rail := 0, target := 800, raise := true, crcErr := true } (fun g => { g with raiseFails := 2 })),
        by decide +kernel⟩⟩

/-- Operands and states that meet the hypotheses of every clause of `GovernorCycleAndAvs`, part 2. -/
theorem witness_GovernorCycleAndAvs_2 :
    (∃ w : AvsWork, ∃ s : State, s.dev.gov.avs = some w ∧ w.written = false) ∧
    (∃ done : Bool, ∃ w : AvsWork, ∃ s : State, s.dev.gov.avs = some w ∧ w.written = true ∧ w.voltage = false ∧
        (done && w.near) = false) ∧
    (∃ v : BitVec 16, ∃ w : AvsWork, ∃ s : State, s.dev.gov.avs = some w ∧ w.written = true ∧ w.voltage = true ∧
        ((w.done && decide (w.target ≤ v.toNat + s.dev.gf F.GOV_AVS_TOL ∧ v.toNat ≤ w.target + s.dev.gf
        F.GOV_AVS_TOL)) = false)) ∧
    (∃ k : Fin 2, ∃ l : List Nat, ∃ s : State, s.dev.gov.avs = none ∧ s.dev.gov.asks = k.val :: l) ∧
    (∃ s : State, s.dev.gov.avs = none ∧ s.dev.gov.asks = []) ∧
    (∃ s : State, s.dev.gov.avs = none ∨ ∃ w, s.dev.gov.avs = some w ∧ w.cycles < s.dev.gf F.GOV_AVS_TO) :=
  ⟨⟨{ rail := 1, target := 800, raise := true, crcErr := true }, (av State.reset
        { rail := 1, target := 800, raise := true, crcErr := true }), by decide +kernel⟩,
   ⟨true, { rail := 1, target := 800, raise := true, written := true, crcErr := true }, (av State.reset
        { rail := 1, target := 800, raise := true, written := true, crcErr := true }), by decide +kernel⟩,
   ⟨0xFFFF, { rail := 1, target := 800, raise := true, written := true, done := true, voltage := true }, (av
        State.reset { rail := 1, target := 800, raise := true, written := true, done := true, voltage := true }),
        by decide +kernel⟩,
   ⟨0, [1], (State.reset.dv (fun d => { d with gov := { d.gov with asks := [0, 1] } })), by decide +kernel⟩,
   ⟨(State.reset.dv (fun d => d.md mHold)), by decide +kernel⟩,
   ⟨(av State.reset { rail := 0, target := 800, raise := true, cycles := 0 } |>.dv (fun d => d.st
        [(F.GOV_AVS_TO, 0, 0, 1)])), by decide +kernel⟩⟩

/-- Operands and states that meet the hypotheses of every clause of `Tickets`, part 1. -/
theorem witness_Tickets_1 :
    (∃ n : Fin 256, ∃ s : State, s.dev.govAsleep = false ∧ (s.dev.tkState n.val = tkFree ∨ s.dev.tkState n.val =
        tkDone ∨ s.dev.tkState n.val = tkExpired ∨ s.dev.tkState n.val = tkFailed)) ∧
    (∃ n : Fin 256, ∃ s : State, s.dev.govAsleep = false ∧ s.dev.tkState n.val ≠ tkFree ∧ s.dev.tkState n.val ≠
        tkRunning) ∧
    (∃ n : Fin 256, ∃ s : State, s.dev.govAsleep = false ∧ s.dev.tkState n.val = tkRunning ∧ s.dev.tkKind n.val =
        5) ∧
    (∃ n : Fin 256, ∃ st : BitVec 3, ∃ s : State, s.dev.govAsleep = false ∧ s.dev.tkState n.val ≠ st.toNat ∧ (2 =
        st.toNat ∨ 3 < st.toNat ∨ s.dev.tkState n.val = tkRunning ∧ st ≠ 3 ∨ s.dev.tkState n.val = tkRunning ∧
        s.dev.tkKind n.val ≠ 5 ∨ s.dev.tkState n.val ≠ tkRunning ∧ st = 3 ∨ s.dev.tkState n.val = tkSuspended ∧ st
        = 1 ∨ s.dev.tkState n.val = 7 ∧ st = 1)) ∧
    (∃ n : Fin 256, ∃ st : BitVec 3, ∃ s : State, s.dev.govAsleep = true ∨ s.dev.tkState n.val = st.toNat) ∧
    (∃ n : Fin 256, ∃ s : State, s.dev.tkState n.val ≠ tkRunning) :=
  ⟨⟨255, (tk State.reset 255 3 5 0 [(F.GOV_TKT_W3_DEADLINE, 255, 0, 0)]), by decide +kernel⟩,
   ⟨0, (tk State.reset 0 3 tkSuspended 0 []), by decide +kernel⟩,
   ⟨3, (tk State.reset 3 5 2 0 []), by decide +kernel⟩,
   ⟨3, 5, (tk State.reset 3 0 2 0 []), by decide +kernel⟩,
   ⟨3, 4, (tk State.reset 3 0 4 0 []), by decide +kernel⟩,
   ⟨3, (tk State.reset 3 0 4 0 []), by decide +kernel⟩⟩

/-- Operands and states that meet the hypotheses of every clause of `Tickets`, part 2. -/
theorem witness_Tickets_2 :
    ∃ n : Fin 256, ∃ s : State, s.dev.tkState n.val = tkRunning :=
  ⟨3, (tk State.reset 3 1 2 7 [(F.LAR_TEST_STAT_IN_PASS, 0, 0, 0), (F.LAR_TEST_CNT_PASSES, 0, 0, 8)]),
        by decide +kernel⟩

/-- Operands and states that meet the hypotheses of every clause of `QuiesceAndJobs`, part 1. -/
theorem witness_QuiesceAndJobs_1 :
    (∃ n : Fin 64, ∃ s : State, (s.dev.room n.val).quiesce.asked = false) ∧
    (∃ n : Fin 64, ∃ s : State, (s.dev.room n.val).gsr = true) ∧
    (∃ n : Fin 64, ∃ s : State, (s.dev.room n.val).quiesce.asked = true ∧ (s.dev.room n.val).gsr = false ∧
        (s.dev.room n.val).quiesce.purpose = 0) ∧
    (∃ n : Fin 64, ∃ m : Fin 64, ∃ s : State, (s.dev.room n.val).quiesce.asked = true ∧ (s.dev.room n.val).gsr =
        false ∧ (s.dev.room n.val).quiesce.purpose = 1 ∧ m ≠ n ∧ s.dev.gf F.GOV_ROOM_PSTATE m.val = 0 ∧
        (s.dev.room m.val).quiesce.agreed = false) ∧
    (∃ n : Fin 64, ∃ s : State, (s.dev.room n.val).quiesce.asked = true ∧ (s.dev.room n.val).gsr = false ∧
        (s.dev.room n.val).quiesce.delays < s.dev.gf F.GOV_SLEEP_DELAY_MAX) ∧
    (∃ n : Fin 64, ∃ s : State, (s.dev.room n.val).quiesce.delayed = true ∧ s.dev.gb F.GOV_ROOM_AUTO_AGREE n.val
        = false) :=
  ⟨⟨63, (qu State.reset 63 {}), by decide +kernel⟩,
   ⟨63, (qu State.reset 63 {asked := true} [] true), by decide +kernel⟩,
   ⟨63, (qu State.reset 63 {asked := true} [(F.ROOM_PLANE_STAT_SH_STATE, 63, 0, 2)]), by decide +kernel⟩,
   ⟨5, 7, (qu State.reset 5 {asked := true, purpose := 1} [(F.GOV_ROOM_PSTATE, 7, 0, 0)]), by decide +kernel⟩,
   ⟨63, (qu State.reset 63 {asked := true, purpose := 1} [(F.GOV_SLEEP_DELAY_MAX, 0, 0, 1)]),
        by decide +kernel⟩,
   ⟨63, (qu State.reset 63 {delayed := true, delays := 2} [(F.GOV_ROOM_AUTO_AGREE, 63, 0, 0)]),
        by decide +kernel⟩⟩

/-- Operands and states that meet the hypotheses of every clause of `QuiesceAndJobs`, part 2. -/
theorem witness_QuiesceAndJobs_2 :
    (∃ n : Fin 64, ∃ s : State, (s.dev.room n.val).quiesce.delayed = true ∧ s.dev.gb F.GOV_ROOM_AUTO_AGREE n.val
        = true ∧ (s.dev.room n.val).quiesce.purpose = 0) ∧
    (∃ n : Fin 64, ∃ s : State, (s.dev.room n.val).quiesce.delayed = false) ∧
    (∃ n : Fin 64, ∃ c : Instr, ∃ code : Nat, ∃ qpN : BitVec 8, ∃ s : State, (s.dev.room n.val).quiesce.asked =
        true ∧ (s.dev.room n.val).gsr = false ∧ (c = Instr.quiesceAnswer n 3 qpN ∧ code = 1 ∨ c =
        Instr.quiesceAnswer n 2 qpN ∧ code = 2 ∧ s.dev.gf F.GOV_SLEEP_DELAY_MAX ≤ (s.dev.room
        n.val).quiesce.delays ∨ c = Instr.quiesceTimeout n ∧ code = 3) ∧ (s.dev.room n.val).quiesce.purpose = 0 ∧
        (¬(s.dev.gf F.GOV_ROOM_CLASS n.val = clJob ∧ (s.dev.mode = mQuiet ∨ 3 ≤ s.dev.gf F.GOV_STAT_LEVEL) ∧
        s.dev.gb F.GOV_ROOM_FORCE_PARK n.val = true))) ∧
    (∃ n : Fin 64, ∃ c : Instr, ∃ code : Nat, ∃ qpN : BitVec 8, ∃ s : State, (s.dev.room n.val).quiesce.asked =
        true ∧ (s.dev.room n.val).gsr = false ∧ (c = Instr.quiesceAnswer n 3 qpN ∧ code = 1 ∨ c =
        Instr.quiesceAnswer n 2 qpN ∧ code = 2 ∧ s.dev.gf F.GOV_SLEEP_DELAY_MAX ≤ (s.dev.room
        n.val).quiesce.delays ∨ c = Instr.quiesceTimeout n ∧ code = 3) ∧ (s.dev.room n.val).quiesce.purpose = 0 ∧
        (s.dev.gf F.GOV_ROOM_CLASS n.val = clJob ∧ (s.dev.mode = mQuiet ∨ 3 ≤ s.dev.gf F.GOV_STAT_LEVEL) ∧
        s.dev.gb F.GOV_ROOM_FORCE_PARK n.val = true)) ∧
    (∃ n : Fin 64, ∃ c : Instr, ∃ code : Nat, ∃ qpN : BitVec 8, ∃ s : State, (s.dev.room n.val).quiesce.asked =
        true ∧ (s.dev.room n.val).gsr = false ∧ (c = Instr.quiesceAnswer n 3 qpN ∧ code = 1 ∨ c =
        Instr.quiesceAnswer n 2 qpN ∧ code = 2 ∧ s.dev.gf F.GOV_SLEEP_DELAY_MAX ≤ (s.dev.room
        n.val).quiesce.delays ∨ c = Instr.quiesceTimeout n ∧ code = 3) ∧ (s.dev.room n.val).quiesce.purpose = 1) ∧
    (∃ n : Fin 64, ∃ u : Nat, ∃ s : State, (s.dev.room n.val).gsr = false ∧ u ∈ s.dev.jobsOf n.val) :=
  ⟨⟨63, (qu State.reset 63 {delayed := true, delays := 2} [(F.GOV_ROOM_AUTO_AGREE, 63, 0, 1)]),
        by decide +kernel⟩,
   ⟨63, (qu State.reset 63 {delays := 2} [(F.GOV_ROOM_AUTO_AGREE, 63, 0, 1)]), by decide +kernel⟩,
   ⟨63, (.quiesceAnswer 63 3 9), 1, 9, (qu State.reset 63 {asked := true} [(F.GOV_ROOM_CLASS, 63, 0, clJob),
        (F.GOV_ROOM_FORCE_PARK, 63, 0, 0)]), by decide +kernel⟩,
   ⟨6, (.quiesceTimeout 6), 3, 9, (qu State.reset 6 {asked := true} [(F.GOV_ROOM_CLASS, 6, 0, clJob),
        (F.GOV_ROOM_FORCE_PARK, 6, 0, 1), (F.GOV_STAT_LEVEL, 0, 0, 3)]), by decide +kernel⟩,
   ⟨6, (.quiesceAnswer 6 2 9), 2, 9, (qu State.reset 6 {asked := true, purpose := 1, delays := 15}
        [(F.GOV_SLEEP_DELAY_MAX, 0, 0, 1)]), by decide +kernel⟩,
   ⟨7, 200, (qu State.reset 7 {} [(F.GOV_TKT_W0_STATE, 200, 0, tkRunning), (F.GOV_TKT_W0_KIND, 200, 0, 5),
        (F.GOV_TKT_W0_TARGET, 200, 0, 7)]), by decide +kernel⟩⟩

/-- Operands and states that meet the hypotheses of every clause of `QuiesceAndJobs`, part 3. -/
theorem witness_QuiesceAndJobs_3 :
    ∃ n : Fin 64, ∃ s : State, (s.dev.room n.val).gsr = true ∨ s.dev.jobsOf n.val = [] :=
  ⟨7, (qu State.reset 7 {} [] true), by decide +kernel⟩

/-- Operands and states that meet the hypotheses of every clause of `ParkingARoom`. -/
theorem witness_ParkingARoom :
    (∃ n : Fin 64, ∃ timedOut : Bool, ∃ s : State, (s.dev.room n.val).stage = Stage.parkDrain ∧ (s.dev.drained
        n.val = true ∨ timedOut = true)) ∧
    (∃ n : Fin 64, ∃ timedOut : Bool, ∃ s : State, (s.dev.room n.val).stage ≠ Stage.parkDrain ∨ s.dev.drained
        n.val = false ∧ timedOut = false) ∧
    (∃ n : Fin 64, ∃ s : State, (s.dev.room n.val).stage = Stage.parkSave) ∧
    (∃ n : Fin 64, ∃ s : State, (s.dev.room n.val).stage ≠ Stage.parkSave) :=
  ⟨⟨7, false, (State.reset.dv (fun d => (d.onRoom 7 (fun r =>
        { r with gsr := false, stage := .parkDrain, ev0 := [1, 2]})))), by decide +kernel⟩,
   ⟨7, false, (State.reset.dv (fun d => (d.onRoom 7 (fun r =>
        { r with gsr := false, stage := .parkSave, ev0 := [1, 2]})))), by decide +kernel⟩,
   ⟨7, (State.reset.dv (fun d => (d.onRoom 7 (fun r => { r with gsr := true, stage := .parkSave})))),
        by decide +kernel⟩,
   ⟨7, (State.reset.dv (fun d => (d.onRoom 7 (fun r => { r with gsr := true, stage := .parkDrain})))),
        by decide +kernel⟩⟩

/-- Operands and states that meet the hypotheses of every clause of `WakingAndClass`, part 1. -/
theorem witness_WakingAndClass_1 :
    (∃ n : Fin 64, ∃ s : State, s.dev.wakesIn n.val ∧ (s.dev.room n.val).stage = Stage.wakeSupply) ∧
    (∃ n : Fin 64, ∃ s : State, s.dev.wakesIn n.val ∧ (s.dev.room n.val).stage = Stage.wakeClock ∧ (s.dev.gb
        F.CLK_ISL_STAT_RUN n.val = false ∨ s.dev.pllFeeds (s.dev.gf F.CLK_ISL_CTRL_REF_SEL n.val) = false)) ∧
    (∃ n : Fin 64, ∃ s : State, s.dev.wakesIn n.val ∧ (s.dev.room n.val).stage = Stage.wakeClock ∧ s.dev.gb
        F.CLK_ISL_STAT_RUN n.val = true ∧ s.dev.pllFeeds (s.dev.gf F.CLK_ISL_CTRL_REF_SEL n.val) = true) ∧
    (∃ n : Fin 64, ∃ saveOk : Bool, ∃ s : State, s.dev.wakesIn n.val ∧ (s.dev.room n.val).stage =
        Stage.wakeRestore ∧ (saveOk = true ∨ (s.dev.room n.val).saved = none)) ∧
    (∃ n : Fin 64, ∃ v : Saved, ∃ s : State, s.dev.wakesIn n.val ∧ (s.dev.room n.val).stage = Stage.wakeRestore ∧
        (s.dev.room n.val).saved = some v) ∧
    (∃ n : Fin 64, ∃ s : State, (s.dev.room n.val).stage = Stage.wakeBram ∧ s.dev.gov.sleep = none ∧ s.dev.gb
        F.ROOM_BRAM_SRC_VALID n.val = false) :=
  ⟨⟨7, (wk State.reset .wakeSupply (some ⟨[1, 2, 3], 32⟩)), by unfold Dev.wakesIn; decide +kernel⟩,
   ⟨7, (wk State.reset .wakeClock (some ⟨[1, 2, 3], 32⟩) [(F.CLK_ISL_STAT_RUN, 7, 0, 0)]),
        by unfold Dev.wakesIn; decide +kernel⟩,
   ⟨7, (wk State.reset .wakeClock (some ⟨[1, 2, 3], 32⟩) [(F.CLK_ISL_STAT_RUN, 7, 0, 1),
        (F.CLK_ISL_CTRL_REF_SEL, 7, 0, 2), (F.PLL_STAT_LOCKED, 2, 0, 1), (F.PLL_OUT_EN, 2, 0, 1), (F.PLL_CTRL_EN,
        2, 0, 1), (F.PLL_OUT_EN, 2, 1, 1)]), by unfold Dev.wakesIn; decide +kernel⟩,
   ⟨7, false, (wk State.reset .wakeRestore none), by unfold Dev.wakesIn; decide +kernel⟩,
   ⟨7, ⟨[1, 2, 3], 32⟩, (wk State.reset .wakeRestore (some ⟨[1, 2, 3], 32⟩)),
        by unfold Dev.wakesIn; decide +kernel⟩,
   ⟨7, (wk State.reset .wakeBram (some ⟨[1, 2, 3], 32⟩) [(F.ROOM_BRAM_SRC_VALID, 7, 0, 0),
        (F.ROOM_PLANE_STAT_ACT_STATE, 7, 0, actValid), (F.CLK_ISL_STAT_RUN, 7, 0, 1)]), by decide +kernel⟩⟩

/-- Operands and states that meet the hypotheses of every clause of `WakingAndClass`, part 2. -/
theorem witness_WakingAndClass_2 :
    (∃ n : Fin 64, ∃ s : State, s.dev.gov.sleep = none ∧ (s.dev.room n.val).stage ∉ [Stage.wakeSupply,
        Stage.wakeClock, Stage.wakeRestore, Stage.wakeBram]) ∧
    (∃ n : Fin 64, ∃ c : BitVec 2, ∃ s : State, s.dev.govAsleep = false ∧ (s.dev.gf F.GOV_ROOM_PSTATE n.val = 0 ∨
        s.dev.gf F.GOV_ROOM_PSTATE n.val = 2 ∧ (2 ≤ c.toNat ∨ s.dev.ready = false ∨ s.dev.inHandshake = true))) ∧
    (∃ n : Fin 64, ∃ s : State, s.dev.govAsleep = false ∧ (s.dev.gf F.GOV_ROOM_PSTATE n.val = 1 ∨ s.dev.gf
        F.GOV_ROOM_PSTATE n.val = 3)) ∧
    (∃ n : Fin 64, ∃ c : BitVec 2, ∃ s : State, s.dev.ready = true ∧ s.dev.inHandshake = false ∧ c.toNat < 2 ∧
        s.dev.gf F.GOV_ROOM_PSTATE n.val = 2) ∧
    (∃ s : State, s.dev.govAsleep = true) :=
  ⟨⟨7, (wk State.reset .idle none), by decide +kernel⟩,
   ⟨7, 2, (State.reset.dv (fun d => (d.md mRun).st [(F.GOV_ROOM_PSTATE, 7, 0, 2)])), by decide +kernel⟩,
   ⟨7, (State.reset.dv (fun d => (d.md mRun).st [(F.GOV_ROOM_PSTATE, 7, 0, 1)])), by decide +kernel⟩,
   ⟨7, 0, (State.reset.dv (fun d => (d.md mRun).st [(F.GOV_ROOM_PSTATE, 7, 0, 2)])), by decide +kernel⟩,
   ⟨(State.reset.dv (fun d => (d.md mDeep).st [(F.GOV_ROOM_PSTATE, 7, 0, 2)])), by decide +kernel⟩⟩

/-- Operands and states that meet the hypotheses of every clause of `SleepHandshake`, part 1. -/
theorem witness_SleepHandshake_1 :
    (∃ x : Sleep, ∃ s : State, s.dev.gov.sleep = some x ∧ x.waking = false ∧ x.rolling = false ∧ x.next = 2 ∧
        s.dev.engineBusy = true ∧ s.dev.gb F.EVT_CTRL_FLUSH_OK = false ∧ x.stopped = []) ∧
    (∃ x : Sleep, ∃ s : State, s.dev.gov.sleep = some x ∧ x.waking = false ∧ x.rolling = false ∧ x.next = 2 ∧
        (s.dev.engineBusy = false ∨ s.dev.gb F.EVT_CTRL_FLUSH_OK = true)) ∧
    (∃ x : Sleep, ∃ s : State, ∃ q : Fin 4, s.dev.gov.sleep = some x ∧ x.waking = false ∧ x.rolling = false ∧
        x.next = 3 + q.val ∧ (s.dev.gb F.LAR_TEST_STAT_BUSY = true ∧ s.dev.gf F.LAR_TEST_STAT_REGION / 4096 =
        q.val)) ∧
    (∃ x : Sleep, ∃ s : State, ∃ q : Fin 4, s.dev.gov.sleep = some x ∧ x.waking = false ∧ x.rolling = false ∧
        x.next = 3 + q.val ∧ (¬(s.dev.gb F.LAR_TEST_STAT_BUSY = true ∧ s.dev.gf F.LAR_TEST_STAT_REGION / 4096 =
        q.val)) ∧ s.dev.quadState q.val = 0) ∧
    (∃ x : Sleep, ∃ s : State, ∃ q : Fin 4, s.dev.gov.sleep = some x ∧ x.waking = false ∧ x.rolling = false ∧
        x.next = 3 + q.val ∧ (¬(s.dev.gb F.LAR_TEST_STAT_BUSY = true ∧ s.dev.gf F.LAR_TEST_STAT_REGION / 4096 =
        q.val)) ∧ s.dev.quadState q.val ≠ 0) ∧
    (∃ x : Sleep, ∃ s : State, ∃ n : Fin 4, s.dev.gov.sleep = some x ∧ x.waking = false ∧ x.rolling = false ∧
        x.next = 7 + n.val ∧ s.dev.mirrorOf n.val = none ∧ (s.dev.dramState n.val = drTraining ∨ s.dev.dramState
        n.val = drResync ∨ s.dev.dramState n.val = drOnline ∧ s.dev.gf F.DRC_CFG_DEVTYPE n.val = 0 ∧ s.dev.gb
        F.DRC_CFG_LOSE_OK n.val = false) ∧ x.stopped = []) :=
  ⟨⟨{next := 2}, (sl State.reset {next := 2} ([(F.EVT_CTRL_FLUSH_OK, 0, 0, 0), (F.EVT_PLY_CTRL_RUN, 3, 0, 1)])
        (fun d => { d with ev := { d.ev with queues := [(5, { cur := some { word := 0 } })] } })),
        by decide +kernel⟩,
   ⟨{next := 2}, (sl State.reset {next := 2} ([(F.EVT_CTRL_FLUSH_OK, 0, 0, 1), (F.EVT_PLY_CTRL_RUN, 3, 0, 1)])
        (fun d => { d with ev := { d.ev with queues := [(5, { cur := some { word := 0 } })] } })),
        by decide +kernel⟩,
   ⟨{next := 6}, (sl State.reset {next := 6} [(F.LAR_TEST_STAT_BUSY, 0, 0, 1), (F.LAR_TEST_STAT_REGION, 0, 0,
        3*4096), (F.GOV_SLEEP_DELAY_MAX, 0, 0, 1)]), 3, by decide +kernel⟩,
   ⟨{next := 6}, (sl State.reset {next := 6} [(F.LAR_TEST_STAT_BUSY, 0, 0, 0), (F.LAR_QSTAT_STATE, 3, 0, 0)]),
        3, by decide +kernel⟩,
   ⟨{next := 5, stopped := [.engine]}, (sl State.reset {next := 5, stopped := [.engine]}
        [(F.LAR_TEST_STAT_BUSY, 0, 0, 0), (F.LAR_QSTAT_STATE, 2, 0, 2)]), 2, by decide +kernel⟩,
   ⟨{next := 10}, (sl State.reset {next := 10} [(F.DRC_STAT_STATE, 3, 0, drOnline), (F.DRC_CFG_DEVTYPE, 3, 0,
        0), (F.DRC_CFG_LOSE_OK, 3, 0, 0), (F.DRC_CFG_MIRROR, 2, 0, 0)]), 3, by decide +kernel⟩⟩

/-- Operands and states that meet the hypotheses of every clause of `SleepHandshake`, part 2. -/
theorem witness_SleepHandshake_2 :
    (∃ x : Sleep, ∃ s : State, ∃ n : Fin 4, s.dev.gov.sleep = some x ∧ x.waking = false ∧ x.rolling = false ∧
        x.next = 7 + n.val ∧ s.dev.mirrorOf n.val = none ∧ s.dev.dramState n.val = drOnline ∧ (¬(s.dev.gf
        F.DRC_CFG_DEVTYPE n.val = 0 ∧ s.dev.gb F.DRC_CFG_LOSE_OK n.val = false)) ∧ (s.dev.dram n.val).queue ≠ []) ∧
    (∃ x : Sleep, ∃ s : State, ∃ n : Fin 4, s.dev.gov.sleep = some x ∧ x.waking = false ∧ x.rolling = false ∧
        x.next = 7 + n.val ∧ s.dev.mirrorOf n.val = none ∧ s.dev.dramState n.val = drOff ∧ (s.dev.dram
        n.val).queue = [] ∧ (s.dev.dram n.val).reading = []) ∧
    (∃ x : Sleep, ∃ s : State, ∃ n : Fin 4, s.dev.gov.sleep = some x ∧ x.waking = false ∧ x.rolling = false ∧
        x.next = 7 + n.val ∧ s.dev.mirrorOf n.val = none ∧ s.dev.dramState n.val = drOnline ∧ s.dev.gf
        F.DRC_CFG_DEVTYPE n.val = 1 ∧ (s.dev.dram n.val).queue = [] ∧ (s.dev.dram n.val).reading = []) ∧
    (∃ x : Sleep, ∃ s : State, ∃ n : Fin 8, s.dev.gov.sleep = some x ∧ x.waking = false ∧ x.rolling = false ∧
        x.next = 11 + n.val ∧ s.dev.gb F.PLL_RAMP_CTRL_RUN n.val = true) ∧
    (∃ x : Sleep, ∃ s : State, ∃ n : Fin 8, s.dev.gov.sleep = some x ∧ x.waking = false ∧ x.rolling = false ∧
        x.next = 11 + n.val ∧ s.dev.gb F.PLL_RAMP_CTRL_RUN n.val = false ∧ n ≠ 7 ∧ (s.dev.gb F.PLL_CTRL_EN n.val =
        false ∨ s.dev.gf F.CLK_ISL_CTRL_REF_SEL 99 = n.val)) ∧
    (∃ x : Sleep, ∃ s : State, ∃ n : Fin 8, s.dev.gov.sleep = some x ∧ x.waking = false ∧ x.rolling = false ∧
        x.next = 11 + n.val ∧ s.dev.gb F.PLL_RAMP_CTRL_RUN n.val = false ∧ n ≠ 7 ∧ s.dev.gb F.PLL_CTRL_EN n.val =
        true ∧ s.dev.gf F.CLK_ISL_CTRL_REF_SEL 99 ≠ n.val) :=
  ⟨⟨{next := 10}, (sl State.reset {next := 10} [(F.DRC_STAT_STATE, 3, 0, drOnline), (F.DRC_CFG_DEVTYPE, 3, 0,
        0), (F.DRC_CFG_LOSE_OK, 3, 0, 1), (F.DRC_CFG_MIRROR, 2, 0, 0)] (fun d => d.onDram 3 (fun x =>
        { x with queue := [{id := 4, write := true, burst := 3}] }))), 3, by decide +kernel⟩,
   ⟨{next := 7}, (sl State.reset {next := 7} [(F.DRC_STAT_STATE, 0, 0, drOff), (F.DRC_CFG_MIRROR, 0, 0, 0)]),
        0, by decide +kernel⟩,
   ⟨{next := 10}, (sl State.reset {next := 10} [(F.DRC_STAT_STATE, 3, 0, drOnline), (F.DRC_CFG_DEVTYPE, 3, 0,
        1), (F.DRC_CFG_MIRROR, 2, 0, 0)] (fun d => d.onDram 3 (fun x => { x with mem := [(4, {})] }))), 3,
        by decide +kernel⟩,
   ⟨{next := 11}, (sl State.reset {next := 11} [(F.PLL_RAMP_CTRL_RUN, 0, 0, 1)]), 0, by decide +kernel⟩,
   ⟨{next := 17}, (sl State.reset {next := 17} [(F.PLL_RAMP_CTRL_RUN, 6, 0, 0), (F.PLL_CTRL_EN, 6, 0, 0)]), 6,
        by decide +kernel⟩,
   ⟨{next := 17}, (sl State.reset {next := 17} [(F.PLL_RAMP_CTRL_RUN, 6, 0, 0), (F.PLL_CTRL_EN, 6, 0, 1),
        (F.CLK_ISL_CTRL_REF_SEL, 99, 0, 1)]), 6, by decide +kernel⟩⟩

/-- Operands and states that meet the hypotheses of every clause of `SleepHandshake`, part 3. -/
theorem witness_SleepHandshake_3 :
    (∃ x : Sleep, ∃ s : State, ∃ n : Fin 8, s.dev.gov.sleep = some x ∧ x.waking = false ∧ x.rolling = false ∧
        x.next = 11 + n.val ∧ n = 7 ∧ s.dev.gb F.PLL_RAMP_CTRL_RUN n.val = false ∧ s.dev.gov.avs = none ∧ s.dev.gf
        F.GOV_STAT_VCC_SET ≠ min 880 (720 + s.dev.gf F.GOV_VCC_MARGIN)) ∧
    (∃ s : State, ∀ (x : Sleep), s.dev.gov.sleep = some x → x.waking = true ∨ x.rolling = true ∨ x.next < 2 ∨ 19
        ≤ x.next) ∧
    (∃ n : Fin 64, ∃ s : State, s.dev.gov.sleep ≠ none ∧ s.dev.gf F.GOV_SLEEP_STAT_PHASE = 9 ∧ s.dev.needsAsk
        n.val = true ∧ s.dev.gb F.GOV_ROOM_AUTO_AGREE n.val = false) ∧
    (∃ s : State, s.dev.gov.sleep = none ∨ s.dev.gf F.GOV_SLEEP_STAT_PHASE ≠ 9) :=
  ⟨⟨{next := 18}, (sl State.reset {next := 18} [(F.PLL_RAMP_CTRL_RUN, 7, 0, 0), (F.PLL_CTRL_EN, 7, 0, 1),
        (F.GOV_STAT_VCC_SET, 0, 0, 800), (F.GOV_VCC_MARGIN, 0, 0, 10)]), 7, by decide +kernel⟩,
   ⟨(State.reset.dv (fun d => d.md mRun)), by decide +kernel⟩,
   ⟨60, (State.reset.dv (fun d =>
        (({ d.md mHold with gov := { d.gov with sleep := some { }, attempts := 1 } }).onRoom 60 (fun r =>
        { r with gsr := false, clamps := false, down := false})).st [(F.GOV_SLEEP_STAT_PHASE, 0, 0, 9),
        (F.GOV_ROOM_AUTO_AGREE, 60, 0, 0), (F.GOV_ROOM_PSTATE, 60, 0, 0)])), by decide +kernel⟩,
   ⟨(State.reset.dv (fun d => d.md mRun)), by decide +kernel⟩⟩

/-- Operands and states that meet the hypotheses of every clause of `DeepHold`. -/
theorem witness_DeepHold :
    (∃ x : Sleep, ∃ s : State, s.dev.gov.sleep = some x ∧ x.waking = true ∧ x.next = 20 ∧ x.restart = [] ∧ x.cur
        = [] ∧ s.dev.gov.avs = none ∧ List.foldl (fun m n => max m (s.dev.roomVcc n ((Option.map Saved.cur
        (s.dev.room n).saved).getD 0))) 0 roomIds ≤ s.dev.gf F.GOV_STAT_VCC_SET ∧ s.dev.gf F.GOV_VCC_VSRAM_RUN ≤
        s.dev.gov.vccSram) ∧
    (∃ x : Sleep, ∃ s : State, s.dev.gov.sleep = some x ∧ x.waking = true ∧ x.next = 20 ∧ x.restart = [] ∧ x.cur
        = [] ∧ s.dev.gov.avs = none ∧ s.dev.gf F.GOV_STAT_VCC_SET < List.foldl (fun m n => max m (s.dev.roomVcc n
        ((Option.map Saved.cur (s.dev.room n).saved).getD 0))) 0 roomIds) ∧
    (∃ x : Sleep, ∃ s : State, s.dev.gov.sleep = some x ∧ x.waking = true ∧ x.next = 11 ∧ x.restart = [] ∧ x.cur
        = []) ∧
    (∃ s : State, ∀ (x : Sleep), s.dev.gov.sleep = some x → x.waking = false ∨ x.restart ≠ [] ∨ x.cur.all
        s.dev.partUp = false) ∧
    (∃ temp : Int, ∃ s : State, s.dev.mode ≠ mDeep ∨ -800 ≤ temp ∧ temp ≤ 2000 ∨ temp < -880 ∨ 2160 < temp) ∧
    (∃ temp : Int, ∃ s : State, s.dev.mode = mDeep ∧ s.dev.policy 2 = 1 ∧ (-880 ≤ temp ∧ temp < -800 ∨ 2000 <
        temp ∧ temp ≤ 2160)) :=
  ⟨⟨{next := 20, waking := true}, (dh State.reset {next := 20, waking := true} [(F.GOV_STAT_VCC_SET, 0, 0,
        2000), (F.GOV_VCC_VSRAM_RUN, 0, 0, 800)]), by decide +kernel⟩,
   ⟨{next := 20, waking := true}, (dh State.reset {next := 20, waking := true} [(F.GOV_STAT_VCC_SET, 0, 0, 10),
        (F.GOV_VCC_VSRAM_RUN, 0, 0, 800)]), by decide +kernel⟩,
   ⟨{next := 11, waking := true, stopped := [.pll 3]}, (dh State.reset
        {next := 11, waking := true, stopped := [.pll 3]} []), by decide +kernel⟩,
   ⟨(dh State.reset {next := 20} []), by decide +kernel⟩,
   ⟨(-800), (State.reset.dv (fun d => d.md mDeep)), by decide +kernel⟩,
   ⟨(-801), (State.reset.dv (fun d => (d.md mDeep).st [(F.SEC_POL_POL, 0, 0, 0x10)])), by decide +kernel⟩⟩

/-- Operands and states that meet the hypotheses of every clause of `ImageHeaderAndChecks`, part 1. -/
theorem witness_ImageHeaderAndChecks_1 :
    (∃ k : Nat, ∃ l : List Nat, ∃ s : State, s.dev.loadState = stHeader ∧ (s.dev.mode = mLoad ∨ s.dev.mode =
        mFallback) ∧ s.dev.cfg.order = k :: l ∧ s.dev.slotHeaderRefusal (slotBase s.dev.cfg.slot) ≠ 0) ∧
    (∃ s : State, s.dev.loadState = stHeader ∧ (s.dev.mode = mLoad ∨ s.dev.mode = mFallback) ∧ s.dev.cfg.order =
        [] ∧ s.dev.slotHeaderRefusal (slotBase s.dev.cfg.slot) ≠ 0) ∧
    (∃ s : State, s.dev.loadState = stHeader ∧ (s.dev.mode = mLoad ∨ s.dev.mode = mFallback) ∧
        s.dev.cfg.sectionsDone = true ∧ s.dev.slotHeaderRefusal (slotBase s.dev.cfg.slot) = 0) ∧
    (∃ s : State, s.dev.loadState ≠ stHeader ∨ s.dev.mode ≠ mLoad ∧ s.dev.mode ≠ mFallback) ∧
    (∃ k : Nat, ∃ l : List Nat, ∃ s : State, s.dev.loadState = stSettings ∧ s.dev.cfg.clockWait = true ∧
        s.dev.mode = mLoad ∧ s.dev.unlockedIslands = [] ∧ s.dev.sectionList Section.io = [] ∧ s.dev.sectionList
        Section.control = [] ∧ s.dev.cfg.order = k :: l) ∧
    (∃ s : State, s.dev.loadState ≠ stSettings) :=
  ⟨⟨2, [3], (State.reset.dv (fun d => ({ d.md mLoad with cfg := { d.cfg with slot := 1, order := [2, 3] } }).st
        [(F.CFG_STATUS_STATE, 0, 0, stHeader)])), by decide +kernel⟩,
   ⟨(State.reset.dv (fun d => ({ d.md mLoad with cfg := { d.cfg with slot := 1, order := [] } }).st
        [(F.CFG_STATUS_STATE, 0, 0, stHeader)])), by decide +kernel⟩,
   ⟨(State.reset.dv (fun d =>
        (({ d.md mLoad with cfg := { d.cfg with slot := 1, order := [2, 3], sectionsDone := true } }).cel (cellsAt
        (slotBase 1) (hdrBytes 1 (2^64-1) 0))).st [(F.CFG_STATUS_STATE, 0, 0, stHeader)])), by decide +kernel⟩,
   ⟨(State.reset.dv (fun d => (d.md mRun).st [(F.CFG_STATUS_STATE, 0, 0, stRunning)])), by decide +kernel⟩,
   ⟨2, [3], (State.reset.dv (fun d =>
        ({ d.md mLoad with cfg := { d.cfg with clockWait := true, order := [2, 3] } }).st ([(F.CFG_STATUS_STATE,
        0, 0, stSettings), (F.CFG_STATUS_RECORD, 0, 0, 0)] ++ (List.range 106).map (fun n => (F.CLK_ISL_STAT_RUN,
        n, 0, 0))))), by decide +kernel⟩,
   ⟨(State.reset.dv (fun d => (d.md mRun).st [(F.CFG_STATUS_STATE, 0, 0, stRunning)])), by decide +kernel⟩⟩

/-- Operands and states that meet the hypotheses of every clause of `ImageHeaderAndChecks`, part 2. -/
theorem witness_ImageHeaderAndChecks_2 :
    (∃ s : State, s.dev.loadState = stHash ∧ s.dev.mode = mVerify ∧ s.dev.badDigests (slotBase s.dev.cfg.slot) =
        [] ∧ s.dev.rootOk (slotBase s.dev.cfg.slot) = true) ∧
    (∃ k : Nat, ∃ l : List Nat, ∃ s : State, s.dev.loadState = stHash ∧ s.dev.mode = mVerify ∧ s.dev.lcState = 4
        ∧ s.dev.cfg.order = k :: l ∧ s.dev.rootOk (slotBase s.dev.cfg.slot) = false) ∧
    ((∀ k m g, Config.ecdsaOk k m g = true) → ∃ s : State, s.dev.loadState = stSign ∧ s.dev.mode = mVerify ∧
        s.dev.imageSigOk (slotBase s.dev.cfg.slot) = true ∧ s.dev.tagOk (slotBase s.dev.cfg.slot) = true ∧
        s.dev.cfg.hashBad = false ∧ s.dev.lcState ≠ 8) ∧
    ((∀ k m g, Config.ecdsaOk k m g = true) → ∃ s : State, s.dev.loadState = stSignAfter ∧ s.dev.ready = true ∧
        s.dev.imageSigOk (slotBase s.dev.cfg.slot) = true ∧ s.dev.tagOk (slotBase s.dev.cfg.slot) = true ∧
        s.dev.cfg.hashBad = false ∧ s.dev.lcState ≠ 8) ∧
    (∃ s : State, s.dev.loadState = stRunning) :=
  ⟨⟨(rootState 1 stHash mVerify rootBytes []), by decide +kernel, by decide +kernel, by decide +kernel,
        (rootState_rootOk _ _ _ _ _ (sha256_length _)).trans (beq_self_eq_true _)⟩,
   ⟨1, [2], (rootState 4 stHash mVerify (rootBytes.map (fun b => ~~~b)) []), by decide +kernel,
        by decide +kernel, by decide +kernel, by decide +kernel, (rootState_rootOk _ _ _ _ _ ((List.length_map
        _).trans (sha256_length _))).trans rootBytes_ne⟩,
   fun h => ⟨(hst State.reset stSign mVerify 4 false [(F.SEC_KEYS_OIK, 0, 0, 1), (F.SEC_KEYS_REVOKED, 0, 0,
        0)]), by decide +kernel, by decide +kernel, imageSigOk_of h (by decide +kernel), by decide +kernel,
        by decide +kernel, by decide +kernel⟩,
   fun h => ⟨(hst State.reset stSignAfter mRun 1 false [(F.SEC_KEYS_OIK, 0, 0, 1), (F.SEC_KEYS_REVOKED, 0, 0,
        0)]), by decide +kernel, by decide +kernel, imageSigOk_of h (by decide +kernel), by decide +kernel,
        by decide +kernel, by decide +kernel⟩,
   ⟨(hst State.reset stRunning mRun 1 true [(F.SEC_KEYS_OIK, 0, 0, 1), (F.SEC_KEYS_REVOKED, 0, 0, 0)]),
        by decide +kernel⟩⟩

/-- Operands and states that meet the hypotheses of every clause of `FrameChecks`, part 1. -/
theorem witness_FrameChecks_1 :
    (∃ n : Fin 64, ∃ disturbed : Fin 3, ∃ l : Load, ∃ p : BitVec 2048, ∃ s : State, ∃ m : List (Nat × Nat),
        (s.dev.room n.val).load = some l ∧ l.pos < l.total ∧ s.dev.recordCheck (s.dev.header l.image) (recNumber
        l.image (l.records + 264 * l.pos)) (l.records + 264 * l.pos) (frameAddr (!l.full && hdrKind (s.dev.header
        l.image) == 2) (n.val) l.pos) disturbed.val = Except.ok p ∧ frameKind (frameAddr (!l.full && hdrKind
        (s.dev.header l.image) == 2) (n.val) l.pos) = 0 ∧ guardCheck (if l.active = true then (s.dev.room
        n.val).act else (s.dev.room n.val).shd).drivers (frameIndex (frameAddr (!l.full && hdrKind (s.dev.header
        l.image) == 2) (n.val) l.pos)) p = Except.ok m ∧ l.pos + 1 < l.total) ∧
    (∃ n : Fin 64, ∃ disturbed : Fin 3, ∃ l : Load, ∃ p : BitVec 2048, ∃ s : State, ∃ m : List (Nat × Nat),
        (s.dev.room n.val).load = some l ∧ l.pos < l.total ∧ s.dev.recordCheck (s.dev.header l.image) (recNumber
        l.image (l.records + 264 * l.pos)) (l.records + 264 * l.pos) (frameAddr (!l.full && hdrKind (s.dev.header
        l.image) == 2) (n.val) l.pos) disturbed.val = Except.ok p ∧ frameKind (frameAddr (!l.full && hdrKind
        (s.dev.header l.image) == 2) (n.val) l.pos) = 0 ∧ guardCheck (if l.active = true then (s.dev.room
        n.val).act else (s.dev.room n.val).shd).drivers (frameIndex (frameAddr (!l.full && hdrKind (s.dev.header
        l.image) == 2) (n.val) l.pos)) p = Except.ok m ∧ l.total ≤ l.pos + 1 ∧ l.full = false) ∧
    (∃ n : Fin 64, ∃ disturbed : Fin 3, ∃ l : Load, ∃ p : BitVec 2048, ∃ s : State, (s.dev.room n.val).load =
        some l ∧ l.pos < l.total ∧ s.dev.recordCheck (s.dev.header l.image) (recNumber l.image (l.records + 264 *
        l.pos)) (l.records + 264 * l.pos) (frameAddr (!l.full && hdrKind (s.dev.header l.image) == 2) (n.val)
        l.pos) disturbed.val = Except.ok p ∧ frameKind (frameAddr (!l.full && hdrKind (s.dev.header l.image) == 2)
        (n.val) l.pos) = 1 ∧ l.active = true ∧ l.pos + 1 < l.total) ∧
    (∃ n : Fin 64, ∃ disturbed : Fin 3, ∃ l : Load, ∃ p : BitVec 2048, ∃ s : State, (s.dev.room n.val).load =
        some l ∧ l.pos < l.total ∧ s.dev.recordCheck (s.dev.header l.image) (recNumber l.image (l.records + 264 *
        l.pos)) (l.records + 264 * l.pos) (frameAddr (!l.full && hdrKind (s.dev.header l.image) == 2) (n.val)
        l.pos) disturbed.val = Except.ok p ∧ frameKind (frameAddr (!l.full && hdrKind (s.dev.header l.image) == 2)
        (n.val) l.pos) = 1 ∧ l.active = true ∧ l.total ≤ l.pos + 1 ∧ l.full = false) ∧
    (∃ n : Fin 64, ∃ disturbed : Fin 3, ∃ l : Load, ∃ p : BitVec 2048, ∃ s : State, (s.dev.room n.val).load =
        some l ∧ l.pos < l.total ∧ s.dev.recordCheck (s.dev.header l.image) (recNumber l.image (l.records + 264 *
        l.pos)) (l.records + 264 * l.pos) (frameAddr (!l.full && hdrKind (s.dev.header l.image) == 2) (n.val)
        l.pos) disturbed.val = Except.ok p ∧ frameKind (frameAddr (!l.full && hdrKind (s.dev.header l.image) == 2)
        (n.val) l.pos) = 1 ∧ l.active = false ∧ l.total ≤ l.pos + 1 ∧ l.full = false) ∧
    (∃ n : Fin 64, ∃ disturbed : Fin 3, ∃ l : Load, ∃ p : BitVec 2048, ∃ s : State, (s.dev.room n.val).load =
        some l ∧ l.pos < l.total ∧ s.dev.recordCheck (s.dev.header l.image) (recNumber l.image (l.records + 264 *
        l.pos)) (l.records + 264 * l.pos) (frameAddr (!l.full && hdrKind (s.dev.header l.image) == 2) (n.val)
        l.pos) disturbed.val = Except.ok p ∧ frameKind (frameAddr (!l.full && hdrKind (s.dev.header l.image) == 2)
        (n.val) l.pos) = 1 ∧ l.active = false ∧ l.pos + 1 < l.total) :=
  ⟨⟨5, 0, (ldx false false 71 3024), 1, (ldf State.reset (ldx false false 71 3024) ((hdrBytes 1 (2 ^ 64 - 1)
        0).take 0x28) (frameAddr false 5 71) 1), [(0, 0)], by decide +kernel, by decide +kernel, ok_of
        (by decide +kernel), by decide +kernel, ok_of (by decide +kernel), by decide +kernel⟩,
   ⟨5, 0, (ldx true false 71 72), 1, (ldf State.reset (ldx true false 71 72) ((hdrBytes 1 (2 ^ 64 - 1) 0).take
        0x28) (frameAddr false 5 71) 1), [(0, 0)], by decide +kernel, by decide +kernel, ok_of
        (by decide +kernel), by decide +kernel, ok_of (by decide +kernel), by decide +kernel, by decide +kernel⟩,
   ⟨5, 0, (ldx true false 2400 3024), (BitVec.allOnes 2048), (ldf State.reset (ldx true false 2400 3024)
        ((hdrBytes 1 (2 ^ 64 - 1) 0).take 0x28) (frameAddr false 5 2400) (BitVec.allOnes 2048)),
        by decide +kernel, by decide +kernel, ok_of (by decide +kernel), by decide +kernel, by decide +kernel,
        by decide +kernel⟩,
   ⟨5, 0, (ldx true false 3023 3024), (BitVec.allOnes 2048), (ldf State.reset (ldx true false 3023 3024)
        ((hdrBytes 1 (2 ^ 64 - 1) 0).take 0x28) (frameAddr false 5 3023) (BitVec.allOnes 2048)),
        by decide +kernel, by decide +kernel, ok_of (by decide +kernel), by decide +kernel, by decide +kernel,
        by decide +kernel, by decide +kernel⟩,
   ⟨5, 0, (ldx false false 3023 3024), (BitVec.allOnes 2048), (ldf State.reset (ldx false false 3023 3024)
        ((hdrBytes 1 (2 ^ 64 - 1) 0).take 0x28) (frameAddr false 5 3023) (BitVec.allOnes 2048)),
        by decide +kernel, by decide +kernel, ok_of (by decide +kernel), by decide +kernel, by decide +kernel,
        by decide +kernel, by decide +kernel⟩,
   ⟨5, 0, (ldx false false 3022 3024), (BitVec.allOnes 2048), (ldf State.reset (ldx false false 3022 3024)
        ((hdrBytes 1 (2 ^ 64 - 1) 0).take 0x28) (frameAddr false 5 3022) (BitVec.allOnes 2048)),
        by decide +kernel, by decide +kernel, ok_of (by decide +kernel), by decide +kernel, by decide +kernel,
        by decide +kernel⟩⟩

/-- Operands and states that meet the hypotheses of every clause of `FrameChecks`, part 2. -/
theorem witness_FrameChecks_2 :
    (∃ n : Fin 64, ∃ disturbed : Fin 3, ∃ l : Load, ∃ p : BitVec 2048, ∃ s : State, (s.dev.room n.val).load =
        some l ∧ l.pos < l.total ∧ s.dev.recordCheck (s.dev.header l.image) (recNumber l.image (l.records + 264 *
        l.pos)) (l.records + 264 * l.pos) (frameAddr (!l.full && hdrKind (s.dev.header l.image) == 2) (n.val)
        l.pos) disturbed.val = Except.ok p ∧ 1 < frameKind (frameAddr (!l.full && hdrKind (s.dev.header l.image)
        == 2) (n.val) l.pos) ∧ kind2Ok (kind2List p) = true ∧ l.pos + 1 < l.total) ∧
    (∃ n : Fin 64, ∃ disturbed : Fin 3, ∃ l : Load, ∃ s : State, ∃ src : Nat, ∃ detail : Nat, (s.dev.room
        n.val).load = some l ∧ l.pos < l.total ∧ l.full = false ∧ s.dev.recordCheck (s.dev.header l.image)
        (recNumber l.image (l.records + 264 * l.pos)) (l.records + 264 * l.pos) (frameAddr (hdrKind (s.dev.header
        l.image) == 2) (n.val) l.pos) disturbed.val = Except.error (src, detail)) ∧
    (∃ n : Fin 64, ∃ disturbed : Fin 3, ∃ l : Load, ∃ s : State, ∃ p : BitVec 2048, ∃ hit : GuardHit, (s.dev.room
        n.val).load = some l ∧ l.pos < l.total ∧ l.full = false ∧ s.dev.recordCheck (s.dev.header l.image)
        (recNumber l.image (l.records + 264 * l.pos)) (l.records + 264 * l.pos) (frameAddr (hdrKind (s.dev.header
        l.image) == 2) (n.val) l.pos) disturbed.val = Except.ok p ∧ frameKind (frameAddr (hdrKind (s.dev.header
        l.image) == 2) (n.val) l.pos) = 0 ∧ guardCheck (if l.active = true then (s.dev.room n.val).act else
        (s.dev.room n.val).shd).drivers (frameIndex (frameAddr (hdrKind (s.dev.header l.image) == 2) (n.val)
        l.pos)) p = Except.error hit) ∧
    (∃ n : Fin 64, ∃ disturbed : Fin 3, ∃ l : Load, ∃ s : State, ∃ p : BitVec 2048, (s.dev.room n.val).load =
        some l ∧ l.pos < l.total ∧ l.full = false ∧ s.dev.recordCheck (s.dev.header l.image) (recNumber l.image
        (l.records + 264 * l.pos)) (l.records + 264 * l.pos) (frameAddr (hdrKind (s.dev.header l.image) == 2)
        (n.val) l.pos) disturbed.val = Except.ok p ∧ 1 < frameKind (frameAddr (hdrKind (s.dev.header l.image) ==
        2) (n.val) l.pos) ∧ kind2Ok (kind2List p) = false) ∧
    (∃ n : Fin 64, ∃ s : State, (s.dev.room n.val).load = none ∨ ∃ l, (s.dev.room n.val).load = some l ∧ l.total
        ≤ l.pos) :=
  ⟨⟨5, 0, (ldx false false 0 3025), (0x100 + 7*2^32 + 0xFFFFFFFF*2^64), (ldf State.reset (ldx false false 0
        3025) ((hdrBytes 2 (2 ^ 5) 0).take 0x28) (frameAddr true 5 0) (0x100 + 7*2^32 + 0xFFFFFFFF*2^64)),
        by decide +kernel, by decide +kernel, ok_of (by decide +kernel), by decide +kernel, by decide +kernel,
        by decide +kernel⟩,
   ⟨5, 1, (ldx false false 71 3024), (ldf State.reset (ldx false false 71 3024) ((hdrBytes 1 (2 ^ 64 - 1)
        0).take 0x28) (frameAddr false 5 72) 1 (fun r => {r with shd := {r.shd with src := true}})), 6, (frameAddr
        false 5 71), by decide +kernel, by decide +kernel, by decide +kernel, error_of (by decide +kernel)⟩,
   ⟨5, 0, (ldx true false 71 3024), (ldf State.reset (ldx true false 71 3024) ((hdrBytes 1 (2 ^ 64 - 1) 0).take
        0x28) (frameAddr false 5 71) (2^2047)), (2^2047), { rule := 3, bit := 2047 }, by decide +kernel,
        by decide +kernel, by decide +kernel, ok_of (by decide +kernel), by decide +kernel, error_of
        (by decide +kernel)⟩,
   ⟨5, 0, (ldx false false 0 3025), (ldf State.reset (ldx false false 0 3025) ((hdrBytes 2 (2 ^ 5) 0).take
        0x28) (frameAddr true 5 0) 0), 0, by decide +kernel, by decide +kernel, by decide +kernel, ok_of
        (by decide +kernel), by decide +kernel, by decide +kernel⟩,
   ⟨5, (State.reset.dv (fun d => (d.onRoom 5 (fun r => { r with load := none})))), by decide +kernel⟩⟩

/-- Operands and states that meet the hypotheses of every clause of `CellarWriteOperations`, part 1. -/
theorem witness_CellarWriteOperations_1 :
    (∃ c : Instr, ∃ s : State, c ∈ [Instr.cwProgramPage, Instr.cwEraseBlock, Instr.cwRenewBlock] ∧ s.dev.gb
        F.CFG_STATUS_BUSY = true) ∧
    (∃ c : Instr, ∃ unit : Nat, ∃ s : State, (c, unit) ∈ [(Instr.cwProgramPage, 256), (Instr.cwEraseBlock,
        65536), (Instr.cwRenewBlock, 65536)] ∧ s.dev.gb F.CFG_STATUS_BUSY = false ∧ s.dev.gf F.CFG_CW_ADDR_ADDR %
        unit ≠ 0) ∧
    (∃ c : Instr, ∃ renew : Bool, ∃ s : State, (c, renew) ∈ [(Instr.cwProgramPage, false), (Instr.cwEraseBlock,
        false), (Instr.cwRenewBlock, true)] ∧ s.dev.gb F.CFG_STATUS_BUSY = false ∧ s.dev.gf F.CFG_CW_ADDR_ADDR %
        65536 = 0 ∧ (s.dev.cwBarred renew (s.dev.gf F.CFG_CW_ADDR_ADDR) = true ∨ s.dev.vppGood = false)) ∧
    (∃ s : State, s.dev.gb F.CFG_STATUS_BUSY = false ∧ s.dev.vppGood = true ∧ s.dev.gf F.CFG_CW_ADDR_ADDR % 256 =
        0 ∧ s.dev.cwBarred false (s.dev.gf F.CFG_CW_ADDR_ADDR) = false) ∧
    (∃ s : State, s.dev.gb F.CFG_STATUS_BUSY = false ∧ s.dev.vppGood = true ∧ s.dev.gf F.CFG_CW_ADDR_ADDR % 65536
        = 0 ∧ s.dev.cwBarred false (s.dev.gf F.CFG_CW_ADDR_ADDR) = false) ∧
    (∃ s : State, s.dev.gb F.CFG_STATUS_BUSY = false ∧ s.dev.vppGood = true ∧ s.dev.gf F.CFG_CW_ADDR_ADDR % 65536
        = 0 ∧ s.dev.cwBarred true (s.dev.gf F.CFG_CW_ADDR_ADDR) = false) :=
  ⟨⟨.cwRenewBlock, (State.reset.dv (·.st [(F.CFG_STATUS_BUSY, 0, 0, 1)])), by decide +kernel⟩,
   ⟨.cwProgramPage, 256, (State.reset.dv (·.st [(F.CFG_STATUS_BUSY, 0, 0, 0), (F.CFG_CW_ADDR_ADDR, 0, 0,
        255)])), by decide +kernel⟩,
   ⟨.cwEraseBlock, false, (State.reset.dv (·.st [(F.CFG_STATUS_BUSY, 0, 0, 0), (F.CFG_CW_ADDR_ADDR, 0, 0,
        0x20000)])), by decide +kernel⟩,
   ⟨(State.reset.dv (·.st [(F.CFG_STATUS_BUSY, 0, 0, 0), (F.CFG_CW_ADDR_ADDR, 0, 0, 0x400100),
        (F.GBL_RAIL_STAT_GOOD, 0, 0, 0x10)])), by decide +kernel⟩,
   ⟨(State.reset.dv (·.st [(F.CFG_STATUS_BUSY, 0, 0, 0), (F.CFG_CW_ADDR_ADDR, 0, 0, 0x410000),
        (F.GBL_RAIL_STAT_GOOD, 0, 0, 0x10)])), by decide +kernel⟩,
   ⟨(State.reset.dv (·.st [(F.CFG_STATUS_BUSY, 0, 0, 0), (F.CFG_CW_ADDR_ADDR, 0, 0, 0x410000),
        (F.GBL_RAIL_STAT_GOOD, 0, 0, 0x10)])), by decide +kernel⟩⟩

/-- Operands and states that meet the hypotheses of every clause of `CellarWriteOperations`, part 2. -/
theorem witness_CellarWriteOperations_2 :
    (∃ w : CwWork, ∃ s : State, s.dev.cfg.cw = some w ∧ w.ticket = false ∧ w.op = 1 ∧ w.page.length = 256 ∧
        w.addr % 256 = 0 ∧ s.dev.cfg.journal = none ∧ s.dev.pageErased w.addr = true) ∧
    (∃ w : CwWork, ∃ s : State, s.dev.cfg.cw = some w ∧ w.ticket = false ∧ w.op = 2 ∧ w.addr % 65536 = 0 ∧
        s.dev.cfg.journal = none) ∧
    (∃ w : CwWork, ∃ s : State, s.dev.cfg.cw = some w ∧ w.ticket = false ∧ w.op = 3 ∧ w.addr % 65536 = 0 ∧ w.addr
        ≠ 262144 ∧ s.dev.cfg.journal = none) ∧
    (∃ s : State, s.dev.cfg.cw = none) ∧
    (∃ w : CwWork, ∃ physOk : Bool, ∃ s : State, s.dev.cfg.cw = some w ∧ w.ticket = false ∧ w.op = 1 ∧ (physOk =
        false ∨ s.dev.pageErased w.addr = false)) ∧
    (∃ w : CwWork, ∃ s : State, s.dev.cfg.cw = some w ∧ w.ticket = true ∧ 6 ≤ w.addr / 65536 ∧ w.addr / 65536 <
        4095 ∧ s.dev.vppGood = true) :=
  ⟨⟨⟨1, 0x100, List.replicate 256 0x5A, false⟩, (State.reset.dv (fun d =>
        ({ d with cfg := { d.cfg with cw := some ⟨1, 0x100, List.replicate 256 0x5A, false⟩ } }).cel [(0xFF, 3),
        (0x200, 4)])), by decide +kernel⟩,
   ⟨⟨2, 0x20000, [], false⟩, (State.reset.dv (fun d =>
        ({ d with cfg := { d.cfg with cw := some ⟨2, 0x20000, [], false⟩ } }).cel [(0xFF, 3), (0x1FFFF, 4),
        (0x20000, 4), (0x20001, 4), (0x2FFFF, 5), (0x30000, 6)])), by decide +kernel⟩,
   ⟨⟨3, 0x20000, [], false⟩, (State.reset.dv (fun d =>
        ({ d with cfg := { d.cfg with cw := some ⟨3, 0x20000, [], false⟩ } }).cel [(0xFF, 3), (0x1FFFF, 4),
        (0x20000, 4), (0x20001, 4), (0x2FFFF, 5), (0x30000, 6)])), by decide +kernel⟩,
   ⟨(State.reset.dv (fun d => d.md mRun)), by decide +kernel⟩,
   ⟨⟨1, 0x100, List.replicate 256 0x5A, false⟩, true, (State.reset.dv (fun d =>
        ({ d with cfg := { d.cfg with cw := some ⟨1, 0x100, List.replicate 256 0x5A, false⟩ } }).cel [(0x100, 3),
        (0x200, 4)])), by decide +kernel⟩,
   ⟨⟨3, 0x60000, [], true⟩, (State.reset.dv (fun d =>
        ({ d with cfg := { d.cfg with cw := some ⟨3, 0x60000, [], true⟩ } }).st [(F.GBL_RAIL_STAT_GOOD, 0, 0,
        0x10)])), by decide +kernel⟩⟩

/-- Operands and states that meet the hypotheses of every clause of `RoomLoadsAndChecks`, part 1. -/
theorem witness_RoomLoadsAndChecks_1 :
    (∃ n : Fin 64, ∃ c : Instr, ∃ s : State, c ∈ [Instr.loadShadow n, Instr.loadActive n] ∧ s.dev.roomOpsUp n.val
        = false) ∧
    (∃ n : Fin 64, ∃ c : Instr, ∃ s : State, c ∈ [Instr.loadShadow n, Instr.loadActive n] ∧ s.dev.roomOpsUp n.val
        = true ∧ s.dev.roomOpBusy n.val = true) ∧
    (∃ n : Fin 64, ∃ s : State, s.dev.roomOpsUp n.val = true ∧ s.dev.roomOpBusy n.val = false ∧ (s.dev.gf
        F.ROOM_LOAD_SRC_SRC n.val = 0 ∧ s.dev.gf F.ROOM_LOAD_SRC_BLOCK n.val ≤ 959 ∨ s.dev.gf F.ROOM_LOAD_SRC_SRC
        n.val ≠ 0 ∧ s.dev.slotUsable (s.dev.gf F.ROOM_LOAD_SRC_SRC n.val) = true) ∧ s.dev.roomHeaderRefusal
        (n.val) (s.dev.gf F.ROOM_LOAD_SRC_SRC n.val) (if s.dev.gf F.ROOM_LOAD_SRC_SRC n.val = 0 then poolBase
        (s.dev.gf F.ROOM_LOAD_SRC_BLOCK n.val) else slotBase (s.dev.gf F.ROOM_LOAD_SRC_SRC n.val)) = 0) ∧
    (∃ n : Fin 64, ∃ l : Load, ∃ s : State, (s.dev.room n.val).load = some l ∧ l.full = false) ∧
    (∃ n : Fin 64, ∃ s : State, ∀ (l : Load), (s.dev.room n.val).load = some l → l.full = true) ∧
    (∃ n : Fin 64, ∃ s : State, s.dev.sh n.val = shReady ∨ s.dev.sh n.val = shInvalid) :=
  ⟨⟨5, (.loadActive 5), (State.reset.dv (fun d => d.md mLoad)), by decide +kernel⟩,
   ⟨5, (.loadShadow 5), (State.reset.dv (fun d => ((d.md mRun).onRoom 5 (fun r => { r with
          load := some { active := false, image := 0x04000000, records := 0x04000A00, pos := 71, total := 3024 } })).st
        [(F.GOV_ROOM_PSTATE, 5, 0, 0)])), by decide +kernel⟩,
   ⟨5, (State.reset.dv (fun d => ((d.md mRun).cel (cellsAt (slotBase 1) (hdrBytes 1 (2^64-1) 0))).st
        [(F.GOV_ROOM_PSTATE, 5, 0, 0), (F.ROOM_LOAD_SRC_SRC, 5, 0, 1), (F.CFG_STATUS_SLOT, 0, 0, 1),
        (F.ROOM_PLANE_STAT_ACT_STATE, 5, 0, actValid), (F.ROOM_PLANE_STAT_SH_STATE, 5, 0, shEmpty)])),
        by decide +kernel⟩,
   ⟨5, { active := false, image := 0x04000000, records := 0x04000A00, pos := 71, total := 3024 },
        (State.reset.dv (fun d => ((d.md mRun).onRoom 5 (fun r => { r with
          load := some { active := false, image := 0x04000000, records := 0x04000A00, pos := 71, total := 3024 } })))),
        by decide +kernel⟩,
   ⟨5, (State.reset.dv (fun d => (d.md mRun))), by decide +kernel⟩,
   ⟨5, (State.reset.dv (fun d => ((d.md mRun).onRoom 5 (fun r => { r with shd := { keep := true } })).st
        [(F.ROOM_PLANE_STAT_SH_STATE, 5, 0, shReady)])), by decide +kernel⟩⟩

/-- Operands and states that meet the hypotheses of every clause of `RoomLoadsAndChecks`, part 2. -/
theorem witness_RoomLoadsAndChecks_2 :
    (∃ n : Fin 64, ∃ s : State, s.dev.sh n.val = shLoading ∨ s.dev.sh n.val = shArmed ∨ s.dev.sh n.val =
        shSwapping) ∧
    (∃ n : Fin 64, ∃ s : State, (s.dev.room n.val).load = none ∨ ∃ l, (s.dev.room n.val).load = some l ∧ l.pos <
        l.total) ∧
    (∃ n : Fin 64, ∃ l : Load, ∃ s : State, (s.dev.room n.val).load = some l ∧ l.full = false ∧ l.active = false
        ∧ l.total ≤ l.pos ∧ 67108864 ≤ l.image ∧ s.dev.roomDigest (s.dev.header l.image) l.image n.val =
        s.dev.digestEntry l.image n.val) ∧
    (∃ n : Fin 64, ∃ c : Instr, ∃ s : State, c ∈ [Instr.loadShadow n, Instr.loadActive n] ∧ s.dev.roomOpsUp n.val
        = true ∧ s.dev.roomOpBusy n.val = false ∧ (s.dev.gf F.ROOM_LOAD_SRC_SRC n.val = 0 ∧ 959 < s.dev.gf
        F.ROOM_LOAD_SRC_BLOCK n.val ∨ s.dev.gf F.ROOM_LOAD_SRC_SRC n.val ≠ 0 ∧ s.dev.slotUsable (s.dev.gf
        F.ROOM_LOAD_SRC_SRC n.val) = false)) ∧
    (∃ n : Fin 64, ∃ s : State, s.dev.sh n.val = shEmpty) ∧
    (∃ n : Fin 64, ∃ l : Load, ∃ s : State, (s.dev.room n.val).load = some l ∧ l.full = false ∧ l.total ≤ l.pos ∧
        decide (s.dev.roomDigest (s.dev.header l.image) l.image n.val = s.dev.digestEntry l.image n.val) = true ∧
        (67108864 ≤ l.image ∨ s.dev.poolFails l.image = [])) :=
  ⟨⟨5, (State.reset.dv (fun d => (d.md mRun).st [(F.ROOM_PLANE_STAT_SH_STATE, 5, 0, shSwapping)])),
        by decide +kernel⟩,
   ⟨5, (State.reset.dv (fun d => ((d.md mRun).onRoom 5 (fun r => { r with
          load := some { active := false, image := 0x04000000, records := 0x04000A00, pos := 71, total := 3024 } })))),
        by decide +kernel⟩,
   ⟨0, { active := false, image := 0x04000000, records := 0x04000A00, pos := 2305, total := 2305 },
        (digestState false 1 digest0), by decide +kernel, by decide +kernel, by decide +kernel, by decide +kernel,
        by decide +kernel, digest0_ok _ _⟩,
   ⟨5, (.loadActive 5), (State.reset.dv (fun d => (d.md mRun).st [(F.GOV_ROOM_PSTATE, 5, 0, 0),
        (F.ROOM_LOAD_SRC_SRC, 5, 0, 0), (F.ROOM_LOAD_SRC_BLOCK, 5, 0, 960), (F.CFG_STATUS_SLOT, 0, 0, 1),
        (F.ROOM_PLANE_STAT_ACT_STATE, 5, 0, actValid), (F.ROOM_PLANE_STAT_SH_STATE, 5, 0, shEmpty)])),
        by decide +kernel⟩,
   ⟨5, (State.reset.dv (fun d => (d.md mRun).st [(F.ROOM_PLANE_STAT_SH_STATE, 5, 0, shEmpty)])),
        by decide +kernel⟩,
   ⟨0, { active := false, image := 0x04000000, records := 0x04000A00, pos := 2305, total := 2305 },
        (digestState false 1 digest0), by decide +kernel, by decide +kernel, by decide +kernel, decide_eq_true
        (digest0_ok _ _), by decide +kernel⟩⟩

/-- Operands and states that meet the hypotheses of every clause of `RoomLoadsAndChecks`, part 3. -/
theorem witness_RoomLoadsAndChecks_3 :
    (∃ n : Fin 64, ∃ l : Load, ∃ s : State, (s.dev.room n.val).load = some l ∧ l.full = false ∧ l.total ≤ l.pos ∧
        decide (s.dev.roomDigest (s.dev.header l.image) l.image n.val = s.dev.digestEntry l.image n.val) = false ∧
        s.dev.lcState = 4) ∧
    (∃ n : Fin 64, ∃ l : Load, ∃ s : State, (s.dev.room n.val).load = some l ∧ l.full = false ∧ l.total ≤ l.pos ∧
        s.dev.lcState ≠ 4) :=
  ⟨⟨0, { active := true, image := 0x04000000, records := 0x04000A00, pos := 2305, total := 2305 }, (digestState
        true 4 (digest0.map (fun b => ~~~b))), by decide +kernel, by decide +kernel, by decide +kernel,
        decide_eq_false (digest0_wrong _ _), by decide +kernel⟩,
   ⟨0, { active := true, image := 0x04000000, records := 0x04000A00, pos := 2305, total := 2305 }, (rlc
        State.reset true 0x04000000 2305 [] [(F.SEC_LCS_STATE, 0, 0, 2)]), by decide +kernel⟩⟩

/-- Operands and states that meet the hypotheses of every clause of `SwapArmingAndExchange`, part 1. -/
theorem witness_SwapArmingAndExchange_1 :
    (∃ n : Fin 64, ∃ s : State, s.dev.roomOpsUp n.val = true ∧ s.dev.roomOpBusy n.val = false ∧ s.dev.sh n.val =
        shReady ∧ s.dev.gf F.ROOM_SWAP_ARM_TRIG n.val ≠ 0) ∧
    (∃ n : Fin 64, ∃ s : State, s.dev.roomOpsUp n.val = true ∧ s.dev.roomOpBusy n.val = false ∧ s.dev.sh n.val =
        shReady ∧ s.dev.gf F.ROOM_SWAP_ARM_TRIG n.val = 0) ∧
    (∃ n : Fin 64, ∃ s : State, s.dev.roomOpsUp n.val = true ∧ s.dev.roomOpBusy n.val = false ∧ s.dev.sh n.val ≠
        shReady) ∧
    (∃ n : Fin 64, ∃ s : State, s.dev.sh n.val = shArmed) ∧
    (∃ n : Fin 64, ∃ s : State, s.dev.sh n.val = shSwapping) ∧
    (∃ n : Fin 64, ∃ dt : Nat, ∃ a : Arm, ∃ s : State, (s.dev.room n.val).arm = some a ∧ a.trig = 1 ∧ s.dev.sh
        n.val = shArmed ∧ s.dev.evOn = true ∧ a.ahead = true ∧ (a.revEn = true → ((s.dev.tick dt).pPred
        a.unit.toNat).toNat / 2 ^ 32 % 2 ^ 14 = a.rev.toNat) ∧ (s.dev.tick dt).markAhead a.unit.toNat
        a.angle.toNat = false ∧ s.dev.gb F.EVT_ANG_STAT_STALL a.unit.toNat = false) :=
  ⟨⟨5, (State.reset.dv (fun d => (d.md mRun).st [(F.ROOM_PLANE_STAT_SH_STATE, 5, 0, shReady),
        (F.GOV_ROOM_PSTATE, 5, 0, 0), (F.ROOM_PLANE_STAT_ACT_STATE, 5, 0, actValid), (F.ROOM_SWAP_ARM_TRIG, 5, 0,
        1)])), by decide +kernel⟩,
   ⟨5, (State.reset.dv (fun d => ((d.md mRun).onRoom 5 (fun r =>
        { r with gsr := false, clamps := false, down := false })).st [(F.ROOM_PLANE_STAT_SH_STATE, 5, 0, shReady),
        (F.GOV_ROOM_PSTATE, 5, 0, 0), (F.ROOM_PLANE_STAT_ACT_STATE, 5, 0, actValid), (F.ROOM_SWAP_ARM_TRIG, 5, 0,
        0)])), by decide +kernel⟩,
   ⟨5, (State.reset.dv (fun d => ((d.md mRun)).st [(F.ROOM_PLANE_STAT_SH_STATE, 5, 0, shInvalid),
        (F.GOV_ROOM_PSTATE, 5, 0, 0), (F.ROOM_PLANE_STAT_ACT_STATE, 5, 0, actValid)])), by decide +kernel⟩,
   ⟨5, (State.reset.dv (fun d => ((d.md mRun)).st [(F.ROOM_PLANE_STAT_SH_STATE, 5, 0, shArmed)])),
        by decide +kernel⟩,
   ⟨5, (State.reset.dv (fun d => ((d.md mRun)).st [(F.ROOM_PLANE_STAT_SH_STATE, 5, 0, shSwapping)])),
        by decide +kernel⟩,
   ⟨5, 7, ⟨1, 2, 0, false, 0, 0, true⟩, (State.reset.dv (fun d => ((d.md mRun).onRoom 5 (fun r =>
        { r with gsr := false, clamps := false, down := false, arm := some ⟨1, 2, 0, false, 0, 0, true⟩ })).st
        [(F.ROOM_PLANE_STAT_SH_STATE, 5, 0, shArmed), (F.CLK_ISL_STAT_RUN, 98, 0, 1), (F.EVT_ANG_STAT_STALL, 2, 0,
        0)])), by decide +kernel⟩⟩

/-- Operands and states that meet the hypotheses of every clause of `SwapArmingAndExchange`, part 2. -/
theorem witness_SwapArmingAndExchange_2 :
    (∃ n : Fin 64, ∃ dt : Nat, ∃ a : Arm, ∃ s : State, (s.dev.room n.val).arm = some a ∧ a.trig = 1 ∧ s.dev.sh
        n.val = shArmed ∧ s.dev.evOn = true ∧ a.ahead = true ∧ (a.revEn = true → ((s.dev.tick dt).pPred
        a.unit.toNat).toNat / 2 ^ 32 % 2 ^ 14 = a.rev.toNat) ∧ (s.dev.tick dt).markAhead a.unit.toNat
        a.angle.toNat = false ∧ s.dev.gb F.EVT_ANG_STAT_STALL a.unit.toNat = true) ∧
    (∃ n : Fin 64, ∃ s : State, (s.dev.room n.val).stage = Stage.swapDrain ∧ s.dev.drained n.val = true) ∧
    (∃ n : Fin 64, ∃ s : State, (s.dev.room n.val).stage = Stage.swapDrain ∧ s.dev.drained n.val = false) ∧
    (∃ n : Fin 64, ∃ s : State, (s.dev.room n.val).stage = Stage.swapDrain ∧ s.dev.drained n.val = false ∧
        s.dev.gb F.ROOM_SWAP_CFG_DRAIN_ABORT n.val = true) ∧
    (∃ n : Fin 64, ∃ s : State, (s.dev.room n.val).stage = Stage.swapDrain ∧ s.dev.drained n.val = false ∧
        s.dev.gb F.ROOM_SWAP_CFG_DRAIN_ABORT n.val = false) ∧
    (∃ n : Fin 64, ∃ s : State, (s.dev.room n.val).stage = Stage.swapHold ∧ (s.dev.room n.val).shd.keep = true ∧
        (s.dev.room n.val).shd.kind2 = [] ∧ s.dev.gf F.ROOM_PLANE_STAT_SH_SRC n.val = 0 ∧ s.dev.act n.val =
        actValid) :=
  ⟨⟨5, 7, ⟨1, 2, 0, false, 0, 0, true⟩, (State.reset.dv (fun d => ((d.md mRun).onRoom 5 (fun r =>
        { r with gsr := false, clamps := false, down := false, arm := some ⟨1, 2, 0, false, 0, 0, true⟩ })).st
        [(F.ROOM_PLANE_STAT_SH_STATE, 5, 0, shArmed), (F.CLK_ISL_STAT_RUN, 98, 0, 1), (F.EVT_ANG_STAT_STALL, 2, 0,
        1)])), by decide +kernel⟩,
   ⟨5, (State.reset.dv (fun d => ((d.md mRun).onRoom 5 (fun r =>
        { r with gsr := false, clamps := true, down := false, stage := .swapDrain })).st
        [(F.ROOM_PLANE_STAT_SH_STATE, 5, 0, shSwapping)])), by decide +kernel⟩,
   ⟨5, (State.reset.dv (fun d => ((d.md mRun).onRoom 5 (fun r => { r with
          gsr := false, clamps := true, down := false, stage := .swapDrain,
          ep0 := { slots := [(0, { busy := true })]} })).st [(F.ROOM_PLANE_STAT_SH_STATE, 5, 0, shSwapping)])),
        by decide +kernel⟩,
   ⟨5, (State.reset.dv (fun d => ((d.md mRun).onRoom 5 (fun r => { r with
          gsr := false, clamps := true, down := false, stage := .swapDrain,
          ep0 := { slots := [(0, { busy := true })]} })).st [(F.ROOM_PLANE_STAT_SH_STATE, 5, 0, shSwapping),
        (F.ROOM_SWAP_CFG_DRAIN_ABORT, 5, 0, 1)])), by decide +kernel⟩,
   ⟨5, (State.reset.dv (fun d => ((d.md mRun).onRoom 5 (fun r => { r with
          gsr := false, clamps := true, down := false, stage := .swapDrain,
          ep0 := { slots := [(0, { busy := true })]} })).st [(F.ROOM_PLANE_STAT_SH_STATE, 5, 0, shSwapping),
        (F.ROOM_SWAP_CFG_DRAIN_ABORT, 5, 0, 0)])), by decide +kernel⟩,
   ⟨5, (State.reset.dv (fun d => ((d.md mRun).onRoom 5 (fun r => { r with
          stage := .swapHold, act := {drivers := [(1, 1)]}, shd := { keep := true, drivers := [(2, 2)] } })).st
        [(F.ROOM_PLANE_STAT_SH_STATE, 5, 0, shSwapping), (F.ROOM_PLANE_STAT_ACT_STATE, 5, 0, actValid),
        (F.ROOM_PLANE_STAT_SH_SRC, 5, 0, 0)])), by decide +kernel⟩⟩

/-- Operands and states that meet the hypotheses of every clause of `SwapArmingAndExchange`, part 3. -/
theorem witness_SwapArmingAndExchange_3 :
    (∃ n : Fin 64, ∃ s : State, (s.dev.room n.val).stage ≠ Stage.swapHold) ∧
    (∃ n : Fin 64, ∃ s : State, s.dev.sh n.val ∈ [shEmpty, shLoading, shChecking, shReady, shInvalid]) ∧
    (∃ n : Fin 64, ∃ s : State, (s.dev.room n.val).stage = Stage.swapHold ∧ (s.dev.room n.val).shd.keep = true ∧
        (s.dev.room n.val).shd.kind2 = [] ∧ s.dev.gf F.ROOM_PLANE_STAT_SH_SRC n.val = 0 ∧ s.dev.act n.val =
        actDown ∧ (s.dev.room n.val).gsr = true) ∧
    (∃ n : Fin 64, ∃ s : State, (s.dev.room n.val).stage = Stage.swapHold ∧ (s.dev.room n.val).shd.keep = false) ∧
    (∃ n : Fin 64, ∃ s : State, ∀ (a : Arm), (s.dev.room n.val).arm = some a → a.trig ≠ 1) :=
  ⟨⟨5, (State.reset.dv (fun d => ((d.md mRun)))), by decide +kernel⟩,
   ⟨5, (State.reset.dv (fun d => ((d.md mRun)).st [(F.ROOM_PLANE_STAT_SH_STATE, 5, 0, shEmpty)])),
        by decide +kernel⟩,
   ⟨5, (State.reset.dv (fun d => ((d.md mRun).onRoom 5 (fun r => { r with
          gsr := true, stage := .swapHold, act := {drivers := [(1, 1)]},
          shd := { keep := true, drivers := [(2, 2)] } })).st [(F.ROOM_PLANE_STAT_SH_STATE, 5, 0, shSwapping),
        (F.ROOM_PLANE_STAT_ACT_STATE, 5, 0, actDown), (F.ROOM_PLANE_STAT_SH_SRC, 5, 0, 0)])), by decide +kernel⟩,
   ⟨5, (State.reset.dv (fun d => ((d.md mRun).onRoom 5 (fun r =>
        { r with stage := .swapHold, act := {drivers := [(1, 1)]}, shd := { drivers := [(2, 2)] } })).st
        [(F.ROOM_PLANE_STAT_SH_STATE, 5, 0, shSwapping), (F.ROOM_PLANE_STAT_ACT_STATE, 5, 0, actValid),
        (F.ROOM_PLANE_STAT_SH_SRC, 5, 0, 0)])), by decide +kernel⟩,
   ⟨5, (State.reset.dv (fun d => d.md mRun)), by decide +kernel⟩⟩

/-- Operands and states that meet the hypotheses of every clause of `Scrubbing`. -/
theorem witness_Scrubbing :
    (∃ n : Fin 64, ∃ s : State, s.dev.scrubRuns n.val = false) ∧
    (∃ n : Fin 64, ∃ s : State, s.dev.scrubRuns n.val = true ∧ (2304 ≤ s.dev.gf F.ROOM_SCRUB_STAT_POSITION n.val
        ∨ s.dev.scrubCovers (n.val) (s.dev.gb F.ROOM_SCRUB_STAT_PLANE n.val) = false) ∧ s.dev.gf
        F.ROOM_SCRUB_STAT_POSITION n.val < 3023 ∧ (s.dev.room n.val).gsr = false) ∧
    (∃ n : Fin 64, ∃ s : State, s.dev.scrubRuns n.val = true ∧ s.dev.gf F.ROOM_SCRUB_STAT_POSITION n.val = 3023 ∧
        (s.dev.room n.val).gsr = false) ∧
    (∃ n : Fin 64, ∃ upset : BitVec 2048, ∃ s : State, s.dev.scrubRuns n.val = true ∧ (s.dev.room n.val).gsr =
        false ∧ s.dev.gb F.ROOM_SCRUB_STAT_PLANE n.val = false ∧ s.dev.act n.val = actValid ∧ s.dev.gf
        F.ROOM_SCRUB_STAT_POSITION n.val < 2304 ∧ frameAgrees s.dev n.val (s.dev.gf F.ROOM_SCRUB_STAT_POSITION
        n.val) upset) ∧
    (∃ n : Fin 64, ∃ upset : BitVec 2048, ∃ disturbed : Fin 3, ∃ s : State, s.dev.scrubRuns n.val = true ∧
        (s.dev.room n.val).gsr = false ∧ s.dev.gb F.ROOM_SCRUB_STAT_PLANE n.val = false ∧ s.dev.act n.val =
        actValid ∧ s.dev.gf F.ROOM_SCRUB_STAT_POSITION n.val < 2304 ∧ ¬ frameAgrees s.dev n.val (s.dev.gf
        F.ROOM_SCRUB_STAT_POSITION n.val) upset ∧ disturbed.val ≠ 2 ∧ s.dev.canDecrypt (s.dev.scrubSource (n.val)
        (s.dev.gf F.ROOM_SCRUB_STAT_POSITION n.val) false).1 = true ∧ BitVec.toNat (frameCrc (field4 (s.dev.record
        (s.dev.scrubSource (n.val) (s.dev.gf F.ROOM_SCRUB_STAT_POSITION n.val) false).2.1) 0) (s.dev.plain
        (s.dev.scrubSource (n.val) (s.dev.gf F.ROOM_SCRUB_STAT_POSITION n.val) false).1 (s.dev.scrubSource (n.val)
        (s.dev.gf F.ROOM_SCRUB_STAT_POSITION n.val) false).2.2 (s.dev.record (s.dev.scrubSource (n.val) (s.dev.gf
        F.ROOM_SCRUB_STAT_POSITION n.val) false).2.1))) = field4 (s.dev.record (s.dev.scrubSource (n.val)
        (s.dev.gf F.ROOM_SCRUB_STAT_POSITION n.val) false).2.1) 260 ∧ (∃ m, guardCheck (withoutFrame (s.dev.room
        n.val).act.drivers (s.dev.gf F.ROOM_SCRUB_STAT_POSITION n.val)) (s.dev.gf F.ROOM_SCRUB_STAT_POSITION
        n.val) (s.dev.plain (s.dev.scrubSource (n.val) (s.dev.gf F.ROOM_SCRUB_STAT_POSITION n.val) false).1
        (s.dev.scrubSource (n.val) (s.dev.gf F.ROOM_SCRUB_STAT_POSITION n.val) false).2.2 (s.dev.record
        (s.dev.scrubSource (n.val) (s.dev.gf F.ROOM_SCRUB_STAT_POSITION n.val) false).2.1)) = Except.ok m)) ∧
    (∃ n : Fin 64, ∃ upset : BitVec 2048, ∃ disturbed : Fin 3, ∃ s : State, s.dev.scrubRuns n.val = true ∧
        (s.dev.room n.val).gsr = false ∧ s.dev.gb F.ROOM_SCRUB_STAT_PLANE n.val = false ∧ s.dev.act n.val =
        actValid ∧ s.dev.gf F.ROOM_SCRUB_STAT_POSITION n.val < 2304 ∧ ¬ frameAgrees s.dev n.val (s.dev.gf
        F.ROOM_SCRUB_STAT_POSITION n.val) upset ∧ disturbed.val = 2) :=
  ⟨⟨5, (State.reset.dv (fun d => ((d.md mRun)).st [(F.ROOM_SCRUB_STAT_RUNNING, 5, 0, 0)])), by decide +kernel⟩,
   ⟨5, (scr State.reset [] [(F.ROOM_SCRUB_STAT_POSITION, 5, 0, 2304)]), by decide +kernel⟩,
   ⟨5, (scr State.reset [] [(F.ROOM_SCRUB_STAT_POSITION, 5, 0, 3023)]), by decide +kernel⟩,
   ⟨5, 0, scrubState, by decide +kernel, by decide +kernel, by decide +kernel, by decide +kernel,
        by decide +kernel, scrubState_agrees⟩,
   ⟨5, 3, 0, scrubState, by decide +kernel, by decide +kernel, by decide +kernel, by decide +kernel,
        by decide +kernel, scrubState_differs, by decide +kernel, by decide +kernel, by decide +kernel, ⟨[(0, 0)],
        ok_of (by decide +kernel)⟩⟩,
   ⟨5, 3, 2, scrubState, by decide +kernel, by decide +kernel, by decide +kernel, by decide +kernel,
        by decide +kernel, scrubState_differs, by decide +kernel⟩⟩

/-- Operands and states that meet the hypotheses of every clause of `NeighbourChannels`, part 1. -/
theorem witness_NeighbourChannels_1 :
    (∃ n : Fin 64, ∃ side : Fin 4, ∃ j : Fin 4, ∃ s : State, (neighbour n.val side.val).isSome = true ∧
        s.dev.roomUp n.val = true ∧ s.dev.portEn (n.val) (txPort side.val j.val) = true ∧ s.dev.txRefused n.val
        side.val j.val = false ∧ 0 < (s.ch n.val side.val j.val).credits) ∧
    (∃ n : Fin 64, ∃ side : Fin 4, ∃ j : Fin 4, ∃ s : State, ¬((neighbour n.val side.val).isSome = true ∧
        s.dev.roomUp n.val = true ∧ s.dev.portEn (n.val) (txPort side.val j.val) = true ∧ s.dev.txRefused n.val
        side.val j.val = false ∧ 0 < (s.ch n.val side.val j.val).credits)) ∧
    (∃ n : Fin 64, ∃ m : Fin 64, ∃ side : Fin 4, ∃ j : Fin 4, ∃ w : BitVec 36, ∃ mark : Bool, ∃ rest : List
        (BitVec 36 × Bool), ∃ s : State, neighbour n.val side.val = some m.val ∧ (s.ch n.val side.val j.val).wires
        = (w, mark) :: rest ∧ mark = false ∧ (s.ch n.val side.val j.val).rxRefusing = false ∧ s.dev.roomUp m.val =
        true ∧ s.dev.portEn (m.val) (rxPort (opposite side.val) j.val) = true ∧ (s.ch n.val side.val
        j.val).fifo.length < 4) ∧
    (∃ n : Fin 64, ∃ m : Fin 64, ∃ side : Fin 4, ∃ j : Fin 4, ∃ w : BitVec 36, ∃ mark : Bool, ∃ rest : List
        (BitVec 36 × Bool), ∃ s : State, neighbour n.val side.val = some m.val ∧ (s.ch n.val side.val j.val).wires
        = (w, mark) :: rest ∧ (mark = true ∨ (s.ch n.val side.val j.val).rxRefusing = true ∨ s.dev.roomUp m.val =
        false ∨ s.dev.portEn (m.val) (rxPort (opposite side.val) j.val) = false)) ∧
    (∃ n : Fin 64, ∃ m : Fin 64, ∃ side : Fin 4, ∃ j : Fin 4, ∃ w : BitVec 36, ∃ rest : List (BitVec 36), ∃ s :
        State, neighbour n.val side.val = some m.val ∧ (s.ch n.val side.val j.val).fifo = w :: rest ∧ (s.dev.room
        m.val).gsr = false) ∧
    (∃ n : Fin 64, ∃ side : Fin 4, ∃ j : Fin 4, ∃ s : State, 0 < (s.ch n.val side.val j.val).acks) :=
  ⟨⟨9, 1, 3, ((State.reset.dv (fun d => ((d.md mRun).onRoom 9 (·.up)).st [(F.ROOM_NCH_STAT_PEER_UP, 9, 0, 15),
        (F.ROOM_NCH_EN_EN, 9, 0, 0xFFFF), (⟨.ROOM_NCH_STAT, 0, 16⟩, 9, 0, 0)]))), by decide +kernel⟩,
   ⟨9, 1, 3, ((State.reset.dv (fun d => ((d.md mRun).onRoom 9 (·.up)).st [(F.ROOM_NCH_STAT_PEER_UP, 9, 0, 15),
        (F.ROOM_NCH_EN_EN, 9, 0, 0), (⟨.ROOM_NCH_STAT, 0, 16⟩, 9, 0, 0)]))), by decide +kernel⟩,
   ⟨9, 10, 1, 3, 5, false, [(6, true)], (({ (State.reset.dv (fun d => ((d.md mRun).onRoom 10 (·.up)).st [(F.ROOM_NCH_EN_EN, 10, 0, 0xFFFFFFFF)])) with
          nch := [(9*16+4+3, { wires := [(5, false), (6, true)], fifo := [1, 2, 3] })] })), by decide +kernel⟩,
   ⟨9, 10, 1, 3, 5, true, [(6, true)], (({ (State.reset.dv (fun d => ((d.md mRun).onRoom 10 (·.up)).st [(F.ROOM_NCH_EN_EN, 10, 0, 0xFFFFFFFF)])) with
          nch := [(9*16+4+3, { wires := [(5, true), (6, true)], fifo := [1, 2, 3] })] })), by decide +kernel⟩,
   ⟨9, 10, 1, 3, 1, [2, 3], (({ (State.reset.dv (fun d => ((d.md mRun).onRoom 10 (·.up)).st [(F.ROOM_NCH_EN_EN, 10, 0, 0xFFFFFFFF)])) with
          nch := [(9*16+4+3, { wires := [(5, false), (6, true)], fifo := [1, 2, 3] })] })), by decide +kernel⟩,
   ⟨9, 1, 3, (({ (State.reset.dv (fun d => ((d.md mRun).onRoom 10 (·.up)).st [(F.ROOM_NCH_EN_EN, 10, 0, 0xFFFFFFFF)])) with
          nch := [(9*16+4+3, { acks := 1 })] })), by decide +kernel⟩⟩

/-- Operands and states that meet the hypotheses of every clause of `NeighbourChannels`, part 2. -/
theorem witness_NeighbourChannels_2 :
    (∃ n : Fin 64, ∃ side : Fin 4, ∃ j : Fin 4, ∃ s : State, 0 < (s.ch n.val side.val j.val).nacks) ∧
    (∃ n : Fin 64, ∃ side : Fin 4, ∃ j : Fin 4, ∃ s : State, 0 < (s.ch n.val side.val j.val).loss) ∧
    (∃ n : Fin 64, ∃ m : Fin 64, ∃ side : Fin 4, ∃ j : Fin 4, ∃ s : State, neighbour n.val side.val = some m.val
        ∧ s.dev.txRefused n.val side.val j.val = true ∧ (s.dev.room n.val).gsr = false ∧ s.dev.roomUp m.val = true) ∧
    (∃ n : Fin 64, ∃ m : Fin 64, ∃ side : Fin 4, ∃ j : Fin 4, ∃ s : State, neighbour n.val side.val = some m.val
        ∧ s.dev.txRefused n.val side.val j.val = true ∧ (s.dev.room n.val).gsr = false ∧ s.dev.roomUp m.val =
        false) ∧
    (∃ b : Fin 18, ∃ toPin : Bool, ∃ drained : Nat, ∃ s : State, s.dev.gb F.CLK_ISL_CTRL_BOND (64 + b.val) =
        false ∧ (List.drop drained ((fun r => if toPin = true then r.crossOut else r.crossIn) (s.dev.room
        (facingRoom b.val)))).length < 8) ∧
    (∃ b : Fin 18, ∃ toPin : Bool, ∃ drained : Nat, ∃ s : State, s.dev.gb F.CLK_ISL_CTRL_BOND (64 + b.val) =
        false ∧ 8 ≤ (List.drop drained ((fun r => if toPin = true then r.crossOut else r.crossIn) (s.dev.room
        (facingRoom b.val)))).length) :=
  ⟨⟨9, 1, 3, (({ (State.reset.dv (fun d => ((d.md mRun).onRoom 10 (·.up)).st [(F.ROOM_NCH_EN_EN, 10, 0, 0xFFFFFFFF)])) with
          nch := [(9*16+4+3, { nacks := 1, credits := 2 })] })), by decide +kernel⟩,
   ⟨9, 1, 3, (({ (State.reset.dv (fun d => ((d.md mRun).onRoom 10 (·.up)).st [(F.ROOM_NCH_EN_EN, 10, 0, 0xFFFFFFFF)])) with
          nch := [(9*16+4+3, { loss := 1, credits := 2 })] })), by decide +kernel⟩,
   ⟨9, 10, 1, 3, (({ (State.reset.dv (fun d => (((d.md mRun).onRoom 10 (·.up)).onRoom 9 (·.up)).st [(⟨.ROOM_NCH_STAT, 7, 1⟩, 9, 0, 1)])) with
          nch := [(9*16+4+3, { rxRefusing := true, wires := [(5, false), (6, true)] })] })), by decide +kernel⟩,
   ⟨9, 10, 1, 3, (({ (State.reset.dv (fun d => (((d.md mRun)).onRoom 9 (·.up)).st [(⟨.ROOM_NCH_STAT, 7, 1⟩, 9, 0, 1)])) with
          nch := [(9*16+4+3, { rxRefusing := true, wires := [(5, false), (6, true)] })] })), by decide +kernel⟩,
   ⟨17, true, 1, (State.reset.dv (fun d => (d.onRoom (facingRoom 17) (fun r =>
        { r with crossOut := [0, 1, 2, 3, 4, 5, 6, 7] })).st [(F.CLK_ISL_CTRL_BOND, 81, 0, 0)])),
        by decide +kernel⟩,
   ⟨17, false, 0, (State.reset.dv (fun d => (d.onRoom (facingRoom 17) (fun r =>
        { r with crossIn := [0, 1, 2, 3, 4, 5, 6, 7] })).st [(F.CLK_ISL_CTRL_BOND, 81, 0, 0)])),
        by decide +kernel⟩⟩

/-- Operands and states that meet the hypotheses of every clause of `NeighbourChannels`, part 3. -/
theorem witness_NeighbourChannels_3 :
    ∃ b : Fin 18, ∃ s : State, s.dev.gb F.CLK_ISL_CTRL_BOND (64 + b.val) = true :=
  ⟨17, (State.reset.dv (fun d => (d.onRoom (facingRoom 17) (fun r =>
        { r with crossIn := [0, 1, 2, 3, 4, 5, 6, 7] })).st [(F.CLK_ISL_CTRL_BOND, 81, 0, 1)])),
        by decide +kernel⟩

/-- Operands and states that meet the hypotheses of every clause of `CorridorExchanges`, part 1. -/
theorem witness_CorridorExchanges_1 :
    (∃ n : Fin 64, ∃ e : Fin 4, ∃ op : BitVec 4, ∃ len : BitVec 4, ∃ flits : List (BitVec 64), ∃ s : State,
        s.dev.mayIssue (n.val) (e.val) op len = true ∧ flits.length ≤ payloadFlits op (packetLen op len)) ∧
    (∃ n : Fin 64, ∃ e : Fin 4, ∃ op : BitVec 4, ∃ len : BitVec 4, ∃ s : State, s.dev.mayIssue (n.val) (e.val) op
        len = false) ∧
    (∃ n : Fin 64, ∃ p : Fin 6, ∃ x : Packet, ∃ before : List Packet, ∃ after : List Packet, ∃ s : State,
        x.srcRtr = n.val ∧ x.srcPort = p.val ∧ x.flits.length < x.need ∧ (∀ y ∈ before ++ after, ¬(y.srcRtr =
        n.val ∧ y.srcPort = p.val ∧ y.flits.length < y.need)) ∧ (∀ y ∈ s.dev.held, y.answered = true →
        y.flits.length < y.need) ∧ s.dev.net = before ++ x :: after ∧ (∀ y ∈ s.dev.held, ¬(y.srcRtr = n.val ∧
        y.srcPort = p.val ∧ y.flits.length < y.need))) ∧
    (∃ n : Fin 64, ∃ p : Fin 6, ∃ x : Packet, ∃ before : List Packet, ∃ after : List Packet, ∃ s : State,
        x.srcRtr = n.val ∧ x.srcPort = p.val ∧ x.flits.length < x.need ∧ (∀ y ∈ before ++ after, ¬(y.srcRtr =
        n.val ∧ y.srcPort = p.val ∧ y.flits.length < y.need)) ∧ (∀ y ∈ s.dev.held, y.answered = true →
        y.flits.length < y.need) ∧ s.dev.held = before ++ x :: after ∧ (∀ y ∈ s.dev.net, ¬(y.srcRtr = n.val ∧
        y.srcPort = p.val ∧ y.flits.length < y.need))) ∧
    (∃ k : Nat, ∃ p : Packet, ∃ m : Fin 64, ∃ e : Fin 4, ∃ s : State, s.dev.arriving k = some p ∧ p.dstRtr =
        m.val ∧ p.dstPort = e.val ∧ p.need ≤ p.flits.length ∧ (s.dev.room m.val).gsr = false ∧ (s.dev.room
        m.val).clamps = false ∧ (s.dev.gf F.ROOM_COR_CTRL_TGT_EN m.val).testBit e.val = true ∧ p.op.toNat < 4 ∧
        ((s.dev.ep m.val e.val).reqBuf = [] ∨ (List.map Packet.size (s.dev.ep m.val e.val).reqBuf).sum + p.size ≤
        16)) ∧
    (∃ k : Nat, ∃ p : Packet, ∃ m : Fin 64, ∃ e : Fin 4, ∃ s : State, s.dev.arriving k = some p ∧ p.dstRtr =
        m.val ∧ p.dstPort = e.val ∧ p.need ≤ p.flits.length ∧ ((s.dev.room m.val).gsr = true ∨ (s.dev.room
        m.val).clamps = true)) :=
  ⟨⟨9, 2, 1, 0xF, [7, 8], (State.reset.dv (fun d => ((d.md mRun).onRoom 9 (fun r =>
        { r.up with ep2 := { slots := [(0, {busy := true}), (1, {gen := true})] } })).st [(F.ROOM_COR_CTRL_EP_EN,
        9, 0, 4), (F.ROOM_COR_CTRL_TIMEOUT, 9, 0, 6)])), by decide +kernel⟩,
   ⟨9, 2, 0, 0xF, (State.reset.dv (fun d => (d.md mRun))), by decide +kernel⟩,
   ⟨3, 1, { pk with flits := [5], need := 2 }, [{pk with srcPort := 2, need := 3}], [pk], (State.reset.dv (fun
        d => { d with
          held := [pk], net := [{pk with srcPort := 2, need := 3}, { pk with flits := [5], need := 2 }, pk] })),
        by decide +kernel⟩,
   ⟨3, 1, { pk with flits := [5], need := 2, answered := true }, [{pk with srcPort := 2, need := 3}], [pk],
        (State.reset.dv (fun d => { d with
          net := [pk],
          held := [{pk with srcPort := 2, need := 3}, { pk with flits := [5], need := 2, answered := true }, pk] })),
        by decide +kernel⟩,
   ⟨1, pk, 9, 2, (State.reset.dv (fun d => (({ d with net := [{pk with srcRtr := 7}, pk] }).onRoom 9 (·.up)).st
        [(F.ROOM_COR_CTRL_TGT_EN, 9, 0, 15)])), by decide +kernel⟩,
   ⟨1, pk, 9, 2, (State.reset.dv (fun d => (({ d with net := [{pk with srcRtr := 7}, pk] }).onRoom 9 (fun r =>
        { r.up with clamps := true})).st [(F.ROOM_COR_CTRL_TGT_EN, 9, 0, 15)])), by decide +kernel⟩⟩

/-- Operands and states that meet the hypotheses of every clause of `CorridorExchanges`, part 2. -/
theorem witness_CorridorExchanges_2 :
    (∃ k : Nat, ∃ p : Packet, ∃ s : State, s.dev.arriving k = some p ∧ 4 ≤ p.dstPort ∧ p.need ≤ p.flits.length ∧
        (p.dstPort ≠ 6 ∨ attachOf p.dstRtr = none)) ∧
    (∃ n : Fin 64, ∃ e : Fin 4, ∃ p : Packet, ∃ l : List Packet, ∃ s : State, s.dev.roomUp n.val = true ∧
        (s.dev.ep n.val e.val).reqBuf = p :: l) ∧
    (∃ n : Fin 64, ∃ e : Fin 4, ∃ k : Nat, ∃ data : List (BitVec 64), ∃ p : Packet, ∃ s : State, (s.dev.ep n.val
        e.val).taken[k]? = some p ∧ (s.dev.room n.val).gsr = false ∧ (p.op = opRead → data.length = p.len.toNat +
        1)) ∧
    (∃ k : Nat, ∃ r : RespPkt, ∃ n : Fin 64, ∃ e : Fin 4, ∃ s : State, s.dev.respArriving k = some r ∧ r.dstRtr =
        n.val ∧ r.dstPort = e.val ∧ (s.dev.room n.val).gsr = false ∧ ((s.dev.ep n.val e.val).slot
        r.slot).quarantine = false ∧ ((s.dev.ep n.val e.val).slot r.slot).busy = true ∧ ((s.dev.ep n.val
        e.val).slot r.slot).gen = r.gen) ∧
    (∃ k : Nat, ∃ r : RespPkt, ∃ n : Fin 64, ∃ e : Fin 4, ∃ s : State, s.dev.respArriving k = some r ∧ r.dstRtr =
        n.val ∧ r.dstPort = e.val ∧ (s.dev.room n.val).gsr = false ∧ ((s.dev.ep n.val e.val).slot
        r.slot).quarantine = false ∧ (((s.dev.ep n.val e.val).slot r.slot).busy = false ∨ ((s.dev.ep n.val
        e.val).slot r.slot).gen ≠ r.gen)) ∧
    (∃ k : Nat, ∃ r : RespPkt, ∃ n : Fin 64, ∃ e : Fin 4, ∃ s : State, s.dev.respArriving k = some r ∧ r.dstRtr =
        n.val ∧ r.dstPort = e.val ∧ (s.dev.room n.val).gsr = true) :=
  ⟨⟨0, { pk with dstPort := 6 }, (State.reset.dv (fun d => (({ d with net := [{ pk with dstPort := 6 }] })))),
        by decide +kernel⟩,
   ⟨9, 2, pk, [pk], (State.reset.dv (fun d => (d.md mRun).onRoom 9 (fun r =>
        { r.up with ep2 := { reqBuf := [pk, pk] } }) )), by decide +kernel⟩,
   ⟨9, 2, 1, [7], pk, (State.reset.dv (fun d => (d.md mRun).onRoom 9 (fun r =>
        { r.up with ep2 := { taken := [{pk with slot := 9}, pk] } }) )), by decide +kernel⟩,
   ⟨1, rp, 9, 2, (State.reset.dv (fun d => ({ d.md mRun with netResp := [{rp with srcRtr := 5}, rp] }).onRoom 9
        (fun r => { r.up with ep2 := { slots := [(4, { busy := true, gen := true, reserve := 2 })] } }) )),
        by decide +kernel⟩,
   ⟨1, rp, 9, 2, (State.reset.dv (fun d => ({ d.md mRun with netResp := [{rp with srcRtr := 5}, rp] }).onRoom 9
        (fun r => { r.up with ep2 := { slots := [(4, { busy := true, gen := false, reserve := 2 })] } }) )),
        by decide +kernel⟩,
   ⟨1, rp, 9, 2, (State.reset.dv (fun d => ({ d.md mRun with netResp := [{rp with srcRtr := 5}, rp] }).onRoom 9
        (fun r => { r with ep2 := { slots := [(4, { busy := true, gen := false, reserve := 2 })] } }) )),
        by decide +kernel⟩⟩

/-- Operands and states that meet the hypotheses of every clause of `CorridorExchanges`, part 3. -/
theorem witness_CorridorExchanges_3 :
    (∃ n : Fin 64, ∃ s : State, (s.dev.room n.val).gsr = false) ∧
    (∃ n : Fin 64, ∃ e : Fin 4, ∃ k : Fin 32, ∃ s : State, ((s.dev.ep n.val e.val).slot k.val).busy = true ∧
        ((s.dev.ep n.val e.val).slot k.val).timeout ≠ 0 ∧ (s.dev.room n.val).gsr = false) ∧
    (∃ n : Fin 64, ∃ e : Fin 4, ∃ k : Fin 32, ∃ s : State, ((s.dev.ep n.val e.val).slot k.val).quarantine = true) ∧
    (∃ k : Nat, ∃ p : Packet, ∃ s : State, s.dev.arriving k = some p ∧ p.dstPort < 4 ∧ p.flits.length < p.need) ∧
    (∃ k : Nat, ∃ p : Packet, ∃ s : State, ∃ st : Nat, s.dev.arriving k = some p ∧ 4 ≤ p.dstPort ∧ p.need ≤
        p.flits.length ∧ p.dstPort = 6 ∧ s.dev.attachAnswer p = some st) ∧
    (∃ k : Nat, ∃ p : Packet, ∃ x : Target, ∃ s : State, s.dev.arriving k = some p ∧ p.dstPort = 6 ∧
        s.dev.attachAnswer p = none ∧ attachOf p.dstRtr = some x ∧ s.dev.fenced (s.dev.roomArb x) p.srcRtr = false) :=
  ⟨⟨9, (State.reset.dv (fun d => ({ d.md mRun with netResp := [{rp with srcRtr := 5}, rp] }).onRoom 9 (fun r =>
        { r.up with ep2 := { respBuf := [rp, rp] } }) )), by decide +kernel⟩,
   ⟨9, 2, 31, (State.reset.dv (fun d => ({ d.md mRun with netResp := [{rp with srcRtr := 5}, rp] }).onRoom 9
        (fun r => { r.up with ep2 := { slots := [(31, { busy := true, timeout := 1, reserve := 2 })] } }) )),
        by decide +kernel⟩,
   ⟨9, 2, 31, (State.reset.dv (fun d => ({ d.md mRun with netResp := [{rp with srcRtr := 5}, rp] }).onRoom 9
        (fun r => { r.up with ep2 := { slots := [(31, { quarantine := true, byReset := true, reserve := 2 })] } })
        )), by decide +kernel⟩,
   ⟨1, {pk with need := 2}, (State.reset.dv (fun d =>
        (({ d with net := [{pk with srcRtr := 7}, {pk with need := 2}] }).onRoom 9 (·.up)).st
        [(F.ROOM_COR_CTRL_TGT_EN, 9, 0, 15)])), by decide +kernel⟩,
   ⟨0, { pk with dstPort := 6, dstRtr := 1 }, (State.reset.dv (fun d =>
        (({ d with net := [{ pk with dstPort := 6, dstRtr := 1 }] })).st [(F.LAR_QSTAT_STATE, 0, 0, 0)])), 3,
        by decide +kernel⟩,
   ⟨0, { pk with dstPort := 6, dstRtr := 1 }, (.quad 0), (State.reset.dv (fun d =>
        (({ d with net := [{ pk with dstPort := 6, dstRtr := 1 }] })).st [(F.LAR_QSTAT_STATE, 0, 0, 2)])),
        by decide +kernel⟩⟩

/-- Operands and states that meet the hypotheses of every clause of `KeepRegistersAndBlockRam`, part 1. -/
theorem witness_KeepRegistersAndBlockRam_1 :
    (∃ n : Fin 64, ∃ s : State, s.dev.keepAsleep n.val = false) ∧
    (∃ n : Fin 64, ∃ s : State, s.dev.keepAsleep n.val = true) ∧
    (∃ n : Fin 64, ∃ cfg : BramCfg, ∃ pa : BramIn, ∃ pb : BramIn, ∃ s : State, (s.dev.room n.val).gsr = false ∧
        bramCfgOk cfg = true ∧ cfg.ecc = 0 ∧ cfg.widthA.toNat < 6 ∧ cfg.widthB.toNat < 6 ∧ pa.en = true ∧ pa.we =
        255 ∧ pb.en = false) ∧
    (∃ n : Fin 64, ∃ cfg : BramCfg, ∃ pa : BramIn, ∃ pb : BramIn, ∃ s : State, (s.dev.room n.val).gsr = false ∧
        bramCfgOk cfg = true ∧ (pa.we = 0 ∨ cfg.widthA = 6 ∨ cfg.widthB = 6) ∧ (pb.we = 0 ∨ pb.en = false)) ∧
    (∃ n : Fin 64, ∃ s : State, (s.dev.room n.val).gsr = true) ∧
    (∃ n : Fin 64, ∃ cfg : BramCfg, ∃ s : State, bramCfgOk cfg = true ∧ (s.dev.room n.val).gsr = false) :=
  ⟨⟨9, (State.reset.dv (fun d => ((d.md mRun)).st [(F.GOV_ROOM_PSTATE, 9, 0, 0), (F.CLK_ISL_STAT_RUN, 9, 0,
        1)])), by decide +kernel⟩,
   ⟨9, (State.reset.dv (fun d => ((d.md mRun)).st [(F.GOV_ROOM_PSTATE, 9, 0, 2), (F.CLK_ISL_STAT_RUN, 9, 0,
        1)])), by decide +kernel⟩,
   ⟨9, { widthA := 5 }, { en := true, we := 0xFF, addr := 77, din := 0xF23456789 }, {}, (State.reset.dv (fun d
        => ((d.md mRun).onRoom 9 (fun r => { r.up with bram := [(39, { d := 0xABCDEF, p := 5 })] })))),
        by decide +kernel⟩,
   ⟨9, { widthA := 3 }, { en := true, addr := 3, din := 0xF23456789 }, { en := true }, (State.reset.dv (fun d
        => ((d.md mRun).onRoom 9 (fun r => { r.up with bram := [(39, { d := 0xABCDEF, p := 5 })] })))),
        by decide +kernel⟩,
   ⟨9, (State.reset.dv (fun d => ((d.md mRun).onRoom 9 (fun r =>
        { r with bram := [(39, { d := 0xABCDEF, p := 5 })] })))), by decide +kernel⟩,
   ⟨9, { widthA := 3, widthB := 6 }, (bk State.reset { d := 0xABCDEF, p := 5 }), by decide +kernel⟩⟩

/-- Operands and states that meet the hypotheses of every clause of `KeepRegistersAndBlockRam`, part 2. -/
theorem witness_KeepRegistersAndBlockRam_2 :
    ∃ cfg : BramCfg, bramCfgOk cfg = false :=
  ⟨{ widthA := 7 }, by decide +kernel⟩

/-- Operands and states that meet the hypotheses of every clause of `LarderAccessesAndErrors`, part 1. -/
theorem witness_LarderAccessesAndErrors_1 :
    (∃ req : Fin 83, ∃ q : Fin 4, ∃ addr : Word, ∃ len : Fin 16, ∃ us : List (BitVec 72), ∃ s : State, us.length
        = len.val + 1 ∧ s.dev.larTurn q.val req.val { op := opRead, addr := BitVec.toNat addr, len := len.val }) ∧
    (∃ req : Fin 83, ∃ q : Fin 4, ∃ addr : Word, ∃ data : List (BitVec 64), ∃ overG : List Bool, ∃ s : State, 0 <
        data.length ∧ data.length ≤ 16 ∧ overG.length = data.length ∧ s.dev.larTurn q.val req.val
        { op := opWrite, addr := BitVec.toNat addr, len := data.length - 1, data := data }) ∧
    (∃ req : Fin 83, ∃ q : Fin 4, ∃ addr : Word, ∃ mask : BitVec 64, ∃ set : Bool, ∃ s : State, s.dev.larTurn
        q.val req.val
        { op := if set = true then opBitSet else opBitClear, addr := BitVec.toNat addr, len := 0, data := [mask] }) ∧
    (∃ req : Fin 83, ∃ j : Nat, ∃ q : Fin 4, ∃ addr : Word, ∃ len : Fin 16, ∃ us : List (BitVec 72), ∃ same :
        Bool, ∃ data : List (BitVec 64), ∃ overG : List Bool, ∃ mask : BitVec 64, ∃ u : BitVec 72, ∃ c : Instr, ∃
        s : State, c ∈ [Instr.larRead req q addr len ⟨us, same⟩, Instr.larWrite req q addr data overG,
        Instr.larBitSet req q addr mask u, Instr.larBitClear req q addr mask u] ∧ data.length ≤ len.val + 1 ∧
        larAddrOk (q.val) (BitVec.toNat addr) len.val = true ∧ s.dev.quadState q.val = 2 ∧ s.dev.fenced (larArb
        q.val req.val) req.val = false ∧ (s.dev.arb (larArb q.val req.val)).owner = some j ∧ j ≠ req.val) ∧
    (∃ req : Fin 83, ∃ q : Fin 4, ∃ addr : Word, ∃ len : Fin 16, ∃ us : List (BitVec 72), ∃ same : Bool, ∃ data :
        List (BitVec 64), ∃ overG : List Bool, ∃ mask : BitVec 64, ∃ u : BitVec 72, ∃ c : Instr, ∃ s : State, 64 ≤
        req.val ∧ c ∈ [Instr.larRead req q addr len ⟨us, same⟩, Instr.larWrite req q addr data overG, Instr.larBitSet
        req q addr mask u, Instr.larBitClear req q addr mask u] ∧ 0 < data.length ∧ data.length ≤ len.val + 1 ∧
        larAddrOk (q.val) (BitVec.toNat addr) len.val = true ∧ s.dev.quadState q.val ≠ 2) ∧
    (∃ req : Fin 83, ∃ q : Fin 4, ∃ addr : Word, ∃ u : BitVec 72, ∃ s : State, s.dev.larTurn q.val req.val
        { op := opRead, addr := BitVec.toNat addr, len := 0 } ∧ popCount ((s.dev.larWord (BitVec.toNat
        addr)).flips ^^^ u) = 1) :=
  ⟨⟨70, 0, 4, 3, [0, 0, 2, 0], (lw State.reset [(4, ⟨5, 0⟩), (7, ⟨6, 1⟩)]), by decide +kernel⟩,
   ⟨5, 0, 4, [1, 0, 3], [true, false, true], (lw State.reset [(4, ⟨5, 9⟩), (5, ⟨6, 9⟩)] [] (inw
        { pk with op := 1, addr := 4, len := 2, flits := [1, 0, 3], need := 3 })), by decide +kernel⟩,
   ⟨70, 0, 4, 0xF, true, (lw State.reset [(4, ⟨5, 1⟩), (5, ⟨6, 9⟩)]), by decide +kernel⟩,
   ⟨68, 70, 0, 4, 3, [], false, [], [], 5, 0, (.larRead 68 0 4 3 ⟨[], false⟩), (lw State.reset [(4, ⟨5, 3⟩)] []
        (own 1 70 4)), by decide +kernel⟩,
   ⟨68, 0, 4, 3, [], false, [1], [], 5, 0, (.larWrite 68 0 4 [1] []), (lw State.reset [(4, ⟨5, 3⟩)]
        [(F.LAR_QSTAT_STATE, 0, 0, 1)]), by decide +kernel⟩,
   ⟨68, 0, 4, 0, (lw State.reset [(4, ⟨5, 2⟩), (5, ⟨6, 9⟩)] [(F.LAR_CTRL_WB_EN, 0, 0, 1)]), by decide +kernel⟩⟩

/-- Operands and states that meet the hypotheses of every clause of `LarderAccessesAndErrors`, part 2. -/
theorem witness_LarderAccessesAndErrors_2 :
    (∃ req : Fin 83, ∃ q : Fin 4, ∃ addr : Word, ∃ u : BitVec 72, ∃ s : State, s.dev.larTurn q.val req.val
        { op := opRead, addr := BitVec.toNat addr, len := 0 } ∧ popCount ((s.dev.larWord (BitVec.toNat
        addr)).flips ^^^ u) = 2 ∧ s.dev.gb F.LAR_EADDR_VALID = false) ∧
    (∃ wa : BitVec 21, ∃ v : BitVec 64, ∃ s : State, List.find? (fun e => e.1 == wa.toNat) s.dev.lar.writeback =
        some (wa.toNat, v) ∧ s.dev.quadState (larQuad wa.toNat) = 2 ∧ (s.dev.arb (2 * larQuad wa.toNat + 1)).port
        ≠ some (larBank wa.toNat)) ∧
    (∃ wa : BitVec 21, ∃ s : State, (∀ e ∈ s.dev.lar.writeback, e.1 ≠ wa.toNat) ∨ s.dev.quadState (larQuad
        wa.toNat) ≠ 2 ∨ (s.dev.arb (2 * larQuad wa.toNat + 1)).port = some (larBank wa.toNat)) :=
  ⟨⟨68, 0, 4, 0, (lw State.reset [(4, ⟨5, 3⟩), (5, ⟨6, 9⟩)] [(F.LAR_EADDR_VALID, 0, 0, 0)]), by decide +kernel⟩,
   ⟨4, 7, (lw State.reset [(4, ⟨7, 3⟩), (5, ⟨6, 9⟩)]), by decide +kernel⟩,
   ⟨9, (lw State.reset [(4, ⟨7, 3⟩), (5, ⟨6, 9⟩)]), by decide +kernel⟩⟩

/-- Operands and states that meet the hypotheses of every clause of `QuadrantPowerAndTest`, part 1. -/
theorem witness_QuadrantPowerAndTest_1 :
    (∃ q : Fin 4, ∃ s : State, s.dev.quadState q.val = 0 ∧ s.dev.gb F.CLK_ISL_STAT_RUN (94 + q.val) = true) ∧
    (∃ q : Fin 4, ∃ s : State, s.dev.quadState q.val ≠ 0 ∨ s.dev.gb F.CLK_ISL_STAT_RUN (94 + q.val) = false) ∧
    (∃ q : Fin 4, ∃ s : State, s.dev.quadState q.val = 1 ∧ s.dev.gov.sleep = none) ∧
    (∃ q : Fin 4, ∃ s : State, s.dev.quadState q.val ≠ 1) ∧
    (∃ s : State, s.dev.gb F.LAR_TEST_STAT_BUSY = false ∧ s.dev.quadState 0 = 2) ∧
    (∃ region : BitVec 14, ∃ s : State, s.dev.gb F.LAR_TEST_STAT_BUSY = false ∧ s.dev.quadState (region.toNat /
        4096) = 2) :=
  ⟨⟨3, (qp State.reset [(F.LAR_QSTAT_STATE, 3, 0, 0), (F.CLK_ISL_STAT_RUN, 97, 0, 1)]), by decide +kernel⟩,
   ⟨3, (qp State.reset [(F.LAR_QSTAT_STATE, 3, 0, 2), (F.CLK_ISL_STAT_RUN, 97, 0, 1)]), by decide +kernel⟩,
   ⟨0, (qp State.reset [(F.LAR_QSTAT_STATE, 0, 0, 1)]), by decide +kernel⟩,
   ⟨0, (qp State.reset [(F.LAR_QSTAT_STATE, 0, 0, 0)]), by decide +kernel⟩,
   ⟨(qp State.reset [(F.LAR_QSTAT_STATE, 0, 0, 2), (F.LAR_TEST_STAT_BUSY, 0, 0, 0)]), by decide +kernel⟩,
   ⟨0x3FFF, (qp State.reset [(F.LAR_QSTAT_STATE, 3, 0, 2), (F.LAR_TEST_STAT_BUSY, 0, 0, 0)]),
        by decide +kernel⟩⟩

/-- Operands and states that meet the hypotheses of every clause of `QuadrantPowerAndTest`, part 2. -/
theorem witness_QuadrantPowerAndTest_2 :
    (∃ region : BitVec 14, ∃ s : State, s.dev.gb F.LAR_TEST_STAT_BUSY = false ∧ s.dev.quadState (region.toNat /
        4096) ≠ 2) ∧
    (∃ s : State, s.dev.gb F.LAR_TEST_STAT_BUSY = true) ∧
    (∃ s : State, s.dev.gb F.LAR_TEST_STAT_IN_PASS = true ∧ s.dev.gb F.LAR_TEST_STAT_BUSY = true) ∧
    (∃ s : State, s.dev.gb F.LAR_TEST_STAT_IN_PASS = true ∧ s.dev.gb F.LAR_TEST_STAT_BUSY = false) ∧
    (∃ s : State, s.dev.gb F.LAR_TEST_STAT_IN_PASS = false) ∧
    (∃ s : State, s.dev.gb F.LAR_TEST_STAT_BUSY = true ∧ s.dev.phaseOps ≤ s.dev.lar.ops ∧ s.dev.gf
        F.LAR_TEST_STAT_PHASE = phCopy ∧ s.dev.gb F.LAR_TEST_STAT_SPARE = false) :=
  ⟨⟨0x3FFF, (qp State.reset [(F.LAR_QSTAT_STATE, 3, 0, 1), (F.LAR_TEST_STAT_BUSY, 0, 0, 0)]),
        by decide +kernel⟩,
   ⟨(qp State.reset [(F.LAR_QSTAT_STATE, 3, 0, 2), (F.LAR_TEST_STAT_BUSY, 0, 0, 1)]), by decide +kernel⟩,
   ⟨(qp State.reset [(F.LAR_TEST_STAT_IN_PASS, 0, 0, 1), (F.LAR_TEST_STAT_BUSY, 0, 0, 1)]), by decide +kernel⟩,
   ⟨(qp State.reset [(F.LAR_TEST_STAT_IN_PASS, 0, 0, 1), (F.LAR_TEST_STAT_BUSY, 0, 0, 0)]), by decide +kernel⟩,
   ⟨(qp State.reset [(F.LAR_TEST_STAT_IN_PASS, 0, 0, 0), (F.LAR_TEST_STAT_BUSY, 0, 0, 1)]), by decide +kernel⟩,
   ⟨(qp State.reset [(F.LAR_TEST_STAT_PHASE, 0, 0, phCopy), (F.LAR_TEST_STAT_SPARE, 0, 0, 0),
        (F.LAR_TEST_STAT_BUSY, 0, 0, 1), (F.LAR_TEST_STAT_REGION, 0, 0, 0x3000)] (fun l =>
        { l with ops := 128 })), by decide +kernel⟩⟩

/-- Operands and states that meet the hypotheses of every clause of `QuadrantPowerAndTest`, part 3. -/
theorem witness_QuadrantPowerAndTest_3 :
    (∃ s : State, s.dev.gb F.LAR_TEST_STAT_BUSY = true ∧ s.dev.phaseOps ≤ s.dev.lar.ops ∧ s.dev.gf
        F.LAR_TEST_STAT_PHASE = phMarch ∧ s.dev.gb F.LAR_TEST_STAT_SPARE = false) ∧
    (∃ s : State, s.dev.gb F.LAR_TEST_STAT_BUSY = true ∧ s.dev.phaseOps ≤ s.dev.lar.ops ∧ s.dev.gf
        F.LAR_TEST_STAT_PHASE = phMarch ∧ s.dev.gb F.LAR_TEST_STAT_SPARE = true ∧ s.dev.gb F.LAR_TEST_STAT_IN_PASS
        = false) ∧
    (∃ s : State, s.dev.gb F.LAR_TEST_STAT_BUSY = true ∧ s.dev.phaseOps ≤ s.dev.lar.ops ∧ s.dev.gf
        F.LAR_TEST_STAT_PHASE = phRestore ∧ s.dev.lar.rowFailed = false ∧ s.dev.gb F.LAR_TEST_STAT_IN_PASS = false) ∧
    (∃ s : State, ∃ k : Nat, s.dev.gb F.LAR_TEST_STAT_BUSY = true ∧ s.dev.phaseOps ≤ s.dev.lar.ops ∧ s.dev.gf
        F.LAR_TEST_STAT_PHASE = phRestore ∧ s.dev.lar.rowFailed = true ∧ s.dev.gb F.LAR_TEST_STAT_IN_PASS = false
        ∧ s.dev.goodSpare (s.dev.gf F.LAR_TEST_STAT_REGION / 256) = some k ∧ s.dev.spareOf (s.dev.gf
        F.LAR_TEST_STAT_REGION / 256) (s.dev.gf F.LAR_TEST_STAT_REGION % 256) = none) ∧
    (∃ s : State, s.dev.gb F.LAR_TEST_STAT_BUSY = true ∧ s.dev.phaseOps ≤ s.dev.lar.ops ∧ s.dev.gf
        F.LAR_TEST_STAT_PHASE = phRestore ∧ s.dev.lar.rowFailed = true ∧ s.dev.goodSpare (s.dev.gf
        F.LAR_TEST_STAT_REGION / 256) = none ∧ s.dev.gb F.LAR_TEST_STAT_IN_PASS = false) ∧
    (∃ s : State, s.dev.gb F.LAR_TEST_STAT_BUSY = false ∨ s.dev.lar.ops < s.dev.phaseOps) :=
  ⟨⟨(qp State.reset [(F.LAR_TEST_STAT_PHASE, 0, 0, phMarch), (F.LAR_TEST_STAT_SPARE, 0, 0, 0),
        (F.LAR_TEST_STAT_BUSY, 0, 0, 1), (F.LAR_TEST_STAT_REGION, 0, 0, 0x3000)] (fun l =>
        { l with ops := 2560 })), by decide +kernel⟩,
   ⟨(qp State.reset [(F.LAR_TEST_STAT_PHASE, 0, 0, phMarch), (F.LAR_TEST_STAT_IN_PASS, 0, 0, 0),
        (F.LAR_TEST_STAT_SPARE, 0, 0, 1), (F.LAR_TEST_STAT_BUSY, 0, 0, 1), (F.LAR_TEST_STAT_REGION, 0, 0, 0x3003)]
        (fun l => { l with ops := 2560 })), by decide +kernel⟩,
   ⟨(qp State.reset [(F.LAR_TEST_STAT_PHASE, 0, 0, phRestore), (F.LAR_TEST_STAT_IN_PASS, 0, 0, 0),
        (F.LAR_TEST_STAT_BUSY, 0, 0, 1), (F.LAR_TEST_STAT_REGION, 0, 0, 0x3000)] (fun l =>
        { l with ops := 128 })), by decide +kernel⟩,
   ⟨(qp State.reset [(F.LAR_TEST_STAT_PHASE, 0, 0, phRestore), (F.LAR_TEST_STAT_IN_PASS, 0, 0, 0),
        (F.LAR_TEST_STAT_BUSY, 0, 0, 1), (F.LAR_TEST_STAT_REGION, 0, 0, 0x3007), (F.LAR_SPARE_FLG_USED, 0x30, 0,
        0), (F.LAR_SPARE_FLG_BAD, 0x30, 0, 1)] (fun l => { l with ops := 128, rowFailed := true })), 1,
        by decide +kernel⟩,
   ⟨(qp State.reset [(F.LAR_TEST_STAT_PHASE, 0, 0, phRestore), (F.LAR_TEST_STAT_IN_PASS, 0, 0, 0),
        (F.LAR_TEST_STAT_BUSY, 0, 0, 1), (F.LAR_TEST_STAT_REGION, 0, 0, 0x3007), (F.LAR_SPARE_FLG_USED, 0x30, 0,
        1), (spareRowFld 0, 0x30, 0, 7), (F.LAR_SPARE_FLG_BAD, 0x30, 0, 14)] (fun l =>
        { l with ops := 128, rowFailed := true })), by decide +kernel⟩,
   ⟨(qp State.reset [(F.LAR_TEST_STAT_BUSY, 0, 0, 0)]), by decide +kernel⟩⟩

/-- Operands and states that meet the hypotheses of every clause of `ArbiterRequestsAndWaiting`, part 1. -/
theorem witness_ArbiterRequestsAndWaiting_1 :
    (∃ a : Fin 12, ∃ i : Fin 83, ∃ s : State, arbReaches a.val i.val = true ∧ (a.val < 8 ∨ a.val % 2 = 0 ∨
        s.dev.mirrorOf (a.val - 8) = none) ∧ s.dev.arbUp a.val = true ∧ s.dev.fenced a.val i.val = false ∧
        s.dev.lineWork a.val i.val = true ∧ (s.dev.arb a.val).raised i.val = false) ∧
    (∃ a : Fin 12, ∃ i : Fin 83, ∃ s : State, arbReaches a.val i.val = true ∧ (a.val < 8 ∨ a.val % 2 = 0 ∨
        s.dev.mirrorOf (a.val - 8) = none) ∧ s.dev.arbUp a.val = true ∧ s.dev.fenced a.val i.val = false ∧
        s.dev.lineWork a.val i.val = true ∧ (s.dev.arb a.val).raised i.val = true) ∧
    (∃ a : Fin 12, ∃ i : Fin 83, ∃ s : State, arbReaches a.val i.val = false ∨ s.dev.arbUp a.val = false ∨
        s.dev.fenced a.val i.val = true ∨ s.dev.lineWork a.val i.val = false ∨ 8 ≤ a.val ∧ a.val % 2 = 1 ∧
        s.dev.mirrorOf (a.val - 8) ≠ none) ∧
    (∃ a : Fin 12, ∃ i : Fin 83, arbReaches a.val i.val = false) ∧
    (∃ a : Fin 12, ∃ i : Fin 83, arbReaches a.val i.val = true ∧ i.val ≠ testId) ∧
    (∃ a : Fin 12, ∃ i : Fin 83, arbReaches a.val i.val = true ∧ i.val = testId) :=
  ⟨⟨1, 5, (aw State.reset 1 { reqs := [{id := 6}], owner := some 7 } [(F.LAR_QSTAT_STATE, 0, 0, 2),
        (F.ARB_REQ_STAT_FENCED, 1, 5, 0)]), by decide +kernel⟩,
   ⟨1, 6, (aw State.reset 1 { reqs := [{id := 6}], owner := some 7 } [(F.LAR_QSTAT_STATE, 0, 0, 2),
        (F.ARB_REQ_STAT_FENCED, 1, 6, 0)]), by decide +kernel⟩,
   ⟨0, 70, (aw State.reset 1 { reqs := [{id := 6}], owner := some 7 } [(F.LAR_QSTAT_STATE, 0, 0, 2),
        (F.ARB_REQ_STAT_FENCED, 0, 70, 1)]), by decide +kernel⟩,
   ⟨0, 5, by decide +kernel⟩,
   ⟨0, 70, by decide +kernel⟩,
   ⟨1, 67, by decide +kernel⟩⟩

/-- Operands and states that meet the hypotheses of every clause of `ArbiterRequestsAndWaiting`, part 2. -/
theorem witness_ArbiterRequestsAndWaiting_2 :
    (∃ i : Fin 83, timedId i.val = true) ∧
    (∃ i : Fin 83, timedId i.val = false) ∧
    (∃ a : Fin 12, ∃ i : Fin 83, ∃ s : State, timedId i.val = false ∧ s.dev.gf F.ARB_REQ_CFG_WAIT_LIMIT a.val
        i.val ≠ 0) ∧
    (∃ a : Fin 12, ∃ i : Fin 83, ∃ s : State, timedId i.val = true ∨ s.dev.gf F.ARB_REQ_CFG_WAIT_LIMIT a.val
        i.val = 0) :=
  ⟨⟨71, by decide +kernel⟩,
   ⟨6, by decide +kernel⟩,
   ⟨1, 6, (aw State.reset 1 { reqs := [{id := 6, wait := 5}, {id := 7, wait := 5}], owner := some 6 }
        [(F.ARB_REQ_CFG_WAIT_LIMIT, 1, 6, 100)]), by decide +kernel⟩,
   ⟨1, 6, (aw State.reset 1 { reqs := [{id := 6, wait := 5}, {id := 7, wait := 5}], owner := some 6 }
        [(F.ARB_REQ_CFG_WAIT_LIMIT, 1, 6, 0)]), by decide +kernel⟩⟩

/-- Operands and states that meet the hypotheses of every clause of `ArbiterCycles`, part 1. -/
theorem witness_ArbiterCycles_1 :
    (∃ a : Fin 12, ∃ c : ArbCycle, ∃ s : State, s.dev.arbUp a.val = true ∧ (s.dev.arb a.val).owner = none ∧
        (s.dev.arb a.val).chosen = none ∧ s.dev.gb F.ARB_CTRL_FREEZE a.val = false ∧ (∀ r ∈ (s.dev.arb
        a.val).reqs, s.dev.boosted (a.val) r = false) ∧ (∃ r ∈ (s.dev.arb a.val).reqs, timedId r.id = true ∧ r.id
        ∉ List.map (fun i => i.val) c.lowered)) ∧
    (∃ a : Fin 12, ∃ i : Fin 83, ∃ r : ArbReq, ∃ c : ArbCycle, ∃ s : State, s.dev.arbUp a.val = true ∧ (s.dev.arb
        a.val).owner = none ∧ (s.dev.arb a.val).chosen = some i.val ∧ (s.dev.arb a.val).find i.val = some r ∧
        s.dev.lineWork a.val i.val = true ∧ i ∉ c.lowered ∧ c.last = false ∧ c.drop = false ∧ c.neutral = false ∧
        0 < s.dev.gf F.ARB_REQ_CFG_BURST a.val i.val ∧ s.dev.gf F.ARB_WDOG_LIMIT a.val ≠ 1) ∧
    (∃ a : Fin 12, ∃ i : Fin 83, ∃ c : ArbCycle, ∃ s : State, s.dev.arbUp a.val = true ∧ (s.dev.arb a.val).owner
        = none ∧ (s.dev.arb a.val).chosen = some i.val ∧ (i ∈ c.lowered ∨ s.dev.lineWork a.val i.val = false)) ∧
    (∃ a : Fin 12, ∃ s : State, s.dev.arbUp a.val = false) ∧
    (∃ a : Fin 12, ∃ i : Fin 83, ∃ s : State, s.dev.arbUp a.val = true ∧ (s.dev.arb a.val).owner = some i.val ∧
        (s.dev.arb a.val).chosen = none ∧ (s.dev.arb a.val).find i.val = none ∧ s.dev.lineWork a.val i.val = true
        ∧ 64 ≤ i.val) ∧
    (∃ a : Fin 12, ∃ i : Fin 83, ∃ s : State, ∃ no : Nat, ∃ p : Packet, s.dev.arbUp a.val = true ∧ (s.dev.arb
        a.val).owner = some i.val ∧ (s.dev.arb a.val).chosen = none ∧ (s.dev.arb a.val).find i.val = none ∧
        s.dev.lineWork a.val i.val = true ∧ i.val < 64 ∧ a.val < 8 ∧ (s.dev.roomQueue a.val i.val).head? = some no
        ∧ List.find? (fun p => p.no == no && !p.answered) s.dev.held = some p ∧ (s.dev.arb a.val).port = none ∧
        (Map.get (fun _ => { op := p.op, addr := BitVec.toNat p.addr, len := p.len.toNat }) (s.dev.arb a.val).work
        i.val).op = p.op ∧ (Map.get (fun _ => { op := p.op, addr := BitVec.toNat p.addr, len := p.len.toNat })
        (s.dev.arb a.val).work i.val).addr = BitVec.toNat p.addr ∧ (Map.get (fun _ =>
        { op := p.op, addr := BitVec.toNat p.addr, len := p.len.toNat }) (s.dev.arb a.val).work i.val).len =
        p.len.toNat ∧ (p.need = 0 ∨ (Map.get (fun _ =>
        { op := p.op, addr := BitVec.toNat p.addr, len := p.len.toNat }) (s.dev.arb a.val).work i.val).done <
        p.flits.length) ∧ (p.op = opRead ∨ p.op = opWrite) ∧ (Map.get (fun _ =>
        { op := p.op, addr := BitVec.toNat p.addr, len := p.len.toNat }) (s.dev.arb a.val).work i.val).done <
        p.len.toNat) :=
  ⟨⟨1, {}, (awCycle State.reset 1
        { reqs := [{id := 6}, {id := 70, age := 5}, {id := 71, age := 5}, {id := 72, age := 4}] } []),
        by decide +kernel⟩,
   ⟨1, 6, {id := 6, wait := 4}, { beat := true }, (awCycle State.reset 1
        { reqs := [{id := 6, wait := 4}, {id := 70, age := 5}], chosen := some 6 } [(F.ARB_REQ_CFG_BURST, 1, 6,
        1), (F.ARB_WDOG_LIMIT, 1, 0, 2)]), by decide +kernel⟩,
   ⟨1, 6, {lowered := [6]}, (awCycle State.reset 1
        { reqs := [{id := 6, wait := 4}, {id := 70, age := 5}], chosen := some 6 } []), by decide +kernel⟩,
   ⟨1, (awCycle State.reset 1 { reqs := [{id := 7, wait := 4}, {id := 70, age := 5}], chosen := some 7 }
        [(F.LAR_QSTAT_STATE, 0, 0, 1)]), by decide +kernel⟩,
   ⟨1, 68, (awCycle State.reset 1 { reqs := [{id := 70, age := 5}], owner := some 68 } []), by decide +kernel⟩,
   ⟨1, 6, (awCycle State.reset 1 {
          reqs := [{id := 70, age := 5}], owner := some 6, burst := 4,
          work := [(6, { op := 0, addr := 0, len := 3, done := 1 })] } []), 0,
        { pk with dstRtr := 1, dstPort := 6, srcRtr := 6, len := 3 }, by decide +kernel⟩⟩

/-- Operands and states that meet the hypotheses of every clause of `ArbiterCycles`, part 2. -/
theorem witness_ArbiterCycles_2 :
    (∃ a : Fin 12, ∃ i : Fin 83, ∃ s : State, s.dev.arbUp a.val = true ∧ (s.dev.arb a.val).owner = some i.val ∧
        (s.dev.arb a.val).chosen = none ∧ (s.dev.arb a.val).find i.val = none ∧ s.dev.lineWork a.val i.val = true
        ∧ i.val < 64 ∧ 8 ≤ a.val) ∧
    (∃ a : Fin 12, ∃ s : State, (s.dev.arb a.val).owner = none) ∧
    (∃ a : Fin 12, ∃ i : Fin 83, ∃ s : State, s.dev.arbUp a.val = true ∧ (s.dev.arb a.val).owner = some i.val ∧
        (s.dev.arb a.val).chosen = none ∧ s.dev.lineWork a.val i.val = true ∧ s.dev.gf F.ARB_WDOG_LIMIT a.val ≠ 0) ∧
    (∃ a : Fin 12, ∃ s : State, s.dev.gf F.ARB_WDOG_LIMIT a.val = 0) :=
  ⟨⟨10, 6, (State.reset.dv (fun d => ({ d with
          arbs := [(10, { owner := some 6, burst := 4 })],
          held := [{ pk with dstRtr := 59, dstPort := 6, srcRtr := 6, len := 3 }] }).st [(F.DRC_STAT_STATE, 2, 0,
        3), (F.DRC_CFG_MIRROR, 2, 0, 0)])), by decide +kernel⟩,
   ⟨1, (awCycle State.reset 1 { reqs := [{id := 70, age := 5}] } []), by decide +kernel⟩,
   ⟨1, 6, (awCycle State.reset 1 { reqs := [{id := 70, age := 5}], owner := some 6 } [(F.ARB_WDOG_LIMIT, 1, 0,
        15), (F.ARB_FENCE_LOG_VALID, 1, 0, 0)]), by decide +kernel⟩,
   ⟨1, (awCycle State.reset 1 { reqs := [{id := 70, age := 5}], owner := some 6 } [(F.ARB_WDOG_LIMIT, 1, 0,
        0)]), by decide +kernel⟩⟩

/-- Operands and states that meet the hypotheses of every clause of `DramRequests`, part 1. -/
theorem witness_DramRequests_1 :
    (∃ n : Fin 4, ∃ req : Fin 83, ∃ addr : Word, ∃ len : Fin 16, ∃ s : State, arbReaches (8 + s.dev.dramLead
        n.val) req.val = true ∧ 64 ≤ req.val ∧ dramAddrOk opRead (BitVec.toNat addr) len.val = true ∧
        s.dev.pairServes n.val = true ∧ s.dev.fenced (8 + s.dev.dramLead n.val) req.val = false) ∧
    (∃ n : Fin 4, ∃ req : Fin 83, ∃ addr : Word, ∃ data : List (BitVec 64), ∃ s : State, arbReaches (8 +
        s.dev.dramLead n.val) req.val = true ∧ 64 ≤ req.val ∧ 0 < data.length ∧ data.length ≤ 16 ∧ dramAddrOk
        opWrite (BitVec.toNat addr) (data.length - 1) = true ∧ s.dev.pairServes n.val = true ∧ s.dev.fenced (8 +
        s.dev.dramLead n.val) req.val = false) ∧
    (∃ n : Fin 4, ∃ req : Fin 83, ∃ addr : Word, ∃ len : Fin 16, ∃ data : List (BitVec 64), ∃ c : Instr, ∃ write
        : Bool, ∃ k : Nat, ∃ s : State, (c = Instr.dramRead n req addr len ∧ write = false ∧ k = len.val ∨ c =
        Instr.dramWrite n req addr data ∧ write = true ∧ data.length = k + 1 ∧ k < 16) ∧ arbReaches (8 +
        s.dev.dramLead n.val) req.val = true ∧ 64 ≤ req.val ∧ dramAddrOk (if write = true then opWrite else
        opRead) (BitVec.toNat addr) k = false) ∧
    (∃ n : Fin 4, ∃ req : Fin 83, ∃ addr : Word, ∃ len : Fin 16, ∃ data : List (BitVec 64), ∃ c : Instr, ∃ write
        : Bool, ∃ k : Nat, ∃ s : State, (c = Instr.dramRead n req addr len ∧ write = false ∧ k = len.val ∨ c =
        Instr.dramWrite n req addr data ∧ write = true ∧ data.length = k + 1 ∧ k < 16) ∧ arbReaches (8 +
        s.dev.dramLead n.val) req.val = true ∧ 64 ≤ req.val ∧ dramAddrOk (if write = true then opWrite else
        opRead) (BitVec.toNat addr) k = true ∧ s.dev.pairServes n.val = false) ∧
    (∃ n : Fin 4, ∃ req : Fin 83, ∃ addr : Word, ∃ len : Fin 16, ∃ data : List (BitVec 64), ∃ c : Instr, ∃ write
        : Bool, ∃ k : Nat, ∃ s : State, (c = Instr.dramRead n req addr len ∧ write = false ∧ k = len.val ∨ c =
        Instr.dramWrite n req addr data ∧ write = true ∧ data.length = k + 1 ∧ k < 16) ∧ arbReaches (8 +
        s.dev.dramLead n.val) req.val = true ∧ 64 ≤ req.val ∧ dramAddrOk (if write = true then opWrite else
        opRead) (BitVec.toNat addr) k = true ∧ s.dev.pairServes n.val = true ∧ s.dev.fenced (8 + s.dev.dramLead
        n.val) req.val = true) ∧
    (∃ n : Fin 4, ∃ req : Fin 83, ∃ addr : Word, ∃ data : List (BitVec 64), ∃ p : Packet, ∃ s : State, req.val <
        64 ∧ s.dev.dramNext (n.val) (s.dev.dramLead n.val) req.val = some p ∧ p.addr = addr ∧ p.op = opWrite ∧
        p.flits <+: data ∧ data.length = p.len.toNat + 1) :=
  ⟨⟨2, 78, 0x10, 3, (dq State.reset 2 6 id), by decide +kernel⟩,
   ⟨3, 66, 0x10, [1, 2, 3, 4], (dq State.reset 3 6 id), by decide +kernel⟩,
   ⟨3, 66, 0x10, 1, [1, 2, 3], (.dramWrite 3 66 0x10 [1, 2, 3]), true, 2, (dq State.reset 3 3 id),
        by decide +kernel⟩,
   ⟨3, 66, 0x10, 1, [1, 2, 3, 4], (.dramWrite 3 66 0x10 [1, 2, 3, 4]), true, 3, (dq State.reset 3 4 id),
        by decide +kernel⟩,
   ⟨3, 66, 0x10, 1, [1, 2, 3, 4], (.dramRead 3 66 0x10 1), false, 1, (dq State.reset 3 3 id
        [(F.ARB_REQ_STAT_FENCED, 11, 66, 1)]), by decide +kernel⟩,
   ⟨3, 5, 4, [1, 2, 3, 4], { pk with
          op := 1, addr := 4, len := 3, flits := [1, 2], need := 4, dstRtr := 60, dstPort := 6, srcRtr := 5,
          no := 9 }, (dq State.reset 3 3 id), by decide +kernel⟩⟩

/-- Operands and states that meet the hypotheses of every clause of `DramRequests`, part 2. -/
theorem witness_DramRequests_2 :
    ∃ n : Fin 4, ∃ req : Fin 83, ∃ s : State, arbReaches (8 + s.dev.dramLead n.val) req.val = false ∨ req.val <
        64 ∧ s.dev.dramNext (n.val) (s.dev.dramLead n.val) req.val = none :=
  ⟨3, 6, (dq State.reset 3 3 id), by decide +kernel⟩

/-- Operands and states that meet the hypotheses of every clause of `DramBursts`, part 1. -/
theorem witness_DramBursts_1 :
    (∃ n : Fin 4, ∃ req : Fin 83, ∃ r : DramReq, ∃ s : State, List.find? (fun r => r.req == req.val && decide
        (r.next < r.count)) (s.dev.dram (s.dev.dramLead n.val)).reqs = some r ∧ s.dev.pairServes n.val = true ∧
        s.dev.holdsTurn (8 + s.dev.dramLead n.val) (req.val) 1 ∧ (r.write = true → s.dev.groupAsleep
        (s.dev.dramLead n.val) = false) ∧ (if r.write = true then s.dev.writeChans (s.dev.dramLead n.val) else
        (s.dev.readChan (s.dev.dramLead n.val)).toList) ≠ [] ∧ (∀ m ∈ if r.write = true then s.dev.writeChans
        (s.dev.dramLead n.val) else (s.dev.readChan (s.dev.dramLead n.val)).toList, (s.dev.dram m).queue.length <
        32) ∧ r.write = false) ∧
    (∃ n : Fin 4, ∃ req : Fin 83, ∃ r : DramReq, ∃ s : State, ∃ v : BitVec 128, List.find? (fun r => r.req ==
        req.val && decide (r.next < r.count)) (s.dev.dram (s.dev.dramLead n.val)).reqs = some r ∧ s.dev.pairServes
        n.val = true ∧ s.dev.holdsTurn (8 + s.dev.dramLead n.val) (req.val) 1 ∧ (r.write = true →
        s.dev.groupAsleep (s.dev.dramLead n.val) = false) ∧ (if r.write = true then s.dev.writeChans
        (s.dev.dramLead n.val) else (s.dev.readChan (s.dev.dramLead n.val)).toList) ≠ [] ∧ (∀ m ∈ if r.write =
        true then s.dev.writeChans (s.dev.dramLead n.val) else (s.dev.readChan (s.dev.dramLead n.val)).toList,
        (s.dev.dram m).queue.length < 32) ∧ r.write = true ∧ s.dev.dramDatum r = some (some v)) ∧
    (∃ n : Fin 4, ∃ req : Fin 83, ∃ r : DramReq, ∃ s : State, List.find? (fun r => r.req == req.val && decide
        (r.next < r.count)) (s.dev.dram (s.dev.dramLead n.val)).reqs = some r ∧ s.dev.pairServes n.val = true ∧
        s.dev.holdsTurn (8 + s.dev.dramLead n.val) (req.val) 1 ∧ (r.write = true → s.dev.groupAsleep
        (s.dev.dramLead n.val) = false) ∧ (if r.write = true then s.dev.writeChans (s.dev.dramLead n.val) else
        (s.dev.readChan (s.dev.dramLead n.val)).toList) ≠ [] ∧ (∃ m ∈ if r.write = true then s.dev.writeChans
        (s.dev.dramLead n.val) else (s.dev.readChan (s.dev.dramLead n.val)).toList, (s.dev.dram m).queue.length ≥
        32)) ∧
    (∃ n : Fin 4, ∃ req : Fin 83, ∃ s : State, ∀ r ∈ (s.dev.dram (s.dev.dramLead n.val)).reqs, r.req = req.val →
        r.count ≤ r.next) ∧
    (∃ n : Fin 4, ∃ k : Fin 32, ∃ c : DramCmd, ∃ s : State, (s.dev.dram n.val).queue[k.val]? = some c ∧
        s.dev.issues n.val = true ∧ mayIssueBurst (s.dev.dram n.val) (k.val) c = true) ∧
    (∃ n : Fin 4, ∃ k : Fin 32, ∃ c : DramCmd, ∃ s : State, (s.dev.dram n.val).queue[k.val]? = some c ∧
        (s.dev.issues n.val = false ∨ mayIssueBurst (s.dev.dram n.val) (k.val) c = false)) :=
  ⟨⟨3, 66, {req := 66, tag := 6, write := false, first := 5, count := 2, next := 1, left := 2}, (dqBursts
        State.reset 3 3 (fun x => { x with
          reqs := [{req := 66, tag := 6, write := false, first := 5, count := 2, next := 1, left := 2}] })),
        by decide +kernel⟩,
   ⟨3, 66, {req := 66, tag := 6, write := true, first := 5, count := 2, left := 2, data := [9, 8]}, (dqBursts
        State.reset 3 3 (fun x => { x with
          queue := List.replicate 31 {id := 1, write := false, burst := 2},
          reqs := [{req := 66, tag := 6, write := true, first := 5, count := 2, left := 2, data := [9, 8]}] })),
        9, by decide +kernel⟩,
   ⟨3, 66, {req := 66, tag := 6, write := true, first := 5, count := 2, left := 2, data := [9, 8]}, (dqBursts
        State.reset 3 3 (fun x => { x with
          queue := List.replicate 32 {id := 1, write := false, burst := 2},
          reqs := [{req := 66, tag := 6, write := true, first := 5, count := 2, left := 2, data := [9, 8]}] })),
        by decide +kernel⟩,
   ⟨3, 66, (dqBursts State.reset 3 3 (fun x =>
        { x with reqs := [{req := 66, tag := 6, write := true, first := 5, count := 2, next := 2, left := 2}] })),
        by decide +kernel⟩,
   ⟨3, 1, {id := 9, write := true, burst := 5, cells := {data := 77}}, (dqBursts State.reset 3 3 (fun x =>
        { x with
          queue := [{id := 1, write := false, burst := 2},
              {id := 9, write := true, burst := 5, cells := {data := 77}}] })), by decide +kernel⟩,
   ⟨3, 1, {id := 9, write := true, burst := 18, cells := {data := 77}}, (dqBursts State.reset 3 3 (fun x =>
        { x with
          queue := [{id := 1, write := false, burst := 2},
              {id := 9, write := true, burst := 18, cells := {data := 77}}] })), by decide +kernel⟩⟩

/-- Operands and states that meet the hypotheses of every clause of `DramBursts`, part 2. -/
theorem witness_DramBursts_2 :
    (∃ n : Fin 4, ∃ upset : BitVec 144, ∃ c : DramCmd, ∃ rest : List DramCmd, ∃ r : DramReq, ∃ s : State,
        (s.dev.dram n.val).reading = c :: rest ∧ (s.dev.dram (s.dev.dramLead n.val)).reqs = [r] ∧ r.tag = c.tag ∧
        r.next = r.count ∧ r.left = 1 ∧ r.write = false ∧ r.bad = false ∧ r.got = [] ∧ popCount
        ({ c.cells with flips := c.cells.flips ^^^ upset } : Burst).flips ≤ 1) ∧
    (∃ n : Fin 4, ∃ upset : BitVec 144, ∃ c : DramCmd, ∃ rest : List DramCmd, ∃ r : DramReq, ∃ s : State,
        (s.dev.dram n.val).reading = c :: rest ∧ (s.dev.dram (s.dev.dramLead n.val)).reqs = [r] ∧ r.tag = c.tag ∧
        r.next = r.count ∧ r.left = 1 ∧ r.write = false ∧ r.bad = false ∧ r.got = [] ∧ popCount
        ({ c.cells with flips := c.cells.flips ^^^ upset } : Burst).flips = 2) ∧
    (∃ n : Fin 4, ∃ s : State, (s.dev.dram n.val).reading = []) ∧
    (∃ n : Fin 4, ∃ b : BitVec 23, ∃ v : BitVec 128, ∃ s : State, List.find? (fun e => e.1 == b.toNat)
        (s.dev.dram n.val).writeback = some (b.toNat, v) ∧ s.dev.issues n.val = true ∧ (∀ c ∈ (s.dev.dram
        n.val).queue, burstBank c.burst ≠ burstBank b.toNat)) ∧
    (∃ n : Fin 4, ∃ b : BitVec 23, ∃ s : State, (∀ e ∈ (s.dev.dram n.val).writeback, e.1 ≠ b.toNat) ∨
        s.dev.issues n.val = false ∨ ∃ c ∈ (s.dev.dram n.val).queue, burstBank c.burst = burstBank b.toNat) :=
  ⟨⟨3, 1, {id := 9, write := false, burst := 18, cells := {data := 77}, tag := 6},
        [{id := 1, write := false, burst := 2}],
        {req := 66, tag := 6, write := false, first := 18, count := 1, next := 1, left := 1}, (dqBursts
        State.reset 3 3 (fun x => { x with
          reqs := [{req := 66, tag := 6, write := false, first := 18, count := 1, next := 1, left := 1}],
          reading := [{id := 9, write := false, burst := 18, cells := {data := 77}, tag := 6},
              {id := 1, write := false, burst := 2}] })), by decide +kernel⟩,
   ⟨3, 1, {id := 9, write := false, burst := 18, cells := {data := 77, flips := 2}, tag := 6},
        [{id := 1, write := false, burst := 2}],
        {req := 66, tag := 6, write := false, first := 18, count := 1, next := 1, left := 1}, (dqBursts
        State.reset 3 3 (fun x => { x with
          reqs := [{req := 66, tag := 6, write := false, first := 18, count := 1, next := 1, left := 1}],
          reading := [{id := 9, write := false, burst := 18, cells := {data := 77, flips := 2}, tag := 6},
              {id := 1, write := false, burst := 2}] })), by decide +kernel⟩,
   ⟨3, (dqBursts State.reset 3 3 id), by decide +kernel⟩,
   ⟨3, 5, 9, (dqBursts State.reset 3 3 (fun x => { x with writeback := [(6, 1), (5, 9)] })), by decide +kernel⟩,
   ⟨3, 5, (dqBursts State.reset 3 3 (fun x =>
        { x with writeback := [(6, 1), (5, 9)], queue := [{id := 1, write := false, burst := 5}] })),
        by decide +kernel⟩⟩

/-- Operands and states that meet the hypotheses of every clause of `HatchWindows`, part 1. -/
theorem witness_HatchWindows_1 :
    (∃ a : Word, ∃ n : Fin 4, ∃ x : Burst, ∃ s : State, BitVec.toNat a % 4 = 0 ∧ dramWindow (BitVec.toNat a) =
        some n.val ∧ s.dev.mirrorOf n.val = none ∧ s.dev.dramState n.val = drOnline ∧ s.dev.holdsTurn (8 + n.val)
        hatchId 1 ∧ x = (List.find? (fun c => c.write && c.burst == dramWord (BitVec.toNat a) / 2) (s.dev.dram
        n.val).queue.reverse).elim (s.dev.burst (n.val) (dramWord (BitVec.toNat a) / 2)) (fun c =>
        { data := c.cells.data, flips := if c.bad = true then 3 else 0 })) ∧
    (∃ a : Word, ∃ v : Word, ∃ upset : BitVec 144, ∃ n : Fin 4, ∃ c : Instr, ∃ s : State, c ∈
        [Instr.dramHatchRead a upset, Instr.dramHatchWrite a v upset] ∧ BitVec.toNat a % 4 = 0 ∧ dramWindow
        (BitVec.toNat a) = some n.val ∧ s.dev.pairServes n.val = false ∧ s.dev.dramState n.val = drOff) ∧
    (∃ a : Word, ∃ v : Word, ∃ upset : BitVec 144, ∃ n : Fin 4, ∃ c : Instr, ∃ s : State, c ∈
        [Instr.dramHatchRead a upset, Instr.dramHatchWrite a v upset] ∧ BitVec.toNat a % 4 = 0 ∧ dramWindow
        (BitVec.toNat a) = some n.val ∧ s.dev.pairServes n.val = false ∧ s.dev.dramState n.val ≠ drOff) ∧
    (∃ a : Word, ∃ v : Word, ∃ u : BitVec 72, ∃ c : Instr, ∃ win : Nat, ∃ s : State, (c, win) ∈
        [(Instr.larHatchWrite a v u, 0), (Instr.larHatchBitSet a v u, 1), (Instr.larHatchBitClear a v u, 2)] ∧
        BitVec.toNat a % 4 = 0 ∧ larWindow (BitVec.toNat a) = some win ∧ s.dev.quadState (larQuad (winWord
        (BitVec.toNat a))) = 2 ∧ s.dev.holdsTurn (larArb (larQuad (winWord (BitVec.toNat a))) hatchId) hatchId 1) ∧
    (∃ a : Word, ∃ s : State, BitVec.toNat a % 4 = 0 ∧ (larWindow (BitVec.toNat a)).isSome = true ∧
        s.dev.quadState (larQuad (winWord (BitVec.toNat a))) = 2 ∧ s.dev.holdsTurn (larArb (larQuad (winWord
        (BitVec.toNat a))) hatchId) hatchId 1) ∧
    (∃ a : Word, ∃ v : Word, ∃ u : BitVec 72, ∃ c : Instr, ∃ win : Nat, ∃ s : State, (c, win) ∈
        [(Instr.larHatchWrite a v u, 0), (Instr.larHatchBitSet a v u, 1), (Instr.larHatchBitClear a v u, 2),
        (Instr.larHatchRead a u, win)] ∧ BitVec.toNat a % 4 = 0 ∧ larWindow (BitVec.toNat a) = some win ∧
        s.dev.quadState (larQuad (winWord (BitVec.toNat a))) = 0) :=
  ⟨⟨0x6800002C, 3, {data := 3 + 2^64 * 5 + 2^96 * 9}, (hd State.reset), by decide +kernel⟩,
   ⟨0x6800002C, 5, 1, 3, (.dramHatchWrite 0x6800002C 5 1), (hd State.reset id [(F.DRC_STAT_STATE, 3, 0, 0)]),
        by decide +kernel⟩,
   ⟨0x6800002C, 5, 1, 3, (.dramHatchRead 0x6800002C 1), (hd State.reset id [(F.DRC_STAT_STATE, 3, 0, 1)]),
        by decide +kernel⟩,
   ⟨0x44000024, 0xFF0, 2, (.larHatchBitSet 0x44000024 0xFF0 2), 1, (hl State.reset [(4, ⟨7 + 0x700000000, 0⟩),
        (5, ⟨6, 9⟩)]), by decide +kernel⟩,
   ⟨0x48000024, (hl State.reset [(4, ⟨7 + 0x700000000, 0⟩), (5, ⟨6, 9⟩)]), by decide +kernel⟩,
   ⟨0x48000024, 2, 1, (.larHatchBitClear 0x48000024 2 1), 2, (hl State.reset [(4, ⟨7 + 0x700000000, 0⟩), (5,
        ⟨6, 9⟩)] id [(F.LAR_QSTAT_STATE, 0, 0, 0)]), by decide +kernel⟩⟩

/-- Operands and states that meet the hypotheses of every clause of `HatchWindows`, part 2. -/
theorem witness_HatchWindows_2 :
    ∃ a : Word, ∃ v : Word, ∃ u : BitVec 72, ∃ c : Instr, ∃ win : Nat, ∃ s : State, (c, win) ∈
        [(Instr.larHatchWrite a v u, 0), (Instr.larHatchBitSet a v u, 1), (Instr.larHatchBitClear a v u, 2),
        (Instr.larHatchRead a u, win)] ∧ BitVec.toNat a % 4 = 0 ∧ larWindow (BitVec.toNat a) = some win ∧
        (s.dev.quadState (larQuad (winWord (BitVec.toNat a))) = 1 ∨ s.dev.quadState (larQuad (winWord
        (BitVec.toNat a))) = 2 ∧ s.dev.fenced (larArb (larQuad (winWord (BitVec.toNat a))) hatchId) hatchId =
        false ∧ ∃ j, (s.dev.arb (larArb (larQuad (winWord (BitVec.toNat a))) hatchId)).owner = some j ∧ j ≠
        hatchId) :=
  ⟨0x40000024, 2, 1, (.larHatchWrite 0x40000024 2 1), 0, (hl State.reset [(4, ⟨7 + 0x700000000, 0⟩), (5, ⟨6,
        9⟩)] id [(F.LAR_QSTAT_STATE, 0, 0, 1)]), by decide +kernel⟩

/-- Operands and states that meet the hypotheses of every clause of `DramSelfRefreshAndTraining`, part 1. -/
theorem witness_DramSelfRefreshAndTraining_1 :
    (∃ n : Fin 4, ∃ s : State, s.dev.gf F.DRC_REF_REF_MODE n.val = 1 ∧ s.dev.gf F.DRC_CFG_DEVTYPE n.val = 1 ∧
        s.dev.dramState n.val = drOnline ∧ s.dev.dramIdle n.val = true ∧ s.dev.mirrorOf n.val = none) ∧
    (∃ n : Fin 4, ∃ s : State, s.dev.gf F.DRC_REF_REF_MODE n.val = 1 ∧ s.dev.gf F.DRC_CFG_DEVTYPE n.val = 1 ∧
        s.dev.dramState n.val = drOnline ∧ s.dev.dramIdle n.val = true ∧ s.dev.mirrorOf n.val ≠ none) ∧
    (∃ n : Fin 4, ∃ s : State, s.dev.gf F.DRC_REF_REF_MODE n.val ≠ 1 ∨ s.dev.gf F.DRC_CFG_DEVTYPE n.val ≠ 1 ∨
        s.dev.dramState n.val ≠ drOnline ∨ s.dev.dramIdle n.val = false) ∧
    (∃ n : Fin 4, ∃ s : State, s.dev.dramState n.val = drSelfRef ∧ s.dev.dramIdle n.val = false) ∧
    (∃ n : Fin 4, ∃ s : State, s.dev.dramState n.val ≠ drSelfRef ∨ s.dev.dramIdle n.val = true) ∧
    (∃ n : Fin 4, ∃ s : State, s.dev.dramState n.val = drUntrained ∨ s.dev.dramState n.val = drOffline) :=
  ⟨⟨3, (dt State.reset id [(F.DRC_STAT_STATE, 3, 0, 3), (F.DRC_REF_REF_MODE, 3, 0, 1)]), by decide +kernel⟩,
   ⟨3, (dt State.reset id [(F.DRC_STAT_STATE, 3, 0, 3), (F.DRC_STAT_STATE, 2, 0, 5), (F.DRC_CFG_MIRROR, 2, 0,
        1), (F.DRC_REF_REF_MODE, 3, 0, 1)]), by decide +kernel⟩,
   ⟨3, (dt State.reset id [(F.DRC_STAT_STATE, 3, 0, 3), (F.DRC_CFG_DEVTYPE, 3, 0, 0), (F.DRC_REF_REF_MODE, 3,
        0, 1)]), by decide +kernel⟩,
   ⟨3, (dt State.reset (fun x =>
        { x with reqs := [{req := 66, tag := 6, write := false, first := 1, count := 1, left := 1}] })
        [(F.DRC_STAT_STATE, 3, 0, 6)]), by decide +kernel⟩,
   ⟨3, (dt State.reset id [(F.DRC_STAT_STATE, 3, 0, 6)]), by decide +kernel⟩,
   ⟨3, (dt State.reset id [(F.DRC_STAT_STATE, 3, 0, 4)]), by decide +kernel⟩⟩

/-- Operands and states that meet the hypotheses of every clause of `DramSelfRefreshAndTraining`, part 2. -/
theorem witness_DramSelfRefreshAndTraining_2 :
    (∃ n : Fin 4, ∃ s : State, s.dev.dramState n.val ≠ drUntrained ∧ s.dev.dramState n.val ≠ drOffline) ∧
    (∃ n : Fin 4, ∃ ok : Bool, ∃ s : State, ∃ k : Nat, s.dev.dramState n.val = drTraining ∧ 0 < (s.dev.dram
        n.val).step ∧ (s.dev.dram n.val).queue = [] ∧ s.dev.gov.sleep = none ∧ (ok = true ∨ (s.dev.dram
        n.val).kind = Training.clear) ∧ (((s.dev.dram n.val).kind, (s.dev.dram n.val).step, k) ∈
        [(Training.restore, 1, 3), (Training.restore, 3, 7)] ∨ ((s.dev.dram n.val).kind = Training.full ∨
        (s.dev.dram n.val).kind = Training.fromOff) ∧ (s.dev.dram n.val).step < 8 ∧ k = if (s.dev.dram n.val).step
        = 1 ∧ (s.dev.dram n.val).firstTrain = false ∧ (s.dev.dram n.val).kind = Training.full then 3 else
        (s.dev.dram n.val).step + 1)) ∧
    (∃ n : Fin 4, ∃ ok : Bool, ∃ s : State, s.dev.dramState n.val = drTraining ∧ 0 < (s.dev.dram n.val).step ∧
        (s.dev.dram n.val).queue = [] ∧ s.dev.gov.sleep = none ∧ ok = true ∧ (s.dev.dram n.val).step = 8 ∧
        (s.dev.dram n.val).kind = Training.full) ∧
    (∃ n : Fin 4, ∃ ok : Bool, ∃ s : State, s.dev.dramState n.val = drTraining ∧ 0 < (s.dev.dram n.val).step ∧
        (s.dev.dram n.val).queue = [] ∧ s.dev.gov.sleep = none ∧ ok = true ∧ (s.dev.dram n.val).step = 8 ∧
        (s.dev.dram n.val).kind = Training.fromOff) ∧
    (∃ n : Fin 4, ∃ ok : Bool, ∃ s : State, s.dev.dramState n.val = drTraining ∧ 0 < (s.dev.dram n.val).step ∧
        (s.dev.dram n.val).queue = [] ∧ s.dev.gov.sleep = none ∧ ((s.dev.dram n.val).kind = Training.clear ∨ ok =
        true ∧ (s.dev.dram n.val).kind = Training.restore ∧ (s.dev.dram n.val).step = 7) ∧ s.dev.mirrorOf n.val =
        none ∧ (s.dev.dram n.val).back = false) ∧
    (∃ n : Fin 4, ∃ ok : Bool, ∃ s : State, s.dev.dramState n.val = drTraining ∧ 0 < (s.dev.dram n.val).step ∧
        (s.dev.dram n.val).queue = [] ∧ s.dev.gov.sleep = none ∧ ok = false ∧ (s.dev.dram n.val).kind ≠
        Training.clear ∧ (s.dev.dram n.val).step < 8) :=
  ⟨⟨3, (dt State.reset id [(F.DRC_STAT_STATE, 3, 0, 5)]), by decide +kernel⟩,
   ⟨3, true, (dt State.reset (fun x => { x with step := 1, firstTrain := false }) [(F.DRC_STAT_STATE, 3, 0,
        2)]), 3, by decide +kernel⟩,
   ⟨3, true, (dt State.reset (fun x => { x with step := 8 }) [(F.DRC_STAT_STATE, 3, 0, 2)]), by decide +kernel⟩,
   ⟨3, true, (dt State.reset (fun x => { x with step := 8, kind := .fromOff }) [(F.DRC_STAT_STATE, 3, 0, 2)]),
        by decide +kernel⟩,
   ⟨3, false, (dt State.reset (fun x => { x with step := 9, kind := .clear }) [(F.DRC_STAT_STATE, 3, 0, 2)]),
        by decide +kernel⟩,
   ⟨3, false, (dt State.reset (fun x => { x with step := 7, back := true }) [(F.DRC_STAT_STATE, 3, 0, 2)]),
        by decide +kernel⟩⟩

/-- Operands and states that meet the hypotheses of every clause of `DramSelfRefreshAndTraining`, part 3. -/
theorem witness_DramSelfRefreshAndTraining_3 :
    ∃ n : Fin 4, ∃ s : State, (s.dev.dramState n.val ≠ drTraining ∨ (s.dev.dram n.val).step = 0 ∨ (s.dev.dram
        n.val).queue ≠ []) ∧ s.dev.gov.sleep = none :=
  ⟨3, (dt State.reset (fun x => { x with step := 7 }) [(F.DRC_STAT_STATE, 3, 0, 4)]), by decide +kernel⟩

/-- Operands and states that meet the hypotheses of every clause of `DramOfflineOnline`, part 1. -/
theorem witness_DramOfflineOnline_1 :
    (∃ n : Fin 4, ∃ s : State, s.dev.dramState n.val = drOnline ∧ (s.dev.mirrorOf n.val ≠ none → s.dev.dramState
        (partner n.val) = drOnline)) ∧
    (∃ n : Fin 4, ∃ s : State, s.dev.dramState n.val ≠ drOnline ∨ s.dev.mirrorOf n.val ≠ none ∧ s.dev.dramState
        (partner n.val) ≠ drOnline) ∧
    (∃ n : Fin 4, ∃ s : State, s.dev.dramState n.val = drOffline ∧ (s.dev.dram n.val).needTrain = false ∧
        s.dev.partnerServes n.val = false) ∧
    (∃ n : Fin 4, ∃ s : State, s.dev.dramState n.val = drOffline ∧ (s.dev.dram n.val).needTrain = false ∧
        s.dev.partnerServes n.val = true) ∧
    (∃ n : Fin 4, ∃ s : State, s.dev.dramState n.val ≠ drOffline ∨ (s.dev.dram n.val).needTrain = true) ∧
    (∃ n : Fin 4, ∃ s : State, s.dev.dramState n.val = drResync ∧ (s.dev.dram (partner n.val)).zeroed = true ∧
        (s.dev.dram (partner n.val)).queue = [] ∧ (∀ (b : Nat), (s.dev.burst (partner n.val) b).flips = 0)) :=
  ⟨⟨3, (dtPair State.reset (fun x =>
        { x with reqs := [{req := 66, tag := 6, write := false, first := 1, count := 1, left := 1}] })
        [(F.DRC_STAT_STATE, 3, 0, 3)]), by decide +kernel⟩,
   ⟨3, (dtPair State.reset id [(F.DRC_STAT_STATE, 3, 0, 2)]), by decide +kernel⟩,
   ⟨3, (dtPair State.reset (fun x => { x with offPending := true }) [(F.DRC_STAT_STATE, 3, 0, 4)]),
        by decide +kernel⟩,
   ⟨3, (dtPair State.reset (fun x => { x with offPending := true }) [(F.DRC_STAT_STATE, 3, 0, 4),
        (F.DRC_STAT_STATE, 2, 0, 6), (F.DRC_CFG_MIRROR, 2, 0, 1)]), by decide +kernel⟩,
   ⟨3, (dtPair State.reset (fun x => { x with needTrain := true }) [(F.DRC_STAT_STATE, 3, 0, 4)]),
        by decide +kernel⟩,
   ⟨3, dramState5, by decide +kernel, by decide +kernel, by decide +kernel, dramState5_good⟩⟩

/-- Operands and states that meet the hypotheses of every clause of `DramOfflineOnline`, part 2. -/
theorem witness_DramOfflineOnline_2 :
    ∃ n : Fin 4, ∃ s : State, s.dev.dramState n.val ≠ drResync :=
  ⟨3, (dtPair State.reset id [(F.DRC_STAT_STATE, 3, 0, 4)]), by decide +kernel⟩

/-- Operands and states that meet the hypotheses of every clause of `DeviceTimeAndAngleRegisters`, part 1. -/
theorem witness_DeviceTimeAndAngleRegisters_1 :
    (∃ s : State, s.dev.tbFed = true ∧ s.dev.timeMode = true ∧ s.dev.gb F.EVT_TIME_STAT_TB_LOCKED = false) ∧
    (∃ s : State, s.dev.gb F.EVT_TIME_STAT_TB_LOCKED = true) ∧
    (∃ s : State, s.dev.on = true ∧ s.dev.asleep RK.EVT_TIME_HI 0 = false) ∧
    (∃ s : State, s.dev.on = true ∧ s.dev.asleep RK.EVT_TIME_LO 0 = false) ∧
    (∃ u : Fin 4, ∃ s : State, s.dev.on = true ∧ s.dev.asleep RK.EVT_ANG_ANGLE u.val = false) ∧
    (∃ u : Fin 4, ∃ s : State, s.dev.evOn = true ∧ s.dev.gb F.EVT_ANG_CFG_EN u.val = false) :=
  ⟨⟨(State.reset.dv (fun d => (d.md mLoad).st [(F.EVT_TIME_CFG_MULT, 0, 0, 64), (F.EVT_TIME_CFG_REF_SEL, 0, 0,
        2), (F.EVT_TIME_STAT_TB_LOCKED, 0, 0, 0), (F.PLL_CTRL_EN, 2, 0, 1), (F.PLL_STAT_LOCKED, 2, 0, 1),
        (F.PLL_OUT_EN, 2, 1, 1)])), by decide +kernel⟩,
   ⟨(State.reset.dv (fun d => (d.md mLoad).st [(F.EVT_TIME_STAT_TB_LOCKED, 0, 0, 1)])), by decide +kernel⟩,
   ⟨(State.reset.dv (fun d => ({ d.md mRun with ev := { d.ev with time := 0x123456789ABCDEF0 }}).st
        [(F.CLK_ISL_STAT_RUN, 98, 0, 1)])), by decide +kernel⟩,
   ⟨(State.reset.dv (fun d => ({ d.md mRun with ev := { d.ev with time := 0x123456789ABCDEF0 }}).st
        [(F.CLK_ISL_STAT_RUN, 98, 0, 1)])), by decide +kernel⟩,
   ⟨1, (State.reset.dv (fun d =>
        ({ d.md mRun with ev := { d.ev with time := 0x400, angle1 := { pos := 0x123456789A } }}).st
        [(F.CLK_ISL_STAT_RUN, 98, 0, 1), (F.EVT_ANG_CFG_EN, 1, 0, 1), (F.EVT_ANG_LIM_STALL_TO, 1, 0, 1),
        (F.EVT_ANG_STAT_STALL, 1, 0, 0)])), by decide +kernel⟩,
   ⟨1, (State.reset.dv (fun d =>
        ({ d.md mRun with ev := { d.ev with time := 0x400, angle1 := { pos := 0x123456789A, pendRev := 9 } }}).st
        [(F.CLK_ISL_STAT_RUN, 98, 0, 1), (F.EVT_ANG_CFG_EN, 1, 0, 0)])), by decide +kernel⟩⟩

/-- Operands and states that meet the hypotheses of every clause of `DeviceTimeAndAngleRegisters`, part 2. -/
theorem witness_DeviceTimeAndAngleRegisters_2 :
    (∃ u : Fin 4, ∃ s : State, s.dev.evOn = true ∧ s.dev.gb F.EVT_ANG_CFG_EN u.val = true) ∧
    (∃ s : State, s.dev.evOn = true) ∧
    (∃ c : Instr, ∃ s : State, (c, s.dev.gb F.EVT_TIME_STAT_TB_LOCKED) ∈ [(Instr.timeBaseLock, true),
        (Instr.timeBaseLockLoss, false)] ∨ c = Instr.timeBaseLock ∧ (s.dev.tbFed = false ∨ s.dev.timeMode = false)) :=
  ⟨⟨1, (State.reset.dv (fun d =>
        ({ d.md mRun with ev := { d.ev with time := 0x400, angle1 := { pos := 0x123456789A, pendRev := 9 } }}).st
        [(F.CLK_ISL_STAT_RUN, 98, 0, 1), (F.EVT_ANG_CFG_EN, 1, 0, 1)])), by decide +kernel⟩,
   ⟨(State.reset.dv (fun d =>
        ({ d.md mRun with ev := { d.ev with time := 0x400, angle1 := { pos := 0x123456789A, pendRev := 9 } }}).st
        [(F.CLK_ISL_STAT_RUN, 98, 0, 1), (F.EVT_ANG_CFG_EN, 1, 0, 0)])), by decide +kernel⟩,
   ⟨(.timeBaseLock), (State.reset.dv (fun d => (d.md mLoad).st [(F.EVT_TIME_STAT_TB_LOCKED, 0, 0, 1)])),
        by decide +kernel⟩⟩

/-- Operands and states that meet the hypotheses of every clause of `EncoderEdgesAndCorrections`, part 1. -/
theorem witness_EncoderEdgesAndCorrections_1 :
    (∃ u : Fin 4, ∃ a : Bool, ∃ b : Bool, ∃ s : State, s.dev.evOn = true ∧ s.dev.gb F.EVT_ANG_CFG_EN u.val = true
        ∧ a ≠ (s.dev.angle u.val).a ∧ b ≠ (s.dev.angle u.val).b) ∧
    (∃ u : Fin 4, ∃ a : Bool, ∃ b : Bool, ∃ s : State, s.dev.evOn = true ∧ s.dev.gb F.EVT_ANG_CFG_EN u.val = true
        ∧ (a ≠ (s.dev.angle u.val).a ∧ b = (s.dev.angle u.val).b ∨ a = (s.dev.angle u.val).a ∧ b ≠ (s.dev.angle
        u.val).b) ∧ quadCounted (s.dev.gf F.EVT_ANG_CFG_MODE u.val) (a != (s.dev.angle u.val).a) a = true) ∧
    (∃ u : Fin 4, ∃ a : Bool, ∃ b : Bool, ∃ s : State, s.dev.evOn = true ∧ s.dev.gb F.EVT_ANG_CFG_EN u.val = true
        ∧ a = (s.dev.angle u.val).a ∧ b = (s.dev.angle u.val).b) ∧
    (∃ u : Fin 4, ∃ s : State, s.dev.evOn = true ∧ s.dev.gb F.EVT_ANG_CFG_EN u.val = true ∧ s.dev.gb
        F.EVT_ANG_CFG_Z_EN u.val = true ∧ s.dev.gb F.EVT_ANG_STAT_DIR u.val = false ∧ s.dev.gb
        F.EVT_ANG_STAT_ZSYNC u.val = false) ∧
    (∃ u : Fin 4, ∃ s : State, s.dev.evOn = true ∧ s.dev.gb F.EVT_ANG_CFG_EN u.val = true ∧ s.dev.gb
        F.EVT_ANG_CFG_Z_EN u.val = true ∧ s.dev.gb F.EVT_ANG_STAT_DIR u.val = false ∧ s.dev.gb
        F.EVT_ANG_STAT_ZSYNC u.val = true ∧ (BitVec.ofNat 32 (s.dev.gf F.EVT_ANG_LIM_ZOFF u.val * 65536) -
        BitVec.setWidth 32 (s.dev.angle u.val).pos).toInt.natAbs ≤ s.dev.gf F.EVT_ANG_CFG_Z_TOL u.val * 65536) ∧
    (∃ u : Fin 4, ∃ s : State, s.dev.evOn = true ∧ s.dev.gb F.EVT_ANG_CFG_EN u.val = true ∧ s.dev.gb
        F.EVT_ANG_CFG_Z_EN u.val = true ∧ s.dev.gb F.EVT_ANG_STAT_DIR u.val = false ∧ s.dev.gb
        F.EVT_ANG_STAT_ZSYNC u.val = true ∧ s.dev.gf F.EVT_ANG_CFG_Z_TOL u.val * 65536 < (BitVec.ofNat 32
        (s.dev.gf F.EVT_ANG_LIM_ZOFF u.val * 65536) - BitVec.setWidth 32 (s.dev.angle u.val).pos).toInt.natAbs) :=
  ⟨⟨3, true, true, (State.reset.dv (fun d => ({ d.md mRun with ev := { d.ev with time := 0x1234 }}).st
        [(F.CLK_ISL_STAT_RUN, 98, 0, 1), (F.EVT_ANG_CFG_EN, 3, 0, 1)])), by decide +kernel⟩,
   ⟨3, true, false, (State.reset.dv (fun d => ({ d.md mRun with
          ev := { d.ev with
                time := 0x1234,
                angle3 := { haveEdge := true, tEdge := 0x1000, hist := List.replicate 16 9, frozen := some 6 },
                angle2 := {pos := 6} } }).st [(F.CLK_ISL_STAT_RUN, 98, 0, 1), (F.EVT_ANG_CFG_EN, 3, 0, 1),
        (F.EVT_ANG_CFG_MODE, 3, 0, 0)])), by decide +kernel⟩,
   ⟨0, false, false, (State.reset.dv (fun d => ({ d.md mRun with ev := { d.ev with time := 0x1234 }}).st
        [(F.CLK_ISL_STAT_RUN, 98, 0, 1), (F.EVT_ANG_CFG_EN, 0, 0, 1), (F.EVT_ANG_CFG_MODE, 0, 0, 0),
        (F.EVT_ANG_CFG_DIR_INV, 0, 0, 1)])), by decide +kernel⟩,
   ⟨1, (State.reset.dv (fun d =>
        ({ d.md mRun with ev := { d.ev with time := 0x1234, angle1 := { pos := 0x123456789A } }}).st
        [(F.CLK_ISL_STAT_RUN, 98, 0, 1), (F.EVT_ANG_CFG_EN, 1, 0, 1), (F.EVT_ANG_CFG_Z_EN, 1, 0, 1),
        (F.EVT_ANG_STAT_DIR, 1, 0, 0), (F.EVT_ANG_STAT_ZSYNC, 1, 0, 0)])), by decide +kernel⟩,
   ⟨1, (State.reset.dv (fun d =>
        ({ d.md mRun with ev := { d.ev with time := 0x1234, angle1 := { pos := 0x123456789A } }}).st
        [(F.CLK_ISL_STAT_RUN, 98, 0, 1), (F.EVT_ANG_CFG_EN, 1, 0, 1), (F.EVT_ANG_CFG_Z_EN, 1, 0, 1),
        (F.EVT_ANG_STAT_DIR, 1, 0, 0), (F.EVT_ANG_STAT_ZSYNC, 1, 0, 1), (F.EVT_ANG_LIM_ZOFF, 1, 0, 0x3450),
        (F.EVT_ANG_CFG_Z_TOL, 1, 0, 255)])), by decide +kernel⟩,
   ⟨1, (State.reset.dv (fun d =>
        ({ d.md mRun with ev := { d.ev with time := 0x1234, angle1 := { pos := 0x123456789A } }}).st
        [(F.CLK_ISL_STAT_RUN, 98, 0, 1), (F.EVT_ANG_CFG_EN, 1, 0, 1), (F.EVT_ANG_CFG_Z_EN, 1, 0, 1),
        (F.EVT_ANG_STAT_DIR, 1, 0, 0), (F.EVT_ANG_STAT_ZSYNC, 1, 0, 1), (F.EVT_ANG_LIM_ZOFF, 1, 0, 0x3450),
        (F.EVT_ANG_CFG_Z_TOL, 1, 0, 0)])), by decide +kernel⟩⟩

/-- Operands and states that meet the hypotheses of every clause of `EncoderEdgesAndCorrections`, part 2. -/
theorem witness_EncoderEdgesAndCorrections_2 :
    (∃ u : Fin 4, ∃ dt : Nat, ∃ s : State, s.dev.evOn = true ∧ s.dev.gb F.EVT_ANG_CFG_EN u.val = true ∧ s.dev.gb
        F.EVT_ANG_STAT_STALL u.val = false ∧ s.dev.gf F.EVT_ANG_LIM_STALL_TO u.val ≠ 0 ∧ (s.dev.angle
        u.val).tEdge.toNat + s.dev.gf F.EVT_ANG_LIM_STALL_TO u.val * 1024 ≤ (s.dev.tick dt).now) ∧
    (∃ u : Fin 4, ∃ s : State, s.dev.evOn = false ∨ s.dev.gb F.EVT_ANG_CFG_EN u.val = false ∨ s.dev.gb
        F.EVT_ANG_CFG_Z_EN u.val = false ∨ s.dev.gb F.EVT_ANG_STAT_DIR u.val = true) ∧
    (∃ u : Fin 4, ∃ a : Bool, ∃ b : Bool, ∃ s : State, s.dev.evOn = true ∧ s.dev.gb F.EVT_ANG_CFG_EN u.val = true
        ∧ (a ≠ (s.dev.angle u.val).a ∧ b = (s.dev.angle u.val).b ∨ a = (s.dev.angle u.val).a ∧ b ≠ (s.dev.angle
        u.val).b) ∧ quadCounted (s.dev.gf F.EVT_ANG_CFG_MODE u.val) (a != (s.dev.angle u.val).a) a = false) ∧
    (∃ u : Fin 4, ∃ s : State, s.dev.evOn = false ∨ s.dev.gb F.EVT_ANG_CFG_EN u.val = false) ∧
    (∃ u : Fin 4, ∃ dt : Nat, ∃ s : State, s.dev.evOn = true ∧ s.dev.gb F.EVT_ANG_CFG_EN u.val = true ∧ (s.dev.gb
        F.EVT_ANG_STAT_STALL u.val = true ∨ s.dev.gf F.EVT_ANG_LIM_STALL_TO u.val = 0 ∨ (s.dev.tick dt).now <
        (s.dev.angle u.val).tEdge.toNat + s.dev.gf F.EVT_ANG_LIM_STALL_TO u.val * 1024)) :=
  ⟨⟨1, 5, (State.reset.dv (fun d =>
        ({ d.md mRun with ev := { d.ev with time := 0x400, angle1 := { pos := 0x123456789A } }}).st
        [(F.CLK_ISL_STAT_RUN, 98, 0, 1), (F.EVT_ANG_CFG_EN, 1, 0, 1), (F.EVT_ANG_LIM_STALL_TO, 1, 0, 1),
        (F.EVT_ANG_STAT_STALL, 1, 0, 0)])), by decide +kernel⟩,
   ⟨1, (State.reset.dv (fun d =>
        ({ d.md mRun with ev := { d.ev with time := 0x400, angle1 := { pos := 0x123456789A } }}).st
        [(F.CLK_ISL_STAT_RUN, 98, 0, 1), (F.EVT_ANG_CFG_EN, 1, 0, 1), (F.EVT_ANG_STAT_DIR, 1, 0, 1)])),
        by decide +kernel⟩,
   ⟨3, false, true, (State.reset.dv (fun d => ({ d.md mRun with
          ev := { d.ev with
                time := 0x1234,
                angle3 := { haveEdge := true, tEdge := 0x1000, hist := List.replicate 16 9, frozen := some 6 },
                angle2 := {pos := 6} } }).st [(F.CLK_ISL_STAT_RUN, 98, 0, 1), (F.EVT_ANG_CFG_EN, 3, 0, 1),
        (F.EVT_ANG_CFG_MODE, 3, 0, 0)])), by decide +kernel⟩,
   ⟨3, (State.reset.dv (fun d => ({ d.md mRun with ev := { d.ev with time := 0x1234 }}).st
        [(F.CLK_ISL_STAT_RUN, 98, 0, 1), (F.EVT_ANG_CFG_EN, 3, 0, 0)])), by decide +kernel⟩,
   ⟨1, 5, (State.reset.dv (fun d =>
        ({ d.md mRun with ev := { d.ev with time := 0x400, angle1 := { pos := 0x123456789A } }}).st
        [(F.CLK_ISL_STAT_RUN, 98, 0, 1), (F.EVT_ANG_CFG_EN, 1, 0, 1), (F.EVT_ANG_LIM_STALL_TO, 1, 0, 1),
        (F.EVT_ANG_STAT_STALL, 1, 0, 1)])), by decide +kernel⟩⟩

/-- Operands and states that meet the hypotheses of every clause of `QueueDescriptors`, part 1. -/
theorem witness_QueueDescriptors_1 :
    (∃ q : BitVec 14, ∃ v : Word, ∃ s : State, s.dev.evOn = true ∧ bits v 30 2 = 1 ∧ (s.dev.qState q.toNat =
        qIdle ∨ s.dev.qState q.toNat = qStopped) ∧ ((List.foldl (fun d x => if x.2.1 = s.dev.gf x.1 q.toNat ∨
        x.2.2 = true then d else d.sf x.1 q.toNat 0 x.2.1) s.dev [(F.QUEUE_W0_ECHO, bits v 28 1, decide
        (s.dev.qState q.toNat = qRun ∨ s.dev.qState q.toNat = qFault)), (F.QUEUE_W0_LATE, bits v 25 3, decide
        ((s.dev.qState q.toNat = qRun ∨ s.dev.qState q.toNat = qFault) ∨ 2 < bits v 25 3)), (F.QUEUE_W0_SIZE, bits
        v 21 4, decide ((s.dev.qState q.toNat = qRun ∨ s.dev.qState q.toNat = qFault) ∨ bits v 21 4 = 15 ∨
        s.dev.qState q.toNat = qStopped ∧ maxEntries < s.dev.qSum - ringSize (s.dev.gf F.QUEUE_W0_SIZE q.toNat) +
        ringSize (bits v 21 4))), (F.QUEUE_W0_BASE, bits v 0 21, decide (s.dev.qState q.toNat = qRun ∨
        s.dev.qState q.toNat = qFault))]).runOk q.toNat = true)) ∧
    (∃ q : BitVec 14, ∃ v : Word, ∃ s : State, s.dev.evOn = true ∧ bits v 30 2 = 2 ∧ s.dev.qState q.toNat = qRun
        ∧ (∀ (r : Cur), (s.dev.queue q.toNat).cur = some r → r.commit = none)) ∧
    (∃ q : BitVec 14, ∃ v : Word, ∃ s : State, s.dev.evOn = true ∧ (bits v 30 2 = 2 ∧ (s.dev.qState q.toNat =
        qFault ∨ s.dev.qState q.toNat = qIdle ∧ (List.foldl (fun d x => if x.2.1 = s.dev.gf x.1 q.toNat ∨ x.2.2 =
        true then d else d.sf x.1 q.toNat 0 x.2.1) s.dev [(F.QUEUE_W0_ECHO, bits v 28 1, decide (s.dev.qState
        q.toNat = qRun ∨ s.dev.qState q.toNat = qFault)), (F.QUEUE_W0_LATE, bits v 25 3, decide ((s.dev.qState
        q.toNat = qRun ∨ s.dev.qState q.toNat = qFault) ∨ 2 < bits v 25 3)), (F.QUEUE_W0_SIZE, bits v 21 4, decide
        ((s.dev.qState q.toNat = qRun ∨ s.dev.qState q.toNat = qFault) ∨ bits v 21 4 = 15 ∨ s.dev.qState q.toNat =
        qStopped ∧ maxEntries < s.dev.qSum - ringSize (s.dev.gf F.QUEUE_W0_SIZE q.toNat) + ringSize (bits v 21
        4))), (F.QUEUE_W0_BASE, bits v 0 21, decide (s.dev.qState q.toNat = qRun ∨ s.dev.qState q.toNat =
        qFault))]).sumKept q.toNat = true) ∨ bits v 30 2 = 0 ∧ (s.dev.qState q.toNat = qFault ∨ s.dev.qState
        q.toNat = qStopped))) ∧
    (∃ q : BitVec 14, ∃ v : Word, ∃ s : State, s.dev.evOn = true ∧ bits v 30 2 ≠ s.dev.qState q.toNat ∧ (bits v
        30 2 = 3 ∨ bits v 30 2 = 0 ∧ s.dev.qState q.toNat = qRun ∨ bits v 30 2 = 1 ∧ s.dev.qState q.toNat = qFault
        ∨ bits v 30 2 = 1 ∧ (List.foldl (fun d x => if x.2.1 = s.dev.gf x.1 q.toNat ∨ x.2.2 = true then d else
        d.sf x.1 q.toNat 0 x.2.1) s.dev [(F.QUEUE_W0_ECHO, bits v 28 1, decide (s.dev.qState q.toNat = qRun ∨
        s.dev.qState q.toNat = qFault)), (F.QUEUE_W0_LATE, bits v 25 3, decide ((s.dev.qState q.toNat = qRun ∨
        s.dev.qState q.toNat = qFault) ∨ 2 < bits v 25 3)), (F.QUEUE_W0_SIZE, bits v 21 4, decide ((s.dev.qState
        q.toNat = qRun ∨ s.dev.qState q.toNat = qFault) ∨ bits v 21 4 = 15 ∨ s.dev.qState q.toNat = qStopped ∧
        maxEntries < s.dev.qSum - ringSize (s.dev.gf F.QUEUE_W0_SIZE q.toNat) + ringSize (bits v 21 4))),
        (F.QUEUE_W0_BASE, bits v 0 21, decide (s.dev.qState q.toNat = qRun ∨ s.dev.qState q.toNat =
        qFault))]).runOk q.toNat = false ∨ bits v 30 2 = 2 ∧ s.dev.qState q.toNat = qIdle ∧ (List.foldl (fun d x
        => if x.2.1 = s.dev.gf x.1 q.toNat ∨ x.2.2 = true then d else d.sf x.1 q.toNat 0 x.2.1) s.dev
        [(F.QUEUE_W0_ECHO, bits v 28 1, decide (s.dev.qState q.toNat = qRun ∨ s.dev.qState q.toNat = qFault)),
        (F.QUEUE_W0_LATE, bits v 25 3, decide ((s.dev.qState q.toNat = qRun ∨ s.dev.qState q.toNat = qFault) ∨ 2 <
        bits v 25 3)), (F.QUEUE_W0_SIZE, bits v 21 4, decide ((s.dev.qState q.toNat = qRun ∨ s.dev.qState q.toNat
        = qFault) ∨ bits v 21 4 = 15 ∨ s.dev.qState q.toNat = qStopped ∧ maxEntries < s.dev.qSum - ringSize
        (s.dev.gf F.QUEUE_W0_SIZE q.toNat) + ringSize (bits v 21 4))), (F.QUEUE_W0_BASE, bits v 0 21, decide
        (s.dev.qState q.toNat = qRun ∨ s.dev.qState q.toNat = qFault))]).sumKept q.toNat = false)) ∧
    (∃ q : BitVec 14, ∃ v : Word, ∃ s : State, s.dev.evOn = true ∧ bits v 30 2 = s.dev.qState q.toNat) ∧
    (∃ q : BitVec 14, ∃ v : Word, ∃ s : State, s.dev.evOn = true ∧ s.dev.qState q.toNat ≠ qRun ∧ v ≠ s.dev.reg
        RK.QUEUE_W1 q.toNat ∧ ringCount (bits v 16 16) (bits v 0 16) ≤ s.dev.qCap q.toNat) :=
  ⟨⟨5, (putBits (((evb State.reset (q5 0 16 1 0 0 0x4003 ++ [(F.EVT_DPIN_EN, 3, 0, 1)]))).dev.reg .QUEUE_W0 5)
        30 2 1), (evb State.reset (q5 0 16 1 0 0 0x4003 ++ [(F.EVT_DPIN_EN, 3, 0, 1)])), by decide +kernel⟩,
   ⟨5, (putBits (((evb State.reset (q5 1 16 1 0 0 0x4003))).dev.reg .QUEUE_W0 5) 30 2 2), (evb State.reset (q5
        1 16 1 0 0 0x4003)), by decide +kernel⟩,
   ⟨5, (putBits (((evb State.reset (q5 3 16 1 0 0 0x4003))).dev.reg .QUEUE_W0 5) 30 2 2), (evb State.reset (q5
        3 16 1 0 0 0x4003)), by decide +kernel⟩,
   ⟨5, (putBits (((evb State.reset (q5 2 16 1 0 0 0x4003))).dev.reg .QUEUE_W0 5) 30 2 3), (evb State.reset (q5
        2 16 1 0 0 0x4003)), by decide +kernel⟩,
   ⟨5, (putBits (((evb State.reset (q5 1 17 1 0 0 0x4003))).dev.reg .QUEUE_W0 5) 30 2 1), (evb State.reset (q5
        1 17 1 0 0 0x4003)), by decide +kernel⟩,
   ⟨5, 0x00100008, (evb State.reset (q5 0 16 1 0 0 0x4003)), by decide +kernel⟩⟩

/-- Operands and states that meet the hypotheses of every clause of `QueueDescriptors`, part 2. -/
theorem witness_QueueDescriptors_2 :
    (∃ q : BitVec 14, ∃ v : Word, ∃ s : State, s.dev.evOn = true ∧ s.dev.qState q.toNat ≠ qRun ∧ v ≠ s.dev.reg
        RK.QUEUE_W1 q.toNat ∧ s.dev.qCap q.toNat < ringCount (bits v 16 16) (bits v 0 16)) ∧
    (∃ q : BitVec 14, ∃ v : Word, ∃ s : State, s.dev.evOn = true ∧ v ≠ s.dev.reg RK.QUEUE_W2 q.toNat ∧
        (s.dev.qState q.toNat = qRun ∨ s.dev.qState q.toNat = qFault)) ∧
    (∃ q : BitVec 14, ∃ v : Word, ∃ s : State, s.dev.evOn = true ∧ v ≠ s.dev.reg RK.QUEUE_W2 q.toNat ∧
        (s.dev.qState q.toNat = qIdle ∨ s.dev.qState q.toNat = qStopped)) ∧
    (∃ s : State, s.dev.evOn = true) ∧
    (∃ q : BitVec 14, ∃ v : Word, ∃ s : State, ∃ r : Cur, ∃ x : Commit, s.dev.evOn = true ∧ bits v 30 2 = 2 ∧
        s.dev.qState q.toNat = qRun ∧ (s.dev.queue q.toNat).cur = some r ∧ r.commit = some x) ∧
    (∃ q : BitVec 14, ∃ v : Word, ∃ s : State, s.dev.evOn = true ∧ s.dev.qState q.toNat = qRun ∧ bits v 16 16 =
        s.dev.gf F.QUEUE_W1_TAIL q.toNat) :=
  ⟨⟨5, 0x00110008, (evb State.reset (q5 2 16 1 0 0 0x4003)), by decide +kernel⟩,
   ⟨5, 0x00110008, (evb State.reset (q5 1 16 1 0 0 0x4003)), by decide +kernel⟩,
   ⟨5, 0x00110008, (evb State.reset (q5 0 16 1 0 0 0x4003)), by decide +kernel⟩,
   ⟨(evb State.reset (q5 2 16 1 0 0 0x4003)), by decide +kernel⟩,
   ⟨5, (BitVec.ofNat 32 (2*2^30 + 1*2^25 + 15*2^21 + 0x20)), (evb State.reset (q5 1 16 3 0 0 0x0103 ++
        [(F.QUEUE_W0_LATE, 5, 0, 1)]) mRun (fun d => { d with
          ev := { d.ev with
                queues := [(5,
                    {cur := some {word := 0, commit := some {frame := 9, outcome := 1, result := {}}}})] } })),
        {word := 0, commit := some {frame := 9, outcome := 1, result := {}}},
        {frame := 9, outcome := 1, result := {}}, by decide +kernel⟩,
   ⟨5, 0x00050007, (evb State.reset (q5 1 16 3 0 5 0x4003)), by decide +kernel⟩⟩

/-- Operands and states that meet the hypotheses of every clause of `QueueDescriptors`, part 3. -/
theorem witness_QueueDescriptors_3 :
    (∃ q : BitVec 14, ∃ v : Word, ∃ s : State, s.dev.evOn = true ∧ s.dev.qState q.toNat = qRun ∧ bits v 16 16 ≠
        s.dev.gf F.QUEUE_W1_TAIL q.toNat ∧ (s.dev.qCap q.toNat < ringCount (bits v 16 16) (s.dev.gf
        F.QUEUE_W1_HEAD q.toNat) ∨ ringCount (bits v 16 16) (s.dev.gf F.QUEUE_W1_HEAD q.toNat) < s.dev.qCount
        q.toNat)) ∧
    (∃ q : BitVec 14, ∃ v : Word, ∃ s : State, s.dev.evOn = true ∧ s.dev.qState q.toNat = qRun ∧ s.dev.qCount
        q.toNat ≤ ringCount (bits v 16 16) (s.dev.gf F.QUEUE_W1_HEAD q.toNat) ∧ ringCount (bits v 16 16) (s.dev.gf
        F.QUEUE_W1_HEAD q.toNat) ≤ s.dev.qCap q.toNat) ∧
    (∃ c : Instr, ∃ q : BitVec 14, ∃ s : State, s.dev.evOn = true ∧ c ∈ [Instr.queueWord1Write q (s.dev.reg
        RK.QUEUE_W1 q.toNat), Instr.queueWord2Write q (s.dev.reg RK.QUEUE_W2 q.toNat)]) :=
  ⟨⟨5, 0x00040007, (evb State.reset (q5 1 16 3 0 5 0x4003)), by decide +kernel⟩,
   ⟨5, 0x00200007, (evb State.reset (q5 1 16 3 0 5 0x4003)), by decide +kernel⟩,
   ⟨(.queueWord2Write 5 ((evb State.reset (q5 1 16 3 0 5 0x4003)).dev.reg .QUEUE_W2 5)), 5, (evb State.reset
        (q5 1 16 3 0 5 0x4003)), by decide +kernel⟩⟩

/-- Operands and states that meet the hypotheses of every clause of `QueueHeadsAndEchoRings`, part 1. -/
theorem witness_QueueHeadsAndEchoRings_1 :
    (∃ q : BitVec 14, ∃ u : BitVec 72, ∃ s : State, s.dev.queuesRun = true ∧ s.dev.qState q.toNat = qRun ∧
        s.dev.qCount q.toNat ≠ 0 ∧ (s.dev.queue q.toNat).cur = none ∧ s.dev.larServes evId (s.dev.qSlot q.toNat
        (s.dev.gf F.QUEUE_W1_HEAD q.toNat)) = true ∧ (s.dev.larSeen (s.dev.qSlot q.toNat (s.dev.gf F.QUEUE_W1_HEAD
        q.toNat)) u).check.1 ≠ Ecc.double ∧ (¬(BitVec.extractLsb' 62 2 (s.dev.larSeen (s.dev.qSlot q.toNat
        (s.dev.gf F.QUEUE_W1_HEAD q.toNat)) u).check.2 = 3 ∨ 6 < (BitVec.extractLsb' 20 4 (s.dev.larSeen
        (s.dev.qSlot q.toNat (s.dev.gf F.QUEUE_W1_HEAD q.toNat)) u).check.2).toNat ∨ BitVec.extractLsb' 62 2
        (s.dev.larSeen (s.dev.qSlot q.toNat (s.dev.gf F.QUEUE_W1_HEAD q.toNat)) u).check.2 = 2 ∧ (s.dev.larSeen
        (s.dev.qSlot q.toNat (s.dev.gf F.QUEUE_W1_HEAD q.toNat)) u).check.2.getLsbD 61 = true))) ∧
    (∃ q : BitVec 14, ∃ u : BitVec 72, ∃ s : State, s.dev.queuesRun = true ∧ s.dev.qState q.toNat = qRun ∧
        s.dev.qCount q.toNat ≠ 0 ∧ (s.dev.queue q.toNat).cur = none ∧ s.dev.larServes evId (s.dev.qSlot q.toNat
        (s.dev.gf F.QUEUE_W1_HEAD q.toNat)) = true ∧ ((s.dev.larSeen (s.dev.qSlot q.toNat (s.dev.gf
        F.QUEUE_W1_HEAD q.toNat)) u).check.1 = Ecc.double ∨ BitVec.extractLsb' 62 2 (s.dev.larSeen (s.dev.qSlot
        q.toNat (s.dev.gf F.QUEUE_W1_HEAD q.toNat)) u).check.2 = 3 ∨ 6 < (BitVec.extractLsb' 20 4 (s.dev.larSeen
        (s.dev.qSlot q.toNat (s.dev.gf F.QUEUE_W1_HEAD q.toNat)) u).check.2).toNat ∨ BitVec.extractLsb' 62 2
        (s.dev.larSeen (s.dev.qSlot q.toNat (s.dev.gf F.QUEUE_W1_HEAD q.toNat)) u).check.2 = 2 ∧ (s.dev.larSeen
        (s.dev.qSlot q.toNat (s.dev.gf F.QUEUE_W1_HEAD q.toNat)) u).check.2.getLsbD 61 = true)) ∧
    (∃ q : BitVec 14, ∃ s : State, s.dev.queuesRun = false ∨ s.dev.qState q.toNat ≠ qRun ∨ s.dev.qCount q.toNat =
        0 ∨ (s.dev.queue q.toNat).cur ≠ none) ∧
    (∃ s : State, s.dev.evOn = true) ∧
    (∃ r : Fin 4, ∃ v : Word, ∃ s : State, s.dev.evOn = true ∧ s.dev.gb F.EVT_ECHO_CFG_EN r.val = false ∧ bits v
        31 1 = 1 ∧ s.dev.larServes evId (s.dev.gf F.EVT_ECHO_CTL_CTRL_WA r.val) = true) ∧
    (∃ r : Fin 4, ∃ v : Word, ∃ s : State, s.dev.evOn = true ∧ s.dev.gb F.EVT_ECHO_CFG_EN r.val = true ∧ bits v
        31 1 = 1 ∧ (bits v 21 4 ≠ s.dev.gf F.EVT_ECHO_CFG_SIZE r.val ∨ bits v 0 21 ≠ s.dev.gf F.EVT_ECHO_CFG_BASE
        r.val)) :=
  ⟨⟨5, 0, (hf State.reset ⟨5, 0⟩), by decide +kernel⟩,
   ⟨5, 0, (hf State.reset ⟨0xF000000000000000, 0⟩ [(F.EVT_QFAULT_VALID, 0, 0, 0)]), by decide +kernel⟩,
   ⟨5, (hf State.reset ⟨0x700000, 0⟩ [(F.EVT_QFAULT_VALID, 0, 0, 0)] 9), by decide +kernel⟩,
   ⟨(hf State.reset ⟨5, 0⟩), by decide +kernel⟩,
   ⟨2, 0x81200007, (eb State.reset [(F.EVT_ECHO_CFG_EN, 2, 0, 0), (F.EVT_ECHO_CTL_CTRL_WA, 2, 0, 0x105)]),
        by decide +kernel⟩,
   ⟨2, 0x80000001, (eb State.reset [(F.EVT_ECHO_CFG_EN, 2, 0, 1), (F.EVT_ECHO_CTL_CTRL_WA, 2, 0, 0x105)]),
        by decide +kernel⟩⟩

/-- Operands and states that meet the hypotheses of every clause of `QueueHeadsAndEchoRings`, part 2. -/
theorem witness_QueueHeadsAndEchoRings_2 :
    ∃ r : Fin 4, ∃ v : Word, ∃ s : State, s.dev.evOn = true ∧ s.dev.gb F.EVT_ECHO_CFG_EN r.val = true ∧ bits v
        31 1 = 0 ∧ bits v 21 4 ≠ 15 :=
  ⟨2, 0x01200001, (eb State.reset [(F.EVT_ECHO_CFG_EN, 2, 0, 1), (F.EVT_ECHO_CTL_CTRL_WA, 2, 0, 0x105)]),
        by decide +kernel⟩

/-- Operands and states that meet the hypotheses of every clause of `InternalAppends`, part 1. -/
theorem witness_InternalAppends_1 :
    (∃ i : Fin 2, ∃ r : PostRec, ∃ l : List PostRec, ∃ s : State, s.dev.evOn = true ∧ s.dev.postBuf i.val = r ::
        l ∧ s.dev.ev.mesh = [] ∧ s.dev.appendJudge r.queue = Accept.go ∧ (s.dev.larServes evId (s.dev.qSlot
        r.queue (s.dev.gf F.QUEUE_W1_TAIL r.queue)) = true ∨ larAddrOk (larQuad (s.dev.qSlot r.queue (s.dev.gf
        F.QUEUE_W1_TAIL r.queue))) (s.dev.qSlot r.queue (s.dev.gf F.QUEUE_W1_TAIL r.queue)) 0 = true ∧
        s.dev.quadState (larQuad (s.dev.qSlot r.queue (s.dev.gf F.QUEUE_W1_TAIL r.queue))) ≠ 2)) ∧
    (∃ r : Nat × BitVec 64, ∃ l : List (Nat × BitVec 64), ∃ s : State, s.dev.evOn = true ∧ s.dev.gb
        F.HBT_STAT_CLK_RUN = true ∧ s.hb.posts = r :: l ∧ s.dev.appendJudge r.1 = Accept.go ∧ (s.dev.larServes
        evId (s.dev.qSlot r.1 (s.dev.gf F.QUEUE_W1_TAIL r.1)) = true ∨ larAddrOk (larQuad (s.dev.qSlot r.1
        (s.dev.gf F.QUEUE_W1_TAIL r.1))) (s.dev.qSlot r.1 (s.dev.gf F.QUEUE_W1_TAIL r.1)) 0 = true ∧
        s.dev.quadState (larQuad (s.dev.qSlot r.1 (s.dev.gf F.QUEUE_W1_TAIL r.1))) ≠ 2)) ∧
    (∃ i : Fin 2, ∃ r : PostRec, ∃ l : List PostRec, ∃ s : State, ∃ j : Accept, ∃ f : Fld, ∃ reason : Nat,
        s.dev.evOn = true ∧ s.dev.postBuf i.val = r :: l ∧ s.dev.ev.mesh = [] ∧ r.room < 64 ∧ r.port < 2 ∧
        s.dev.noDelivery r.room = false ∧ s.dev.evRoom r.room r.port = true ∧ (j, f, reason) ∈ [(Accept.full,
        F.EVT_POST_CNT_FULL, 0), (Accept.fault, F.EVT_POST_CNT_STATE, 1)] ∧ s.dev.appendJudge r.queue = j) ∧
    (∃ r : Nat × BitVec 64, ∃ l : List (Nat × BitVec 64), ∃ s : State, ∃ j : Accept, ∃ f : Fld, ∃ reason : Nat,
        s.dev.evOn = true ∧ s.dev.gb F.HBT_STAT_CLK_RUN = true ∧ s.hb.posts = r :: l ∧ (j, f, reason) ∈
        [(Accept.full, F.EVT_POST_CNT_FULL, 0), (Accept.fault, F.EVT_POST_CNT_STATE, 1)] ∧ s.dev.appendJudge r.1 =
        j) ∧
    (∃ q : BitVec 14, ∃ a : Machine.Append, ∃ s : State, s.dev.evOn = true ∧ (s.dev.queue q.toNat).append = some
        a ∧ a.status = stOk ∧ a.poster < 128) ∧
    (∃ q : BitVec 14, ∃ a : Machine.Append, ∃ s : State, s.dev.evOn = true ∧ (s.dev.queue q.toNat).append = some
        a ∧ a.status = stOk ∧ a.poster = 128) :=
  ⟨⟨1, r77, [], (ia State.reset 1 12 mRun), by decide +kernel⟩,
   ⟨(5, 77), [(1, 2)], (ia State.reset 1 12 mRun), by decide +kernel⟩,
   ⟨1, r77, [], (ia State.reset 1 25 mRun), .full, F.EVT_POST_CNT_FULL, 0, by decide +kernel⟩,
   ⟨(5, 77), [(1, 2)], (ia State.reset 1 25 mRun), .full, F.EVT_POST_CNT_FULL, 0, by decide +kernel⟩,
   ⟨5, {status := stOk, poster := 3}, (aa State.reset 1 {status := stOk, poster := 3}), by decide +kernel⟩,
   ⟨5, {status := stOk, poster := 128}, (aa State.reset 1 {status := stOk, poster := 128}), by decide +kernel⟩⟩

/-- Operands and states that meet the hypotheses of every clause of `InternalAppends`, part 2. -/
theorem witness_InternalAppends_2 :
    (∃ q : BitVec 14, ∃ a : Machine.Append, ∃ s : State, ∃ k : Fin 4, s.dev.evOn = true ∧ (s.dev.queue
        q.toNat).append = some a ∧ a.status = stOk ∧ a.poster = 129 + k.val) ∧
    (∃ q : BitVec 14, ∃ a : Machine.Append, ∃ s : State, s.dev.evOn = true ∧ (s.dev.queue q.toNat).append = some
        a ∧ a.status ≠ stOk ∧ a.poster ≤ 132) :=
  ⟨⟨5, {status := stOk, poster := 131}, (aa State.reset 1 {status := stOk, poster := 131}), 2,
        by decide +kernel⟩,
   ⟨5, {status := 2, poster := 130}, (aa State.reset 1 {status := 2, poster := 130}), by decide +kernel⟩⟩

/-- Operands and states that meet the hypotheses of every clause of `PlacementOfRecords`. -/
theorem witness_PlacementOfRecords :
    (∃ q : BitVec 14, ∃ x : Queue, ∃ c : Cur, ∃ e : Int, ∃ dt : Nat, ∃ s : State, s.dev.queuesRun = true ∧
        s.dev.mode ≠ mHold ∧ s.dev.ev.queues = [(q.toNat, x)] ∧ x.cur = some c ∧ s.dev.qState q.toNat = qRun ∧
        c.commit = none ∧ c.behind = false ∧ c.due = some e ∧ 0 < s.dev.ev.tokens ∧ s.dev.ev.handed = [] ∧ e ≤
        (s.dev.tick dt).now ∧ (s.dev.tick dt).now < (s.dev.tick dt).windowEnd q.toNat c + (s.dev.tick dt).evPeriod
        ∧ s.dev.aimsPin q.toNat c.word = true ∧ ((s.dev.tick dt).effect q.toNat c.word).2 ≤ (s.dev.tick
        dt).headroom (s.dev.gf F.QUEUE_W2_FEED q.toNat) false) ∧
    (∃ q : BitVec 14, ∃ x : Queue, ∃ c : Cur, ∃ e : Int, ∃ dt : Nat, ∃ s : State, s.dev.queuesRun = true ∧
        s.dev.mode ≠ mHold ∧ s.dev.ev.queues = [(q.toNat, x)] ∧ x.cur = some c ∧ s.dev.qState q.toNat = qRun ∧
        c.commit = none ∧ c.behind = false ∧ c.due = some e ∧ 0 < s.dev.ev.tokens ∧ s.dev.ev.handed = [] ∧ e ≤
        (s.dev.tick dt).now ∧ (s.dev.tick dt).windowEnd q.toNat c + (s.dev.tick dt).evPeriod ≤ (s.dev.tick dt).now
        ∧ s.dev.aimsPin q.toNat c.word = true ∧ s.dev.gf F.QUEUE_W0_LATE q.toNat = 1) ∧
    (∃ q : BitVec 14, ∃ x : Queue, ∃ c : Cur, ∃ e : Int, ∃ dt : Nat, ∃ s : State, s.dev.queuesRun = true ∧
        s.dev.mode ≠ mHold ∧ s.dev.ev.queues = [(q.toNat, x)] ∧ x.cur = some c ∧ s.dev.qState q.toNat = qRun ∧
        c.commit = none ∧ c.behind = false ∧ c.due = some e ∧ 0 < s.dev.ev.tokens ∧ s.dev.ev.handed = [] ∧ e ≤
        (s.dev.tick dt).now ∧ (s.dev.tick dt).windowEnd q.toNat c + (s.dev.tick dt).evPeriod ≤ (s.dev.tick dt).now
        ∧ s.dev.aimsPin q.toNat c.word = true ∧ s.dev.gf F.QUEUE_W0_LATE q.toNat = 2) ∧
    (∃ s : State, s.dev.mode = mHold ∧ s.dev.evOn = true ∧ s.dev.ev.handed = [] ∧ (∀ x ∈ s.dev.ev.queues, ∀ (c :
        Cur), x.2.cur = some c → c.commit = none)) ∧
    (∃ s : State, s.dev.queuesRun = false) :=
  ⟨⟨5, {cur := some {word := evrec 0 100 3 1 1 0, seen := true, due := some 1000}},
        {word := evrec 0 100 3 1 1 0, seen := true, due := some 1000}, 1000, 0, (place State.reset mRun (evrec 0
        100 3 1 1 0) 1000 1001 []), by decide +kernel⟩,
   ⟨5, {cur := some {word := evrec 0 100 3 1 1 0, seen := true, due := some 1000}},
        {word := evrec 0 100 3 1 1 0, seen := true, due := some 1000}, 1000, 3, (place State.reset mRun (evrec 0
        100 3 1 1 0) 1000 1200 [(F.QUEUE_W0_LATE, 5, 0, 1)]), by decide +kernel⟩,
   ⟨5, {cur := some {word := evrec 0 100 3 1 1 0, seen := true, due := some 1000}},
        {word := evrec 0 100 3 1 1 0, seen := true, due := some 1000}, 1000, 3, (place State.reset mRun (evrec 0
        100 3 1 1 0) 1000 1200 [(F.QUEUE_W0_LATE, 5, 0, 2)]), by decide +kernel⟩,
   ⟨(place State.reset mHold (evrec 0 100 3 1 1 0) 1000 1001 []), by decide +kernel⟩,
   ⟨(place State.reset mAlarm (evrec 0 100 3 1 1 0) 1000 1001 []), by decide +kernel⟩⟩

/-- Operands and states that meet the hypotheses of every clause of `PhaseAndPulseEnds`, part 1. -/
theorem witness_PhaseAndPulseEnds_1 :
    (∃ ch : ChanId, ∃ dt : Nat, ∃ s : State, ∃ e : Nat, (s.dev.tick dt).fireCommits.mode ≠ mAlarm ∧ ((s.dev.tick
        dt).fireCommits.chan ch).phaseEnd = some e ∧ e ≤ (s.dev.tick dt).fireCommits.now ∧ ((s.dev.tick
        dt).fireCommits.chan ch).phase = Phase.pull) ∧
    (∃ ch : ChanId, ∃ dt : Nat, ∃ s : State, ∃ e : Nat, (s.dev.tick dt).fireCommits.mode ≠ mAlarm ∧ ((s.dev.tick
        dt).fireCommits.chan ch).phaseEnd = some e ∧ e ≤ (s.dev.tick dt).fireCommits.now ∧ ((s.dev.tick
        dt).fireCommits.chan ch).phase = Phase.hold) ∧
    (∃ ch : ChanId, ∃ dt : Nat, ∃ s : State, (s.dev.tick dt).fireCommits.mode ≠ mAlarm ∧ (∀ (e : Nat),
        ((s.dev.tick dt).fireCommits.chan ch).phaseEnd = some e → (s.dev.tick dt).fireCommits.now < e)) ∧
    (∃ ch : ChanId, ∃ dt : Nat, ∃ s : State, ∃ e : Nat, (s.dev.tick dt).fireCommits.mode ≠ mAlarm ∧ ((s.dev.tick
        dt).fireCommits.chan ch).pulseEnd = some e ∧ e ≤ (s.dev.tick dt).fireCommits.now) ∧
    (∃ ch : ChanId, ∃ dt : Nat, ∃ s : State, (s.dev.tick dt).fireCommits.mode ≠ mAlarm ∧ (∀ (e : Nat),
        ((s.dev.tick dt).fireCommits.chan ch).pulseEnd = some e → (s.dev.tick dt).fireCommits.now < e)) ∧
    (∃ f : Fin 64, ∃ s : State, s.dev.gb F.EVT_FEED_STAT_MEAS_VALID f.val = true ∧ (s.dev.str (s.dev.gf
        F.EVT_FEED_CFG_SRC f.val)).telemAt + 40960 ≤ s.dev.now) :=
  ⟨⟨(.str 300), 7, (chb State.reset
        {phase := .pull, phaseEnd := some 1000, holdTicks := 50, pullI := 4, feed := 2} 995), 1000,
        by decide +kernel⟩,
   ⟨(.str 300), 7, (chb State.reset
        {phase := .hold, phaseEnd := some 1000, holdTicks := 0, pullI := 4, feed := 2} 995), 1000,
        by decide +kernel⟩,
   ⟨(.str 300), 7, (chb State.reset
        {phase := .hold, phaseEnd := some 1000, holdTicks := 0, pullI := 4, feed := 2} 992), by decide +kernel⟩,
   ⟨(.str 300), 7, (chb State.reset
        {phase := .hold, phaseEnd := some 999999, pulseEnd := some 1000, holdTicks := 0, pullI := 4, feed := 2}
        995), 1000, by decide +kernel⟩,
   ⟨(.str 300), 7, (chb State.reset
        {phase := .hold, phaseEnd := some 999999, pulseEnd := some 1000, holdTicks := 0, pullI := 4, feed := 2}
        992), by decide +kernel⟩,
   ⟨5, (evb State.reset [(F.EVT_FEED_CFG_SRC, 5, 0, 3), (F.EVT_FEED_STAT_MEAS_VALID, 5, 0, 1),
        (F.EVT_FEED_MEAS_OFS, 5, 0, 7)] mRun (fun d => ({d with ev := {d.ev with time := 50000}}).onStr 3 (fun x
        => {x with telemAt := 9040}))), by decide +kernel⟩⟩

/-- Operands and states that meet the hypotheses of every clause of `PhaseAndPulseEnds`, part 2. -/
theorem witness_PhaseAndPulseEnds_2 :
    (∃ c : Instr, ∃ ch : ChanId, ∃ dt : Nat, ∃ s : State, c ∈ [Instr.phaseEnd ch dt, Instr.pulseEnd ch dt] ∧
        (s.dev.tick dt).fireCommits.mode = mAlarm) ∧
    (∃ f : Fin 64, ∃ s : State, s.dev.gb F.EVT_FEED_STAT_MEAS_VALID f.val = false ∨ s.dev.now < (s.dev.str
        (s.dev.gf F.EVT_FEED_CFG_SRC f.val)).telemAt + 40960) :=
  ⟨⟨(.pulseEnd (.str 300) 7), (.str 300), 7, ((chb State.reset
        {phase := .hold, phaseEnd := some 1000, pulseEnd := some 990} 995).dv (fun d => d.md mAlarm)),
        by decide +kernel⟩,
   ⟨5, (evb State.reset [(F.EVT_FEED_CFG_SRC, 5, 0, 3), (F.EVT_FEED_STAT_MEAS_VALID, 5, 0, 1),
        (F.EVT_FEED_MEAS_OFS, 5, 0, 7)] mRun (fun d => ({d with ev := {d.ev with time := 50000}}).onStr 3 (fun x
        => {x with telemAt := 9041}))), by decide +kernel⟩⟩

/-- Operands and states that meet the hypotheses of every clause of `RoomPosts`. -/
theorem witness_RoomPosts :
    (∃ n : Fin 64, ∃ att : Fin 2, ∃ addr : Word, ∃ recs : List (BitVec 64), ∃ s : State, 0 < recs.length ∧
        recs.length ≤ 16 ∧ (∀ p ∈ s.dev.ev.mesh, p.att ≠ att.val) ∧ (s.dev.room n.val).gsr = false ∧ (s.dev.room
        n.val).clamps = false ∧ s.dev.evOn = true ∧ (BitVec.toNat addr < 16384 ∧ s.dev.gb F.EVT_EVP_EN n.val =
        true ∧ s.dev.gf F.EVT_EVP_QLO n.val ≤ BitVec.toNat addr % 16384 ∧ BitVec.toNat addr % 16384 ≤ s.dev.gf
        F.EVT_EVP_QHI n.val) ∧ (s.dev.postBuf att.val).length + recs.length ≤ 64) ∧
    (∃ n : Fin 64, ∃ att : Fin 2, ∃ addr : Word, ∃ recs : List (BitVec 64), ∃ s : State, 0 < recs.length ∧
        recs.length ≤ 16 ∧ (∀ p ∈ s.dev.ev.mesh, p.att ≠ att.val) ∧ (s.dev.room n.val).gsr = false ∧ (s.dev.room
        n.val).clamps = false ∧ s.dev.evOn = true ∧ (¬(BitVec.toNat addr < 16384 ∧ s.dev.gb F.EVT_EVP_EN n.val =
        true ∧ s.dev.gf F.EVT_EVP_QLO n.val ≤ BitVec.toNat addr % 16384 ∧ BitVec.toNat addr % 16384 ≤ s.dev.gf
        F.EVT_EVP_QHI n.val))) ∧
    (∃ n : Fin 64, ∃ att : Fin 2, ∃ addr : Word, ∃ recs : List (BitVec 64), ∃ s : State, 0 < recs.length ∧
        recs.length ≤ 16 ∧ (∀ p ∈ s.dev.ev.mesh, p.att ≠ att.val) ∧ (s.dev.room n.val).gsr = false ∧ (s.dev.room
        n.val).clamps = false ∧ (s.dev.evOn = false ∨ (BitVec.toNat addr < 16384 ∧ s.dev.gb F.EVT_EVP_EN n.val =
        true ∧ s.dev.gf F.EVT_EVP_QLO n.val ≤ BitVec.toNat addr % 16384 ∧ BitVec.toNat addr % 16384 ≤ s.dev.gf
        F.EVT_EVP_QHI n.val) ∧ 64 < (s.dev.postBuf att.val).length + recs.length)) ∧
    (∃ n : Fin 64, ∃ s : State, (s.dev.room n.val).gsr = true ∨ (s.dev.room n.val).clamps = true) ∧
    (∃ n : Fin 64, ∃ s : State, s.dev.noDelivery n.val = false) ∧
    (∃ n : Fin 64, ∃ s : State, s.dev.noDelivery n.val = true) :=
  ⟨⟨3, 0, 7, [1, 2, 3], (rpo State.reset), by decide +kernel⟩,
   ⟨3, 0, 8, [9], (rpo State.reset), by decide +kernel⟩,
   ⟨3, 0, 7, [1, 2, 3, 4], (rpo State.reset), by decide +kernel⟩,
   ⟨3, (rpo State.reset [] (fun r => { r with clamps := true })), by decide +kernel⟩,
   ⟨3, (rpo State.reset [] (fun r => { r with ev0 := [1, 2, 3]})), by decide +kernel⟩,
   ⟨3, (rpo State.reset [(F.GOV_ROOM_PSTATE, 3, 0, 2)] (fun r => { r with ev0 := [1, 2, 3]})),
        by decide +kernel⟩⟩

/-- Operands and states that meet the hypotheses of every clause of `PatternPlayers`, part 1. -/
theorem witness_PatternPlayers_1 :
    (∃ k : Fin 4, ∃ s : State, s.dev.evOn = true ∧ s.dev.gb F.EVT_PLY_CTRL_RUN k.val = false) ∧
    (∃ k : Fin 4, ∃ s : State, s.dev.evOn = true ∧ s.dev.gb F.EVT_PLY_CTRL_RUN k.val = true) ∧
    (∃ k : Fin 4, ∃ s : State, s.dev.evOn = true ∧ s.dev.plyState k.val = pWait ∧ (s.dev.mode = mRun ∨ s.dev.mode
        = mQuiet) ∧ (((s.dev.pPred (s.dev.gf F.EVT_PLY_CTRL_ANGLE_UNIT k.val)).toNat / 2 ^ 32 : Nat) - ((s.dev.gf
        F.EVT_PLY_REV_REV k.val : Int) - (s.dev.gf F.EVT_PLY_CTRL_LEAD k.val : Int))) % 4294967296 < 2147483648) ∧
    (∃ k : Fin 4, ∃ s : State, s.dev.evOn = true ∧ s.dev.plyState k.val = pWait ∧ (s.dev.mode = mHold ∨
        2147483648 ≤ (((s.dev.pPred (s.dev.gf F.EVT_PLY_CTRL_ANGLE_UNIT k.val)).toNat / 2 ^ 32 : Nat) - ((s.dev.gf
        F.EVT_PLY_REV_REV k.val : Int) - (s.dev.gf F.EVT_PLY_CTRL_LEAD k.val : Int))) % 4294967296)) ∧
    (∃ k : Fin 4, ∃ hd : List (BitVec 8), ∃ l : List (BitVec 8), ∃ s : State, s.dev.evOn = true ∧ s.dev.plyState
        k.val = pFetch ∧ s.dev.dramWaits (s.dev.gf F.EVT_PLY_CTRL_CHAN k.val) (79 + k.val) = false ∧ s.dev.gf
        F.EVT_PLY_ADDR_WA k.val % 8 = 0 ∧ (s.dev.playerRead (k.val) (s.dev.gf F.EVT_PLY_ADDR_WA k.val) 4).2 = some
        hd ∧ pickHeaderOk hd = true ∧ ((s.dev.playerRead (k.val) (s.dev.gf F.EVT_PLY_ADDR_WA k.val)
        4).1.playerRead (k.val) (s.dev.gf F.EVT_PLY_ADDR_WA k.val) ((pickLen hd + 15) / 16)).2 = some l ∧
        pickCheckOk l = true ∧ s.dev.gf F.EVT_PLY_CTRL_QBASE k.val + pickBits l ≤ 16384 ∧
        ({ s.dev.player k.val with pick := List.take (pickLen l) l, index := 0 } : Player).left ≠ []) ∧
    (∃ k : Fin 4, ∃ s : State, s.dev.evOn = true ∧ s.dev.plyState k.val = pFetch ∧ s.dev.gf F.EVT_PLY_ADDR_WA
        k.val % 8 = 0 ∧ s.dev.pairServes (s.dev.gf F.EVT_PLY_CTRL_CHAN k.val) = false) :=
  ⟨⟨2, (evbIdle State.reset [(F.EVT_PLY_CTRL_RUN, 2, 0, 0)] mRun (fun d => d.onPlayer 2 (fun _ =>
        {image := 77, pick := [1], index := 6}))), by decide +kernel⟩,
   ⟨2, (evbIdle State.reset [(F.EVT_PLY_CTRL_RUN, 2, 0, 1)] mRun (fun d => d.onPlayer 2 (fun _ =>
        {image := 77, pick := [1], index := 6}))), by decide +kernel⟩,
   ⟨2, (evbIdle State.reset [(F.EVT_PLY_CTRL_RUN, 2, 0, 1), (F.EVT_PLY_STAT_STATE, 2, 0, 1),
        (F.EVT_PLY_CTRL_ANGLE_UNIT, 2, 0, 1), (F.EVT_PLY_REV_REV, 2, 0, 9), (F.EVT_PLY_CTRL_LEAD, 2, 0, 1),
        (F.EVT_ANG_CFG_EN, 1, 0, 1)] mRun (fun d => {d with ev := {d.ev with angle1 := {pos := 0x800000000}}})),
        by decide +kernel⟩,
   ⟨2, (evbIdle State.reset [(F.EVT_PLY_CTRL_RUN, 2, 0, 1), (F.EVT_PLY_STAT_STATE, 2, 0, 1),
        (F.EVT_PLY_CTRL_ANGLE_UNIT, 2, 0, 1), (F.EVT_PLY_REV_REV, 2, 0, 10), (F.EVT_PLY_CTRL_LEAD, 2, 0, 1),
        (F.EVT_ANG_CFG_EN, 1, 0, 1)] mRun (fun d => {d with ev := {d.ev with angle1 := {pos := 0x800000000}}})),
        by decide +kernel⟩,
   ⟨2, (pick1.take 64), (pick1 ++ zeros 8), (plybIdle State.reset 2 {image := 1} [(F.EVT_PLY_ADDR_WA, 2, 0, 8)]
        (pickMem.map (fun x => (x.1+2, x.2)))), by decide +kernel⟩,
   ⟨2, (plybIdle State.reset 2 {image := 1} [(F.EVT_PLY_ADDR_WA, 2, 0, 8), (F.DRC_STAT_STATE, 3, 0, 1)]),
        by decide +kernel⟩⟩

/-- Operands and states that meet the hypotheses of every clause of `PatternPlayers`, part 2. -/
theorem witness_PatternPlayers_2 :
    (∃ k : Fin 4, ∃ i : Nat, ∃ rest : List Nat, ∃ s : State, ∃ c : Instr, s.dev.evOn = true ∧ (s.dev.player
        k.val).left = i :: rest ∧ i < 16384 ∧ (c = Instr.playerAppend k ∧ s.dev.plyState k.val = pPost ∨ c =
        Instr.playerStallResume k ∧ s.dev.plyState k.val = pStalled) ∧ s.dev.appendJudge (s.dev.gf
        F.EVT_PLY_CTRL_QBASE k.val + i) = Accept.go ∧ s.dev.larServes evId (s.dev.qSlot (s.dev.gf
        F.EVT_PLY_CTRL_QBASE k.val + i) (s.dev.gf F.QUEUE_W1_TAIL (s.dev.gf F.EVT_PLY_CTRL_QBASE k.val + i))) =
        true) ∧
    (∃ k : Fin 4, ∃ i : Nat, ∃ rest : List Nat, ∃ s : State, s.dev.evOn = true ∧ (s.dev.player k.val).left = i ::
        rest ∧ i < 16384 ∧ s.dev.plyState k.val = pPost ∧ s.dev.appendJudge (s.dev.gf F.EVT_PLY_CTRL_QBASE k.val +
        i) = Accept.full) ∧
    (∃ k : Fin 4, ∃ i : Nat, ∃ rest : List Nat, ∃ s : State, s.dev.evOn = true ∧ (s.dev.player k.val).left = i ::
        rest ∧ i < 16384 ∧ s.dev.plyState k.val = pStalled ∧ s.dev.appendJudge (s.dev.gf F.EVT_PLY_CTRL_QBASE
        k.val + i) = Accept.full) ∧
    (∃ k : Fin 4, ∃ v : Word, ∃ s : State, s.dev.evOn = true ∧ s.dev.gb F.EVT_PLY_CTRL_RUN k.val = true ∧ (bits v
        0 14 ≠ s.dev.gf F.EVT_PLY_CTRL_QBASE k.val ∨ bits v 22 2 ≠ s.dev.gf F.EVT_PLY_CTRL_CHAN k.val ∨ bits v 24
        4 ≠ s.dev.gf F.EVT_PLY_CTRL_LEAD k.val ∨ bits v 28 2 ≠ s.dev.gf F.EVT_PLY_CTRL_ANGLE_UNIT k.val ∨ bits v
        30 1 ≠ s.dev.gf F.EVT_PLY_CTRL_KEEP_IMAGE k.val)) :=
  ⟨⟨2, 0, [2, 63], (plybIdle State.reset 3 {image := 0, pick := pick1} (q5 1 16 1 9 12 0x4003)), (.playerAppend
        2), by decide +kernel⟩,
   ⟨2, 0, [2, 63], (plybIdle State.reset 3 {image := 0, pick := pick1} (q5 1 16 1 9 25 0x4003)),
        by decide +kernel⟩,
   ⟨2, 0, [2, 63], (plybIdle State.reset 4 {image := 0, pick := pick1} (q5 1 16 1 9 25 0x4003)),
        by decide +kernel⟩,
   ⟨2, 0x30000123, (evbIdle State.reset [(F.EVT_PLY_CTRL_RUN, 2, 0, 1), (F.EVT_PLY_CTRL_QBASE, 2, 0, 5)] mRun
        (fun d => d.onPlayer 2 (fun _ => {image := 77, pick := [1], index := 6}))), by decide +kernel⟩⟩

/-- Operands and states that meet the hypotheses of every clause of `StringFrames`, part 1. -/
theorem witness_StringFrames_1 :
    (∃ dt : Nat, ∃ s : State, (∀ x ∈ s.dev.ev.queues, ∀ (c : Cur), x.2.cur = some c → c.commit = none) ∧
        s.dev.ev.handed = [] ∧ s.dev.gb F.EVT_TIME_STAT_COUNTING = true ∧ (s.dev.mode = mRun ∨ s.dev.mode = mQuiet
        ∨ s.dev.mode = mHold) ∧ (s.dev.tick dt).now % 640 = 0) ∧
    (∃ dt : Nat, ∃ s : State, (s.dev.tick dt).now % 640 ≠ 0) ∧
    (∃ g : Fin 64, ∃ f : BitVec 560, ∃ dt : Nat, ∃ x : SentFrame, ∃ s : State, s.dev.gf F.STG_STAT_STATE g.val =
        sUp ∧ (s.dev.tick dt).returnJudged g.val = some x ∧ retGood f x.n = true ∧ x.n % 16 ≠ 15) ∧
    (∃ g : Fin 64, ∃ f : BitVec 560, ∃ dt : Nat, ∃ x : SentFrame, ∃ s : State, s.dev.gf F.STG_STAT_STATE g.val =
        sUp ∧ (s.dev.tick dt).returnJudged g.val = some x ∧ retGood f x.n = true ∧ x.n % 16 = 15) ∧
    (∃ g : Fin 64, ∃ f : BitVec 560, ∃ dt : Nat, ∃ x : SentFrame, ∃ s : State, s.dev.gf F.STG_STAT_STATE g.val =
        sUp ∧ (s.dev.tick dt).returnJudged g.val = some x ∧ retGood f x.n = false ∧ (s.dev.str g.val).bad < 2) ∧
    (∃ g : Fin 64, ∃ f : BitVec 560, ∃ dt : Nat, ∃ x : SentFrame, ∃ s : State, s.dev.gf F.STG_STAT_STATE g.val =
        sUp ∧ (s.dev.tick dt).returnJudged g.val = some x ∧ retGood f x.n = false ∧ (s.dev.str g.val).bad = 2) :=
  ⟨⟨1, (strb State.reset 3 2 (640*15-1) {} [(F.CLK_ISL_STAT_RUN, 82, 0, 1), (F.STG_CFG_EN, 3, 0, 1)]),
        by decide +kernel⟩,
   ⟨1, (strb State.reset 3 2 (640*17) {} [(F.CLK_ISL_STAT_RUN, 82, 0, 1), (F.STG_CFG_EN, 3, 0, 1)]),
        by decide +kernel⟩,
   ⟨3, (fr 0x3A5 18 10 0 (0x4441 <<< 470)), 1, { n := 18, type := 1, step := 0 }, (strb State.reset 3 2
        (640*20) (sfr 18 2) [(F.STG_STAT_RDLY, 3, 0, 1)]), by decide +kernel⟩,
   ⟨3, bfr, 1, { n := 15, type := 1, step := 0 }, (strb State.reset 3 2 (640*20) (sfr 15 2) [(F.STG_STAT_RDLY,
        3, 0, 4), (F.EVT_FEED_CFG_SRC, 9, 0, 3), (F.EVT_FEED_CFG_MEAS_EN, 9, 0, 1)]), by decide +kernel⟩,
   ⟨3, bfr, 1, { n := 16, type := 1, step := 0 }, (strb State.reset 3 2 (640*20) (sfr 16 1) [(F.STG_STAT_RDLY,
        3, 0, 3)]), by decide +kernel⟩,
   ⟨3, bfr, 1, { n := 16, type := 1, step := 0 }, (strb State.reset 3 2 (640*20) (sfr 16 2) [(F.STG_STAT_RDLY,
        3, 0, 3)]), by decide +kernel⟩⟩

/-- Operands and states that meet the hypotheses of every clause of `StringFrames`, part 2. -/
theorem witness_StringFrames_2 :
    ∃ g : Fin 64, ∃ dt : Nat, ∃ s : State, ∀ x ∈ (s.dev.str g.val).sent, x.n ≠ (s.dev.tick dt).returnFor g.val ∨
        x.type = ftTrain :=
  ⟨3, 1, (strb State.reset 3 2 (640*20) (sfr 17 2) [(F.STG_STAT_RDLY, 3, 0, 3)]), by decide +kernel⟩

/-- Operands and states that meet the hypotheses of every clause of `StringTraining`, part 1. -/
theorem witness_StringTraining_1 :
    (∃ g : Fin 64, ∃ s : State, s.dev.gf F.STG_STAT_STATE g.val ≠ sTraining ∧ s.dev.gb F.STG_CFG_EN g.val = true
        ∧ s.dev.ready = true) ∧
    (∃ g : Fin 64, ∃ s : State, s.dev.gf F.STG_STAT_STATE g.val = sTraining ∨ s.dev.gb F.STG_CFG_EN g.val = false
        ∨ s.dev.ready = false) ∧
    (∃ g : Fin 64, ∃ s : State, s.dev.gf F.STG_STAT_STATE g.val = sTraining ∧ (s.dev.str g.val).train = 1) ∧
    (∃ g : Fin 64, ∃ s : State, ∃ m : BitVec 16, ∃ p : Nat, s.dev.gf F.STG_STAT_STATE g.val = sTraining ∧
        (s.dev.str g.val).train = 2 ∧ phaseCentres m = [p]) ∧
    (∃ g : Fin 64, ∃ s : State, ∃ m : BitVec 16, s.dev.gf F.STG_STAT_STATE g.val = sTraining ∧ (s.dev.str
        g.val).train = 2 ∧ phaseCentres m = []) ∧
    (∃ g : Fin 64, ∃ s : State, ∃ r : Fin 9, s.dev.gf F.STG_STAT_STATE g.val = sTraining ∧ (s.dev.str
        g.val).train = 3 ∧ r ≠ 0) :=
  ⟨⟨3, (strbNow State.reset 3 0 640 {bad := 2, train := 3} [(F.STG_CFG_EN, 3, 0, 1)] mHold), by decide +kernel⟩,
   ⟨3, (strbNow State.reset 3 3 640 {bad := 2, train := 3} [(F.STG_CFG_EN, 3, 0, 1)] mAlarm),
        by decide +kernel⟩,
   ⟨3, (strbNow State.reset 3 1 640 {train := 1} [(F.STG_CFG_EN, 3, 0, 1)] mRun), by decide +kernel⟩,
   ⟨3, (strbNow State.reset 3 1 640 {train := 2, badInStep := true} [(F.STG_CFG_EN, 3, 0, 1)] mRun), 0x03F8, 6,
        by decide +kernel⟩,
   ⟨3, (strbNow State.reset 3 1 640 {train := 2, badInStep := true} [(F.STG_CFG_EN, 3, 0, 1)] mRun), 0x003E,
        by decide +kernel⟩,
   ⟨3, (strbNow State.reset 3 1 640 {train := 3, fromFault := true} [(F.STG_CFG_EN, 3, 0, 1)] mRun), 8,
        by decide +kernel⟩⟩

/-- Operands and states that meet the hypotheses of every clause of `StringTraining`, part 2. -/
theorem witness_StringTraining_2 :
    (∃ g : Fin 64, ∃ s : State, s.dev.gf F.STG_STAT_STATE g.val = sTraining ∧ (s.dev.str g.val).train = 3) ∧
    (∃ g : Fin 64, ∃ s : State, s.dev.gf F.STG_STAT_STATE g.val = sTraining ∧ (s.dev.str g.val).train = 4) ∧
    (∃ g : Fin 64, ∃ s : State, s.dev.gf F.STG_STAT_STATE g.val = sTraining ∧ (s.dev.str g.val).train = 5 ∧
        (s.dev.str g.val).badInStep = false ∧ (s.dev.gb F.STG_CFG_ID_LOCK g.val = false ∨ s.dev.gf
        F.STG_ID_BOARD_ID g.val = s.dev.gf F.STG_ID_EXP_ID_EXP g.val)) ∧
    (∃ g : Fin 64, ∃ s : State, s.dev.gf F.STG_STAT_STATE g.val = sTraining ∧ (s.dev.str g.val).train = 5 ∧
        ((s.dev.str g.val).badInStep = true ∨ s.dev.gb F.STG_CFG_ID_LOCK g.val = true ∧ s.dev.gf F.STG_ID_BOARD_ID
        g.val ≠ s.dev.gf F.STG_ID_EXP_ID_EXP g.val)) ∧
    (∃ g : Fin 64, ∃ s : State, s.dev.gb F.STG_CFG_EN g.val = true ∧ s.dev.channelsOff g.val = true) ∧
    (∃ g : Fin 64, ∃ s : State, s.dev.gb F.STG_CFG_EN g.val = true ∧ s.dev.channelsOff g.val = false) :=
  ⟨⟨3, (strbNow State.reset 3 1 640 {train := 3, fromFault := true} [(F.STG_CFG_EN, 3, 0, 1)] mRun),
        by decide +kernel⟩,
   ⟨3, (strbNow State.reset 3 1 640 {train := 4, fromFault := true} [(F.STG_CFG_EN, 3, 0, 1)] mRun),
        by decide +kernel⟩,
   ⟨3, (strbNow State.reset 3 1 640 {train := 5, fromFault := true} [(F.STG_CFG_EN, 3, 0, 1),
        (F.STG_CFG_ID_LOCK, 3, 0, 0)] mRun), by decide +kernel⟩,
   ⟨3, (strbNow State.reset 3 1 640 {train := 5, fromFault := true} [(F.STG_CFG_EN, 3, 0, 1),
        (F.STG_CFG_ID_LOCK, 3, 0, 1), (F.STG_ID_BOARD_ID, 3, 0, 77), (F.STG_ID_EXP_ID_EXP, 3, 0, 78)] mRun),
        by decide +kernel⟩,
   ⟨3, ((strbNow State.reset 3 2 640 {train := 5, badInStep := true} [(F.STG_CFG_EN, 3, 0, 1),
        (F.STG_CFG_ID_LOCK, 3, 0, 0)] mRun).dv (fun d => d.onChan (.str 300) (fun _ => {phase := .driven 2}))),
        by decide +kernel⟩,
   ⟨3, ((strbNow State.reset 3 2 640 {} [(F.STG_CFG_EN, 3, 0, 1), (F.STG_CFG_ID_LOCK, 3, 0, 0)] mRun).dv (fun d
        => d.onChan (.str 800) (fun _ => {phase := .driven 2}))), by decide +kernel⟩⟩

/-- Operands and states that meet the hypotheses of every clause of `StringTraining`, part 3. -/
theorem witness_StringTraining_3 :
    (∃ g : Fin 64, ∃ s : State, ∃ m : BitVec 16, s.dev.gf F.STG_STAT_STATE g.val = sTraining ∧ (s.dev.str
        g.val).train = 2 ∧ phaseCentres m ≠ []) ∧
    (∃ g : Fin 64, ∃ s : State, ∃ o : TrainObs, s.dev.gf F.STG_STAT_STATE g.val = sTraining ∧ (o, (s.dev.str
        g.val).train) ∉ [(TrainObs.lock, 1), (TrainObs.verify true, 4), (TrainObs.verify false, 4),
        (TrainObs.ident, 5), (TrainObs.align none, 3)] ∧ (∀ (m : BitVec 16), (o, (s.dev.str g.val).train) ≠
        (TrainObs.phase m, 2)) ∧ (∀ (x : Fin 9 × Fin 560), 0 < x.1.val → (o, (s.dev.str g.val).train) ≠
        (TrainObs.align (some x), 3))) ∧
    (∃ g : Fin 64, ∃ s : State, s.dev.gf F.STG_STAT_STATE g.val ≠ sTraining) ∧
    (∃ g : Fin 64, ∃ s : State, s.dev.gb F.STG_CFG_EN g.val = false ∧ s.dev.gf F.STG_CFG_FAULT_POL g.val ≠ 3) :=
  ⟨⟨3, (strbNow State.reset 3 1 640 {train := 2, badInStep := true} [(F.STG_CFG_EN, 3, 0, 1)] mRun), 0x03FC,
        by decide +kernel⟩,
   ⟨3, (strbNow State.reset 3 1 640 {train := 2, badInStep := true} [(F.STG_CFG_EN, 3, 0, 1)] mRun), .ident,
        by decide +kernel, by decide +kernel, fun m h => (nomatch (Prod.mk.inj h).1), fun x _ h => (nomatch
        (Prod.mk.inj h).1)⟩,
   ⟨3, (strbNow State.reset 3 2 640 {train := 5} [(F.STG_CFG_EN, 3, 0, 1)] mRun), by decide +kernel⟩,
   ⟨3, (strbNow State.reset 3 2 640 {} [(F.STG_CFG_EN, 3, 0, 0), (F.STG_CFG_FAULT_POL, 3, 0, 1)] mRun),
        by decide +kernel⟩⟩

/-- Operands and states that meet the hypotheses of every clause of `HostAccesses`, part 1. -/
theorem witness_HostAccesses_1 :
    (∃ s : State, ∃ c : Instr, ∃ a : BitVec 16, s.hbOn = true ∧ s.dev.mode ≠ mOff ∧ s.dev.mode ≠ mRamp ∧ c ∈
        [Instr.hbMirrorRead a, Instr.hbStatusRead a] ∧ (a.toNat < 16384 ∨ 16400 ≤ a.toNat)) ∧
    (∃ s : State, ∃ c : Instr, ∃ k : Nat, ∃ v : Word, s.hbOn = true ∧ s.dev.mode ≠ mOff ∧ s.dev.mode ≠ mRamp ∧ c
        ∈ [Instr.hbMirrorRead (BitVec.ofNat 16 (16384 + k)), Instr.hbStatusRead (BitVec.ofNat 16 (16384 + k))] ∧
        (k, v) ∈ [(0, 556859603), (1, s.dev.reg RK.GBL_MODE), (2, BitVec.setWidth 32 s.dev.ev.time), (3,
        s.hb.intStat), (4, s.hb.intEn), (5, BitVec.setWidth 32 s.hb.accepted <<< 16 ||| BitVec.setWidth 32
        s.hb.refused), (6, s.hb.postLast), (7, BitVec.ofNat 32 (s.dev.gf F.HBT_CFG_MIR_EN * 2 ^ 31 + s.dev.gf
        F.HBT_STAT_PASSES)), (8, s.hb.age), (9, BitVec.setWidth 32 s.hb.drops <<< 16 ||| BitVec.setWidth 32
        s.hb.unmapped), (10, s.dev.reg RK.RFX_FIRED_LO), (11, s.dev.reg RK.RFX_FIRED_HI), (12, 0), (13, 0), (14,
        0), (15, 0)]) ∧
    (∃ s : State, ∃ c : Instr, ∃ a : BitVec 16, ∃ v : Word, s.hbOn = true ∧ s.dev.mode ≠ mOff ∧ s.dev.mode ≠
        mRamp ∧ c ∈ [Instr.hbMirrorWrite a v, Instr.hbStatusWrite a v, Instr.hbUnmappedWrite a v] ∧ a.toNat <
        16384 ∧ s.dev.gb F.HBT_CFG_MIR_EN = true ∧ a.toNat < 2 * s.dev.mirWords ∧ s.hb.buffer.length < 16) ∧
    (∃ s : State, ∃ c : Instr, ∃ a : BitVec 16, ∃ v : Word, s.hbOn = true ∧ s.dev.mode ≠ mOff ∧ s.dev.mode ≠
        mRamp ∧ c ∈ [Instr.hbMirrorWrite a v, Instr.hbStatusWrite a v, Instr.hbUnmappedWrite a v] ∧ a.toNat <
        16384 ∧ s.dev.gb F.HBT_CFG_MIR_EN = true ∧ a.toNat < 2 * s.dev.mirWords ∧ 16 ≤ s.hb.buffer.length) ∧
    (∃ s : State, ∃ c : Instr, ∃ a : BitVec 16, ∃ v : Word, s.hbOn = true ∧ s.dev.mode ≠ mOff ∧ s.dev.mode ≠
        mRamp ∧ c ∈ [Instr.hbMirrorWrite a v, Instr.hbStatusWrite a v, Instr.hbUnmappedWrite a v] ∧ a.toNat <
        16384 ∧ s.dev.gb F.HBT_CFG_MIR_EN = true ∧ 2 * s.dev.mirWords ≤ a.toNat) ∧
    (∃ s : State, ∃ c : Instr, ∃ a : BitVec 16, ∃ v : Word, s.hbOn = true ∧ s.dev.mode ≠ mOff ∧ s.dev.mode ≠
        mRamp ∧ c ∈ [Instr.hbMirrorWrite a v, Instr.hbStatusWrite a v, Instr.hbUnmappedWrite a v] ∧ 16400 ≤
        a.toNat ∧ a.toNat < 32768) :=
  ⟨⟨(hbb State.reset {mirror := [(5, 77), (0x3FFF, 9)]} [(F.HBT_CFG_MIR_EN, 0, 0, 1), (F.HBT_CFG_MIR_SIZE, 0,
        0, 3)]), (.hbMirrorRead 5), 5, by decide +kernel⟩,
   ⟨(hbb State.reset {
          mirror := [(5, 77)], intStat := 0x25, intEn := 0x11, accepted := 7, refused := 9, drops := 3,
          unmapped := 4, postLast := 0x80010005, age := 55 } []), (.hbStatusRead (BitVec.ofNat 16 (0x4000 + 0))),
        0, 0x213100D3, by decide +kernel⟩,
   ⟨(hbb State.reset {mirror := [(5, 77), (0x3FFF, 9)]} [(F.HBT_CFG_MIR_EN, 0, 0, 1), (F.HBT_CFG_MIR_SIZE, 0,
        0, 3)]), (.hbMirrorWrite 5 1), 5, 1, by decide +kernel⟩,
   ⟨(hbb State.reset {mirror := [(5, 77), (0x3FFF, 9)], buffer := List.replicate 16 (5, 3)} [(F.HBT_CFG_MIR_EN,
        0, 0, 1), (F.HBT_CFG_MIR_SIZE, 0, 0, 3)]), (.hbMirrorWrite 5 1), 5, 1, by decide +kernel⟩,
   ⟨(hbb State.reset {mirror := [(5, 77), (0x3FFF, 9)], buffer := List.replicate 16 (5, 3)} [(F.HBT_CFG_MIR_EN,
        0, 0, 1), (F.HBT_CFG_MIR_SIZE, 0, 0, 0)]), (.hbMirrorWrite 512 1), 512, 1, by decide +kernel⟩,
   ⟨(hbb State.reset {mirror := [(5, 77), (0x3FFF, 9)], buffer := List.replicate 16 (5, 3)} [(F.HBT_CFG_MIR_EN,
        0, 0, 1), (F.HBT_CFG_MIR_SIZE, 0, 0, 0)]), (.hbUnmappedWrite 0x4010 1), 0x4010, 1, by decide +kernel⟩⟩

/-- Operands and states that meet the hypotheses of every clause of `HostAccesses`, part 2. -/
theorem witness_HostAccesses_2 :
    (∃ s : State, ∃ c : Instr, ∃ k : Nat, ∃ v : Word, ∃ h : HostBus, s.hbOn = true ∧ s.dev.mode ≠ mOff ∧
        s.dev.mode ≠ mRamp ∧ c ∈ [Instr.hbMirrorWrite (BitVec.ofNat 16 (16384 + k)) v, Instr.hbStatusWrite
        (BitVec.ofNat 16 (16384 + k)) v, Instr.hbUnmappedWrite (BitVec.ofNat 16 (16384 + k)) v] ∧ (k, h) ∈ [(3,
        have __src := s.hb; {
          mirror := __src.mirror, buffer := __src.buffer, posts := __src.posts, latch := __src.latch,
          intStat := s.hb.intStat &&& ~~~v, intEn := __src.intEn, accepted := __src.accepted,
          refused := __src.refused, postLast := __src.postLast, drops := __src.drops, unmapped := __src.unmapped,
          age := __src.age, passStart := __src.passStart, pass := __src.pass, passEnd := __src.passEnd,
          out := __src.out }), (4, have __src := s.hb; {
          mirror := __src.mirror, buffer := __src.buffer, posts := __src.posts, latch := __src.latch,
          intStat := __src.intStat, intEn := v &&& 63, accepted := __src.accepted, refused := __src.refused,
          postLast := __src.postLast, drops := __src.drops, unmapped := __src.unmapped, age := __src.age,
          passStart := __src.passStart, pass := __src.pass, passEnd := __src.passEnd, out := __src.out }), (6,
        have __src := s.hb; {
          mirror := __src.mirror, buffer := __src.buffer, posts := __src.posts, latch := __src.latch,
          intStat := __src.intStat, intEn := __src.intEn, accepted := __src.accepted, refused := __src.refused,
          postLast := if BitVec.getLsbD v 31 = true then 0 else s.hb.postLast, drops := __src.drops,
          unmapped := __src.unmapped, age := __src.age, passStart := __src.passStart, pass := __src.pass,
          passEnd := __src.passEnd, out := __src.out }), (0, s.hb), (1, s.hb), (2, s.hb), (5, s.hb), (7, s.hb),
        (8, s.hb), (9, s.hb), (10, s.hb), (11, s.hb), (12, s.hb), (13, s.hb), (14, s.hb), (15, s.hb)]) ∧
    (∃ s : State, ∃ c : Instr, ∃ a : BitVec 16, ∃ v : Word, s.hbOn = true ∧ s.dev.mode ≠ mOff ∧ s.dev.mode ≠
        mRamp ∧ c ∈ [Instr.hbMirrorWrite a v, Instr.hbStatusWrite a v, Instr.hbUnmappedWrite a v] ∧ a.toNat <
        16384 ∧ s.dev.gb F.HBT_CFG_MIR_EN = false) ∧
    (∃ s : State, ∃ c : Instr, ∃ a : BitVec 16, ∃ v : Word, s.hbOn = true ∧ s.dev.mode ≠ mOff ∧ s.dev.mode ≠
        mRamp ∧ 32768 ≤ a.toNat ∧ c ∈ [Instr.hbMirrorWrite a v, Instr.hbStatusWrite a v, Instr.hbUnmappedWrite a
        v]) :=
  ⟨⟨(hbb State.reset {intStat := 0x3F, intEn := 3, postLast := 0x80000005} []), (.hbStatusWrite (BitVec.ofNat
        16 (0x4000 + 3)) 0x15), 3, 0x15,
        {(hbb State.reset {intStat := 0x3F, intEn := 3, postLast := 0x80000005} []).hb with intStat := 0x2A},
        by decide +kernel⟩,
   ⟨(hbb State.reset {mirror := [(5, 77), (0x3FFF, 9)]} [(F.HBT_CFG_MIR_EN, 0, 0, 0)]), (.hbStatusWrite 7 3),
        7, 3, by decide +kernel⟩,
   ⟨(hbb State.reset {latch := some (0, 7)} [(F.HBT_CFG_MIR_EN, 0, 0, 0)]), (.hbUnmappedWrite 0x8001 3),
        0x8001, 3, by decide +kernel⟩⟩

/-- Operands and states that meet the hypotheses of every clause of `HostPostsAndMirror`, part 1. -/
theorem witness_HostPostsAndMirror_1 :
    (∃ s : State, s.hbOn = true ∧ s.dev.mode ≠ mOff ∧ s.dev.mode ≠ mRamp ∧ s.hb.latch = none) ∧
    (∃ s : State, ∃ l : Nat × Word, s.hbOn = true ∧ s.dev.mode ≠ mOff ∧ s.dev.mode ≠ mRamp ∧ s.hb.latch = some l) ∧
    (∃ q : BitVec 14, ∃ s : State, ∃ w : Word, s.hbOn = true ∧ s.dev.mode ≠ mOff ∧ s.dev.mode ≠ mRamp ∧
        s.hb.latch = some (q.toNat, w) ∧ s.hb.posts.length < 16 ∧ s.dev.evOn = true) ∧
    (∃ q : BitVec 14, ∃ s : State, ∃ w : Word, s.hbOn = true ∧ s.dev.mode ≠ mOff ∧ s.dev.mode ≠ mRamp ∧
        s.hb.latch = some (q.toNat, w) ∧ 16 ≤ s.hb.posts.length) ∧
    (∃ q : BitVec 14, ∃ s : State, ∃ w : Word, s.hbOn = true ∧ s.dev.mode ≠ mOff ∧ s.dev.mode ≠ mRamp ∧
        s.hb.latch = some (q.toNat, w) ∧ s.hb.posts.length < 16 ∧ s.dev.evOn = false) ∧
    (∃ q : BitVec 14, ∃ s : State, s.hbOn = true ∧ s.dev.mode ≠ mOff ∧ s.dev.mode ≠ mRamp ∧ (∀ (l : Nat × Word),
        s.hb.latch = some l → l.1 ≠ q.toNat)) :=
  ⟨⟨(hbbIdle State.reset {}), by decide +kernel⟩,
   ⟨(hbbIdle State.reset {latch := some (5, 9), posts := [(1, 2)]}), (5, 9), by decide +kernel⟩,
   ⟨5, (hbbIdle State.reset {latch := some (5, 9), posts := [(1, 2)]}), 9, by decide +kernel⟩,
   ⟨5, (hbbIdle State.reset {latch := some (5, 9), posts := List.replicate 16 (1, 2), refused := 0xFFFF}), 9,
        by decide +kernel⟩,
   ⟨5, (hbbIdle State.reset {latch := some (5, 9), posts := List.replicate 15 (1, 2), postLast := 0x80000005}
        [(F.CLK_ISL_STAT_RUN, 98, 0, 0)]), 9, by decide +kernel⟩,
   ⟨5, (hbbIdle State.reset {latch := some (6, 9), posts := List.replicate 16 (1, 2), refused := 0xFFFF}),
        by decide +kernel⟩⟩

/-- Operands and states that meet the hypotheses of every clause of `HostPostsAndMirror`, part 2. -/
theorem witness_HostPostsAndMirror_2 :
    (∃ s : State, s.dev.gb F.HBT_CFG_MIR_EN = true ∧ s.dev.mode ≠ mOff ∧ s.dev.mode ≠ mRamp ∧ s.hb.pass = none ∧
        s.gapOver = true) ∧
    (∃ s : State, s.dev.gb F.HBT_CFG_MIR_EN = true ∧ s.dev.mode ≠ mOff ∧ s.dev.mode ≠ mRamp ∧ s.hb.pass = none ∧
        s.gapOver = false) ∧
    (∃ i : Nat, ∃ s : State, s.dev.gb F.HBT_CFG_MIR_EN = true ∧ s.dev.mode ≠ mOff ∧ s.dev.mode ≠ mRamp ∧
        s.hb.pass = some i ∧ i < s.dev.mirWords ∧ larAddrOk (larQuad (s.dev.gf F.HBT_CFG_MIR_BASE + i)) (s.dev.gf
        F.HBT_CFG_MIR_BASE + i) (min (s.dev.gf F.ARB_REQ_CFG_BURST (2 * larQuad (s.dev.gf F.HBT_CFG_MIR_BASE + i)
        + 1) hbId + 1) (s.dev.mirWords - i) - 1) = true ∧ s.dev.larServes hbId (s.dev.gf F.HBT_CFG_MIR_BASE + i) =
        true) ∧
    (∃ e : Nat × Word, ∃ l : List (Nat × Word), ∃ s : State, s.dev.gb F.HBT_STAT_CLK_RUN = true ∧ s.hb.buffer = e
        :: l ∧ s.dev.larServes hbId (e.1 / 2) = true) ∧
    (∃ e : Nat × Word, ∃ l : List (Nat × Word), ∃ s : State, s.dev.gb F.HBT_STAT_CLK_RUN = true ∧ s.hb.buffer = e
        :: l ∧ larAddrOk (larQuad (e.1 / 2)) (e.1 / 2) 0 = true ∧ s.dev.quadState (larQuad (e.1 / 2)) ≠ 2) ∧
    (∃ s : State, s.dev.gb F.HBT_CFG_MIR_EN = false) :=
  ⟨⟨(hbbIdle State.reset {} mirlGap), by decide +kernel⟩,
   ⟨((hbbIdle State.reset {passEnd := some 37} mirlGap).dv (fun d => {d with ev := {d.ev with time := 100}})),
        by decide +kernel⟩,
   ⟨7, (mrr State.reset 7), by decide +kernel⟩,
   ⟨(0x20F, 9), [(1, 2)], (mrr State.reset 7 ⟨0x1234567800000000, 0⟩ [] [(0x20F, 9), (1, 2)]),
        by decide +kernel⟩,
   ⟨(0x20F, 9), [(1, 2)], (mrr State.reset 7 ⟨0x1234567800000000, 3⟩ [(F.LAR_QSTAT_STATE, 0, 0, 1)] [(0x20F,
        9), (1, 2)]), by decide +kernel⟩,
   ⟨(mrr State.reset 3 ⟨0, 0⟩ [(F.HBT_CFG_MIR_EN, 0, 0, 0)]), by decide +kernel⟩⟩

/-- Operands and states that meet the hypotheses of every clause of `HostPostsAndMirror`, part 3. -/
theorem witness_HostPostsAndMirror_3 :
    ∃ s : State, s.dev.gb F.HBT_STAT_CLK_RUN = false :=
  ⟨(mrr State.reset 3 ⟨0, 0⟩ [(F.HBT_STAT_CLK_RUN, 0, 0, 0)]), by decide +kernel⟩

/-- Operands and states that meet the hypotheses of every clause of `ReflexCells`, part 1. -/
theorem witness_ReflexCells_1 :
    (∃ j : Fin 64, ∃ lv : BitVec 64, ∃ s : State, ∃ i : Nat, ∃ l : List Nat, s.dev.rfxOn = true ∧ s.dev.gf
        F.RFX_CELL_STAT_STATE j.val = xArmed ∧ s.dev.rfxActive (j.val) lv = i :: l ∧ s.dev.gf F.RFX_CELL_CTRL_FILT
        j.val ≤ s.dev.rfxRun j.val) ∧
    (∃ j : Fin 64, ∃ lv : BitVec 64, ∃ s : State, s.dev.rfxOn = true ∧ s.dev.gf F.RFX_CELL_STAT_STATE j.val =
        xArmed ∧ s.dev.rfxActive (j.val) lv ≠ [] ∧ s.dev.rfxRun j.val < s.dev.gf F.RFX_CELL_CTRL_FILT j.val) ∧
    (∃ j : Fin 64, ∃ lv : BitVec 64, ∃ s : State, s.dev.rfxOn = true ∧ s.dev.gf F.RFX_CELL_STAT_STATE j.val =
        xArmed ∧ s.dev.rfxActive (j.val) lv = []) ∧
    (∃ j : Fin 64, ∃ s : State, s.dev.rfxOn = false ∨ s.dev.gf F.RFX_CELL_STAT_STATE j.val ≠ xArmed) ∧
    (∃ j : Fin 64, ∃ lv : BitVec 64, ∃ s : State, s.dev.gf F.RFX_CELL_STAT_STATE j.val = xFired ∧ s.dev.rfxActive
        (j.val) lv = []) ∧
    (∃ j : Fin 64, ∃ lv : BitVec 64, ∃ s : State, s.dev.gf F.RFX_CELL_STAT_STATE j.val = xFired ∧ s.dev.rfxActive
        (j.val) lv ≠ []) :=
  ⟨⟨40, 0x30, (rflFilt State.reset 1 [] 2), 4, [5], by decide +kernel⟩,
   ⟨40, 0x20, (rflFilt State.reset 1 [] 1), by decide +kernel⟩,
   ⟨40, 0xFF0F, (rflFilt State.reset 1 [] 2), by decide +kernel⟩,
   ⟨40, (rflFilt State.reset 2 [] 2), by decide +kernel⟩,
   ⟨40, 0xFF0F, (rflFilt State.reset 2 [(F.RFX_CELL_CTRL_ARM, 40, 0, 1)]), by decide +kernel⟩,
   ⟨40, 0xFF1F, (rflFilt State.reset 2 [(F.RFX_CELL_CTRL_ARM, 40, 0, 0)]), by decide +kernel⟩⟩

/-- Operands and states that meet the hypotheses of every clause of `ReflexCells`, part 2. -/
theorem witness_ReflexCells_2 :
    (∃ j : Fin 64, ∃ s : State, s.dev.gf F.RFX_CELL_STAT_STATE j.val ≠ xFired) ∧
    (∃ j : Fin 64, ∃ s : State, s.dev.gf F.RFX_CELL_STAT_STATE j.val = xDisarmed) ∧
    (∃ j : Fin 64, ∃ s : State, s.dev.gf F.RFX_CELL_STAT_STATE j.val ≠ xDisarmed) ∧
    (∃ j : Fin 64, ∃ s : State, s.dev.gf F.RFX_CELL_STAT_STATE j.val = xArmed) ∧
    (∃ j : Fin 64, ∃ s : State, s.dev.gf F.RFX_CELL_STAT_STATE j.val ≠ xArmed) :=
  ⟨⟨40, (rflFilt State.reset 1 [(F.RFX_CELL_CTRL_ARM, 40, 0, 0)]), by decide +kernel⟩,
   ⟨40, (rflFilt State.reset 0 [(F.RFX_CELL_CTRL_ARM, 40, 0, 0)]), by decide +kernel⟩,
   ⟨40, (rflFilt State.reset 2 [(F.RFX_CELL_CTRL_ARM, 40, 0, 0)]), by decide +kernel⟩,
   ⟨40, (rflFilt State.reset 1 [(F.RFX_CELL_CTRL_ARM, 40, 0, 1)] 1), by decide +kernel⟩,
   ⟨40, (rflFilt State.reset 2 [(F.RFX_CELL_CTRL_ARM, 40, 0, 1)]), by decide +kernel⟩⟩

/-- Operands and states that meet the hypotheses of every clause of `IslandClocks`, part 1. -/
theorem witness_IslandClocks_1 :
    (∃ n : Fin 106, ∃ v : Word, ∃ s : State, hasGen n.val = true ∧ (82 ≤ n.val ∧ n.val < 90 ∨ 98 ≤ n.val) ∧
        s.dev.multOk (n.val) (bits v 27 3) (bits v 0 12) = true ∧ s.dev.multOk (n.val) (bits v 27 3) (bits v 12
        12) = true ∧ bits v 12 12 ≤ bits v 0 12 ∧ 0 < bits v 0 12 ∧ (bits v 27 3 = s.dev.gf F.CLK_ISL_CTRL_REF_SEL
        n.val ∨ s.dev.gb F.PLL_RAMP_CTRL_RUN (bits v 27 3) = false)) ∧
    (∃ n : Fin 106, hasGen n.val = true) ∧
    (∃ n : Fin 106, hasGen n.val = false) ∧
    (∃ n : Fin 106, ∃ s : State, s.dev.gb F.CLK_ISL_STAT_SLEWING n.val = true) ∧
    (∃ n : Fin 106, ∃ s : State, hasGen n.val = true ∧ s.dev.gb F.CLK_ISL_STAT_RUN n.val = true ∧ s.dev.pllFeeds
        (s.dev.gf F.CLK_ISL_CTRL_REF_SEL n.val) = true) ∧
    (∃ n : Fin 106, ∃ s : State, hasGen n.val = true ∧ s.dev.gb F.CLK_ISL_STAT_RUN n.val = true ∧ s.dev.gb
        F.CLK_ISL_STAT_LOCKED n.val = true) :=
  ⟨⟨98, 0x10020100, (pb State.reset 1 [(F.CLK_ISL_STAT_CUR, 98, 0, 0), (F.CLK_ISL_CTRL_REF_SEL, 98, 0, 2)]),
        by decide +kernel⟩,
   ⟨98, by decide +kernel⟩,
   ⟨100, by decide +kernel⟩,
   ⟨50, (pb State.reset 1 [(F.CLK_ISL_STAT_SLEWING, 50, 0, 1)]), by decide +kernel⟩,
   ⟨50, (pb State.reset 1 [(F.CLK_ISL_STAT_RUN, 50, 0, 1), (F.CLK_ISL_CTRL_REF_SEL, 50, 0, 2)]),
        by decide +kernel⟩,
   ⟨50, (pb State.reset 1 [(F.CLK_ISL_STAT_RUN, 50, 0, 1), (F.CLK_ISL_STAT_LOCKED, 50, 0, 1),
        (F.CLK_ISL_CTRL_REF_SEL, 50, 0, 2)]), by decide +kernel⟩⟩

/-- Operands and states that meet the hypotheses of every clause of `IslandClocks`, part 2. -/
theorem witness_IslandClocks_2 :
    ∃ c : Instr, ∃ n : Fin 106, ∃ s : State, c = Instr.islandSlewDone n ∧ s.dev.gb F.CLK_ISL_STAT_SLEWING n.val
        = false ∨ c ∈ [Instr.islandLock n, Instr.islandLockLoss n] ∧ (hasGen n.val = false ∨ s.dev.gb
        F.CLK_ISL_STAT_RUN n.val = false) :=
  ⟨(.islandLock 50), 50, (pb State.reset 1 [(F.CLK_ISL_STAT_RUN, 50, 0, 0)]), by decide +kernel⟩

/-- Operands and states that meet the hypotheses of every clause of `PllControlAndLock`, part 1. -/
theorem witness_PllControlAndLock_1 :
    (∃ n : Fin 8, ∃ v : Word, ∃ s : State, s.dev.gb F.PLL_CTRL_EN n.val = false ∧ bits v 29 2 ≠ 3 ∧ bits v 0 16 ≠
        0 ∧ (((((s.dev.sf F.PLL_CTRL_MODE (n.val) 0 (bits v 29 2)).sf F.PLL_CTRL_REF_SEL (n.val) 0 (bits v 26
        3)).sf F.PLL_CTRL_DITHER (n.val) 0 (bits v 25 1)).sf F.PLL_CTRL_DAMP (n.val) 0 (bits v 23 2)).sf
        F.PLL_CTRL_SEED (n.val) 0 (bits v 0 16)).pllEnOk n.val = true) ∧
    (∃ n : Fin 8, ∃ v : Word, ∃ s : State, s.dev.gb F.PLL_CTRL_EN n.val = false ∧ bits v 29 2 ≠ 3 ∧ bits v 0 16 ≠
        0 ∧ (((((s.dev.sf F.PLL_CTRL_MODE (n.val) 0 (bits v 29 2)).sf F.PLL_CTRL_REF_SEL (n.val) 0 (bits v 26
        3)).sf F.PLL_CTRL_DITHER (n.val) 0 (bits v 25 1)).sf F.PLL_CTRL_DAMP (n.val) 0 (bits v 23 2)).sf
        F.PLL_CTRL_SEED (n.val) 0 (bits v 0 16)).pllEnOk n.val = false) ∧
    (∃ n : Fin 8, ∃ v : Word, ∃ s : State, s.dev.gb F.PLL_CTRL_EN n.val = true ∧ (bits v 29 2 ≠ s.dev.gf
        F.PLL_CTRL_MODE n.val ∨ bits v 26 3 ≠ s.dev.gf F.PLL_CTRL_REF_SEL n.val ∨ bits v 25 1 ≠ s.dev.gf
        F.PLL_CTRL_DITHER n.val ∨ bits v 23 2 ≠ s.dev.gf F.PLL_CTRL_DAMP n.val ∨ bits v 0 16 ≠ s.dev.gf
        F.PLL_CTRL_SEED n.val)) ∧
    (∃ n : Fin 8, ∃ s : State, s.dev.gb F.PLL_CTRL_EN n.val = true ∧ s.dev.pllUsed n.val = true) ∧
    (∃ n : Fin 8, ∃ s : State, s.dev.gb F.PLL_CTRL_EN n.val = true ∧ s.dev.pllUsed n.val = false) ∧
    (∃ n : Fin 8, ∃ k : Fin 4, ∃ s : State, s.dev.gb F.PLL_OUT_EN n.val k.val = true ∧ k = 1 ∧ s.dev.pllUsed
        n.val = true) :=
  ⟨⟨2, 0x0E000005, (pbIdle State.reset 0 []), by decide +kernel⟩,
   ⟨2, 0x8C000001, (pbIdle State.reset 0 [(F.PLL_DIV_N, 2, 0, 20)]), by decide +kernel⟩,
   ⟨2, 0xA0000000, (pbIdle State.reset 1 []), by decide +kernel⟩,
   ⟨2, (pbIdle State.reset 1 [(F.CLK_ISL_CTRL_REF_SEL, 5, 0, 2), (F.CLK_ISL_CTRL_MULT, 5, 0, 64)]),
        by decide +kernel⟩,
   ⟨2, ((pbIdle State.reset 1 [(F.PLL_STEP_BUSY, 2, 0, 1), (F.PLL_RAMP_CTRL_RUN, 2, 0, 1)]).dv (fun d =>
        d.onPll 2 (fun x => {x with steps := [(1, 5)], move := some (1, 3)}))), by decide +kernel⟩,
   ⟨2, 1, (pbIdle State.reset 1 [(F.CLK_ISL_CTRL_REF_SEL, 5, 0, 2), (F.CLK_ISL_CTRL_MULT, 5, 0, 64)]),
        by decide +kernel⟩⟩

/-- Operands and states that meet the hypotheses of every clause of `PllControlAndLock`, part 2. -/
theorem witness_PllControlAndLock_2 :
    (∃ n : Fin 8, ∃ k : Fin 4, ∃ s : State, s.dev.gb F.PLL_OUT_EN n.val k.val = true ∧ (k ≠ 1 ∨ s.dev.pllUsed
        n.val = false)) ∧
    (∃ n : Fin 8, ∃ e : BitVec 16, ∃ s : State, s.dev.gb F.PLL_CTRL_EN n.val = true ∧ s.dev.gb F.PLL_STAT_REF_OK
        n.val = true ∧ s.dev.gb F.PLL_STAT_LOCKED n.val = false ∧ e.toInt.natAbs < 100 * 2 ^ s.dev.gf
        F.PLL_LOCK_LOCK_WIN n.val) ∧
    (∃ n : Fin 8, ∃ e : BitVec 16, ∃ s : State, s.dev.gb F.PLL_STAT_LOCKED n.val = true ∧ 100 * 2 ^ s.dev.gf
        F.PLL_LOCK_LOCK_WIN n.val ≤ e.toInt.natAbs) ∧
    (∃ n : Fin 8, ∃ s : State, (s.dev.pll n.val).lossPending = true) ∧
    (∃ pin : Fin 8, ∃ s : State, s.dev.gf F.PLL_REFIN_FMT pin.val ≠ 0) ∧
    (∃ n : Fin 8, ∃ k : Fin 4, ∃ v : Word, ∃ s : State, s.dev.gb F.PLL_OUT_EN n.val k.val = false ∧ bits v 28 3 <
        4 ∧ (k ≠ 1 ∨ s.dev.pllUsed n.val = false) ∧ (bits v 31 1 = 0 ∨ ((if k = 0 then s.dev.sf F.PLL_OUT_FMT
        (n.val) (k.val) (bits v 28 3) else s.dev).sf F.PLL_OUT_CDIV (n.val) (k.val) (bits v 0 9)).outEnOk n.val
        k.val = true)) :=
  ⟨⟨2, 1, (pbIdle State.reset 1 []), by decide +kernel⟩,
   ⟨2, 0xFFF0, (pbIdle State.reset 1 [(F.PLL_STAT_REF_OK, 2, 0, 1), (F.PLL_STAT_LOCKED, 2, 0, 0),
        (F.PLL_LOCK_LOCK_WIN, 2, 0, 0)]), by decide +kernel⟩,
   ⟨2, 100, (pbIdle State.reset 1 [(F.PLL_STAT_REF_OK, 2, 0, 1), (F.PLL_STAT_LOCKED, 2, 0, 1),
        (F.PLL_LOCK_LOCK_WIN, 2, 0, 0)]), by decide +kernel⟩,
   ⟨2, ((pbIdle State.reset 1 [(F.PLL_STAT_REF_OK, 2, 0, 1)]).dv (fun d => d.onPll 2 (fun x =>
        {x with lossPending := true}))), by decide +kernel⟩,
   ⟨3, (pbIdle State.reset 1 [(F.PLL_STAT_REF_OK, 2, 0, 0), (F.PLL_CTRL_REF_SEL, 5, 0, 3), (F.PLL_CTRL_EN, 5,
        0, 0)]), by decide +kernel⟩,
   ⟨2, 3, 0x80000007, (pbIdle State.reset 1 [(F.PLL_OUT_EN, 2, 3, 0)]), by decide +kernel⟩⟩

/-- Operands and states that meet the hypotheses of every clause of `PllControlAndLock`, part 3. -/
theorem witness_PllControlAndLock_3 :
    (∃ n : Fin 8, ∃ k : Fin 4, ∃ v : Word, ∃ s : State, s.dev.gb F.PLL_OUT_EN n.val k.val = false ∧ bits v 28 3 <
        4 ∧ (k ≠ 1 ∨ s.dev.pllUsed n.val = false) ∧ bits v 31 1 = 1 ∧ ((if k = 0 then s.dev.sf F.PLL_OUT_FMT
        (n.val) (k.val) (bits v 28 3) else s.dev).sf F.PLL_OUT_CDIV (n.val) (k.val) (bits v 0 9)).outEnOk n.val
        k.val = false) ∧
    (∃ pin : Fin 8, ∃ s : State, s.dev.gf F.PLL_REFIN_FMT pin.val = 0) :=
  ⟨⟨2, 0, 0x90000003, (pbIdle State.reset 1 [(F.PLL_OUT_FMT, 2, 0, 1)]), by decide +kernel⟩,
   ⟨6, (pbIdle State.reset 1 [(F.PLL_REFIN_FMT, 6, 0, 0)]), by decide +kernel⟩⟩

/-- Operands and states that meet the hypotheses of every clause of `PllStepsAndRamps`, part 1. -/
theorem witness_PllStepsAndRamps_1 :
    (∃ n : Fin 8, ∃ s : State, s.dev.gb F.PLL_CTRL_EN n.val = true ∧ s.dev.gf F.PLL_CTRL_MODE n.val = 2 ∧
        s.dev.gb F.PLL_STEP_BUSY n.val = false) ∧
    (∃ n : Fin 8, ∃ s : State, s.dev.gb F.PLL_CTRL_EN n.val = false ∨ s.dev.gf F.PLL_CTRL_MODE n.val ≠ 2 ∨
        s.dev.gb F.PLL_STEP_BUSY n.val = true) ∧
    (∃ n : Fin 8, ∃ k : Nat, ∃ c : Int, ∃ s : State, (s.dev.pll n.val).move = some (k, c)) ∧
    (∃ n : Fin 8, ∃ s : State, s.dev.rampOk n.val = true) ∧
    (∃ n : Fin 8, ∃ s : State, s.dev.rampOk n.val = false ∧ s.dev.pllUsed n.val = false) ∧
    (∃ n : Fin 8, ∃ s : State, s.dev.pllUsed n.val = true) :=
  ⟨⟨2, (pbIdle State.reset 1 [(F.PLL_CTRL_MODE, 2, 0, 2), (F.PLL_STEP_BUSY, 2, 0, 0)]), by decide +kernel⟩,
   ⟨2, (pbIdle State.reset 1 [(F.PLL_CTRL_MODE, 2, 0, 2), (F.PLL_STEP_BUSY, 2, 0, 1)]), by decide +kernel⟩,
   ⟨2, 3, (-5), ((pbIdle State.reset 1 [(F.PLL_STEP_BUSY, 2, 0, 1)]).dv (fun d => d.onPll 2 (fun x =>
        {x with steps := [(1, 5), (3, 5)], move := some (3, -5)}))), by decide +kernel⟩,
   ⟨2, (pbIdle State.reset 1 segs), by decide +kernel⟩,
   ⟨2, (pbIdle State.reset 1 (segs ++ [(F.PLL_SEG_W1_SLOPE, 2, 1, 501)])), by decide +kernel⟩,
   ⟨2, (pbIdle State.reset 1 (segs ++ [(F.CLK_ISL_CTRL_REF_SEL, 5, 0, 2), (F.CLK_ISL_CTRL_MULT, 5, 0, 64)])),
        by decide +kernel⟩⟩

/-- Operands and states that meet the hypotheses of every clause of `PllStepsAndRamps`, part 2. -/
theorem witness_PllStepsAndRamps_2 :
    (∃ n : Fin 8, ∃ reached : BitVec 33, ∃ r : Nat, ∃ result : Nat, ∃ c : Instr, ∃ s : State, s.dev.gb
        F.PLL_RAMP_CTRL_RUN n.val = true ∧ (c = Instr.pllRampStop n reached ∧ result = 2 ∧ r = max (min
        (s.dev.pllRatio n.val) (s.dev.pll n.val).rampTo) (min reached.toNat (max (s.dev.pllRatio n.val) (s.dev.pll
        n.val).rampTo)) ∨ c = Instr.pllRampSegmentEnd n ∧ result = 0 ∧ r = (s.dev.pll n.val).rampTo ∧ (s.dev.pll
        n.val).rampLast = true)) ∧
    (∃ n : Fin 8, ∃ s : State, s.dev.gb F.PLL_RAMP_CTRL_RUN n.val = true ∧ s.dev.gf F.PLL_RAMP_CTRL_SEG n.val <
        31 ∧ (s.dev.pll n.val).rampLast = false) :=
  ⟨⟨2, 0x43456789, 0x43456789, 2, (.pllRampStop 2 0x43456789), (prun State.reset 0x50000000 false),
        by decide +kernel⟩,
   ⟨2, (prun State.reset 0x50000000 false), by decide +kernel⟩⟩

/-- Operands and states that meet the hypotheses of every clause of `LifeCycle`, part 1. -/
theorem witness_LifeCycle_1 :
    (∃ target : BitVec 4, ∃ s : State, s.dev.on = true ∧ s.dev.secBusyNow = false ∧ s.dev.vppGood = true ∧
        (target = 2 ∧ s.dev.lcState = 1 ∧ s.dev.sec.entropyOk = true ∨ target = 4 ∧ s.dev.lcState = 2 ∧ s.dev.gf
        F.SEC_DBG_LEVEL = 3 ∧ s.dev.gb F.SEC_KEYS_IDK = true ∧ (∃ k : Fin 4, s.dev.oikUsable k.val = true) ∧
        s.dev.cfg.recordVerified = true ∨ target = 8 ∧ (s.dev.lcState = 1 ∨ s.dev.lcState = 2 ∧ s.dev.gf
        F.SEC_DBG_LEVEL = 3 ∨ s.dev.lcState = 4 ∧ 2 ≤ s.dev.gf F.SEC_DBG_LEVEL ∨ s.dev.lcState ≠ 0 ∧ (s.dev.mode =
        mDormant ∨ s.dev.mode = mAlarm)))) ∧
    (∃ target : Nat, ∃ result : Nat, ∃ s : State, s.dev.on = true ∧ s.dev.secBusyNow = false ∧ s.dev.mode ≠
        mDormant ∧ s.dev.mode ≠ mAlarm ∧ ((target, result) ∈ if s.dev.lcState = 0 then [(2, 1), (4, 1), (8, 1)]
        else if s.dev.lcState = 1 ∧ s.dev.sec.entropyOk = false then [(2, 4), (4, 1)] else if s.dev.lcState = 2 ∧
        s.dev.gf F.SEC_DBG_LEVEL = 3 ∧ s.dev.cfg.recordVerified = false then [(4, 4), (2, 1)] else if
        s.dev.lcState = 2 ∧ s.dev.gf F.SEC_DBG_LEVEL ≠ 3 then [(4, 2), (8, 2), (2, 1)] else if s.dev.lcState = 4 ∧
        s.dev.gf F.SEC_DBG_LEVEL < 2 then [(8, 2), (2, 1), (4, 1)] else if s.dev.lcState = 1 ∧ s.dev.vppGood =
        false ∧ s.dev.sec.entropyOk = true then [(2, 3), (8, 3), (4, 1)] else if s.dev.lcState = 8 then [(2, 1),
        (4, 1), (8, 1)] else [])) ∧
    (∃ target : BitVec 4, ∃ s : State, s.dev.on = true ∧ (target ≠ 2 ∧ target ≠ 4 ∧ target ≠ 8 ∨ s.dev.secBusyNow
        = true)) ∧
    (∃ w : LcWork, ∃ s : State, s.dev.sec.lc = some w ∧ w.phase = 1 ∧ w.target ≠ 8) ∧
    (∃ w : LcWork, ∃ s : State, s.dev.sec.lc = some w ∧ w.phase = 3) ∧
    (∃ w : LcWork, ∃ s : State, s.dev.sec.lc = some w ∧ w.phase = 4 ∧ s.dev.sec.resetHeld = false) :=
  ⟨⟨4, (rv (sb State.reset 2 3 []) true), by decide +kernel⟩,
   ⟨4, 2, (sb State.reset 2 2 []), by decide +kernel⟩,
   ⟨5, (sb State.reset 2 3 []), by decide +kernel⟩,
   ⟨{target := 4, phase := 1}, (sb State.reset 2 3 [] mRun (fun x =>
        {x with lc := some {target := 4, phase := 1}})), by decide +kernel⟩,
   ⟨{target := 2, phase := 3}, (sb State.reset 1 3 [] mRun (fun x =>
        {x with lc := some {target := 2, phase := 3}})), by decide +kernel⟩,
   ⟨{target := 4, phase := 4}, (sb State.reset 2 3 [] mRun (fun x =>
        {x with granted := 3, lc := some {target := 4, phase := 4}})), by decide +kernel⟩⟩

/-- Operands and states that meet the hypotheses of every clause of `LifeCycle`, part 2. -/
theorem witness_LifeCycle_2 :
    (∃ w : LcWork, ∃ s : State, s.dev.sec.lc = some w ∧ w.phase = 4 ∧ w.again = false) ∧
    (∃ w : LcWork, ∃ s : State, s.dev.sec.lc = some w ∧ w.phase = 1 ∧ w.target = 8) ∧
    (∃ w : LcWork, ∃ s : State, s.dev.sec.lc = some w ∧ w.phase = 2) ∧
    (∃ w : LcWork, ∃ s : State, s.dev.sec.lc = some w ∧ w.phase = 4 ∧ w.again = true ∧ s.dev.sec.resetHeld =
        false) ∧
    (∃ s : State, s.dev.sec.lc = none ∧ s.dev.sec.resetHeld = false) :=
  ⟨⟨{target := 8, phase := 4}, (sb State.reset 2 3 [] mRun (fun x =>
        {x with granted := 3, lc := some {target := 8, phase := 4}})), by decide +kernel⟩,
   ⟨{target := 8, phase := 1}, (sb State.reset 2 3 [] mRun (fun x =>
        {x with keyIdk := some 7, lc := some {target := 8, phase := 1}})), by decide +kernel⟩,
   ⟨{target := 8, phase := 2}, (sb State.reset 2 3 [] mRun (fun x =>
        {x with keyIdk := some 7, sector := zeros 9, lc := some {target := 8, phase := 2}})), by decide +kernel⟩,
   ⟨{target := 8, phase := 4, again := true}, (sb State.reset 2 3 [] mRun (fun x =>
        {x with granted := 3, lc := some {target := 8, phase := 4, again := true}})), by decide +kernel⟩,
   ⟨(sb State.reset 2 3 []), by decide +kernel⟩⟩

/-- Operands and states that meet the hypotheses of every clause of `KeyLoadsAndOwnerCommands`, part 1. -/
theorem witness_KeyLoadsAndOwnerCommands_1 :
    (∃ c : Instr, ∃ slot : BitVec 4, ∃ s : State, c ∈ [Instr.loadOik slot, Instr.loadDbg, Instr.loadImg] ∧
        s.dev.on = true ∧ s.dev.secBusyNow = false ∧ (s.dev.lcState ≠ 2 ∨ s.dev.gf F.SEC_DBG_LEVEL ≠ 3)) ∧
    (∃ slot : Fin 4, ∃ s : State, s.dev.on = true ∧ s.dev.secBusyNow = false ∧ s.dev.mayLoadKeys = true ∧
        s.dev.vppGood = true ∧ s.dev.sectorBase.length = 8704 ∧ (bitOf (s.dev.gf F.SEC_KEYS_OIK) slot.val = true ∨
        bitOf (s.dev.gf F.SEC_KEYS_REVOKED) slot.val = true)) ∧
    (∃ slot : Fin 4, ∃ s : State, s.dev.on = true ∧ s.dev.secBusyNow = false ∧ s.dev.mayLoadKeys = true ∧
        s.dev.vppGood = true ∧ s.dev.sectorBase.length = 8704 ∧ bitOf (s.dev.gf F.SEC_KEYS_OIK) slot.val = false ∧
        bitOf (s.dev.gf F.SEC_KEYS_REVOKED) slot.val = false) ∧
    (∃ s : State, s.dev.on = true ∧ s.dev.secBusyNow = false ∧ s.dev.mayLoadKeys = true ∧ s.dev.vppGood = true ∧
        s.dev.sectorBase.length = 8704 ∧ s.dev.gb F.SEC_KEYS_DBG = false) ∧
    (∃ s : State, s.dev.on = true ∧ s.dev.secBusyNow = false ∧ s.dev.mayLoadKeys = true ∧ s.dev.vppGood = true ∧
        s.dev.sectorBase.length = 8704 ∧ s.dev.gb F.SEC_KEYS_IMG = false) ∧
    (∃ u : SecUpd, ∃ s : State, s.dev.sec.upd = some u ∧ s.dev.sec.resetHeld = false ∧ s.dev.gb
        F.SEC_KEYS_ERASE_PENDING = false) :=
  ⟨⟨(.loadOik 3), 3, (sb State.reset 2 2 []), by decide +kernel⟩,
   ⟨1, (sb State.reset 2 3 []), by decide +kernel⟩,
   ⟨3, (sb State.reset 2 3 []), by decide +kernel⟩,
   ⟨(sb State.reset 2 3 [(F.SEC_KEYS_DBG, 0, 0, 0)]), by decide +kernel⟩,
   ⟨(sb State.reset 2 3 [(F.SEC_KEYS_IMG, 0, 0, 0)]), by decide +kernel⟩,
   ⟨{cmd := 1, bytes := (List.range 0x2200).map (fun i => BitVec.ofNat 8 (i*i+3))}, (sb State.reset 2 3
        [(F.SEC_KEYS_COPY, 0, 0, 1)] mRun (fun x =>
        {x with upd := some {cmd := 1, bytes := (List.range 0x2200).map (fun i => BitVec.ofNat 8 (i*i+3))}})),
        by decide +kernel⟩⟩

/-- Operands and states that meet the hypotheses of every clause of `KeyLoadsAndOwnerCommands`, part 2. -/
theorem witness_KeyLoadsAndOwnerCommands_2 :
    (∃ s : State, s.dev.on = true ∧ s.dev.secBusyNow = false ∧ s.dev.lcState ≠ 2 ∧ s.dev.lcState ≠ 4) ∧
    (∃ s : State, s.dev.on = true ∧ s.dev.secBusyNow = false ∧ (s.dev.lcState = 2 ∨ s.dev.lcState = 4) ∧ (3 <
        field4 s.dev.secBuf 12 ∨ s.dev.oikUsable (field4 s.dev.secBuf 12) = false ∨ Config.ecdsaOk (s.dev.oikPub
        (field4 s.dev.secBuf 12)) (sha256 (List.take 192 s.dev.secBuf)) (slice s.dev.secBuf 192 64) = false)) ∧
    (((∀ k m g, Config.ecdsaOk k m g = true) ∧ ∀ l, Config.sha256 l = 0) → ∃ s : State, s.dev.on = true ∧
        s.dev.secBusyNow = false ∧ (s.dev.lcState = 2 ∨ s.dev.lcState = 4) ∧ field4 s.dev.secBuf 12 ≤ 3 ∧
        s.dev.oikUsable (field4 s.dev.secBuf 12) = true ∧ Config.ecdsaOk (s.dev.oikPub (field4 s.dev.secBuf 12))
        (sha256 (List.take 192 s.dev.secBuf)) (slice s.dev.secBuf 192 64) = true ∧ s.dev.gb F.SEC_KEYS_IDK = true
        ∧ slice s.dev.secBuf 16 32 = sha256 (slice s.dev.sectorBase 64 64) ∧ field4 s.dev.sectorBase 16 < field4
        s.dev.secBuf 8 ∧ s.dev.sectorBase.length = 8704 ∧ s.dev.vppGood = true ∧ field4 s.dev.secBuf 0 = 1 ∧
        field4 s.dev.secBuf 4 ≤ 3 ∧ (∃ k < 4, k ≠ field4 s.dev.secBuf 4 ∧ bitOf (field4 s.dev.sectorBase 12) k =
        true ∧ bitOf (field4 s.dev.sectorBase 12) (4 + k) = false)) ∧
    (∃ s : State, s.dev.on = true ∧ s.dev.secBusyNow = false ∧ s.dev.mayLoadKeys = true ∧ s.dev.vppGood = true ∧
        s.dev.sectorBase.length = 8704 ∧ s.dev.gb F.SEC_KEYS_DBG = true) ∧
    (∃ s : State, s.dev.on = true ∧ s.dev.secBusyNow = false ∧ s.dev.mayLoadKeys = true ∧ s.dev.vppGood = true ∧
        s.dev.sectorBase.length = 8704 ∧ s.dev.gb F.SEC_KEYS_IMG = true) ∧
    (∃ c : Instr, ∃ slot : BitVec 4, ∃ s : State, s.dev.on = true ∧ s.dev.secBusyNow = true ∧ c ∈ [Instr.loadOik
        slot, Instr.loadDbg, Instr.loadImg, Instr.owner]) :=
  ⟨⟨(sb State.reset 8 0 []), by decide +kernel⟩,
   ⟨(putb (own2 State.reset) (leBytes 4 1 ++ leBytes 4 2 ++ leBytes 4 6 ++ leBytes 4 4)), by decide +kernel⟩,
   fun h => ⟨(putb (own3 State.reset 2) (leBytes 4 1 ++ leBytes 4 2 ++ leBytes 4 6 ++ leBytes 4 1 ++ zeros 32
        ++ zeros 32 ++ zeros 208)), by decide +kernel, by decide +kernel, by decide +kernel, by decide +kernel,
        by decide +kernel, h.1 _ _ _, by decide +kernel, (by decide +kernel : _ = beBytes 32 0).trans
        (by rw [sha256, h.2]; rfl), by decide +kernel⟩,
   ⟨(sb State.reset 2 3 [(F.SEC_KEYS_DBG, 0, 0, 1)]), by decide +kernel⟩,
   ⟨(sb State.reset 2 3 [(F.SEC_KEYS_IMG, 0, 0, 1)]), by decide +kernel⟩,
   ⟨(.loadOik 5), 5, (sb State.reset 2 3 [(F.SEC_CMD_STAT_BUSY, 0, 0, 1)]), by decide +kernel⟩⟩

/-- Operands and states that meet the hypotheses of every clause of `KeyLoadsAndOwnerCommands`, part 3. -/
theorem witness_KeyLoadsAndOwnerCommands_3 :
    (∃ slot : BitVec 4, ∃ s : State, s.dev.on = true ∧ s.dev.secBusyNow = false ∧ s.dev.mayLoadKeys = true ∧ 3 <
        slot.toNat) ∧
    (∃ slot : Fin 4, ∃ c : Instr, ∃ s : State, s.dev.on = true ∧ s.dev.secBusyNow = false ∧ s.dev.mayLoadKeys =
        true ∧ s.dev.vppGood = false ∧ (c = Instr.loadOik (BitVec.ofNat 4 slot.val) ∧ bitOf (s.dev.gf
        F.SEC_KEYS_OIK) slot.val = false ∧ bitOf (s.dev.gf F.SEC_KEYS_REVOKED) slot.val = false ∨ c =
        Instr.loadDbg ∧ s.dev.gb F.SEC_KEYS_DBG = false ∨ c = Instr.loadImg ∧ s.dev.gb F.SEC_KEYS_IMG = false)) ∧
    ((∀ k m g, Config.ecdsaOk k m g = true) → ∃ s : State, s.dev.on = true ∧ s.dev.secBusyNow = false ∧
        (s.dev.lcState = 2 ∨ s.dev.lcState = 4) ∧ field4 s.dev.secBuf 12 ≤ 3 ∧ s.dev.oikUsable (field4
        s.dev.secBuf 12) = true ∧ Config.ecdsaOk (s.dev.oikPub (field4 s.dev.secBuf 12)) (sha256 (List.take 192
        s.dev.secBuf)) (slice s.dev.secBuf 192 64) = true ∧ (s.dev.gb F.SEC_KEYS_IDK = false ∨ slice s.dev.secBuf
        16 32 ≠ sha256 (slice s.dev.sectorBase 64 64) ∨ field4 s.dev.secBuf 8 ≤ field4 s.dev.sectorBase 16 ∨
        ownerChange s.dev.sectorBase s.dev.secBuf = none)) ∧
    (((∀ k m g, Config.ecdsaOk k m g = true) ∧ ∀ l, Config.sha256 l = 0) → ∃ s : State, s.dev.on = true ∧
        s.dev.secBusyNow = false ∧ (s.dev.lcState = 2 ∨ s.dev.lcState = 4) ∧ field4 s.dev.secBuf 12 ≤ 3 ∧
        s.dev.oikUsable (field4 s.dev.secBuf 12) = true ∧ Config.ecdsaOk (s.dev.oikPub (field4 s.dev.secBuf 12))
        (sha256 (List.take 192 s.dev.secBuf)) (slice s.dev.secBuf 192 64) = true ∧ s.dev.gb F.SEC_KEYS_IDK = true
        ∧ slice s.dev.secBuf 16 32 = sha256 (slice s.dev.sectorBase 64 64) ∧ field4 s.dev.sectorBase 16 < field4
        s.dev.secBuf 8 ∧ s.dev.sectorBase.length = 8704 ∧ s.dev.vppGood = true ∧ field4 s.dev.secBuf 0 = 2 ∧
        field4 s.dev.sectorBase 20 < 240 ∧ slice s.dev.secBuf 48 32 ∉ indexRoots s.dev.sectorBase) ∧
    (((∀ k m g, Config.ecdsaOk k m g = true) ∧ ∀ l, Config.sha256 l = 0) → ∃ s : State, s.dev.on = true ∧
        s.dev.secBusyNow = false ∧ (s.dev.lcState = 2 ∨ s.dev.lcState = 4) ∧ field4 s.dev.secBuf 12 ≤ 3 ∧
        s.dev.oikUsable (field4 s.dev.secBuf 12) = true ∧ Config.ecdsaOk (s.dev.oikPub (field4 s.dev.secBuf 12))
        (sha256 (List.take 192 s.dev.secBuf)) (slice s.dev.secBuf 192 64) = true ∧ s.dev.gb F.SEC_KEYS_IDK = true
        ∧ slice s.dev.secBuf 16 32 = sha256 (slice s.dev.sectorBase 64 64) ∧ field4 s.dev.sectorBase 16 < field4
        s.dev.secBuf 8 ∧ s.dev.sectorBase.length = 8704 ∧ s.dev.vppGood = true ∧ field4 s.dev.secBuf 0 = 3 ∧ slice
        s.dev.secBuf 48 32 ∈ indexRoots s.dev.sectorBase ∧ field4 s.dev.sectorBase 20 ≤ 240) ∧
    (((∀ k m g, Config.ecdsaOk k m g = true) ∧ ∀ l, Config.sha256 l = 0) → ∃ s : State, s.dev.on = true ∧
        s.dev.secBusyNow = false ∧ (s.dev.lcState = 2 ∨ s.dev.lcState = 4) ∧ field4 s.dev.secBuf 12 ≤ 3 ∧
        s.dev.oikUsable (field4 s.dev.secBuf 12) = true ∧ Config.ecdsaOk (s.dev.oikPub (field4 s.dev.secBuf 12))
        (sha256 (List.take 192 s.dev.secBuf)) (slice s.dev.secBuf 192 64) = true ∧ s.dev.gb F.SEC_KEYS_IDK = true
        ∧ slice s.dev.secBuf 16 32 = sha256 (slice s.dev.sectorBase 64 64) ∧ field4 s.dev.sectorBase 16 < field4
        s.dev.secBuf 8 ∧ s.dev.sectorBase.length = 8704 ∧ s.dev.vppGood = true ∧ field4 s.dev.secBuf 0 = 4) :=
  ⟨⟨4, (sb State.reset 2 3 []), by decide +kernel⟩,
   ⟨3, (.loadOik 3), (sb State.reset 2 3 [(F.GBL_RAIL_STAT_GOOD, 0, 0, 1)]), by decide +kernel⟩,
   fun h => ⟨(putb (own3 State.reset 2) (leBytes 4 1 ++ leBytes 4 2 ++ leBytes 4 5 ++ leBytes 4 1)),
        by decide +kernel, by decide +kernel, by decide +kernel, by decide +kernel, by decide +kernel, h _ _ _,
        .inr (.inr (.inl (by decide +kernel)))⟩,
   fun h => ⟨(putb (own3 State.reset 2) (leBytes 4 2 ++ leBytes 4 0 ++ leBytes 4 6 ++ leBytes 4 1 ++ zeros 32
        ++ zeros 32 ++ zeros 208)), by decide +kernel, by decide +kernel, by decide +kernel, by decide +kernel,
        by decide +kernel, h.1 _ _ _, by decide +kernel, (by decide +kernel : _ = beBytes 32 0).trans
        (by rw [sha256, h.2]; rfl), by decide +kernel⟩,
   fun h => ⟨(putb (own3 State.reset 2) (leBytes 4 3 ++ leBytes 4 0 ++ leBytes 4 6 ++ leBytes 4 1 ++ zeros 32
        ++ List.replicate 32 7 ++ zeros 208)), by decide +kernel, by decide +kernel, by decide +kernel,
        by decide +kernel, by decide +kernel, h.1 _ _ _, by decide +kernel, (by decide +kernel : _ = beBytes 32
        0).trans (by rw [sha256, h.2]; rfl), by decide +kernel⟩,
   fun h => ⟨(putb (own3 State.reset 2) (leBytes 4 4 ++ leBytes 4 0 ++ leBytes 4 6 ++ leBytes 4 1 ++ zeros 32
        ++ zeros 32 ++ zeros 208)), by decide +kernel, by decide +kernel, by decide +kernel, by decide +kernel,
        by decide +kernel, h.1 _ _ _, by decide +kernel, (by decide +kernel : _ = beBytes 32 0).trans
        (by rw [sha256, h.2]; rfl), by decide +kernel⟩⟩

/-- Operands and states that meet the hypotheses of every clause of `DebugExchange`, part 1. -/
theorem witness_DebugExchange_1 :
    (∃ level : BitVec 4, ∃ s : State, s.dev.on = true ∧ s.dev.secBusyNow = false ∧ 0 < level.toNat ∧ level.toNat
        ≤ exchangeMax s.dev.lcState ∧ (s.dev.gb F.SEC_KEYS_DBG = true ∨ s.dev.lcState = 2) ∧ s.dev.sec.entropyOk =
        true) ∧
    (∃ level : BitVec 4, ∃ s : State, s.dev.on = true ∧ s.dev.secBusyNow = false ∧ (level = 0 ∨ exchangeMax
        s.dev.lcState < level.toNat)) ∧
    (∃ s : State, s.dev.on = true ∧ s.dev.secBusyNow = false ∧ s.dev.sec.nonce = none) ∧
    (∃ s : State, ∃ n : BitVec 256, s.dev.on = true ∧ s.dev.secBusyNow = false ∧ s.dev.sec.nonce = some n ∧
        s.dev.gb F.SEC_KEYS_DBG = true) ∧
    (∃ op : BitVec 4, ∃ arg : BitVec 4, ∃ s : State, s.dev.on = true ∧ s.dev.sec.resetHeld = false ∧
        s.dev.sec.cmd = some (op, arg) ∧ op = 5) ∧
    (∃ op : BitVec 4, ∃ arg : BitVec 4, ∃ s : State, ∃ g : BitVec 2, s.dev.on = true ∧ s.dev.sec.resetHeld =
        false ∧ s.dev.sec.cmd = some (op, arg) ∧ op = 6 ∧ s.dev.sec.hold = [BitVec.setWidth 8 g] ∧ arg = 1) :=
  ⟨⟨2, (sb State.reset 4 0 [(F.SEC_KEYS_DBG, 0, 0, 1)] mRun (fun x => {x with nonce := some 7})),
        by decide +kernel⟩,
   ⟨3, (sb State.reset 4 0 [(F.SEC_KEYS_DBG, 0, 0, 1)] mRun (fun x => {x with nonce := some 7})),
        by decide +kernel⟩,
   ⟨(sb State.reset 4 0 [(F.SEC_KEYS_DBG, 0, 0, 1)]), by decide +kernel⟩,
   ⟨(sb State.reset 4 0 [(F.SEC_KEYS_DBG, 0, 0, 1), (F.SEC_DBG_PENDING, 0, 0, 2)] mRun (fun x =>
        {x with nonce := some 7})), 7, by decide +kernel⟩,
   ⟨5, 2, (sb State.reset 4 0 [(F.SEC_KEYS_DBG, 0, 0, 1), (F.SEC_DBG_PENDING, 0, 0, 2)] mRun (fun x =>
        {x with cmd := some (5, 2)})), by decide +kernel⟩,
   ⟨6, 1, (sb State.reset 4 0 [(F.SEC_KEYS_DBG, 0, 0, 1), (F.SEC_DBG_PENDING, 0, 0, 2)] mRun (fun x =>
        {x with hold := [2], cmd := some (6, 1)})), 2, by decide +kernel⟩⟩

/-- Operands and states that meet the hypotheses of every clause of `DebugExchange`, part 2. -/
theorem witness_DebugExchange_2 :
    (∃ op : BitVec 4, ∃ arg : BitVec 4, ∃ s : State, ∃ g : BitVec 2, s.dev.on = true ∧ s.dev.sec.resetHeld =
        false ∧ s.dev.sec.cmd = some (op, arg) ∧ op = 6 ∧ s.dev.sec.hold = [BitVec.setWidth 8 g] ∧ arg = 0 ∧ min
        (s.dev.gf F.SEC_DBG_FAILS + 1) (2 ^ F.SEC_DBG_FAILS.width - 1) < s.dev.gf F.SEC_DBG_LIMIT) ∧
    (∃ s : State, s.dev.on = true ∧ s.dev.secBusyNow = false) ∧
    (∃ n : BitVec 256, ∃ s : State, s.dev.on = true ∧ s.dev.sec.nonce = some n) ∧
    (∃ level : BitVec 4, ∃ s : State, s.dev.on = true ∧ s.dev.secBusyNow = false ∧ 0 < level.toNat ∧ level.toNat
        ≤ exchangeMax s.dev.lcState ∧ s.dev.gb F.SEC_KEYS_DBG = false ∧ s.dev.lcState ≠ 2) ∧
    (∃ level : BitVec 4, ∃ s : State, s.dev.on = true ∧ s.dev.secBusyNow = false ∧ 0 < level.toNat ∧ level.toNat
        ≤ exchangeMax s.dev.lcState ∧ (s.dev.gb F.SEC_KEYS_DBG = true ∨ s.dev.lcState = 2) ∧ s.dev.sec.entropyOk =
        false) ∧
    (∃ s : State, ∃ n : BitVec 256, s.dev.on = true ∧ s.dev.secBusyNow = false ∧ s.dev.sec.nonce = some n ∧
        s.dev.gb F.SEC_KEYS_DBG = false) :=
  ⟨⟨6, 0, (sb State.reset 4 0 [(F.SEC_KEYS_DBG, 0, 0, 1), (F.SEC_DBG_FAILS, 0, 0, 2), (F.SEC_DBG_LIMIT, 0, 0,
        4)] mRun (fun x => {x with hold := [2], cmd := some (6, 0)})), 2, by decide +kernel⟩,
   ⟨(sb State.reset 4 2 [(F.SEC_KEYS_DBG, 0, 0, 1)] mRun (fun x => {x with granted := 2})), by decide +kernel⟩,
   ⟨7, (sb State.reset 4 2 [(F.SEC_KEYS_DBG, 0, 0, 1)] mRun (fun x => {x with nonce := some 7})),
        by decide +kernel⟩,
   ⟨2, (sb State.reset 4 0 [(F.SEC_KEYS_DBG, 0, 0, 0)] mRun (fun x => {x with nonce := some 7})),
        by decide +kernel⟩,
   ⟨2, (sb State.reset 4 0 [(F.SEC_KEYS_DBG, 0, 0, 1)] mRun (fun x =>
        {x with entropyOk := false, nonce := some 7})), by decide +kernel⟩,
   ⟨(sb State.reset 4 0 [(F.SEC_KEYS_DBG, 0, 0, 0), (F.SEC_DBG_PENDING, 0, 0, 2)] mRun (fun x =>
        {x with nonce := some 7})), 7, by decide +kernel⟩⟩

/-- Operands and states that meet the hypotheses of every clause of `DebugExchange`, part 3. -/
theorem witness_DebugExchange_3 :
    (∃ c : Instr, ∃ level : BitVec 4, ∃ s : State, s.dev.on = true ∧ s.dev.secBusyNow = true ∧ c ∈
        [Instr.challenge level, Instr.respond, Instr.release]) ∧
    (∃ op : BitVec 4, ∃ arg : BitVec 4, ∃ s : State, ∃ g : BitVec 2, s.dev.on = true ∧ s.dev.sec.resetHeld =
        false ∧ s.dev.sec.cmd = some (op, arg) ∧ op = 6 ∧ s.dev.sec.hold = [BitVec.setWidth 8 g] ∧ arg = 0 ∧
        s.dev.mode ≠ mRamp ∧ s.dev.gf F.SEC_DBG_LIMIT ≤ min (s.dev.gf F.SEC_DBG_FAILS + 1) (2 ^
        F.SEC_DBG_FAILS.width - 1)) :=
  ⟨⟨(.challenge 2), 2, (sb State.reset 4 0 [(F.SEC_CMD_STAT_BUSY, 0, 0, 1)]), by decide +kernel⟩,
   ⟨6, 0, (sb State.reset 4 0 [(F.SEC_KEYS_DBG, 0, 0, 1), (F.SEC_DBG_FAILS, 0, 0, 3), (F.SEC_DBG_LIMIT, 0, 0,
        4), pol 4 0] mRun (fun x => {x with hold := [2], cmd := some (6, 0)})), 2, by decide +kernel⟩⟩

/-- Operands and states that meet the hypotheses of every clause of `AttestAndTamperWatch`, part 1. -/
theorem witness_AttestAndTamperWatch_1 :
    (∃ s : State, s.dev.on = true ∧ s.dev.secBusyNow = false ∧ (s.dev.lcState = 2 ∨ s.dev.lcState = 4) ∧ s.dev.gb
        F.SEC_KEYS_IDK = true ∧ s.dev.sec.entropyOk = true) ∧
    (∃ s : State, s.dev.on = true ∧ s.dev.secBusyNow = false ∧ (s.dev.lcState = 2 ∨ s.dev.lcState = 4) ∧ s.dev.gb
        F.SEC_KEYS_IDK = true ∧ s.dev.sec.entropyOk = false) ∧
    (∃ s : State, s.dev.on = true ∧ s.dev.secBusyNow = false ∧ s.dev.lcState ≠ 2 ∧ s.dev.lcState ≠ 4) ∧
    (∃ s : State, s.dev.on = true) ∧
    (∃ c : Instr, ∃ v : Nat, ∃ detail : Nat, ∃ n : Fin 106, ∃ s : State, n.val ≠ 100 ∧ n.val ≠ 103 ∧ (c, v,
        detail) ∈ [(Instr.meshCheck Mesh.open, 3, 0), (Instr.meshCheck Mesh.short, 3, 1), (Instr.clockGlitch n, 1,
        n.val)] ∧ s.dev.on = true ∧ s.dev.mode ≠ mRamp ∧ s.dev.policy v = 0) ∧
    (∃ c : Instr, ∃ v : Nat, ∃ detail : Nat, ∃ n : Fin 106, ∃ s : State, n.val ≠ 100 ∧ n.val ≠ 103 ∧ (c, v,
        detail) ∈ [(Instr.meshCheck Mesh.open, 3, 0), (Instr.meshCheck Mesh.short, 3, 1), (Instr.clockGlitch n, 1,
        n.val)] ∧ s.dev.on = true ∧ s.dev.mode ≠ mRamp ∧ s.dev.policy v = 1 ∧ s.dev.mode ≠ mAlarm ∧ s.dev.mode ≠
        mDormant) :=
  ⟨⟨(sb State.reset 4 2 []), by decide +kernel⟩,
   ⟨(sb State.reset 4 2 [] mRun (fun x => {x with entropyOk := false})), by decide +kernel⟩,
   ⟨(sb State.reset 8 2 []), by decide +kernel⟩,
   ⟨(sb State.reset 8 2 []), by decide +kernel⟩,
   ⟨(.meshCheck .open), 3, 0, 5, (sb State.reset 4 2 [pol 3 0]), by decide +kernel⟩,
   ⟨(.clockGlitch 77), 1, 77, 77, (sb State.reset 4 2 [pol 1 1, (F.SEC_VIOL_VALID, 0, 0, 0)] mQuiet),
        by decide +kernel⟩⟩

/-- Operands and states that meet the hypotheses of every clause of `AttestAndTamperWatch`, part 2. -/
theorem witness_AttestAndTamperWatch_2 :
    (∃ n : Fin 106, n.val = 100 ∨ n.val = 103) ∧
    (∃ s : State, s.dev.sec.erasing = true ∧ s.dev.sec.resetHeld = false) ∧
    (∃ s : State, s.dev.mode = mOff ∧ s.dev.pin.bat = true ∧ s.dev.gb F.SEC_TAMP_BAT_ERASE = false) ∧
    (∃ s : State, s.dev.on = true ∧ s.dev.secBusyNow = false ∧ (s.dev.lcState = 2 ∨ s.dev.lcState = 4) ∧ s.dev.gb
        F.SEC_KEYS_IDK = false) ∧
    (∃ s : State, s.dev.on = true ∧ s.dev.secBusyNow = true) ∧
    (∃ c : Instr, ∃ v : Nat, ∃ detail : Nat, ∃ n : Fin 106, ∃ s : State, n.val ≠ 100 ∧ n.val ≠ 103 ∧ (c, v,
        detail) ∈ [(Instr.meshCheck Mesh.open, 3, 0), (Instr.meshCheck Mesh.short, 3, 1), (Instr.clockGlitch n, 1,
        n.val)] ∧ s.dev.on = true ∧ s.dev.mode ≠ mRamp ∧ 2 ≤ s.dev.policy v) :=
  ⟨⟨103, by decide +kernel⟩,
   ⟨(sb State.reset 4 2 [] mAlarm (fun x => {x with erasing := true, keyIdk := some 7, sector := zeros 9})),
        by decide +kernel⟩,
   ⟨((sb State.reset 4 2 [(F.SEC_TAMP_BAT_ERASE, 0, 0, 0)] mOff).dv (fun d =>
        {d with pin := {d.pin with bat := true}})), by decide +kernel⟩,
   ⟨(sb State.reset 4 2 [(F.SEC_KEYS_IDK, 0, 0, 0)]), by decide +kernel⟩,
   ⟨(sb State.reset 4 2 [(F.SEC_CMD_STAT_BUSY, 0, 0, 1)]), by decide +kernel⟩,
   ⟨(.meshCheck .open), 3, 0, 5, (sb State.reset 4 2 [pol 3 2]), by decide +kernel⟩⟩

/-- Operands and states that meet the hypotheses of every clause of `AttestAndTamperWatch`, part 3. -/
theorem witness_AttestAndTamperWatch_3 :
    (∃ s : State, s.dev.mode = mRamp) ∧
    (∃ m : Mesh, ∃ s : State, s.dev.mode = mRamp ∧ m ≠ Mesh.good) ∧
    (∃ s : State, s.dev.sec.erasing = false) ∧
    (∃ s : State, s.dev.mode = mOff ∧ s.dev.pin.bat = true ∧ s.dev.gb F.SEC_TAMP_BAT_ERASE = true) ∧
    (∃ s : State, s.dev.on = true ∨ s.dev.pin.bat = false) :=
  ⟨⟨(sb State.reset 4 2 [] mRamp), by decide +kernel⟩,
   ⟨.short, (sb State.reset 4 2 [] mRamp), by decide +kernel⟩,
   ⟨(sb State.reset 4 2 [] mRun), by decide +kernel⟩,
   ⟨((sb State.reset 4 2 [(F.SEC_TAMP_BAT_ERASE, 0, 0, 1)] mOff).dv (fun d =>
        {d with pin := {d.pin with bat := true}})), by decide +kernel⟩,
   ⟨((sb State.reset 4 2 [(F.SEC_TAMP_BAT_ERASE, 0, 0, 1)] mRun).dv (fun d =>
        {d with pin := {d.pin with bat := true}})), by decide +kernel⟩⟩

/-- Operands and states that meet the hypotheses of every clause of `ReapplyOfSettings`, part 1. -/
theorem witness_ReapplyOfSettings_1 :
    (∃ c : Instr, ∃ x : Fin 6, ∃ s : State, [Instr.reapplyClock, Instr.reapplyIo, Instr.reapplyControl,
        Instr.reapplyDram, Instr.reapplyEngine, Instr.reapplyRoom][x]? = some c ∧ s.dev.ready = false) ∧
    (∃ c : Instr, ∃ x : Fin 6, ∃ s : State, [Instr.reapplyClock, Instr.reapplyIo, Instr.reapplyControl,
        Instr.reapplyDram, Instr.reapplyEngine, Instr.reapplyRoom][x]? = some c ∧ s.dev.ready = true ∧
        (s.dev.cfg.reapply.isSome = true ∨ s.dev.inHandshake = true)) ∧
    (∃ c : Instr, ∃ x : Fin 6, ∃ s : State, [Instr.reapplyClock, Instr.reapplyIo, Instr.reapplyControl,
        Instr.reapplyDram, Instr.reapplyEngine, Instr.reapplyRoom][x]? = some c ∧ s.dev.ready = true ∧
        s.dev.cfg.reapply = none ∧ s.dev.inHandshake = false ∧ s.dev.runningRecord = RecFind.invalid) ∧
    (∃ c : Instr, ∃ x : Fin 6, ∃ s : State, [Instr.reapplyClock, Instr.reapplyIo, Instr.reapplyControl,
        Instr.reapplyDram, Instr.reapplyEngine, Instr.reapplyRoom][x]? = some c ∧ s.dev.ready = true ∧
        s.dev.cfg.reapply = none ∧ s.dev.inHandshake = false ∧ s.dev.runningRecord.ok = false) ∧
    (∃ c : Instr, ∃ x : Fin 6, ∃ s : State, [Instr.reapplyClock, Instr.reapplyIo, Instr.reapplyControl,
        Instr.reapplyDram, Instr.reapplyEngine, Instr.reapplyRoom][x]? = some c ∧ s.dev.ready = true ∧
        s.dev.cfg.reapply = none ∧ s.dev.inHandshake = false ∧ s.dev.runningRecord.ok = true) ∧
    (∃ w : Reapply, ∃ s : State, s.dev.cfg.reapply = some w) :=
  ⟨⟨.reapplyIo, 1, (rb State.reset [] [] mAlarm), by decide +kernel⟩,
   ⟨.reapplyRoom, 5, (rpp State.reset), by decide +kernel⟩,
   ⟨.reapplyClock, 0, (rb State.reset [] [(F.CFG_STATUS_RECORD, 0, 0, 0)]), by decide +kernel⟩,
   ⟨.reapplyClock, 0, (rb State.reset [] [(F.CFG_STATUS_RECORD, 0, 0, 0)]), by decide +kernel⟩,
   ⟨.reapplyEngine, 4, (rb State.reset (sealed recHead) []), by decide +kernel, by decide +kernel,
        by decide +kernel, by decide +kernel, recHead_ok.1⟩,
   ⟨{sections := 1, skipped := 9, rest := []}, (rpp State.reset), by decide +kernel⟩⟩

/-- Operands and states that meet the hypotheses of every clause of `ReapplyOfSettings`, part 2. -/
theorem witness_ReapplyOfSettings_2 :
    ∃ w : Reapply, ∃ s : State, s.dev.cfg.reapply = some w ∧ w.rest = [] :=
  ⟨{sections := 1, skipped := 9}, (rpp State.reset), by decide +kernel⟩

/-- Operands and states that meet the hypotheses of every clause of `SpiPort`, part 1. -/
theorem witness_SpiPort_1 :
    (∃ s : State, s.dev.on = true ∧ s.dev.hat.buffer = []) ∧
    (∃ s : State, ∃ a : Word, ∃ k : RK, ∃ mask : Word, s.dev.on = true ∧ s.dev.hat.buffer = [] ∧ (a, k, mask) ∈
        [(0#32, RK.GBL_IDCODE, 4294967295#32), (136, RK.GBL_RESET, 3223322623), (65536, RK.HAT_CFG, 1), (917520,
        RK.ERR_FIRST, 3758096511)]) ∧
    (∃ s : State, s.dev.on = true ∧ s.dev.hat.buffer = [] ∧ s.dev.evOn = true) ∧
    (∃ s : State, ∃ a : Word, s.dev.on = true ∧ s.dev.hat.buffer = [] ∧ (BitVec.toNat a % 4 ≠ 0 ∨ a ∈ [4#32,
        983040, 1310720, 2359296, 1879048192, 2415919104, 4294967292])) ∧
    (∃ s : State, s.dev.on = true ∧ s.dev.hat.buffer = [] ∧ s.dev.mode = mDeep ∧ s.dev.gov.sleep = none) ∧
    (∃ s : State, ∃ a : Word, s.dev.on = true ∧ s.dev.hat.buffer = [] ∧ BitVec.toNat a % 4 ≠ 0) :=
  ⟨⟨(sp State.reset), by decide +kernel⟩,
   ⟨(sp State.reset), 0, .GBL_IDCODE, 0xFFFFFFFF, by decide +kernel⟩,
   ⟨(sp State.reset), by decide +kernel⟩,
   ⟨(sp State.reset), 0x90000001, by decide +kernel⟩,
   ⟨(sp State.reset mDeep (fun h => h)), by decide +kernel⟩,
   ⟨(sp State.reset mDeep), 0x90051, by decide +kernel⟩⟩

/-- Operands and states that meet the hypotheses of every clause of `SpiPort`, part 2. -/
theorem witness_SpiPort_2 :
    (∃ s : State, ∃ vs : List Word, ∃ ks : List Nat, s.dev.on = true ∧ s.dev.hat.buffer = [] ∧ vs.length ≤ 8 ∧
        ks.length = vs.length + 1 ∧ (ks.all fun x => x == 0) = true) ∧
    (∃ s : State, ∃ vs : List Word, ∃ ks : List Nat, s.dev.on = true ∧ s.dev.hat.buffer = [] ∧ 8 < vs.length ∧
        ks.length = vs.length + 1 ∧ (ks.all fun x => x == 0) = true) ∧
    (∃ s : State, ∃ code : BitVec 8, s.dev.on = true ∧ s.dev.hat.buffer = [] ∧ (code.toNat < 161 ∨ 165 <
        code.toNat)) ∧
    (∃ s : State, s.dev.on = true) :=
  ⟨⟨(sp State.reset), [5, 6, 7], [0, 0, 0, 0], by decide +kernel⟩,
   ⟨(sp State.reset), [1, 2, 3, 4, 5, 6, 7, 8, 9], (List.replicate 10 0), by decide +kernel⟩,
   ⟨(sp State.reset), 0xA0, by decide +kernel⟩,
   ⟨(sp State.reset mRun (fun h =>
        { h with buffer := [{ addr := 4, val := 5, last := true }], writeStatus := 4 })), by decide +kernel⟩⟩

/-- Operands and states that meet the hypotheses of every clause of `ReadbackAndTap`, part 1. -/
theorem witness_ReadbackAndTap_1 :
    (∃ c : Instr, ∃ code : BitVec 8, ∃ sel : BitVec 8, ∃ level : Nat, ∃ s : State, s.dev.on = true ∧ ((c, code,
        sel, level) ∈ [(Instr.tapExtest, 0#8, 0#8, 2), (Instr.tapIdcode, 1, 1, 0), (Instr.tapSamplePreload, 2, 2,
        1), (Instr.tapHatch, 32, 32, 0)] ∨ c = Instr.tapBypass code ∧ code ∉ [0#8, 1, 2, 32] ∧ sel = 255 ∧ level =
        0) ∧ level ≤ s.dev.gf F.SEC_DBG_LEVEL) ∧
    (∃ c : Instr, ∃ code : BitVec 8, ∃ sel : BitVec 8, ∃ level : Nat, ∃ s : State, s.dev.on = true ∧ ((c, code,
        sel, level) ∈ [(Instr.tapExtest, 0#8, 0#8, 2), (Instr.tapIdcode, 1, 1, 0), (Instr.tapSamplePreload, 2, 2,
        1), (Instr.tapHatch, 32, 32, 0)] ∨ c = Instr.tapBypass code ∧ code ∉ [0#8, 1, 2, 32] ∧ sel = 255 ∧ level =
        0) ∧ s.dev.gf F.SEC_DBG_LEVEL < level) ∧
    (∃ s : State, s.dev.on = true ∧ s.dev.hat.buffer = [] ∧ s.dev.hat.drSel ≠ 32) ∧
    (∃ a : Word, ∃ cmd : BitVec 8, ∃ s : State, s.dev.on = true ∧ s.dev.hat.buffer = [] ∧ s.dev.hat.drSel = 32 ∧
        cmd = 161 ∧ a = 0) ∧
    (∃ a : Word, ∃ cmd : BitVec 8, ∃ s : State, s.dev.on = true ∧ s.dev.hat.buffer = [] ∧ s.dev.hat.drSel = 32 ∧
        cmd = 161 ∧ BitVec.toNat a % 4 ≠ 0) ∧
    (∃ a : Word, ∃ cmd : BitVec 8, ∃ s : State, s.dev.on = true ∧ s.dev.hat.buffer = [] ∧ s.dev.hat.drSel = 32 ∧
        cmd = 162 ∧ a = 589904 ∧ s.dev.evOn = true) :=
  ⟨⟨.tapExtest, 0, 0, 2, (rb State.reset [] [(F.SEC_DBG_LEVEL, 0, 0, 2)]), by decide +kernel⟩,
   ⟨.tapExtest, 0, 0, 2, (rb State.reset [] [(F.SEC_DBG_LEVEL, 0, 0, 1)]), by decide +kernel⟩,
   ⟨((rb State.reset [] []).dv (fun d => {d with hat := {d.hat with buffer := [], drSel := 1}})),
        by decide +kernel⟩,
   ⟨0, 0xA1, (tap State.reset), by decide +kernel⟩,
   ⟨3, 0xA1, (tap State.reset), by decide +kernel⟩,
   ⟨0x90050, 0xA2, (tap State.reset), by decide +kernel⟩⟩

/-- Operands and states that meet the hypotheses of every clause of `ReadbackAndTap`, part 2. -/
theorem witness_ReadbackAndTap_2 :
    (∃ cmd : BitVec 8, ∃ s : State, s.dev.on = true ∧ s.dev.hat.buffer = [] ∧ s.dev.hat.drSel = 32 ∧ cmd = 165) ∧
    (∃ cmd : BitVec 8, ∃ s : State, s.dev.on = true ∧ s.dev.hat.buffer = [] ∧ s.dev.hat.drSel = 32 ∧ cmd ≠ 161 ∧
        cmd ≠ 162 ∧ cmd ≠ 165) ∧
    (∃ s : State, s.dev.on = true ∧ s.dev.gf F.SEC_DBG_LEVEL = 0) ∧
    (∃ kind : Fin 4, ∃ index : Fin 4096, ∃ s : State, s.dev.on = true ∧ 0 < s.dev.gf F.SEC_DBG_LEVEL ∧ [2304,
        720, 1, 2304].getD (kind.val) 0 ≤ index.val) ∧
    (∃ kind : Fin 4, ∃ index : Fin 4096, ∃ s : State, s.dev.on = true ∧ 0 < s.dev.gf F.SEC_DBG_LEVEL ∧ index.val
        < [2304, 720, 1, 2304].getD (kind.val) 0 ∧ kind.val = 0) ∧
    (∃ n : Fin 64, ∃ kind : Fin 4, ∃ index : Fin 4096, ∃ s : State, s.dev.on = true ∧ 0 < s.dev.gf
        F.SEC_DBG_LEVEL ∧ index.val < [2304, 720, 1, 2304].getD (kind.val) 0 ∧ kind.val = 1 ∧ s.dev.parkedOrOff
        n.val = true) :=
  ⟨⟨0xA5, (tap State.reset), by decide +kernel⟩,
   ⟨0xA3, (tap State.reset), by decide +kernel⟩,
   ⟨(rdb State.reset 0 []), by decide +kernel⟩,
   ⟨0, 2304, (rdb State.reset 1 []), by decide +kernel⟩,
   ⟨0, 71, (rdb State.reset 2 []), by decide +kernel⟩,
   ⟨9, 1, 719, (rdb State.reset 2 [(F.GOV_ROOM_PSTATE, 9, 0, 2)]), by decide +kernel⟩⟩

/-- Operands and states that meet the hypotheses of every clause of `ReadbackAndTap`, part 3. -/
theorem witness_ReadbackAndTap_3 :
    (∃ n : Fin 64, ∃ kind : Fin 4, ∃ index : Fin 4096, ∃ s : State, s.dev.on = true ∧ 0 < s.dev.gf
        F.SEC_DBG_LEVEL ∧ index.val < [2304, 720, 1, 2304].getD (kind.val) 0 ∧ kind.val = 1 ∧ s.dev.parkedOrOff
        n.val = false) ∧
    (∃ kind : Fin 4, ∃ index : Fin 4096, ∃ s : State, s.dev.on = true ∧ 0 < s.dev.gf F.SEC_DBG_LEVEL ∧ index.val
        < [2304, 720, 1, 2304].getD (kind.val) 0 ∧ kind.val = 2) ∧
    (∃ kind : Fin 4, ∃ index : Fin 4096, ∃ s : State, s.dev.on = true ∧ 0 < s.dev.gf F.SEC_DBG_LEVEL ∧ index.val
        < [2304, 720, 1, 2304].getD (kind.val) 0 ∧ kind.val = 3) ∧
    (∃ cmd : BitVec 8, ∃ s : State, s.dev.on = true ∧ s.dev.hat.buffer = [] ∧ s.dev.hat.drSel = 32 ∧ cmd = 161) ∧
    (∃ n : Fin 64, ∃ kind : Fin 4, ∃ index : Fin 4096, ∃ s : State, s.dev.on = true ∧ 0 < s.dev.gf
        F.SEC_DBG_LEVEL ∧ index.val < [2304, 720, 1, 2304].getD (kind.val) 0 ∧ kind.val = 0 ∧ (s.dev.room
        n.val).mem = []) :=
  ⟨⟨9, 1, 719, (rdb State.reset 2 [(F.GOV_ROOM_PSTATE, 9, 0, 0)]), by decide +kernel⟩,
   ⟨2, 0, (rdb State.reset 2 [(F.GOV_ROOM_PSTATE, 9, 0, 2)]), by decide +kernel⟩,
   ⟨3, 2303, (rdb State.reset 2 [(F.GOV_ROOM_PSTATE, 9, 0, 2)]), by decide +kernel⟩,
   ⟨0xA1, (tap State.reset), by decide +kernel⟩,
   ⟨9, 0, 71, (rdb (State.reset.dv (fun d => d.onRoom 9 (fun r => { r with mem := [] }))) 2 []),
        by decide +kernel⟩⟩

/-- Operands and states that meet the hypotheses of every clause of `RegisterWritesAndBanks`, part 1. -/
theorem witness_RegisterWritesAndBanks_1 :
    (∃ s : State, s.dev.on = true ∧ s.dev.mode ≠ mDeep) ∧
    (∃ b : Fin 18, ∃ v : Word, ∃ s : State, s.dev.on = true ∧ s.dev.gf F.IOB_CFG_STD b.val ≠ bits v 28 4 ∧
        s.dev.bankHeld b.val = false) ∧
    (∃ b : Fin 18, ∃ s : State, s.dev.on = true ∧ s.dev.bankHeld b.val = true) ∧
    (∃ b : Fin 18, ∃ s : State, s.dev.on = true ∧ s.dev.gf F.IOB_CFG_STD b.val = 0) ∧
    (∃ b : Fin 18, ∃ s : State, s.dev.on = true ∧ s.dev.gf F.IOB_CFG_STD b.val ≠ 0 ∧ s.dev.gb F.IOB_STAT_MISMATCH
        b.val = false) ∧
    (∃ b : Fin 18, ∃ s : State, s.dev.on = true ∧ s.dev.gf F.IOB_CFG_STD b.val ≠ 0 ∧ s.dev.gb F.IOB_STAT_MISMATCH
        b.val = true) :=
  ⟨⟨(rb State.reset [] []), by decide +kernel⟩,
   ⟨3, 0x50000000, (allUp (rb State.reset [] [(F.IOB_CFG_STD, 3, 0, 4)])), by decide +kernel⟩,
   ⟨3, (rb State.reset [] ([(F.IOB_CFG_STD, 3, 0, 4), (F.GBL_RAIL_STAT_GOOD, 0, 0, 0xFFFFFFF)] ++ (List.range
        5).map (fun m => (F.IOB_PIN_DRIVE, 3, m, 1)))), by decide +kernel⟩,
   ⟨3, (rb State.reset [] [(F.IOB_CFG_STD, 3, 0, 0)]), by decide +kernel⟩,
   ⟨3, (rb State.reset [] [(F.IOB_CFG_STD, 3, 0, 1), (F.IOB_STAT_MISMATCH, 3, 0, 0)]), by decide +kernel⟩,
   ⟨3, (rb State.reset [] [(F.IOB_CFG_STD, 3, 0, 1), (F.IOB_STAT_MISMATCH, 3, 0, 1)]), by decide +kernel⟩⟩

/-- Operands and states that meet the hypotheses of every clause of `RegisterWritesAndBanks`, part 2. -/
theorem witness_RegisterWritesAndBanks_2 :
    (∃ b : Fin 18, ∃ s : State, s.dev.on = true ∧ s.dev.gf F.IOB_CFG_STD b.val ≠ 0) ∧
    (∃ s : State, s.dev.on = true) :=
  ⟨⟨3, (rb State.reset [] [(F.IOB_CFG_STD, 3, 0, 1), (F.IOB_STAT_MISMATCH, 3, 0, 1)]), by decide +kernel⟩,
   ⟨(rb State.reset [] []), by decide +kernel⟩⟩

/-- Operands and states that meet the hypotheses of every clause of `ErrorUnit`, part 1. -/
theorem witness_ErrorUnit_1 :
    (∃ s : State, s.dev.on = true) ∧
    (∃ sev : Severity, ∃ s : State, s.dev.on = true ∧ sev = Severity.notice ∧ s.dev.gb F.ERR_CTRL_NOTICE_Q =
        false) ∧
    (∃ sev : Severity, ∃ s : State, s.dev.on = true ∧ (sev ≠ Severity.notice ∨ s.dev.gb F.ERR_CTRL_NOTICE_Q =
        true) ∧ s.dev.gb F.ERR_FIRST_VALID = false) ∧
    (∃ sev : Severity, ∃ s : State, s.dev.on = true ∧ (sev ≠ Severity.notice ∨ s.dev.gb F.ERR_CTRL_NOTICE_Q =
        true) ∧ s.dev.gb F.ERR_FIRST_VALID = true ∧ s.dev.err.queue.length < 16) ∧
    (∃ sev : Severity, ∃ s : State, s.dev.on = true ∧ (sev ≠ Severity.notice ∨ s.dev.gb F.ERR_CTRL_NOTICE_Q =
        true) ∧ s.dev.gb F.ERR_FIRST_VALID = true ∧ 16 ≤ s.dev.err.queue.length) ∧
    (∃ sev : Severity, ∃ s : State, s.dev.on = true ∧ sev = Severity.alarm) :=
  ⟨⟨(errb State.reset 0 []), by decide +kernel⟩,
   ⟨.notice, (errb State.reset 0 [(F.ERR_CTRL_NOTICE_Q, 0, 0, 0)]), by decide +kernel⟩,
   ⟨.fault, (errb State.reset 0 [(F.ERR_FIRST_VALID, 0, 0, 0)]), by decide +kernel⟩,
   ⟨.alarm, (errb State.reset 0 [(F.ERR_FIRST_VALID, 0, 0, 1)]), by decide +kernel⟩,
   ⟨.fault, (errb State.reset 16 [(F.ERR_FIRST_VALID, 0, 0, 1)]), by decide +kernel⟩,
   ⟨.alarm, (errb State.reset 16 [(F.ERR_FIRST_VALID, 0, 0, 1), (F.ERR_ALARM_VALID, 0, 0, 1)]),
        by decide +kernel⟩⟩

/-- Operands and states that meet the hypotheses of every clause of `ErrorUnit`, part 2. -/
theorem witness_ErrorUnit_2 :
    (∃ s : State, s.dev.on = true ∧ s.dev.gb F.ERR_FIRST_VALID = false) ∧
    (∃ s : State, s.dev.on = true ∧ s.dev.gb F.ERR_FIRST_VALID = true ∧ s.dev.err.queue = []) ∧
    (∃ s : State, ∃ r : ErrRec, ∃ l : List ErrRec, s.dev.on = true ∧ s.dev.gb F.ERR_FIRST_VALID = true ∧
        s.dev.err.queue = r :: l ∧ l.length < 16) ∧
    (∃ sev : Severity, ∃ s : State, s.dev.on = true ∧ sev = Severity.notice) ∧
    (∃ sev : Severity, ∃ s : State, s.dev.on = true ∧ sev ≠ Severity.alarm) :=
  ⟨⟨(errb State.reset 16 [(F.ERR_FIRST_VALID, 0, 0, 0)]), by decide +kernel⟩,
   ⟨(errb State.reset 0 [(F.ERR_FIRST_VALID, 0, 0, 1)]), by decide +kernel⟩,
   ⟨(errb State.reset 3 [(F.ERR_FIRST_VALID, 0, 0, 1)]), {src := 5, sev := .fault, detail := 77},
        (List.replicate 2 {src := 5, sev := .fault, detail := 77}), by decide +kernel⟩,
   ⟨.notice, (errb State.reset 3 [(F.ERR_CTRL_NOTICE_Q, 0, 0, 1)]), by decide +kernel⟩,
   ⟨.notice, (errb State.reset 17 [(F.ERR_CTRL_NOTICE_Q, 0, 0, 1), (F.ERR_FIRST_VALID, 0, 0, 1)]),
        by decide +kernel⟩⟩

end Sys2Proof.Tests
end

section
/-! PROOFS. Frames of register operations: which registers a change of the device leaves alone, said with the
statements' own `Dev.keepsRegs` and `Dev.keepsKinds`, and what the error unit counts. -/

namespace Sys2Proof.Machine

/-! ### Registers outside a list -/

theorem Dev.keepsRegs_refl (d : Dev) (l : List (RK × Nat × Nat)) : d.keepsRegs d l := fun _ _ _ _ _ _ => rfl

theorem Dev.keepsRegs.trans {a b c : Dev} {l : List (RK × Nat × Nat)} (h : a.keepsRegs b l) (h' : b.keepsRegs c l) :
    a.keepsRegs c l :=
  fun k i j hi hj hl => (h' k i j hi hj hl).trans (h k i j hi hj hl)

theorem Dev.keepsRegs.mono {a b : Dev} {l l' : List (RK × Nat × Nat)} (h : a.keepsRegs b l) (hs : l ⊆ l') :
    a.keepsRegs b l' := fun k i j hi hj hl => h k i j hi hj (fun hk => hl (hs hk))

theorem Dev.keepsRegs_setReg (d : Dev) {k : RK} {i j : Nat} (v : Word) {l : List (RK × Nat × Nat)} (hl : (k, i, j) ∈ l)
    (hi : i < 65536) (hj : j < 256) : d.keepsRegs (d.setReg k i j v) l := by
  intro k' i' j' hi' hj' hl'
  refine d.reg_setReg_of_key_ne v (RK.key_ne ?_ hi hj hi' hj')
  by_contra hne
  push Not at hne
  obtain ⟨rfl, rfl, rfl⟩ := hne
  exact hl' hl

theorem Dev.keepsRegs_sf (d : Dev) {f : Fld} {i j : Nat} (v : Nat) {l : List (RK × Nat × Nat)} (hl : (f.reg, i, j) ∈ l)
    (hi : i < 65536) (hj : j < 256) : d.keepsRegs (d.sf f i j v) l := d.keepsRegs_setReg _ hl hi hj

theorem Dev.keepsRegs.sf {a b : Dev} {l : List (RK × Nat × Nat)} (h : a.keepsRegs b l) {f : Fld} {i j v : Nat}
    (hl : (f.reg, i, j) ∈ l) (hi : i < 65536) (hj : j < 256) : a.keepsRegs (b.sf f i j v) l :=
  h.trans (b.keepsRegs_sf v hl hi hj)

theorem Dev.keepsRegs.gf {d d' : Dev} {l : List (RK × Nat × Nat)} (h : d.keepsRegs d' l) {f : Fld} {i j : Nat}
    (hl : (f.reg, i, j) ∉ l) (hi : i < 65536) (hj : j < 256) : d'.gf f i j = d.gf f i j := by
  simp [Dev.gf, h _ _ _ hi hj hl]

/-! ### Kinds of register outside a list -/

theorem Dev.keepsKinds_of_regs {d d' : Dev} (h : d'.regs = d.regs) (l : List RK) : d.keepsKinds d' l :=
  fun _ _ _ _ _ _ => by simp [Dev.reg, h]

theorem Dev.keepsKinds_refl (d : Dev) (l : List RK) : d.keepsKinds d l := Dev.keepsKinds_of_regs rfl l

theorem Dev.keepsKinds.trans {a b c : Dev} {l : List RK} (h : a.keepsKinds b l) (h' : b.keepsKinds c l) :
    a.keepsKinds c l :=
  fun k i j hi hj hl => (h' k i j hi hj hl).trans (h k i j hi hj hl)

theorem Dev.keepsKinds.mono {a b : Dev} {l l' : List RK} (h : a.keepsKinds b l) (hs : l ⊆ l') : a.keepsKinds b l' :=
  fun k i j hi hj hl => h k i j hi hj (fun hk => hl (hs hk))

theorem Dev.keepsKinds_setReg (d : Dev) {k : RK} {i j : Nat} (v : Word) {l : List RK} (hl : k ∈ l)
    (hi : i < 65536) (hj : j < 256) : d.keepsKinds (d.setReg k i j v) l :=
  fun _ _ _ hi' hj' hl' => d.reg_setReg_ne v (fun he => hl' (he ▸ hl)) hi hj hi' hj'

theorem Dev.keepsKinds_sf (d : Dev) {f : Fld} {i j : Nat} (v : Nat) {l : List RK} (hl : f.reg ∈ l)
    (hi : i < 65536) (hj : j < 256) : d.keepsKinds (d.sf f i j v) l := d.keepsKinds_setReg _ hl hi hj

theorem Dev.keepsKinds.sf {a b : Dev} {l : List RK} (h : a.keepsKinds b l) {f : Fld} {i j v : Nat} (hl : f.reg ∈ l)
    (hi : i < 65536) (hj : j < 256) : a.keepsKinds (b.sf f i j v) l := h.trans (b.keepsKinds_sf v hl hi hj)

theorem Dev.keepsKinds.of_regs {a b c : Dev} {l : List RK} (h : a.keepsKinds b l) (hc : c.regs = b.regs) :
    a.keepsKinds c l := h.trans (Dev.keepsKinds_of_regs hc l)

theorem Dev.keepsKinds.gf {d d' : Dev} {l : List RK} (h : d.keepsKinds d' l) {f : Fld} {i j : Nat}
    (hl : f.reg ∉ l) (hi : i < 65536) (hj : j < 256) : d'.gf f i j = d.gf f i j := by
  simp [Dev.gf, h _ _ _ hi hj hl]

theorem Dev.keepsKinds.ite {a b c : Dev} {l : List RK} {p : Prop} [Decidable p] (h : a.keepsKinds b l)
    (h' : a.keepsKinds c l) : a.keepsKinds (if p then b else c) l := by
  split_ifs
  · exact h
  · exact h'

theorem Dev.gf_ite (p : Prop) [Decidable p] (a b : Dev) (f : Fld) (i j : Nat) :
    (if p then a else b).gf f i j = if p then a.gf f i j else b.gf f i j := apply_ite (fun d => d.gf f i j) p a b

/-- What every step of a fold keeps, the fold keeps. -/
theorem foldl_keeps {σ α β : Type} (g : σ → β) (f : σ → α → σ) (l : List α) (h : ∀ s, ∀ x ∈ l, g (f s x) = g s)
    (s : σ) : g (l.foldl f s) = g s :=
  List.foldlRecOn l f (motive := fun t => g t = g s) rfl fun t ht x hx => (h t x hx).trans ht

theorem Dev.keepsKinds_foldl {α : Type} (l : List RK) (f : Dev → α → Dev) (xs : List α)
    (h : ∀ d, ∀ x ∈ xs, Dev.keepsKinds d (f d x) l) (d : Dev) : d.keepsKinds (xs.foldl f d) l :=
  List.foldlRecOn xs f (motive := fun t => d.keepsKinds t l) (d.keepsKinds_refl l)
    fun t ht x hx => ht.trans (h t x hx)

/-! ### What the error unit counts and shows (R397) -/

@[simp] theorem Dev.gf_withErr (d : Dev) (e : ErrUnit) (f : Fld) (i j : Nat) :
    ({ d with err := e } : Dev).gf f i j = d.gf f i j := rfl

/-- Queueing a record leaves the counters and the NOTICE shown alone. -/
theorem Dev.enqueueErr_keeps (d : Dev) (r : ErrRec) {src : Nat} (hs : src < 65536) :
    (d.enqueueErr r).gf F.ERR_CNT_COUNT src = d.gf F.ERR_CNT_COUNT src ∧
      (d.enqueueErr r).err.notice = d.err.notice := by
  unfold Dev.enqueueErr
  split_ifs
  · unfold Dev.putFirst
    rw [Dev.err_sf, Dev.gf_sf_reg _ _ (by decide) (by decide) (by decide) hs (by decide)]
    iterate 4 rw [Dev.err_setReg, Dev.gf_setReg_ne _ _ (by decide) (by decide) (by decide) hs (by decide)]
    exact ⟨rfl, rfl⟩
  · dsimp only
    rw [Dev.err_sf, Dev.gf_sf_reg _ _ (by decide) (by decide) (by decide) hs (by decide), Dev.gf_withErr]
    exact ⟨rfl, rfl⟩
  · unfold Dev.cnt
    iterate 3 rw [Dev.err_sf, Dev.gf_sf_reg _ _ (by decide) (by decide) (by decide) hs (by decide)]
    exact ⟨rfl, rfl⟩

/-- A NOTICE is shown. -/
theorem Dev.err_notice_notice (d : Dev) (src detail : Nat) : (d.notice src detail).err.notice =
    { src := BitVec.ofNat 7 src, sev := .notice, detail := BitVec.ofNat 32 detail, time := d.ev.time } := by
  simp only [Dev.notice, Dev.raise, Dev.arrive]
  split_ifs
  · rw [(Dev.enqueueErr_keeps _ _ (src := 0) (by decide)).2]; rfl
  · rfl

/-- A NOTICE counts for its source, and for no other. -/
theorem Dev.errCnt_notice (d : Dev) {src : Nat} (detail : Nat) {src' : Nat} (h : src < 128) (h' : src' < 128) :
    (d.notice src detail).gf F.ERR_CNT_COUNT src' = if src' = src then
      min (d.gf F.ERR_CNT_COUNT src + 1) (2 ^ F.ERR_CNT_COUNT.width - 1) else d.gf F.ERR_CNT_COUNT src' := by
  have hn : (BitVec.ofNat 7 src).toNat = src := by simpa using h
  have hc : (d.cnt F.ERR_CNT_COUNT src 0).gf F.ERR_CNT_COUNT src' = if src' = src then
      min (d.gf F.ERR_CNT_COUNT src + 1) (2 ^ F.ERR_CNT_COUNT.width - 1) else d.gf F.ERR_CNT_COUNT src' := by
    split_ifs with he
    · rw [he, Dev.gf_cnt _ _ _ _ _ (by decide)]
    · exact Dev.gf_sf_idx _ _ (.inl (Ne.symm he)) (by omega) (by decide) (by omega) (by decide)
  rw [← hc]
  simp only [Dev.notice, Dev.raise, Dev.arrive, hn]
  have hw : ∀ (e : Dev) (v : Word), (e.setReg .ERR_NOTICE 0 0 v).gf F.ERR_CNT_COUNT src' = e.gf F.ERR_CNT_COUNT src' :=
    fun e v => Dev.gf_setReg_ne e v (by decide) (by decide) (by decide) (by omega) (by decide)
  split_ifs
  · rw [(Dev.enqueueErr_keeps _ _ (by omega)).1, hw]; rfl
  · rw [hw]; rfl

/-! ### `State.act` and the counts of other sources than 0x60 -/

theorem State.errCnt_flushRx (s : State) (m side j : Nat) (hm : m < 64) (hs : side < 4) (hj : j < 4) {src : Nat}
    (h : src < 128) (h' : src ≠ 0x60) :
    (s.flushRx m side j).dev.gf F.ERR_CNT_COUNT src = s.dev.gf F.ERR_CNT_COUNT src := by
  unfold State.flushRx
  split
  · rfl
  · dsimp only
    split_ifs
    · rfl
    · have hp : rxPort side j < 256 := by unfold rxPort; omega
      rw [State.dev_onDev, Dev.noticeFree, Dev.raiseFree, ← Dev.notice, Dev.errCnt_notice _ _ (by decide) h, if_neg h']
      exact Dev.gf_sf_reg _ _ (by decide) (by omega) hp (by omega) (by decide)

theorem State.errCnt_flushRoom (s : State) (m : Nat) (hm : m < 64) {src : Nat} (h : src < 128) (h' : src ≠ 0x60) :
    (s.flushRoom m).dev.gf F.ERR_CNT_COUNT src = s.dev.gf F.ERR_CNT_COUNT src := by
  refine foldl_keeps (fun s : State => s.dev.gf F.ERR_CNT_COUNT src) _ _ (fun s p hp => ?_) s
  exact s.errCnt_flushRx m p.1 p.2 hm (txPorts_lt hp).1 (txPorts_lt hp).2 h h'

theorem State.errCnt_freshTx (s : State) (n : Nat) (hn : n < 64) {src : Nat} (h : src < 128) :
    (s.freshTx n).dev.gf F.ERR_CNT_COUNT src = s.dev.gf F.ERR_CNT_COUNT src := by
  refine foldl_keeps (fun s : State => s.dev.gf F.ERR_CNT_COUNT src) _ _ (fun s p _ => ?_) s
  have hk : RK.ROOM_NCH_STAT ≠ F.ERR_CNT_COUNT.reg := by decide
  rw [State.dev_onDev, Dev.setTxRefused, Dev.gf_sf_reg _ _ hk (by omega) (by decide) (by omega) (by decide)]
  rfl

theorem State.errCnt_syncRooms (s : State) (old : Dev) {src : Nat} (h : src < 128) (h' : src ≠ 0x60) :
    (s.syncRooms old).dev.gf F.ERR_CNT_COUNT src = s.dev.gf F.ERR_CNT_COUNT src := by
  refine foldl_keeps (fun s : State => s.dev.gf F.ERR_CNT_COUNT src) _ _ (fun s n hn => ?_) s
  have hn := roomIds_lt hn
  dsimp only
  split_ifs
  · exact s.errCnt_flushRoom n hn h h'
  · exact s.errCnt_freshTx n hn h
  · rfl

/-- `act` counts nothing beyond the change itself but words flushed from neighbour channels (source 0x60). -/
theorem State.errCnt_act (s : State) (f : Dev → Dev) {src : Nat} (h : src < 128) (h' : src ≠ 0x60) :
    (s.act f).dev.gf F.ERR_CNT_COUNT src = (f s.dev).gf F.ERR_CNT_COUNT src := by
  simpa [State.act] using (s.onDev f).errCnt_syncRooms s.dev h h'

/-! ### Claims about one command -/

/-- A meaning written with `act` that changes no room and neither GBL_MODE nor HBT_CFG does what its function says. -/
theorem does_act_of_regs {c : Instr} {s : State} {f : Dev → Dev} {d : Dev} (hx : exec c s = .next (s.act f))
    (hd : f s.dev = d) (hr : d.rooms = s.dev.rooms) (hm : d.reg .GBL_MODE 0 0 = s.dev.reg .GBL_MODE 0 0)
    (hb : d.reg .HBT_CFG 0 0 = s.dev.reg .HBT_CFG 0 0) : Does c s d :=
  does_act hx hd hr (by simp [Dev.mode, Dev.gf, hm]) (by simp [Dev.gf, hm]) (by simp [Dev.gf, hb])

/-- What a command does, it yields. -/
theorem Does.yields {c : Instr} {s : State} {d : Dev} {P : State → Prop} (h : Does c s d)
    (hp : ∀ t : State, t.dev = d → t.nch = s.nch → s.hostKept t → P t) : Yields c s P := by
  obtain ⟨t, hx, hd, hn, _, hk⟩ := h
  exact ⟨t, hx, hp t hd hn hk⟩

end Sys2Proof.Machine
end

section
/-! PROOFS. Clock islands (R61 to R64, R67, R190): what a write of CLK_ISL_n_CTRL stores, refuses, and leaves alone. -/

namespace Sys2Proof.Machine

/-! ### What follows a change of an island's settings -/

/-- Kinds of register that a change of an island's settings may change beside its control register: its status, the
scrubber of a room that comes out of reset (R151), and the status and test of a quadrant that goes OFF (R161). -/
def islandKinds : List RK :=
  [.CLK_ISL_STAT, .ROOM_SCRUB_STAT, .LAR_TEST_STAT, .LAR_TEST_CTRL, .LAR_QSTAT, .LAR_QCNT]

theorem Dev.keepsKinds_roomOut (d : Dev) {n : Nat} (hn : n < 65536) : d.keepsKinds (d.roomOut n) islandKinds := by
  unfold Dev.roomOut
  refine (((Dev.keepsKinds_of_regs ?_ _).sf ?_ hn ?_).sf ?_ hn ?_).sf ?_ hn ?_
  · cases bankOf n <;> rfl
  all_goals decide

theorem Dev.keepsKinds_firstEdge (d : Dev) {n : Nat} (hn : n < 65536) : d.keepsKinds (d.firstEdge n) islandKinds := by
  unfold Dev.firstEdge Dev.when
  split_ifs
  · exact d.keepsKinds_roomOut hn
  · exact d.keepsKinds_refl _

theorem Dev.keepsKinds_setCur (d : Dev) {n : Nat} (c : Nat) (hn : n < 65536) :
    d.keepsKinds (d.setCur n c) islandKinds := by
  have hcur := (d.keepsKinds_refl islandKinds).sf (f := F.CLK_ISL_STAT_CUR) (v := c) (by decide) hn (by decide : 0 < 256)
  unfold Dev.setCur
  dsimp only
  split_ifs
  · exact d.keepsKinds_refl _
  · exact ((hcur.sf (by decide) hn (by decide)).sf (by decide) hn (by decide)).sf (by decide) hn (by decide)
  · exact ((hcur.sf (by decide) hn (by decide)).sf (by decide) hn (by decide)).trans (Dev.keepsKinds_firstEdge _ hn)
  · exact hcur.sf (by decide) hn (by decide)

theorem Dev.keepsKinds_followMult (d : Dev) {n : Nat} (hn : n < 65536) : d.keepsKinds (d.followMult n) islandKinds := by
  unfold Dev.followMult
  dsimp only
  split_ifs
  · exact d.keepsKinds_setCur _ hn
  · exact d.keepsKinds_refl _
  · exact d.keepsKinds_setCur _ hn
  · exact d.keepsKinds_setCur _ hn

theorem Dev.keepsKinds_testIdle (d : Dev) : d.keepsKinds d.testIdle islandKinds := by
  have hbits := ((d.keepsKinds_refl islandKinds).sf (f := F.LAR_TEST_STAT_BUSY) (i := 0) (j := 0) (v := 0) (by decide)
    (by decide) (by decide)).sf (f := F.LAR_TEST_STAT_PHASE) (i := 0) (j := 0) (v := phIdle) (by decide) (by decide)
    (by decide)
  exact hbits.trans (Dev.keepsKinds_foldl _ _ _ (fun e i hi =>
    e.keepsKinds_sf _ (by decide) ((List.mem_range.1 hi).trans (by decide)) (by decide)) _)

theorem Dev.keepsKinds_testCut (d : Dev) (q : Nat) : d.keepsKinds (d.testCut q) islandKinds := by
  have hidle := d.keepsKinds_testIdle.sf (f := F.LAR_TEST_CTRL_ONE) (i := 0) (j := 0) (v := 0) (by decide) (by decide)
    (by decide)
  unfold Dev.testCut
  dsimp only
  split_ifs
  · exact d.keepsKinds_refl _
  · exact hidle
  · exact ((hidle.sf (by decide) (by decide) (by decide)).sf (by decide) (by decide) (by decide)).sf (by decide)
      (by decide) (by decide)
  · exact hidle.of_regs rfl

theorem Dev.regs_answerAll (d : Dev) (a st : Nat) : (d.answerAll a st).regs = d.regs := by
  refine foldl_keeps Dev.regs _ _ (fun d p _ => ?_) d
  unfold Dev.answerNo Dev.answerAt
  cases d.held.findIdx? _ with
  | none => rfl
  | some k => dsimp only; cases d.held[k]? <;> rfl

theorem Dev.keepsKinds_quadLeave (d : Dev) {q : Nat} (hq : q < 65536) : d.keepsKinds (d.quadLeave q) islandKinds := by
  have hoff : d.keepsKinds (d.quadOff q) islandKinds :=
    ((Dev.keepsKinds_of_regs rfl _).trans (Dev.keepsKinds_testCut (d.quadForget q) q)).sf (by decide) hq (by decide)
  unfold Dev.quadLeave
  exact ((hoff.of_regs rfl).sf (by decide) hq (by decide)).of_regs (Dev.regs_answerAll _ _ _)

/-- What follows a change of an island's settings changes no control register of an island. -/
theorem Dev.keepsKinds_islandChanged (d : Dev) {n : Nat} (m r : Nat) (hn : n < 65536) :
    d.keepsKinds (d.islandChanged n m r) islandKinds := by
  have hf := d.keepsKinds_followMult hn
  have hq := hf.trans (Dev.keepsKinds_quadLeave (d.followMult n) (q := n - 94) (by omega))
  unfold Dev.islandChanged
  dsimp only
  split_ifs
  · exact hq.of_regs rfl
  · exact hq
  · exact hf.of_regs rfl
  · exact hf

end Sys2Proof.Machine
end

section
/-! PROOFS. A write of CLK_ISL_n_CTRL field by field (R11, R61, R67, R190), and the multiplier in use (R63). -/

namespace Sys2Proof.Machine

/-! ### The fields of a write -/

/-- REF_SEL names a PLL that ramps, while MULT is not 0. -/
def Dev.islandRamp (d : Dev) (n : Nat) (v : Word) : Bool :=
  bits v 27 3 != d.gf F.CLK_ISL_CTRL_REF_SEL n && bits v 0 12 != 0 && d.gb F.PLL_RAMP_CTRL_RUN (bits v 27 3)

/-- A new MULT is refused by itself. -/
def Dev.islandBadMult (d : Dev) (n : Nat) (v : Word) : Bool :=
  bits v 0 12 != d.gf F.CLK_ISL_CTRL_MULT n && (!d.multOk n (bits v 27 3) (bits v 0 12) ||
    (bits v 0 12 = 0 && (n = 101 || n = 102 || n = 104)) ||
    (90 ≤ n && n < 94 && !d.dramMultOk n (bits v 27 3) (bits v 0 12)))

/-- A new FLOOR is refused by itself. -/
def Dev.islandBadFloor (d : Dev) (n : Nat) (v : Word) : Bool :=
  bits v 12 12 != d.gf F.CLK_ISL_CTRL_FLOOR n && !d.multOk n (bits v 27 3) (bits v 12 12)

/-- The MULT that a write asks for, or the old one where that is refused by itself. -/
def Dev.islandMult (d : Dev) (n : Nat) (v : Word) : Nat :=
  if d.islandBadMult n v then d.gf F.CLK_ISL_CTRL_MULT n else bits v 0 12

/-- The FLOOR that a write asks for, or the old one where that is refused by itself. -/
def Dev.islandFloor (d : Dev) (n : Nat) (v : Word) : Nat :=
  if d.islandBadFloor n v then d.gf F.CLK_ISL_CTRL_FLOOR n else bits v 12 12

/-- MULT would come to lie below FLOOR. -/
def Dev.islandCross (d : Dev) (n : Nat) (v : Word) : Bool :=
  d.islandMult n v < d.islandFloor n v &&
    (d.islandMult n v != d.gf F.CLK_ISL_CTRL_MULT n || d.islandFloor n v != d.gf F.CLK_ISL_CTRL_FLOOR n)

/-- The island is a bank's. -/
def isBank (n : Nat) : Bool := 64 ≤ n && n < 82

/-- A new BOND while the facing room is out of reset. -/
def Dev.islandBadBond (d : Dev) (n : Nat) (v : Word) : Bool :=
  isBank n && bits v 26 1 != d.gf F.CLK_ISL_CTRL_BOND n && !(d.room (facingRoom (n - 64))).gsr

/-- A field is refused. -/
def Dev.islandRefused (d : Dev) (n : Nat) (v : Word) : Bool :=
  d.islandBadMult n v || d.islandBadFloor n v || d.islandCross n v || d.islandBadBond n v || d.islandRamp n v

/-- The fields of CLK_ISL_n_CTRL but those kept: REF_SEL, the pair of MULT and FLOOR, and BOND, which the facing room
shows too. -/
def Dev.putIsland (d : Dev) (n : Nat) (keepRef keepPair putBond : Bool) (ref mult floor bond : Nat) : Dev :=
  let d := if keepRef then d else d.sf F.CLK_ISL_CTRL_REF_SEL n 0 ref
  let d := if keepPair then d else (d.sf F.CLK_ISL_CTRL_MULT n 0 mult).sf F.CLK_ISL_CTRL_FLOOR n 0 floor
  if putBond then (d.sf F.CLK_ISL_CTRL_BOND n 0 bond).sf F.ROOM_BANK_BONDED (facingRoom (n - 64)) 0 bond else d

/-- The control register as a write leaves it, before what follows from it. -/
def Dev.islandPut (d : Dev) (n : Nat) (v : Word) : Dev :=
  d.putIsland n (d.islandRamp n v) (d.islandCross n v) (isBank n && !d.islandBadBond n v) (bits v 27 3)
    (d.islandMult n v) (d.islandFloor n v) (bits v 26 1)

/-- A write stores the fields that are not refused; what follows from the change comes after. -/
theorem Dev.islandFields_eq (d : Dev) {n : Nat} (v : Word) (hg : hasGen n = true) :
    d.islandFields n v = ((d.islandPut n v).islandChanged n (d.gf F.CLK_ISL_CTRL_MULT n) (d.gf F.CLK_ISL_CTRL_REF_SEL n),
      d.islandRefused n v) := by
  unfold Dev.islandFields
  rw [hg]
  rfl

theorem Dev.islandWrite_eq (d : Dev) {n : Nat} (v : Word) (hg : hasGen n = true) :
    d.islandWrite n v =
      if d.islandRefused n v then (d.islandFields n v).1.notice 0x75 (islAddr n) else (d.islandFields n v).1 := by
  unfold Dev.islandWrite
  rw [hg, d.islandFields_eq v hg]
  rfl

theorem facingRoom_lt (b : Nat) : facingRoom b < 64 := by
  unfold facingRoom
  rcases lt_or_ge b facingRooms.length with h | h
  · rw [List.getD_eq_getElem _ _ h]
    exact (by decide : ∀ r ∈ facingRooms, r < 64) _ (List.getElem_mem h)
  · rw [List.getD_eq_default _ _ h]
    decide

section
variable (d : Dev) {n : Nat} (keepRef keepPair putBond : Bool) (ref mult floor bond : Nat)

theorem Dev.keepsKinds_putIsland (hn : n < 65536) :
    d.keepsKinds (d.putIsland n keepRef keepPair putBond ref mult floor bond) [.CLK_ISL_CTRL, .ROOM_BANK] := by
  have hroom := (facingRoom_lt (n - 64)).trans (by decide : 64 < 65536)
  unfold Dev.putIsland
  have href := (d.keepsKinds_refl _).ite (p := keepRef) (d.keepsKinds_sf (f := F.CLK_ISL_CTRL_REF_SEL) ref
    (by decide : RK.CLK_ISL_CTRL ∈ [.CLK_ISL_CTRL, .ROOM_BANK]) hn (by decide : 0 < 256))
  have hpair := href.ite (p := keepPair) ((href.sf (f := F.CLK_ISL_CTRL_MULT) (v := mult) (by decide) hn
    (by decide : 0 < 256)).sf (f := F.CLK_ISL_CTRL_FLOOR) (v := floor) (by decide) hn (by decide : 0 < 256))
  exact ((hpair.sf (by decide) hn (by decide)).sf (by decide) hroom (by decide)).ite hpair

/-- The fields as stored, for values within their fields. -/
theorem Dev.gf_putIsland (hn : n < 65536) (hr : ref < 8) (hm : mult < 4096) (hf : floor < 4096) (hb : bond < 2) :
    let t := d.putIsland n keepRef keepPair putBond ref mult floor bond
    t.gf F.CLK_ISL_CTRL_REF_SEL n = (if keepRef then d.gf F.CLK_ISL_CTRL_REF_SEL n else ref) ∧
    t.gf F.CLK_ISL_CTRL_MULT n = (if keepPair then d.gf F.CLK_ISL_CTRL_MULT n else mult) ∧
    t.gf F.CLK_ISL_CTRL_FLOOR n = (if keepPair then d.gf F.CLK_ISL_CTRL_FLOOR n else floor) ∧
    t.gf F.CLK_ISL_CTRL_BOND n = (if putBond then bond else d.gf F.CLK_ISL_CTRL_BOND n) := by
  have hroom := (facingRoom_lt (n - 64)).trans (by decide : 64 < 65536)
  have hbank := fun (e : Dev) (f : Fld) (hf : F.ROOM_BANK_BONDED.reg ≠ f.reg) =>
    Dev.gf_sf_reg e (g := f) bond hf hroom (by decide : 0 < 256) hn (by decide : 0 < 256)
  unfold Dev.putIsland
  simp [Dev.gf_ite, hbank, Dev.gf_sf_bits, Dev.gf_sf, Nat.mod_eq_of_lt hr, Nat.mod_eq_of_lt hm, Nat.mod_eq_of_lt hf,
    Nat.mod_eq_of_lt hb]

end

theorem Dev.islandMult_lt (d : Dev) (n : Nat) (v : Word) : d.islandMult n v < 4096 := by
  unfold Dev.islandMult
  split_ifs
  · exact d.gf_lt F.CLK_ISL_CTRL_MULT n 0
  · exact bits_lt v 0 12

theorem Dev.islandFloor_lt (d : Dev) (n : Nat) (v : Word) : d.islandFloor n v < 4096 := by
  unfold Dev.islandFloor
  split_ifs
  · exact d.gf_lt F.CLK_ISL_CTRL_FLOOR n 0
  · exact bits_lt v 12 12

/-! ### The control register after a write -/

section
variable (d : Dev) {n : Nat} (v : Word)

/-- The kinds of register that a write of an island may change, but for the NOTICE of a refusal. -/
theorem Dev.keepsKinds_islandFields (hg : hasGen n = true) (hn : n < 65536) :
    d.keepsKinds (d.islandFields n v).1 (.CLK_ISL_CTRL :: .ROOM_BANK :: islandKinds) := by
  rw [d.islandFields_eq v hg]
  have hput : d.keepsKinds (d.islandPut n v) _ := d.keepsKinds_putIsland _ _ _ _ _ _ _ hn
  exact (hput.mono (by decide)).trans ((Dev.keepsKinds_islandChanged _ _ _ hn).mono (by decide))

/-- A field of the control register reads after a write as it was stored. -/
theorem Dev.gf_islandWrite {f : Fld} (hf : f.reg = .CLK_ISL_CTRL) (hg : hasGen n = true) (hn : n < 65536) :
    (d.islandWrite n v).gf f n = (d.islandPut n v).gf f n := by
  have hfields : (d.islandFields n v).1.gf f n = (d.islandPut n v).gf f n := by
    rw [d.islandFields_eq v hg]
    exact (Dev.keepsKinds_islandChanged _ _ _ hn).gf (by rw [hf]; decide) hn (by decide)
  rw [d.islandWrite_eq v hg, Dev.gf_ite, Dev.gf_notice _ _ _ (by rw [hf]; rfl) hn (by decide), ite_self, hfields]

/-- A refused field is counted under source 0x75. -/
theorem Dev.errCnt_islandWrite (hg : hasGen n = true) (hn : n < 65536) (hr : d.islandRefused n v = true) :
    (d.islandWrite n v).gf F.ERR_CNT_COUNT 0x75 =
      min (d.gf F.ERR_CNT_COUNT 0x75 + 1) (2 ^ F.ERR_CNT_COUNT.width - 1) := by
  rw [d.islandWrite_eq v hg, if_pos hr, Dev.errCnt_notice _ _ (by decide) (by decide), if_pos rfl,
    (d.keepsKinds_islandFields v hg hn).gf (by decide) (by decide) (by decide)]

/-! ### The multiplier in use -/

theorem Dev.firstEdge_of_no_room (h : 64 ≤ n) : d.firstEdge n = d := by
  simp [Dev.firstEdge, Dev.when, Nat.not_lt.2 h]

theorem Dev.setCur_same : d.setCur n (d.gf F.CLK_ISL_STAT_CUR n) = d := by simp [Dev.setCur]

/-- A stopped clock starts, unlocked. -/
theorem Dev.setCur_start {c : Nat} (h : 64 ≤ n) (hc : c ≠ 0) (h0 : d.gf F.CLK_ISL_STAT_CUR n = 0) : d.setCur n c =
    ((d.sf F.CLK_ISL_STAT_CUR n 0 c).sf F.CLK_ISL_STAT_RUN n 0 1).sf F.CLK_ISL_STAT_LOCKED n 0 0 := by
  simp [Dev.setCur, hc, h0, Dev.firstEdge_of_no_room _ h]

/-- A running clock slews. -/
theorem Dev.setCur_slew {c : Nat} (hc : c ≠ 0) (h0 : d.gf F.CLK_ISL_STAT_CUR n ≠ 0)
    (hne : c ≠ d.gf F.CLK_ISL_STAT_CUR n) :
    d.setCur n c = (d.sf F.CLK_ISL_STAT_CUR n 0 c).sf F.CLK_ISL_STAT_SLEWING n 0 1 := by
  simp [Dev.setCur, hc, h0, hne]

/-- Islands whose generator follows MULT, with nothing else to follow from a change (R62). -/
theorem Dev.islandChanged_of_plain (m r : Nat) (h : 82 ≤ n ∧ n < 90 ∨ 98 ≤ n) :
    d.islandChanged n m r = d.setCur n (d.gf F.CLK_ISL_CTRL_MULT n) := by
  have h64 : ¬n < 64 := by omega
  have h82 : ¬n < 82 := by omega
  have hq : ¬(94 ≤ n ∧ n < 98) := by omega
  have hd : ¬(90 ≤ n ∧ n < 94) := by omega
  simp [Dev.islandChanged, Dev.followMult, h64, h82, hq, hd]

end

end Sys2Proof.Machine
end

section
/-! PROOFS. `Obligations.IslandClocks` (R11, R61 to R64, R67, R190), clause by clause. -/

namespace Sys2Proof.Machine

/-! ### A write without a refusal, of an island whose generator follows MULT -/

/-- The control register as a write leaves it that has nothing refused. -/
def Dev.islandTaken (d : Dev) (n : Nat) (v : Word) : Dev :=
  ((d.sf F.CLK_ISL_CTRL_REF_SEL n 0 (bits v 27 3)).sf F.CLK_ISL_CTRL_MULT n 0 (bits v 0 12)).sf F.CLK_ISL_CTRL_FLOOR n 0
    (bits v 12 12)

section
variable (d : Dev) {n : Nat} (v : Word)

theorem Dev.gf_islandTaken : (d.islandTaken n v).gf F.CLK_ISL_CTRL_REF_SEL n = bits v 27 3 ∧
    (d.islandTaken n v).gf F.CLK_ISL_CTRL_MULT n = bits v 0 12 ∧
    (d.islandTaken n v).gf F.CLK_ISL_CTRL_FLOOR n = bits v 12 12 := by
  simpa [Dev.islandTaken, Dev.gf_sf_bits, Dev.gf_sf] using ⟨bits_lt v 27 3, bits_lt v 0 12, bits_lt v 12 12⟩

theorem Dev.keepsRegs_islandTaken (hn : n < 65536) : d.keepsRegs (d.islandTaken n v) [(.CLK_ISL_CTRL, n, 0)] :=
  (((d.keepsRegs_refl _).sf (by simp) hn (by decide)).sf (by simp) hn (by decide)).sf (by simp) hn (by decide)

/-- With every field within its range, a write stores them all and the generator takes MULT. -/
theorem Dev.islandWrite_of_taken (hg : hasGen n = true) (hn : 82 ≤ n ∧ n < 90 ∨ 98 ≤ n)
    (hm : d.multOk n (bits v 27 3) (bits v 0 12) = true) (hf : d.multOk n (bits v 27 3) (bits v 12 12) = true)
    (hle : bits v 12 12 ≤ bits v 0 12) (hpos : 0 < bits v 0 12)
    (href : bits v 27 3 = d.gf F.CLK_ISL_CTRL_REF_SEL n ∨ d.gb F.PLL_RAMP_CTRL_RUN (bits v 27 3) = false) :
    d.islandWrite n v = (d.islandTaken n v).setCur n (bits v 0 12) := by
  have hbank : isBank n = false := by simp [isBank]; omega
  have hdram : ¬(90 ≤ n ∧ n < 94) := by omega
  have hramp : d.islandRamp n v = false := by
    rcases href with h | h <;> simp [Dev.islandRamp, h]
  have hbm : d.islandBadMult n v = false := by simp [Dev.islandBadMult, hm, hpos.ne', hdram]
  have hbf : d.islandBadFloor n v = false := by simp [Dev.islandBadFloor, hf]
  have hcross : d.islandCross n v = false := by
    simp [Dev.islandCross, Dev.islandMult, Dev.islandFloor, hbm, hbf, Nat.not_lt.2 hle]
  have hput : d.islandPut n v = d.islandTaken n v := by
    simp [Dev.islandPut, Dev.putIsland, hramp, hcross, hbank, Dev.islandMult, Dev.islandFloor, hbm, hbf, Dev.islandTaken]
  have hrefused : d.islandRefused n v = false := by
    simp [Dev.islandRefused, hbm, hbf, hcross, hramp, Dev.islandBadBond, hbank]
  rw [d.islandWrite_eq v hg, d.islandFields_eq v hg, hrefused, hput, if_neg (by decide),
    Dev.islandChanged_of_plain _ _ _ hn, (d.gf_islandTaken v).2.1]

/-- What the generator's status shows once it follows a multiplier other than 0 (R63). -/
theorem Dev.setCur_of_pos (c : Nat) (h : 64 ≤ n) (hn : n < 65536) (hc : 0 < c) (hlt : c < 4096) :
    (d.setCur n c).gf F.CLK_ISL_STAT_CUR n = c ∧
    (d.gf F.CLK_ISL_STAT_CUR n = 0 → (d.setCur n c).gf F.CLK_ISL_STAT_RUN n = 1 ∧
      (d.setCur n c).gf F.CLK_ISL_STAT_LOCKED n = 0) ∧
    (d.gf F.CLK_ISL_STAT_CUR n ≠ 0 → d.gf F.CLK_ISL_STAT_CUR n ≠ c →
      (d.setCur n c).gf F.CLK_ISL_STAT_SLEWING n = 1) ∧
    d.keepsRegs (d.setCur n c) [(.CLK_ISL_STAT, n, 0)] ∧ (d.setCur n c).rooms = d.rooms := by
  by_cases h0 : d.gf F.CLK_ISL_STAT_CUR n = 0
  · rw [d.setCur_start h hc.ne' h0]
    refine ⟨?_, fun _ => ⟨?_, ?_⟩, fun h' => absurd h0 h',
      (((d.keepsRegs_refl _).sf (by simp) hn (by decide)).sf (by simp) hn (by decide)).sf (by simp) hn (by decide), by simp⟩
    all_goals simp [Dev.gf_sf_bits, Dev.gf_sf, Nat.mod_eq_of_lt hlt]
  by_cases hs : c = d.gf F.CLK_ISL_STAT_CUR n
  · rw [hs, Dev.setCur_same]
    exact ⟨rfl, fun h' => absurd h' h0, fun _ h' => absurd rfl h', d.keepsRegs_refl _, rfl⟩
  · rw [d.setCur_slew hc.ne' h0 hs]
    refine ⟨?_, fun h' => absurd h' h0, fun _ _ => ?_,
      ((d.keepsRegs_refl _).sf (by simp) hn (by decide)).sf (by simp) hn (by decide), by simp⟩
    all_goals simp [Dev.gf_sf_bits, Dev.gf_sf, Nat.mod_eq_of_lt hlt]

end

/-- A write of an island that nothing else bounds, with every field within its range (R61, R63). -/
theorem islandClockWrite_taken (n : Fin 106) (v : Word) (s : State) (hg : hasGen n = true)
    (hn : 82 ≤ n.val ∧ n.val < 90 ∨ 98 ≤ n.val) (hm : s.dev.multOk n (bits v 27 3) (bits v 0 12) = true)
    (hf : s.dev.multOk n (bits v 27 3) (bits v 12 12) = true) (hle : bits v 12 12 ≤ bits v 0 12) (hpos : 0 < bits v 0 12)
    (href : bits v 27 3 = s.dev.gf F.CLK_ISL_CTRL_REF_SEL n ∨ s.dev.gb F.PLL_RAMP_CTRL_RUN (bits v 27 3) = false) :
    Yields (.islandClockWrite n v) s (fun t => t.dev.gf F.CLK_ISL_CTRL_REF_SEL n = bits v 27 3 ∧
      t.dev.gf F.CLK_ISL_CTRL_MULT n = bits v 0 12 ∧ t.dev.gf F.CLK_ISL_CTRL_FLOOR n = bits v 12 12 ∧
      t.dev.gf F.CLK_ISL_STAT_CUR n = bits v 0 12 ∧
      (s.dev.gf F.CLK_ISL_STAT_CUR n = 0 → t.dev.gf F.CLK_ISL_STAT_RUN n = 1 ∧ t.dev.gf F.CLK_ISL_STAT_LOCKED n = 0) ∧
      (s.dev.gf F.CLK_ISL_STAT_CUR n ≠ 0 → s.dev.gf F.CLK_ISL_STAT_CUR n ≠ bits v 0 12 →
        t.dev.gf F.CLK_ISL_STAT_SLEWING n = 1) ∧
      s.dev.keepsRegs t.dev [(.CLK_ISL_CTRL, n, 0), (.CLK_ISL_STAT, n, 0)] ∧ t.nch = s.nch ∧ s.hostKept t) := by
  have hlt : n.val < 65536 := by omega
  obtain ⟨hr, hmult, hfloor⟩ := s.dev.gf_islandTaken (n := n) v
  have htaken := s.dev.keepsRegs_islandTaken v hlt
  have hold : (s.dev.islandTaken n v).gf F.CLK_ISL_STAT_CUR n = s.dev.gf F.CLK_ISL_STAT_CUR n :=
    htaken.gf (by simp) hlt (by decide)
  obtain ⟨hcur, hstart, hslew, hkeep, hrooms⟩ :=
    (s.dev.islandTaken n v).setCur_of_pos (bits v 0 12) (by omega) hlt hpos (bits_lt _ _ _)
  rw [hold] at hstart hslew
  have hctrl : ∀ f : Fld, f.reg = .CLK_ISL_CTRL → ((s.dev.islandTaken n v).setCur n (bits v 0 12)).gf f n =
      (s.dev.islandTaken n v).gf f n := fun f h => hkeep.gf (by simp [h]) hlt (by decide)
  have hall : s.dev.keepsRegs ((s.dev.islandTaken n v).setCur n (bits v 0 12))
      [(.CLK_ISL_CTRL, n, 0), (.CLK_ISL_STAT, n, 0)] :=
    (htaken.mono (by simp)).trans (hkeep.mono (by simp))
  have hdoes : Does (.islandClockWrite n v) s ((s.dev.islandTaken n v).setCur n (bits v 0 12)) :=
    does_act_of_regs rfl (s.dev.islandWrite_of_taken v hg hn hm hf hle hpos href) (hrooms.trans (by simp [Dev.islandTaken]))
      (hall _ _ _ (by decide) (by decide) (by simp)) (hall _ _ _ (by decide) (by decide) (by simp))
  refine hdoes.yields fun t ht hnch hhb => ?_
  rw [ht]
  exact ⟨(hctrl _ rfl).trans hr, (hctrl _ rfl).trans hmult, (hctrl _ rfl).trans hfloor, hcur, hstart, hslew, hall, hnch, hhb⟩

/-! ### Any write -/

/-- What a write stores of each field, and the count of a refusal (R11, R61, R67, R190). -/
theorem islandClockWrite_fields (n : Fin 106) (v : Word) (s : State) (hg : hasGen n = true) :
    Yields (.islandClockWrite n v) s (fun t =>
      t.dev.gf F.CLK_ISL_CTRL_REF_SEL n = (if s.dev.islandRamp n v then s.dev.gf F.CLK_ISL_CTRL_REF_SEL n else bits v 27 3) ∧
      t.dev.gf F.CLK_ISL_CTRL_MULT n =
        (if s.dev.islandCross n v then s.dev.gf F.CLK_ISL_CTRL_MULT n else s.dev.islandMult n v) ∧
      t.dev.gf F.CLK_ISL_CTRL_FLOOR n =
        (if s.dev.islandCross n v then s.dev.gf F.CLK_ISL_CTRL_FLOOR n else s.dev.islandFloor n v) ∧
      t.dev.gf F.CLK_ISL_CTRL_BOND n =
        (if isBank n && !s.dev.islandBadBond n v then bits v 26 1 else s.dev.gf F.CLK_ISL_CTRL_BOND n) ∧
      (s.dev.islandRefused n v = true → t.dev.gf F.ERR_CNT_COUNT 0x75 =
        min (s.dev.gf F.ERR_CNT_COUNT 0x75 + 1) (2 ^ F.ERR_CNT_COUNT.width - 1))) := by
  have hlt : n.val < 65536 := by omega
  have hctrl : ∀ f : Fld, f.reg = .CLK_ISL_CTRL →
      (s.act fun d => d.islandWrite n v).dev.gf f n = (s.dev.islandPut n v).gf f n := fun f hf => by
    rw [State.gf_act _ _ (by rw [hf]; rfl) hlt (by decide), s.dev.gf_islandWrite v hf hg hlt]
  obtain ⟨hr, hm, hf, hb⟩ := s.dev.gf_putIsland (s.dev.islandRamp n v) (s.dev.islandCross n v)
    (isBank n && !s.dev.islandBadBond n v) _ _ _ _ hlt (bits_lt v 27 3) (s.dev.islandMult_lt n v)
    (s.dev.islandFloor_lt n v) (bits_lt v 26 1)
  refine ⟨_, rfl, (hctrl _ rfl).trans hr, (hctrl _ rfl).trans hm, (hctrl _ rfl).trans hf, (hctrl _ rfl).trans hb, ?_⟩
  intro hrefused
  rw [State.errCnt_act _ _ (by decide) (by decide), s.dev.errCnt_islandWrite v hg hlt hrefused]

/-- A write of an island without a generator is refused (R392). -/
theorem islandClockWrite_noReg (n : Fin 106) (v : Word) (s : State) (hg : hasGen n = false) :
    Does (.islandClockWrite n v) s ((s.dev.cnt F.HAT_CNT_NO_REG 0 0).notice 0x75 (0x52000 + 0x10 * n)) := by
  have hreg : ∀ k : RK, k.isErr = false → k ≠ .HAT_CNT →
      ((s.dev.cnt F.HAT_CNT_NO_REG 0 0).notice 0x75 (0x52000 + 0x10 * n)).reg k 0 0 = s.dev.reg k 0 0 := fun k hk hne => by
    rw [Dev.reg_notice _ _ _ hk (by decide) (by decide)]
    exact s.dev.reg_sf_ne _ hne.symm (by decide) (by decide) (by decide) (by decide)
  refine does_act_of_regs rfl ?_ (by simp) (hreg _ (by decide) (by decide)) (hreg _ (by decide) (by decide))
  show s.dev.islandWrite n v = _
  simp only [Dev.islandWrite, hg, Dev.noReg, islAddr, Bool.not_false, if_true]

/-! ### Slew, lock and loss of lock -/

theorem does_islandSlewDone (n : Fin 106) (s : State) : Does (.islandSlewDone n) s
    (if s.dev.gb F.CLK_ISL_STAT_SLEWING n then s.dev.sf F.CLK_ISL_STAT_SLEWING n 0 0 else s.dev) := does_onDev rfl rfl

theorem does_islandLock (n : Fin 106) (s : State) : Does (.islandLock n) s
    (if hasGen n && s.dev.gb F.CLK_ISL_STAT_RUN n && s.dev.pllFeeds (s.dev.gf F.CLK_ISL_CTRL_REF_SEL n) then
      s.dev.sf F.CLK_ISL_STAT_LOCKED n 0 1 else s.dev) := does_onDev rfl rfl

theorem does_islandLockLoss (n : Fin 106) (s : State) : Does (.islandLockLoss n) s
    (if hasGen n && s.dev.gb F.CLK_ISL_STAT_RUN n && (s.dev.gb F.CLK_ISL_STAT_LOCKED n ||
      !s.dev.pllFeeds (s.dev.gf F.CLK_ISL_CTRL_REF_SEL n)) then s.dev.islandUnlocked n else s.dev) := does_onDev rfl rfl

/-- Without a generator, or with its clock stopped, neither lock nor loss of lock happens. -/
theorem does_nothing_of_no_clock {c : Instr} {n : Fin 106} {s : State} (hc : c ∈ [.islandLock n, .islandLockLoss n])
    (h : hasGen n = false ∨ s.dev.gb F.CLK_ISL_STAT_RUN n = false) : Does c s s.dev := by
  have hno : (hasGen n && s.dev.gb F.CLK_ISL_STAT_RUN n) = false := by
    rcases h with h | h <;> simp [h]
  obtain rfl | rfl : c = .islandLock n ∨ c = .islandLockLoss n := by simpa using hc
  · simpa [hno] using does_islandLock n s
  · simpa [hno] using does_islandLockLoss n s

/-! ### The obligation -/

/-- Settles O49: a write stores the fields that are not refused (`Dev.islandFields_eq`), and what follows from the
change leaves the control register alone (`Dev.keepsKinds_islandChanged`). -/
theorem islandClocks : Obligations.IslandClocks := by
  unfold Obligations.IslandClocks
  refine ⟨fun n v s hg hn hm hf hle hpos href => islandClockWrite_taken n v s hg hn hm hf hle hpos href, ?_,
    islandClockWrite_noReg, ?_, ?_, ?_⟩
  · intro n v s hg ref mult floor bond old ramp badMult badFloor m f cross bank badBond
    have hramp : s.dev.islandRamp n v = true ↔ ramp := by
      simp [Dev.islandRamp, ramp, ref, mult, old, and_assoc]
    have hbadMult : s.dev.islandBadMult n v = true ↔ badMult := by
      simp [Dev.islandBadMult, badMult, ref, mult, old, Fin.ext_iff, or_assoc, and_assoc]
    have hbadFloor : s.dev.islandBadFloor n v = true ↔ badFloor := by
      simp [Dev.islandBadFloor, badFloor, ref, floor, old]
    have hm : s.dev.islandMult n v = m := by simp only [Dev.islandMult, hbadMult]; rfl
    have hf : s.dev.islandFloor n v = f := by simp only [Dev.islandFloor, hbadFloor]; rfl
    have hcross : s.dev.islandCross n v = true ↔ cross := by
      simp [Dev.islandCross, hm, hf, cross, old]
    have hbank : isBank n = true ↔ bank := by simp [isBank, bank]
    have hbadBond : s.dev.islandBadBond n v = true ↔ badBond := by
      simp only [Dev.islandBadBond, badBond, bond, old, ← hbank]
      simp [and_assoc]
    have hrefused : s.dev.islandRefused n v = true ↔ ramp ∨ badMult ∨ badFloor ∨ cross ∨ badBond := by
      rw [Dev.islandRefused, Bool.or_eq_true, or_comm]
      simp only [Bool.or_eq_true, hramp, hbadMult, hbadFloor, hcross, hbadBond, or_assoc]
    have hput : (isBank n && !s.dev.islandBadBond n v) = true ↔ bank ∧ ¬badBond := by
      rw [Bool.and_eq_true, hbank, Bool.not_eq_true', ← Bool.not_eq_true, hbadBond]
    obtain ⟨t, hx, h1, h2, h3, h4, h5⟩ := islandClockWrite_fields n v s hg
    refine ⟨t, hx, ?_, ?_, ?_, ?_, ?_⟩
    · exact h1.trans (if_congr hramp rfl rfl)
    · exact h2.trans (if_congr hcross rfl hm)
    · exact h3.trans (if_congr hcross rfl hf)
    · exact h4.trans (if_congr hput rfl rfl)
    · exact fun h => h5 (hrefused.2 h)
  · intro n s h
    simpa [h] using does_islandSlewDone n s
  · rintro c n s (⟨rfl, h⟩ | ⟨hc, h⟩)
    · simpa [h] using does_islandSlewDone n s
    · exact does_nothing_of_no_clock hc h
  · intro n s hg hr
    refine ⟨fun h => ?_, fun h => ?_⟩
    · simpa [hg, hr, h] using does_islandLock n s
    · simpa [hg, hr, h, Dev.islandUnlocked] using does_islandLockLoss n s

end Sys2Proof.Machine
end

section
/-! PROOFS. Register writes (R8 to R11): one field of a write, the NOTICE of a refusal, the end of a Hatch access, and
the goodness of a rail. -/

namespace Sys2Proof.Machine

/-! ### One field of a write (R11) -/

section
variable (r : Dev × Bool) {i j : Nat} {f : Fld} (v : Word) (bad : Nat → Bool)

/-- A field takes the value written, or keeps its own where that is refused. -/
theorem Dev.gf_fld (h : f.lo + f.width ≤ 32) : (Dev.fld r i j f v bad).1.gf f i j =
    if bad (bits v f.lo f.width) then r.1.gf f i j else bits v f.lo f.width := by
  unfold Dev.fld
  dsimp only
  split_ifs with hsame hbad hbad
  · rfl
  · exact hsame.symm
  · rfl
  · rw [Dev.gf_sf _ _ _ _ _ h, Nat.mod_eq_of_lt (bits_lt _ _ _)]

/-- A field is refused where its value is, if the write would change it. -/
theorem Dev.refused_fld : (Dev.fld r i j f v bad).2 =
    (r.2 || bits v f.lo f.width != r.1.gf f i j && bad (bits v f.lo f.width)) := by
  unfold Dev.fld
  dsimp only
  split_ifs <;> simp_all

/-- The write of a field leaves the other fields of its register alone. -/
theorem Dev.gf_fld_bits {g : Fld} (hr : f.reg = g.reg) (h : f.lo + f.width ≤ g.lo ∨ g.lo + g.width ≤ f.lo) :
    (Dev.fld r i j f v bad).1.gf g i j = r.1.gf g i j := by
  unfold Dev.fld
  dsimp only
  split_ifs
  · rfl
  · rfl
  · exact Dev.gf_sf_bits _ _ hr h

theorem Dev.keepsRegs_fld (hi : i < 65536) (hj : j < 256) :
    r.1.keepsRegs (Dev.fld r i j f v bad).1 [(f.reg, i, j)] := by
  unfold Dev.fld
  dsimp only
  split_ifs
  · exact r.1.keepsRegs_refl _
  · exact r.1.keepsRegs_refl _
  · exact r.1.keepsRegs_sf _ (by simp) hi hj

theorem Dev.keepsRegs.fld {a : Dev} {l : List (RK × Nat × Nat)} {r : Dev × Bool} (h : a.keepsRegs r.1 l) {i j : Nat}
    {f : Fld} {v : Word} {bad : Nat → Bool} (hl : (f.reg, i, j) ∈ l) (hi : i < 65536) (hj : j < 256) :
    a.keepsRegs (Dev.fld r i j f v bad).1 l :=
  h.trans ((Dev.keepsRegs_fld r v bad hi hj).mono (by simpa using hl))

@[simp] theorem Dev.rooms_fld : (Dev.fld r i j f v bad).1.rooms = r.1.rooms := by
  unfold Dev.fld; dsimp only; split_ifs <;> rfl
@[simp] theorem Dev.ev_fld : (Dev.fld r i j f v bad).1.ev = r.1.ev := by
  unfold Dev.fld; dsimp only; split_ifs <;> rfl

end

/-! ### The NOTICE of a refusal -/

section
variable (r : Dev × Bool) (src a : Nat)

@[simp] theorem Dev.rooms_refuseIf : (Dev.refuseIf r src a).rooms = r.1.rooms := by
  unfold Dev.refuseIf; split_ifs <;> simp

theorem Dev.reg_refuseIf {k : RK} {i j : Nat} (hk : k.isErr = false) (hi : i < 65536) (hj : j < 256) :
    (Dev.refuseIf r src a).reg k i j = r.1.reg k i j := by
  unfold Dev.refuseIf
  split_ifs
  · exact Dev.reg_notice _ _ _ hk hi hj
  · rfl

theorem Dev.gf_refuseIf {f : Fld} {i j : Nat} (hf : f.reg.isErr = false) (hi : i < 65536) (hj : j < 256) :
    (Dev.refuseIf r src a).gf f i j = r.1.gf f i j := by
  simp [Dev.gf, Dev.reg_refuseIf r src a hf hi hj]

end

/-! ### The end of a Hatch access (R401) -/

section
variable (d : Dev) (status : Nat) (w : Word)

theorem Dev.gf_last_hatDone : (d.hatDone status w).gf F.HAT_STAT_LAST = status % 256 := Dev.gf_sf _ _ _ _ _ (by decide)

/-- An access that does not end with BUSY changes HAT_STAT alone. -/
theorem Dev.keepsRegs_hatDone (h : status ≠ hBusy) : d.keepsRegs (d.hatDone status w) [(.HAT_STAT, 0, 0)] := by
  have hd : d.hatDone status w =
      { d.sf F.HAT_STAT_LAST 0 0 status with hat := { d.hat with out := [(status, w)] } } := by
    simp [Dev.hatDone, Dev.when, h]
  rw [hd]
  exact d.keepsRegs_sf (f := F.HAT_STAT_LAST) status (by simp) (by decide) (by decide)

@[simp] theorem Dev.rooms_hatDone : (d.hatDone status w).rooms = d.rooms := by
  unfold Dev.hatDone Dev.when; dsimp only; split_ifs <;> rfl
@[simp] theorem Dev.ev_hatDone : (d.hatDone status w).ev = d.ev := by
  unfold Dev.hatDone Dev.when; dsimp only; split_ifs <;> rfl
@[simp] theorem Dev.err_hatDone : (d.hatDone status w).err = d.err := by
  unfold Dev.hatDone Dev.when; dsimp only; split_ifs <;> rfl

end

/-! ### Rails (R370) -/

/-- Taking away a bit that is set clears that bit and no other. -/
theorem testBit_sub_two_pow {g r : Nat} (h : g.testBit r = true) (j : Nat) :
    (g - 2 ^ r).testBit j = (g.testBit j && j != r) := by
  obtain ⟨k, l, hl, rfl⟩ : ∃ k l, l < 2 ^ r ∧ g = 2 ^ (r + 1) * k + (2 ^ r + l) := by
    refine ⟨g / 2 ^ (r + 1), g % 2 ^ r, Nat.mod_lt _ (Nat.two_pow_pos r), ?_⟩
    have hodd : g / 2 ^ r % 2 = 1 := by simpa [Nat.testBit_eq_decide_div_mod_eq] using h
    have hg := Nat.div_add_mod g (2 ^ r)
    have hq := Nat.div_add_mod (g / 2 ^ r) 2
    rw [Nat.div_div_eq_div_mul, ← pow_succ, hodd] at hq
    calc g = 2 ^ r * (2 * (g / 2 ^ (r + 1)) + 1) + g % 2 ^ r := by rw [hq, hg]
      _ = 2 ^ (r + 1) * (g / 2 ^ (r + 1)) + (2 ^ r + g % 2 ^ r) := by ring
  have hsub : 2 ^ (r + 1) * k + (2 ^ r + l) - 2 ^ r = 2 ^ (r + 1) * k + l := by omega
  have hp : 2 ^ (r + 1) = 2 ^ r + 2 ^ r := by ring
  rw [hsub, Nat.testBit_two_pow_mul_add _ (by omega), Nat.testBit_two_pow_mul_add _ (by omega)]
  rcases lt_trichotomy j r with hj | rfl | hj
  · simp [Nat.testBit_two_pow_add_gt hj, hj.ne, Nat.lt_succ_of_lt hj]
  · simp [Nat.testBit_lt_two_pow hl]
  · have hnot : ¬j < r + 1 := by omega
    simp [hnot, hj.ne']

/-- A rail that goes down is not good; every other rail is as it was. -/
theorem Dev.railGood_railDown (d : Dev) {r r' : Nat} : (d.railDown r).railGood r' = (d.railGood r' && r' != r) := by
  have hlt := d.gf_lt F.GBL_RAIL_STAT_GOOD 0 0
  unfold Dev.railDown Dev.railGood
  dsimp only
  rw [Dev.gf_sf _ _ _ _ _ (by decide)]
  split_ifs with h
  · rw [Nat.mod_eq_of_lt (lt_of_le_of_lt (Nat.sub_le _ _) hlt)]
    exact testBit_sub_two_pow h r'
  · rw [Nat.mod_eq_of_lt hlt]
    by_cases he : r' = r
    · simp [he, h]
    · simp [he]

end Sys2Proof.Machine
end

section
/-! PROOFS. `Obligations.RegisterWritesAndBanks` (R8 to R11, R405), clause by clause. -/

namespace Sys2Proof.Machine

/-! ### REGISTER_WRITE -/

/-- A write of the Hatch: the access, what follows in other units, and the status it leaves. -/
theorem exec_registerWrite (a v : Word) (s : State) (h : s.dev.on = true) : exec (.registerWrite a v) s =
    .next ((s.act fun _ => (s.dev.hatchWrite a.toNat v).1).onDev
      (fun d => d.hatDone (s.dev.hatchWrite a.toNat v).2 0)) := by
  show execRegisterWrite a v s = _
  rw [execRegisterWrite, if_pos h]
  rfl

/-- A write that changes no room does the access, and no channel changes. -/
theorem registerWrite_of_rooms {a v : Word} {s : State} (h : s.dev.on = true) {d : Dev} {status : Nat}
    (hw : s.dev.hatchWrite a.toNat v = (d, status)) (hr : d.rooms = s.dev.rooms) :
    ∃ t, exec (.registerWrite a v) s = .next t ∧ t.dev = d.hatDone status 0 ∧ t.nch = s.nch := by
  have hx := exec_registerWrite a v s h
  rw [hw] at hx
  obtain ⟨hdev, hnch⟩ := s.dev_act_of_rooms (fun _ => d) hr
  exact ⟨_, hx, by rw [State.dev_onDev, hdev], hnch⟩

/-- An address that is no multiple of four is no register's (R392). -/
theorem Dev.hatchWrite_of_unaligned (d : Dev) {a : Nat} (v : Word) (h : a % 4 ≠ 0) :
    d.hatchWrite a v = (d.noReg a, hNoReg) := by simp [Dev.hatchWrite, h]

theorem registerWrite_status (a v : Word) (s : State) (h : s.dev.on = true) : Yields (.registerWrite a v) s (fun t =>
    t.dev.gf F.HAT_STAT_LAST = (s.dev.hatchWrite a.toNat v).2 % 256 ∧
    (a.toNat % 4 ≠ 0 → (s.dev.hatchWrite a.toNat v).2 = 4 ∧ t.dev.ev = s.dev.ev ∧ t.dev.rooms = s.dev.rooms)) := by
  refine ⟨_, exec_registerWrite a v s h, Dev.gf_last_hatDone _ _ _, fun ha => ?_⟩
  rw [Dev.hatchWrite_of_unaligned _ _ ha]
  simp [Dev.noReg]

/-! ### GOV_VCC (R324) -/

theorem find_govVcc : RK.find 0x40020 = some (.GOV_VCC, 0, 0) := by decide +kernel

/-- Out of Deep hold a write of GOV_VCC is answered OK, and its fields are taken. -/
theorem Dev.hatchWrite_govVcc (d : Dev) (v : Word) (h : d.mode ≠ mDeep) : d.hatchWrite 0x40020 v =
    (Dev.refuseIf (d.govFields .GOV_VCC 0 v) 0x75 0x40020, hOk) := by
  have hawake : d.asleep .GOV_VCC 0 = false := by
    have he : RK.inEvt .GOV_VCC = false := by decide
    simp [Dev.asleep, he, Dev.govAsleep, h]
  have hreg : d.regWrite .GOV_VCC 0 0 v (decide (2 ≤ d.gf F.SEC_DBG_LEVEL)) = d.govWrite .GOV_VCC 0 v := by
    rfl
  have hgov : (d.govWrite .GOV_VCC 0 v).1 = Dev.refuseIf (d.govFields .GOV_VCC 0 v) 0x75 0x40020 := by
    simp [Dev.govWrite, govRsv, Dev.noted, show RK.GOV_VCC.addr 0 0 = 0x40020 from rfl]
  have hreg' : d.hatchRegWrite 0x40020 .GOV_VCC 0 0 v = ((d.govWrite .GOV_VCC 0 v).1, hOk) := by
    simp [Dev.hatchRegWrite, hawake, hreg]
  rw [Dev.hatchWrite, find_govVcc]
  simp [larWindow, dramWindow, hreg', hgov]

section
variable (d : Dev) (v : Word)

/-- The fields of GOV_VCC in the order in which a write takes them. -/
theorem Dev.govFields_vcc : d.govFields .GOV_VCC 0 v =
    Dev.fld (Dev.fld (Dev.fld (d, false) 0 0 F.GOV_VCC_MARGIN v fun x => 80 < x) 0 0 F.GOV_VCC_VSRAM_RUN v
      (outside 800 900)) 0 0 F.GOV_VCC_VSRAM_RET v (outside 800 900) := rfl

theorem outside_iff (lo hi x : Nat) : outside lo hi x = true ↔ ¬(lo ≤ x ∧ x ≤ hi) := by
  simp [outside]; omega

theorem Dev.gf_govFields_vcc :
    (d.govFields .GOV_VCC 0 v).1.gf F.GOV_VCC_MARGIN =
      (if bits v 24 8 ≤ 80 then bits v 24 8 else d.gf F.GOV_VCC_MARGIN) ∧
    (d.govFields .GOV_VCC 0 v).1.gf F.GOV_VCC_VSRAM_RUN =
      (if 800 ≤ bits v 12 12 ∧ bits v 12 12 ≤ 900 then bits v 12 12 else d.gf F.GOV_VCC_VSRAM_RUN) ∧
    (d.govFields .GOV_VCC 0 v).1.gf F.GOV_VCC_VSRAM_RET =
      (if 800 ≤ bits v 0 12 ∧ bits v 0 12 ≤ 900 then bits v 0 12 else d.gf F.GOV_VCC_VSRAM_RET) := by
  rw [Dev.govFields_vcc]
  refine ⟨?_, ?_, ?_⟩
  · rw [Dev.gf_fld_bits _ _ _ (by decide) (by decide), Dev.gf_fld_bits _ _ _ (by decide) (by decide), Dev.gf_fld _ _ _ (by decide)]
    simp only [decide_eq_true_eq, ← Nat.not_le, ite_not]
  · rw [Dev.gf_fld_bits _ _ _ (by decide) (by decide), Dev.gf_fld _ _ _ (by decide), Dev.gf_fld_bits _ _ _ (by decide) (by decide)]
    simp only [outside_iff, ite_not]
  · rw [Dev.gf_fld _ _ _ (by decide), Dev.gf_fld_bits _ _ _ (by decide) (by decide), Dev.gf_fld_bits _ _ _ (by decide) (by decide)]
    simp only [outside_iff, ite_not]

theorem Dev.keepsRegs_govFields_vcc : d.keepsRegs (d.govFields .GOV_VCC 0 v).1 [(.GOV_VCC, 0, 0)] := by
  rw [Dev.govFields_vcc]
  exact (((d.keepsRegs_refl _ : d.keepsRegs (d, false).1 _).fld (by simp) (by decide) (by decide)).fld (by simp) (by decide)
    (by decide)).fld (by simp) (by decide) (by decide)

/-- With every field in range, nothing is refused. -/
theorem Dev.refused_govFields_vcc_eq_false (hm : bits v 24 8 ≤ 80) (hrun : 800 ≤ bits v 12 12 ∧ bits v 12 12 ≤ 900)
    (hret : 800 ≤ bits v 0 12 ∧ bits v 0 12 ≤ 900) : (d.govFields .GOV_VCC 0 v).2 = false := by
  have h1 : outside 800 900 (bits v 12 12) = false := by simpa [outside] using hrun
  have h2 : outside 800 900 (bits v 0 12) = false := by simpa [outside] using hret
  simp [Dev.govFields_vcc, Dev.refused_fld, hm, h1, h2]

/-- A new MARGIN above 80 mV is refused. -/
theorem Dev.refused_govFields_vcc (hm : 80 < bits v 24 8) (hne : bits v 24 8 ≠ d.gf F.GOV_VCC_MARGIN) :
    (d.govFields .GOV_VCC 0 v).2 = true := by
  simp [Dev.govFields_vcc, Dev.refused_fld, hm, hne]

@[simp] theorem Dev.rooms_govFields_vcc : (d.govFields .GOV_VCC 0 v).1.rooms = d.rooms := by simp [Dev.govFields_vcc]
@[simp] theorem Dev.ev_govFields_vcc : (d.govFields .GOV_VCC 0 v).1.ev = d.ev := by simp [Dev.govFields_vcc]

end

/-- GOV_VCC out of Deep hold, field by field (R11, R324). -/
theorem registerWrite_govVcc (v : Word) (s : State) (h : s.dev.on = true) (hm : s.dev.mode ≠ mDeep) :
    Yields (.registerWrite 0x40020 v) s (fun t =>
    t.dev.gf F.GOV_VCC_MARGIN = (if bits v 24 8 ≤ 80 then bits v 24 8 else s.dev.gf F.GOV_VCC_MARGIN) ∧
    t.dev.gf F.GOV_VCC_VSRAM_RUN =
      (if 800 ≤ bits v 12 12 ∧ bits v 12 12 ≤ 900 then bits v 12 12 else s.dev.gf F.GOV_VCC_VSRAM_RUN) ∧
    t.dev.gf F.GOV_VCC_VSRAM_RET =
      (if 800 ≤ bits v 0 12 ∧ bits v 0 12 ≤ 900 then bits v 0 12 else s.dev.gf F.GOV_VCC_VSRAM_RET) ∧
    t.dev.gf F.HAT_STAT_LAST = 1 ∧ t.dev.rooms = s.dev.rooms ∧ t.nch = s.nch ∧
    (bits v 24 8 ≤ 80 → 800 ≤ bits v 12 12 → bits v 12 12 ≤ 900 → 800 ≤ bits v 0 12 → bits v 0 12 ≤ 900 →
      s.dev.keepsRegs t.dev [(.GOV_VCC, 0, 0), (.HAT_STAT, 0, 0)]) ∧
    (80 < bits v 24 8 → bits v 24 8 ≠ s.dev.gf F.GOV_VCC_MARGIN →
      t.dev.gf F.ERR_CNT_COUNT 0x75 = min (s.dev.gf F.ERR_CNT_COUNT 0x75 + 1) (2 ^ F.ERR_CNT_COUNT.width - 1) ∧
      t.dev.err.notice = { src := 0x75, sev := .notice, detail := 0x40020, time := s.dev.ev.time })) := by
  obtain ⟨t, hx, hdev, hnch⟩ := registerWrite_of_rooms (a := 0x40020) h (s.dev.hatchWrite_govVcc v hm) (by simp)
  have hlast := Dev.keepsRegs_hatDone (Dev.refuseIf (s.dev.govFields .GOV_VCC 0 v) 0x75 0x40020) hOk 0 (by decide)
  have hvcc : ∀ f : Fld, f.reg = .GOV_VCC →
      ((Dev.refuseIf (s.dev.govFields .GOV_VCC 0 v) 0x75 0x40020).hatDone hOk 0).gf f =
        (s.dev.govFields .GOV_VCC 0 v).1.gf f := fun f hf => by
    rw [hlast.gf (by simp [hf]) (by decide) (by decide),
      Dev.gf_refuseIf _ _ _ (by rw [hf]; rfl) (by decide) (by decide)]
  obtain ⟨hmargin, hrun, hret⟩ := s.dev.gf_govFields_vcc v
  refine ⟨t, hx, ?_⟩
  dsimp only
  rw [hdev]
  refine ⟨(hvcc _ rfl).trans hmargin, (hvcc _ rfl).trans hrun, (hvcc _ rfl).trans hret, Dev.gf_last_hatDone _ _ _,
    by simp, hnch, fun h1 h2 h3 h4 h5 => ?_, fun h1 h2 => ?_⟩
  · have hno := s.dev.refused_govFields_vcc_eq_false v h1 ⟨h2, h3⟩ ⟨h4, h5⟩
    rw [Dev.refuseIf, hno, if_neg (by decide)] at hlast ⊢
    exact ((s.dev.keepsRegs_govFields_vcc v).mono (by simp)).trans (hlast.mono (by simp))
  · have hyes := s.dev.refused_govFields_vcc v h1 h2
    rw [hlast.gf (by decide) (by decide) (by decide), Dev.err_hatDone, Dev.refuseIf, hyes, if_pos rfl]
    refine ⟨?_, ?_⟩
    · rw [Dev.errCnt_notice _ _ (by decide) (by decide), if_pos rfl,
        (s.dev.keepsRegs_govFields_vcc v).gf (by decide) (by decide) (by decide)]
    · rw [Dev.err_notice_notice, Dev.ev_govFields_vcc]
      rfl

/-! ### A bank's standard (R405) -/

/-- A command of a unit that has power, which changes no room and neither GBL_MODE nor HBT_CFG, does what its function
says. -/
theorem does_actOn_of_regs {c : Instr} {s : State} {f : Dev → Dev} {d : Dev} (hx : exec c s = .next (s.actOn f))
    (hon : s.dev.on = true) (hd : f s.dev = d) (hr : d.rooms = s.dev.rooms)
    (hm : d.reg .GBL_MODE 0 0 = s.dev.reg .GBL_MODE 0 0) (hb : d.reg .HBT_CFG 0 0 = s.dev.reg .HBT_CFG 0 0) : Does c s d :=
  does_act_of_regs hx (by simp [Dev.when, hon, hd]) hr hm hb

section
variable (d : Dev) (b : Nat) (v : Word)

/-- A standard that the bank does not take: while its facing room runs, a reserved one, or one without the 16 mA drive
that a pin of the bank has (R405, R406). -/
def Dev.stdRefused (std : Nat) : Bool :=
  !d.bankHeld b || 7 ≤ std || (lowStd std && (List.range 40).any (fun m => d.gf F.IOB_PIN_DRIVE b m == 3))

/-- The fields of a write of IOB_Bnn_CFG. -/
def Dev.iobFields : Dev × Bool :=
  d.flds b 0 v [(F.IOB_CFG_STD, d.stdRefused b), (F.IOB_CFG_FCLK_EN, fun _ => !d.bankHeld b),
    (F.IOB_CFG_FCLK_PLL, fun _ => !d.bankHeld b), (F.IOB_CFG_FCLK_OUT, fun _ => !d.bankHeld b)]

/-- What follows from a change of the standard: the rail is no longer good, and the pins leave the safe state. -/
def Dev.stdChanged (old : Nat) : Dev :=
  if d.gf F.IOB_CFG_STD b = old then d else (d.railDown (10 + b)).bankLeaves b

/-- Without a standard nothing is compared. -/
def Dev.mismatchFor (std : Nat) : Dev := if std = 0 then d.sf F.IOB_STAT_MISMATCH b 0 0 else d

/-- A bank after a write of its IOB_Bnn_CFG, but for the NOTICE of a refusal. -/
def Dev.iobTaken : Dev :=
  ((d.iobFields b v).1.stdChanged b (d.gf F.IOB_CFG_STD b)).mismatchFor b ((d.iobFields b v).1.gf F.IOB_CFG_STD b)

/-- A write of IOB_Bnn_CFG takes its fields, then what follows from a change of STD, then the NOTICE of a refusal. -/
theorem Dev.iobCfgWrite_eq : (d.iobCfgWrite b v).1 =
    Dev.refuseIf (d.iobTaken b v, (d.iobFields b v).2) 0x75 (0xD0000 + 0x400 * b) := by
  unfold Dev.iobCfgWrite Dev.noted
  rw [show RK.IOB_CFG.addr b 0 = 0xD0000 + 0x400 * b from rfl]
  rfl

/-! What the fields take. -/

theorem Dev.iobFields_eq : d.iobFields b v =
    Dev.fld (Dev.fld (Dev.fld (Dev.fld (d, false) b 0 F.IOB_CFG_STD v (d.stdRefused b)) b 0 F.IOB_CFG_FCLK_EN v
      fun _ => !d.bankHeld b) b 0 F.IOB_CFG_FCLK_PLL v fun _ => !d.bankHeld b) b 0 F.IOB_CFG_FCLK_OUT v
      fun _ => !d.bankHeld b := rfl

theorem Dev.gf_std_iobFields : (d.iobFields b v).1.gf F.IOB_CFG_STD b =
    if d.stdRefused b (bits v 28 4) then d.gf F.IOB_CFG_STD b else bits v 28 4 := by
  rw [Dev.iobFields_eq]
  iterate 3 rw [Dev.gf_fld_bits _ _ _ (by decide) (by decide)]
  exact Dev.gf_fld _ _ _ (by decide)

theorem Dev.gf_fclk_iobFields (h : d.bankHeld b = true) :
    ∀ f ∈ [F.IOB_CFG_FCLK_EN, F.IOB_CFG_FCLK_PLL, F.IOB_CFG_FCLK_OUT],
      (d.iobFields b v).1.gf f b = bits v f.lo f.width := by
  rw [Dev.iobFields_eq, h]
  simp only [List.forall_mem_cons]
  refine ⟨?_, ?_, ?_, by simp⟩
  · rw [Dev.gf_fld_bits _ _ _ (by decide) (by decide), Dev.gf_fld_bits _ _ _ (by decide) (by decide),
      Dev.gf_fld _ _ _ (by decide)]
    rfl
  · rw [Dev.gf_fld_bits _ _ _ (by decide) (by decide), Dev.gf_fld _ _ _ (by decide)]
    rfl
  · rw [Dev.gf_fld _ _ _ (by decide)]
    rfl

/-- Without a standard refused, nothing is refused of a held bank. -/
theorem Dev.refused_iobFields_eq_false (h : d.bankHeld b = true)
    (hs : bits v 28 4 = d.gf F.IOB_CFG_STD b ∨ d.stdRefused b (bits v 28 4) = false) : (d.iobFields b v).2 = false := by
  rcases hs with hs | hs <;> simp [Dev.iobFields_eq, Dev.refused_fld, h, hs]

/-- A new standard of a bank that is not held is refused. -/
theorem Dev.refused_iobFields (h : d.bankHeld b = false) (hne : d.gf F.IOB_CFG_STD b ≠ bits v 28 4) :
    (d.iobFields b v).2 = true := by
  simp [Dev.iobFields_eq, Dev.refused_fld, Dev.stdRefused, h, hne.symm]

variable {b}

theorem Dev.keepsRegs_iobFields (hb : b < 18) : d.keepsRegs (d.iobFields b v).1 [(.IOB_CFG, b, 0)] := by
  have hlt : b < 65536 := by omega
  rw [Dev.iobFields_eq]
  exact ((((d.keepsRegs_refl _ : d.keepsRegs (d, false).1 _).fld (by simp) hlt (by decide)).fld (by simp) hlt
    (by decide)).fld (by simp) hlt (by decide)).fld (by simp) hlt (by decide)

/-! What follows. -/

theorem Dev.keepsRegs_stdChanged (old : Nat) : d.keepsRegs (d.stdChanged b old) [(.GBL_RAIL_STAT, 0, 0)] := by
  unfold Dev.stdChanged
  split_ifs
  · exact d.keepsRegs_refl _
  · exact d.keepsRegs_sf (f := F.GBL_RAIL_STAT_GOOD) _ (by simp) (by decide) (by decide)

theorem Dev.keepsRegs_mismatchFor (std : Nat) (hb : b < 18) : d.keepsRegs (d.mismatchFor b std) [(.IOB_STAT, b, 0)] := by
  unfold Dev.mismatchFor
  split_ifs
  · exact d.keepsRegs_sf _ (by simp) (by omega) (by decide)
  · exact d.keepsRegs_refl _

theorem Dev.keepsRegs_iobTaken (hb : b < 18) :
    d.keepsRegs (d.iobTaken b v) [(.IOB_CFG, b, 0), (.GBL_RAIL_STAT, 0, 0), (.IOB_STAT, b, 0)] :=
  (((d.keepsRegs_iobFields v hb).mono (by simp)).trans ((Dev.keepsRegs_stdChanged _ _).mono (by simp))).trans
    ((Dev.keepsRegs_mismatchFor _ _ hb).mono (by simp))

/-- What follows leaves IOB_Bnn_CFG as its fields were taken. -/
theorem Dev.gf_iobTaken (hb : b < 18) {f : Fld} (hf : f.reg = .IOB_CFG) :
    (d.iobTaken b v).gf f b = (d.iobFields b v).1.gf f b := by
  have hlt : b < 65536 := by omega
  unfold Dev.iobTaken
  rw [(Dev.keepsRegs_mismatchFor _ _ hb).gf (by simp [hf]) hlt (by decide),
    (Dev.keepsRegs_stdChanged _ _).gf (by simp [hf]) hlt (by decide)]

/-- A change of the standard ends the goodness of the bank's rail. -/
theorem Dev.railGood_iobTaken (hb : b < 18) (r : Nat) : (d.iobTaken b v).railGood r =
    (d.railGood r && !(r == 10 + b && (d.iobFields b v).1.gf F.IOB_CFG_STD b != d.gf F.IOB_CFG_STD b)) := by
  have hfields : (d.iobFields b v).1.railGood r = d.railGood r :=
    congrArg (bitOf · r) ((d.keepsRegs_iobFields v hb).gf (f := F.GBL_RAIL_STAT_GOOD) (by simp) (by decide) (by decide))
  have htaken : (d.iobTaken b v).railGood r = ((d.iobFields b v).1.stdChanged b (d.gf F.IOB_CFG_STD b)).railGood r :=
    congrArg (bitOf · r) ((Dev.keepsRegs_mismatchFor _ _ hb).gf (f := F.GBL_RAIL_STAT_GOOD) (by simp) (by decide)
      (by decide))
  have hleave : ∀ e : Dev, (e.bankLeaves b).railGood r = e.railGood r := fun _ => rfl
  rw [htaken, Dev.stdChanged]
  split_ifs with hs
  · simp [hfields, hs]
  · rw [hleave, Dev.railGood_railDown, hfields]
    simp [bne, beq_eq_false_iff_ne.2 hs]

@[simp] theorem Dev.rooms_iobFields : (d.iobFields b v).1.rooms = d.rooms := by simp [Dev.iobFields_eq]
@[simp] theorem Dev.ev_iobFields : (d.iobFields b v).1.ev = d.ev := by simp [Dev.iobFields_eq]

@[simp] theorem Dev.rooms_iobTaken : (d.iobTaken b v).rooms = d.rooms := by
  rw [← d.rooms_iobFields (b := b) v]
  unfold Dev.iobTaken Dev.mismatchFor Dev.stdChanged
  split_ifs <;> rfl

@[simp] theorem Dev.ev_iobTaken : (d.iobTaken b v).ev = d.ev := by
  rw [← d.ev_iobFields (b := b) v]
  unfold Dev.iobTaken Dev.mismatchFor Dev.stdChanged
  split_ifs <;> rfl

end

/-- IOB_STD_WRITE does what a write of IOB_Bnn_CFG does (R405). -/
theorem does_iobStdWrite (b : Fin 18) (v : Word) (s : State) (hon : s.dev.on = true) : Does (.iobStdWrite b v) s
    (Dev.refuseIf (s.dev.iobTaken b v, (s.dev.iobFields b v).2) 0x75 (0xD0000 + 0x400 * b)) := by
  have hk := s.dev.keepsRegs_iobTaken v b.isLt
  refine does_actOn_of_regs rfl hon (s.dev.iobCfgWrite_eq b v) (by simp) ?_ ?_
  · rw [Dev.reg_refuseIf _ _ _ rfl (by decide) (by decide)]
    exact hk _ _ _ (by decide) (by decide) (by simp)
  · rw [Dev.reg_refuseIf _ _ _ rfl (by decide) (by decide)]
    exact hk _ _ _ (by decide) (by decide) (by simp)

/-- A new standard while the facing room runs is refused (R405). -/
theorem iobStdWrite_refused (b : Fin 18) (v : Word) (s : State) (hon : s.dev.on = true)
    (hne : s.dev.gf F.IOB_CFG_STD b ≠ bits v 28 4) (hh : s.dev.bankHeld b = false) :
    Yields (.iobStdWrite b v) s (fun t =>
      t.dev.gf F.IOB_CFG_STD b = s.dev.gf F.IOB_CFG_STD b ∧
      t.dev.gf F.GBL_RAIL_STAT_GOOD = s.dev.gf F.GBL_RAIL_STAT_GOOD ∧
      t.dev.err.notice =
        { src := 0x75, sev := .notice, detail := BitVec.ofNat 32 (0xD0000 + 0x400 * b.val), time := s.dev.ev.time } ∧
      t.dev.rooms = s.dev.rooms ∧ t.nch = s.nch) := by
  have hlt : b.val < 65536 := by omega
  have hstd : (s.dev.iobFields b v).1.gf F.IOB_CFG_STD b = s.dev.gf F.IOB_CFG_STD b := by
    rw [Dev.gf_std_iobFields, if_pos (by simp [Dev.stdRefused, hh])]
  refine (does_iobStdWrite b v s hon).yields fun t ht hnch _ => ?_
  rw [ht]
  refine ⟨?_, ?_, ?_, by simp, hnch⟩
  · rw [Dev.gf_refuseIf _ _ _ rfl hlt (by decide), Dev.gf_iobTaken _ _ b.isLt rfl, hstd]
  · rw [Dev.gf_refuseIf _ _ _ rfl (by decide) (by decide), Dev.iobTaken, Dev.stdChanged, if_pos hstd,
      (Dev.keepsRegs_mismatchFor _ _ b.isLt).gf (by simp) (by decide) (by decide),
      (s.dev.keepsRegs_iobFields v b.isLt).gf (by simp) (by decide) (by decide)]
  · rw [Dev.refuseIf, if_pos (s.dev.refused_iobFields b v hh hne), Dev.err_notice_notice, Dev.ev_iobTaken]
    rfl

/-- A write of a held bank stores its fields, but for a standard that the bank does not take (R405). -/
theorem iobStdWrite_held (b : Fin 18) (v : Word) (s : State) (hon : s.dev.on = true) (hh : s.dev.bankHeld b = true) :
    Yields (.iobStdWrite b v) s (fun t =>
      t.dev.gf F.IOB_CFG_STD b = (s.dev.iobFields b v).1.gf F.IOB_CFG_STD b ∧
      (∀ f ∈ [F.IOB_CFG_FCLK_EN, F.IOB_CFG_FCLK_PLL, F.IOB_CFG_FCLK_OUT], t.dev.gf f b = bits v f.lo f.width) ∧
      (∀ r < 28, t.dev.railGood r = (s.dev.railGood r &&
        !(r == 10 + b.val && (s.dev.iobFields b v).1.gf F.IOB_CFG_STD b != s.dev.gf F.IOB_CFG_STD b))) ∧
      (bits v 28 4 = (s.dev.iobFields b v).1.gf F.IOB_CFG_STD b →
        s.dev.keepsRegs t.dev [(.IOB_CFG, b, 0), (.GBL_RAIL_STAT, 0, 0), (.IOB_STAT, b, 0)]) ∧
      t.dev.rooms = s.dev.rooms ∧ t.nch = s.nch) := by
  have hlt : b.val < 65536 := by omega
  have hcfg : ∀ f : Fld, f.reg = .IOB_CFG →
      (Dev.refuseIf (s.dev.iobTaken b v, (s.dev.iobFields b v).2) 0x75 (0xD0000 + 0x400 * b)).gf f b =
        (s.dev.iobFields b v).1.gf f b := fun f hf => by
    rw [Dev.gf_refuseIf _ _ _ (by rw [hf]; rfl) hlt (by decide), Dev.gf_iobTaken _ _ b.isLt hf]
  refine (does_iobStdWrite b v s hon).yields fun t ht hnch _ => ?_
  rw [ht]
  refine ⟨hcfg _ rfl, fun f hf => ?_, fun r _ => ?_, fun hs => ?_, by simp, hnch⟩
  · have hreg : f.reg = .IOB_CFG := by fin_cases hf <;> rfl
    rw [hcfg f hreg, s.dev.gf_fclk_iobFields b v hh f hf]
  · rw [← Dev.railGood_iobTaken _ _ b.isLt]
    exact congrArg (bitOf · r) (Dev.gf_refuseIf _ _ _ rfl (by decide) (by decide))
  · have hno : (s.dev.iobFields b v).2 = false := by
      refine s.dev.refused_iobFields_eq_false b v hh ?_
      rw [Dev.gf_std_iobFields] at hs
      split_ifs at hs with h
      · exact .inl hs
      · exact .inr (by simpa using h)
    rw [Dev.refuseIf, hno, if_neg (by decide)]
    exact s.dev.keepsRegs_iobTaken v b.isLt

/-! ### VCCIO and its window (R405) -/

/-- VCCIO_MISMATCH does what the comparison of a bank's supply does. -/
theorem does_vccioMismatch (b : Fin 18) (out : Bool) (s : State) (hon : s.dev.on = true) {d : Dev}
    (hd : s.dev.vccioMismatch b out = d) (hr : d.rooms = s.dev.rooms)
    (hk : ∀ k : RK, k.isErr = false → k ≠ .IOB_STAT → d.reg k 0 0 = s.dev.reg k 0 0) : Does (.vccioMismatch b out) s d :=
  does_actOn_of_regs rfl hon hd hr (hk _ rfl (by decide)) (hk _ rfl (by decide))

section
variable (d : Dev) (b : Nat)

/-- The supply of bank `b` is above 0.6 V. -/
def Dev.powered : Dev := { d with pin := { d.pin with vccio := d.pin.vccio ||| BitVec.ofNat 18 (2 ^ b) } }

/-- The bank's supply lies outside its window: its pins leave the safe state. -/
def Dev.mismatched : Dev := ((d.powered b).sf F.IOB_STAT_MISMATCH b 0 1).bankLeaves b

theorem Dev.vccioMismatch_of_no_std (h : d.gf F.IOB_CFG_STD b = 0) (out : Bool) : d.vccioMismatch b out = d.powered b :=
  if_pos h

theorem Dev.vccioMismatch_true (h : d.gf F.IOB_CFG_STD b ≠ 0) : d.vccioMismatch b true =
    if d.gb F.IOB_STAT_MISMATCH b then d.mismatched b else (d.mismatched b).fault 0x69 b := by
  refine (if_neg h).trans ?_
  have hwas : (d.powered b).gb F.IOB_STAT_MISMATCH b = d.gb F.IOB_STAT_MISMATCH b := rfl
  show (if true && !(d.powered b).gb F.IOB_STAT_MISMATCH b then (d.mismatched b).fault 0x69 b else d.mismatched b) = _
  rw [hwas]
  cases d.gb F.IOB_STAT_MISMATCH b <;> rfl

theorem Dev.vccioMismatch_false (h : d.gf F.IOB_CFG_STD b ≠ 0) : d.vccioMismatch b false =
    (d.powered b).sf F.IOB_STAT_MISMATCH b 0 0 := if_neg h

end

/-- Outside the window, inside it, and without a standard. -/
theorem vccioMismatch_cases (b : Fin 18) (s : State) (hon : s.dev.on = true) :
    let d := { s.dev with pin := { s.dev.pin with vccio := s.dev.pin.vccio ||| BitVec.ofNat 18 (2 ^ b.val) } }
    let out := (d.sf F.IOB_STAT_MISMATCH b 0 1).bankLeaves b
    (s.dev.gf F.IOB_CFG_STD b = 0 → ∀ out : Bool, Does (.vccioMismatch b out) s d) ∧
    (s.dev.gf F.IOB_CFG_STD b ≠ 0 →
      (s.dev.gb F.IOB_STAT_MISMATCH b = false → Does (.vccioMismatch b true) s (out.fault 0x69 b)) ∧
      (s.dev.gb F.IOB_STAT_MISMATCH b = true → Does (.vccioMismatch b true) s out) ∧
      Does (.vccioMismatch b false) s (d.sf F.IOB_STAT_MISMATCH b 0 0)) := by
  intro d out
  have hlt : b.val < 65536 := by omega
  have hsf : ∀ (v : Nat) (k : RK), k ≠ .IOB_STAT → (d.sf F.IOB_STAT_MISMATCH b 0 v).reg k 0 0 = s.dev.reg k 0 0 :=
    fun v k hk => d.reg_sf_ne (f := F.IOB_STAT_MISMATCH) v hk.symm hlt (by decide) (by decide) (by decide)
  refine ⟨fun h o => ?_, fun h => ⟨fun hm => ?_, fun hm => ?_, ?_⟩⟩
  · exact does_vccioMismatch b o s hon (s.dev.vccioMismatch_of_no_std b h o) rfl fun _ _ _ => rfl
  · refine does_vccioMismatch b true s hon ((s.dev.vccioMismatch_true b h).trans (if_neg (by simp [hm]))) ?_ fun k he hk => ?_
    · exact Dev.rooms_fault _ _ _
    · exact (Dev.reg_fault _ _ _ he (by decide) (by decide)).trans (hsf 1 k hk)
  · exact does_vccioMismatch b true s hon ((s.dev.vccioMismatch_true b h).trans (if_pos hm)) rfl fun k _ hk => hsf 1 k hk
  · exact does_vccioMismatch b false s hon (s.dev.vccioMismatch_false b h) rfl fun k _ hk => hsf 0 k hk

/-- Settles O59: each field of a write is taken or refused by itself (`Dev.gf_fld`, `Dev.refused_fld`), and a change of
a bank's standard takes its rail's goodness (`Dev.railGood_railDown`). -/
theorem registerWritesAndBanks : Obligations.RegisterWritesAndBanks := by
  unfold Obligations.RegisterWritesAndBanks
  refine ⟨registerWrite_govVcc, registerWrite_status,
    fun b v s hon hne hh => iobStdWrite_refused b v s hon hne hh, ?_, fun b s hon => vccioMismatch_cases b s hon⟩
  intro b v s hon hh old std
  have hstd : (s.dev.iobFields b v).1.gf F.IOB_CFG_STD b = std := by
    rw [Dev.gf_std_iobFields]
    refine if_congr ?_ rfl rfl
    simp only [Dev.stdRefused, hh, Bool.not_true, Bool.false_or, Bool.or_eq_true, Bool.and_eq_true, decide_eq_true_eq]
    exact Iff.rfl
  rw [← hstd]
  exact iobStdWrite_held b v s hon hh

end Sys2Proof.Machine
end

section
/-! PROOFS. The queue of waiting commands (log entries 73 and 74): which operations on the state leave it alone, and
`Obligations.CommandsLeaveTheQueue`. -/

namespace Sys2Proof.Machine

/-! ### The block's units -/

theorem State.pending_ite {s a b : State} {p : Prop} [Decidable p] (ha : a.pending = s.pending)
    (hb : b.pending = s.pending) : (if p then a else b).pending = s.pending := by
  split_ifs
  · exact ha
  · exact hb

section
variable (s : State)

@[simp] theorem State.pending_setCh (n side j : Nat) (c : Chan) : (s.setCh n side j c).pending = s.pending := rfl
@[simp] theorem State.pending_clearChannels : s.clearChannels.pending = s.pending := rfl
@[simp] theorem State.pending_actOn (f : Dev → Dev) : (s.actOn f).pending = s.pending := s.pending_act _

@[simp] theorem State.pending_hbEdge : s.hbEdge.pending = s.pending := by
  simp [State.hbEdge, apply_ite State.pending]

@[simp] theorem State.pending_hbRead (a : Nat) : (s.hbRead a).pending = s.pending := by
  simp [State.hbRead, apply_ite State.pending]

@[simp] theorem State.pending_hbUnmapped : s.hbUnmapped.pending = s.pending := by simp [State.hbUnmapped]

@[simp] theorem State.pending_mirrorWrite (a : Nat) (v : Word) : (s.mirrorWrite a v).pending = s.pending := by
  simp [State.mirrorWrite, apply_ite State.pending]

@[simp] theorem State.pending_statusWrite (k : Nat) (v : Word) : (s.statusWrite k v).pending = s.pending := by
  simp [State.statusWrite, apply_ite State.pending]

@[simp] theorem State.pending_unpaired (q : Nat) : (s.unpaired q).pending = s.pending := by simp [State.unpaired]

@[simp] theorem State.pending_postHalf0 (q : Nat) (v : Word) : (s.postHalf0 q v).pending = s.pending := by
  unfold State.postHalf0
  cases s.hb.latch <;> simp

@[simp] theorem State.pending_postHalf1 (q : Nat) (v : Word) : (s.postHalf1 q v).pending = s.pending := by
  unfold State.postHalf1
  cases s.hb.latch with
  | none => simp
  | some l => simp [apply_ite State.pending]

@[simp] theorem State.pending_hbWrite (a : Nat) (v : Word) : (s.hbWrite a v).pending = s.pending := by
  simp [State.hbWrite, apply_ite State.pending]

@[simp] theorem State.pending_mirFail (wa : Nat) : (s.mirFail wa).pending = s.pending := by simp [State.mirFail]

@[simp] theorem State.pending_passAt (i : Nat) : (s.passAt i).pending = s.pending := by
  simp [State.passAt, apply_ite State.pending]

@[simp] theorem State.pending_mirrorRefresh (us : List (BitVec 72)) : (s.mirrorRefresh us).pending = s.pending := by
  unfold State.mirrorRefresh
  cases s.hb.pass with
  | none => rfl
  | some i => dsimp only; split_ifs <;> simp

@[simp] theorem State.pending_writeThrough (u : BitVec 72) : (s.writeThrough u).pending = s.pending := by
  unfold State.writeThrough
  cases s.hb.buffer with
  | nil => rfl
  | cons e l => dsimp only; split_ifs <;> simp

@[simp] theorem State.pending_reflexFire (j : Nat) (lv : BitVec 64) : (s.reflexFire j lv).pending = s.pending := by
  unfold State.reflexFire
  dsimp only
  refine State.pending_ite (by simp) ?_
  cases (s.onDev fun d => d.rfxIn lv).dev.rfxActive j lv with
  | nil => simp
  | cons i l => exact State.pending_ite (by simp) (by simp)

@[simp] theorem State.pending_hostAppend : s.hostAppend.pending = s.pending := by
  unfold State.hostAppend
  cases s.hb.posts with
  | nil => rfl
  | cons r l => dsimp only; cases s.dev.appendJudge r.1 <;> simp

@[simp] theorem State.pending_posted (p : Nat) : (s.posted p).pending = s.pending := by
  simp [State.posted, apply_ite State.pending]

@[simp] theorem State.pending_postFailed (q p : Nat) : (s.postFailed q p).pending = s.pending := by
  simp [State.postFailed, apply_ite State.pending]

@[simp] theorem State.pending_appendAck (q : Nat) : (s.appendAck q).pending = s.pending := by
  unfold State.appendAck
  cases (s.dev.queue q).append with
  | none => rfl
  | some a => simp [apply_ite State.pending]

/-! ### The Hatch and its ports -/

@[simp] theorem State.pending_hatchRead (a : Nat) : (s.hatchRead a).1.pending = s.pending := s.pending_act _
@[simp] theorem State.pending_hatchWrite (a : Nat) (v : Word) : (s.hatchWrite a v).1.pending = s.pending := s.pending_act _
@[simp] theorem State.pending_spiBegin : s.spiBegin.pending = s.pending := rfl
@[simp] theorem State.pending_hatEnd (p st : Nat) (w : Word) : (s.hatEnd p st w).pending = s.pending := rfl
@[simp] theorem State.pending_capture (st : Nat) (a w : Word) : (s.capture st a w).pending = s.pending := rfl

end

@[simp] theorem State.pending_spiRead (s : State) (a : Nat) (r : Bool) : (s.spiRead a r).1.pending = s.pending :=
  s.pending_hatchRead a

@[simp] theorem State.pending_drain (k : Nat) (s : State) : (s.drain k).pending = s.pending := by
  induction k generalizing s with
  | zero => rfl
  | succ k ih =>
    unfold State.drain
    cases s.dev.hat.buffer with
    | nil => rfl
    | cons x l => dsimp only; rw [ih]; simp

@[simp] theorem State.pending_flush (s : State) : s.flush.pending = s.pending := s.pending_drain _

@[simp] theorem State.pending_bufferWords (vs : List Word) (s : State) (a : Word) (ks : List Nat) :
    (s.bufferWords a vs ks).pending = s.pending := by
  induction vs generalizing s a ks with
  | nil => exact s.pending_drain _
  | cons v l ih => simp [State.bufferWords, apply_ite State.pending, ih]

@[simp] theorem State.pending_spiWrite (s : State) (a : Word) (vs : List Word) (ks : List Nat) :
    (s.spiWrite a vs ks).pending = s.pending := State.pending_bufferWords _ _ _ _

@[simp] theorem State.pending_spiBurst (l : List Bool) (s : State) (a : Nat) : (s.spiBurst a l).1.pending = s.pending := by
  induction l generalizing s a with
  | nil => exact s.pending_spiRead a true
  | cons r l ih => exact (ih _ _).trans (s.pending_spiRead a r)

@[simp] theorem State.pending_hatchDr (s : State) (dr : BitVec 72) : (s.hatchDr dr).pending = s.pending := by
  simp [State.hatchDr, apply_ite State.pending]

/-! ### The fabric -/

@[simp] theorem State.pending_roomEdge (s : State) (n : Nat) : (s.roomEdge n).pending = s.pending := by
  simp [State.roomEdge, apply_ite State.pending]

@[simp] theorem State.pending_fabricEdge (s : State) : s.fabricEdge.pending = s.pending := by
  simp [State.fabricEdge, apply_ite State.pending, State.pending_foldl _ _ fun s n => s.pending_roomEdge n]

theorem State.pending_idle (s : State) : s.idle.pending = s.pending := by simp [State.idle]

/-! ### Every command -/

/-- An answer that is a next state with the queue of `s`. -/
def State.queueKept (s : State) (o : Out) : Prop := ∃ t, o = .next t ∧ t.pending = s.pending

theorem State.queueKept_self (s : State) : s.queueKept (.next s) := ⟨s, rfl, rfl⟩

theorem State.queueKept_ite {s : State} {p : Prop} [Decidable p] {a b : Out} (ha : s.queueKept a) (hb : s.queueKept b) :
    s.queueKept (if p then a else b) := by
  split_ifs
  · exact ha
  · exact hb

theorem State.queueKept_nchWordArrive (s : State) (n side j : Nat) : s.queueKept (execNchWordArrive n side j s) := by
  unfold execNchWordArrive
  cases neighbour n side with
  | none => exact s.queueKept_self
  | some m =>
    dsimp only
    cases (s.ch n side j).wires with
    | nil => exact s.queueKept_self
    | cons w rest => exact State.queueKept_ite ⟨_, rfl, rfl⟩ (State.queueKept_ite s.queueKept_self ⟨_, rfl, rfl⟩)

theorem State.queueKept_nchTake (s : State) (n side j : Nat) : s.queueKept (execNchTake n side j s) := by
  unfold execNchTake
  cases neighbour n side with
  | none => exact s.queueKept_self
  | some m =>
    dsimp only
    cases (s.ch n side j).fifo with
    | nil => exact s.queueKept_self
    | cons w rest => exact State.queueKept_ite s.queueKept_self ⟨_, rfl, rfl⟩

theorem State.queueKept_internalAppend (s : State) (src : PostSrc) : s.queueKept (execInternalAppend src s) := by
  refine ⟨_, rfl, ?_⟩
  cases src <;> simp [apply_ite State.pending]

theorem State.queueKept_exec (s : State) (c : Instr) : s.queueKept (exec c s) := by
  cases c with
  | nchSend => exact State.queueKept_ite ⟨_, rfl, rfl⟩ s.queueKept_self
  | nchWordArrive n side j => exact s.queueKept_nchWordArrive _ _ _
  | nchTake n side j => exact s.queueKept_nchTake _ _ _
  | nchAckArrive | nchNack | nchLossToken => exact State.queueKept_ite s.queueKept_self ⟨_, rfl, rfl⟩
  | txResync => exact State.queueKept_ite ⟨_, rfl, rfl⟩ s.queueKept_self
  | internalReset | resetNLow | vccAoLoss => exact State.queueKept_ite ⟨_, rfl, by simp⟩ s.queueKept_self
  | internalAppend src => exact s.queueKept_internalAppend src
  | mirrorPassStart | mirrorRefreshData | writeThroughDone | appendAck | registerWrite | spiReadWord | spiWriteWord
    | spiBurstRead | spiBurstWrite | spiStatus | spiUnknownCommand | hatchUpdateDr =>
    exact ⟨_, rfl, by simp [apply_ite State.pending]⟩
  | _ => exact ⟨_, rfl, by simp⟩

/-- Settles O2: every command answers a next state with the queue it found (`State.queueKept_exec`). -/
theorem commandsLeaveTheQueue : Obligations.CommandsLeaveTheQueue := by
  unfold Obligations.CommandsLeaveTheQueue
  have hexec : ∀ (c : Instr) (s t : State), exec c s = .next t → t.pending = s.pending := by
    intro c s t h
    obtain ⟨t', ht', hp⟩ := s.queueKept_exec c
    rw [ht'] at h
    cases h
    exact hp
  refine ⟨hexec, fun s t h => ?_⟩
  unfold step at h
  cases hq : s.pending with
  | nil =>
    rw [hq] at h
    cases h
    rw [s.pending_idle, hq]
    rfl
  | cons c l =>
    rw [hq] at h
    exact hexec c _ t h

end Sys2Proof.Machine
end

section
/-! PROOFS. `Obligations.ResetHasTheInvariants`: what `State.reset` is (log entries 11 and 12). -/

namespace Sys2Proof.Machine

theorem State.channelsOk_reset : State.reset.channelsOk = true := rfl

theorem State.hb_ok_reset : State.reset.hb.ok = true := rfl

/-- The register table is empty at reset: a register reads its reset value. -/
theorem State.reg_reset (k : RK) (i j : Nat) : State.reset.dev.reg k i j = k.rst i j := rfl

/-- Settles O6: at reset GBL_MODE has its reset value, 0x0000_0101 (`State.reg_reset`), and the invariants speak of
empty tables and buffers. -/
theorem resetHasTheInvariants : Obligations.ResetHasTheInvariants := by
  unfold Obligations.ResetHasTheInvariants
  have hreg : State.reset.dev.reg .GBL_MODE = 0x101 := State.reg_reset .GBL_MODE 0 0
  have hgf : ∀ f : Fld, f.reg = .GBL_MODE → State.reset.dev.gf f = bits 0x101 f.lo f.width := fun f hf => by
    rw [Dev.gf, hf, hreg]
  refine ⟨State.channelsOk_reset, State.hb_ok_reset, rfl, hreg, ?_, ?_, ?_⟩
  · exact (hgf F.GBL_MODE_MODE rfl).trans (by decide)
  · exact (hgf F.GBL_MODE_CAUSE rfl).trans (by decide)
  · exact (hgf F.GBL_MODE_PREV rfl).trans (by decide)

end Sys2Proof.Machine
end

section
/-! PROOFS. `Obligations.ModeRequests`: requests for a mode (R29, Tables 1.6 and 1.7; log entry 9). -/

namespace Sys2Proof.Machine

/-! ### What Table 1.6 allows -/

section
variable (d : Dev)

theorem Dev.requestOk_run : d.requestOk 5 = true ↔ d.mode = mDeep ∨ ((d.mode = mQuiet ∨ d.mode = mHold) ∧
    d.pin.holdN = true ∧ d.tMax < d.tjCrit ∧ d.level ≠ 5) := by
  simp [Dev.requestOk, Dev.runBarred, and_assoc]

theorem Dev.requestOk_quiet : d.requestOk 6 = true ↔ d.mode = mRun := by simp [Dev.requestOk]

theorem Dev.requestOk_hold : d.requestOk 7 = true ↔ d.mode = mRun ∨ d.mode = mQuiet := by simp [Dev.requestOk]

theorem Dev.requestOk_deepHold : d.requestOk 8 = true ↔ (d.mode = mRun ∨ d.mode = mQuiet ∨ d.mode = mHold) ∧
    d.swapActive = false := by
  simp [Dev.requestOk, Dev.ready, or_assoc]

theorem Dev.requestOk_test : d.requestOk 10 = true ↔ (d.mode = mRun ∨ d.mode = mDormant) ∧ d.lcState = 2 ∧
    d.gf F.SEC_DBG_LEVEL = 3 := by
  simp [Dev.requestOk, and_assoc]

end

/-! ### What becomes of a request -/

/-- The requests for a mode, each with the mode it asks for. -/
def modeReqs : List (Instr × Nat) := [(.reqRun, 5), (.reqQuiet, 6), (.reqHold, 7), (.reqDeepHold, 8), (.reqTest, 10)]

theorem exec_modeRequest {c : Instr} {r : Nat} (h : (c, r) ∈ modeReqs) (s : State) :
    exec c s = .next (s.act fun d => d.request r) := by
  fin_cases h <;> rfl

theorem modeRequest_known {c : Instr} {r : Nat} (h : (c, r) ∈ modeReqs) :
    (!(r == 5 || r == 6 || r == 7 || r == 8 || r == 10)) = false := by
  fin_cases h <;> rfl

theorem Dev.request_of_pending {d : Dev} (h : d.gf F.GBL_MODE_REQ_ST = 1) (r : Nat) : d.request r = d.notice 0x75 0x10 := by
  simp [Dev.request, h]

/-- A request that the governor holds from now on. -/
def Dev.heldFor (d : Dev) (r : Nat) : Dev := { d with gov := { d.gov with pend := r } }.sf F.GBL_MODE_REQ_ST 0 0 1

/-- A write of GBL_MODE.REQ_ST leaves MODE and SEQ alone. -/
theorem Dev.mode_sf_reqSt (d : Dev) (v : Nat) : (d.sf F.GBL_MODE_REQ_ST 0 0 v).mode = d.mode :=
  d.gf_sf_bits v rfl (by decide)

theorem Dev.seq_sf_reqSt (d : Dev) (v : Nat) : (d.sf F.GBL_MODE_REQ_ST 0 0 v).gf F.GBL_MODE_SEQ = d.gf F.GBL_MODE_SEQ :=
  d.gf_sf_bits v rfl (by decide)

theorem Dev.mode_heldFor (d : Dev) (r : Nat) : (d.heldFor r).mode = d.mode := Dev.mode_sf_reqSt _ 1

section
variable {d : Dev} {c : Instr} {r : Nat} (hr : (c, r) ∈ modeReqs) (hon : d.on = true)
  (h : d.gf F.GBL_MODE_REQ_ST ≠ 1)
include hr hon h

theorem Dev.request_of_refused (hok : d.requestOk r = false) : d.request r = d.endRequest 3 := by
  simp [Dev.request, modeRequest_known hr, h, hok, hon]

theorem Dev.request_of_allowed (hok : d.requestOk r = true) :
    (d.mode ≠ mDeep → d.request r = d.heldFor r) ∧ (d.mode = mDeep → d.request r = (d.heldFor r).deepWake) := by
  have hq : (d.heldFor r).mode = d.mode := d.mode_heldFor r
  unfold Dev.request
  rw [if_neg (by simp [modeRequest_known hr, h]), if_neg (by simp [hok, hon])]
  exact ⟨fun hm => if_neg fun he => hm (hq.symm.trans (beq_iff_eq.1 he)), fun hm => if_pos (beq_iff_eq.2 (hq.trans hm))⟩

end

/-! ### Nothing but the request changes -/

/-- The start of the wake from Deep hold changes the governor's part only. -/
theorem Dev.deepWake_eq (d : Dev) : d.deepWake = { d with gov := d.deepWake.gov } := by
  unfold Dev.deepWake
  cases d.gov.sleep with
  | none => rfl
  | some x => dsimp only; split_ifs <;> rfl

/-- A meaning written with `act` that writes GBL_MODE.REQ_ST and changes the governor's part does what its function
says. -/
theorem does_act_of_reqSt {c : Instr} {s : State} {f : Dev → Dev} {d : Dev} {g g' : Governor} {v : Nat}
    (hx : exec c s = .next (s.act f)) (hd : f s.dev = d)
    (hf : d = { ({ s.dev with gov := g } : Dev).sf F.GBL_MODE_REQ_ST 0 0 v with gov := g' }) : Does c s d := by
  refine does_act hx hd (by rw [hf]; rfl) ?_ ?_ ?_ <;> rw [hf]
  · exact Dev.mode_sf_reqSt { s.dev with gov := g } v
  · exact Dev.seq_sf_reqSt { s.dev with gov := g } v
  · exact Dev.gf_sf_reg { s.dev with gov := g } v (by decide) (by decide) (by decide) (by decide) (by decide)

/-- Settles O9: what Table 1.6 allows (`Dev.requestOk_run` and the like), and that a request is ignored, refused or held
(`Dev.request_of_pending`, `Dev.request_of_refused`, `Dev.request_of_allowed`). -/
theorem modeRequests : Obligations.ModeRequests := by
  unfold Obligations.ModeRequests
  refine ⟨fun c s hc h => ?_, fun c r s hr hon h hok => ?_, fun c r s hr hon hm h hok => ?_, fun s hm h => ?_,
    fun d => ⟨d.requestOk_run, d.requestOk_quiet, d.requestOk_hold, d.requestOk_deepHold, d.requestOk_test⟩⟩
  · obtain ⟨⟨_, r⟩, hr, rfl⟩ := List.mem_map.1 (show c ∈ modeReqs.map Prod.fst from hc)
    exact does_act_of_regs (exec_modeRequest hr s) (Dev.request_of_pending h r) (by simp)
      (s.dev.reg_notice _ _ rfl (by decide) (by decide)) (s.dev.reg_notice _ _ rfl (by decide) (by decide))
  · exact does_act_of_reqSt (exec_modeRequest hr s) (Dev.request_of_refused hr hon h hok) rfl
  · exact does_act_of_reqSt (exec_modeRequest hr s) ((Dev.request_of_allowed hr hon h hok).1 hm) rfl
  · have hr : (Instr.reqRun, 5) ∈ modeReqs := by decide
    have hon : s.dev.on = true := by simp [Dev.on, hm]
    have hok : s.dev.requestOk 5 = true := s.dev.requestOk_run.2 (.inl hm)
    exact does_act_of_reqSt (exec_modeRequest hr s) ((Dev.request_of_allowed hr hon h hok).2 hm) (Dev.deepWake_eq _)

end Sys2Proof.Machine
end

section
/-! PROOFS. `Obligations.ResetsAndHoldPin`, refuted: RESET_N low while the rail of an earlier internal reset is not good
(R372, Table 17.5; log entry 19). -/

namespace Sys2Proof.Machine

/-- Run, with GBL_RESET left by an internal reset of rail 0, and rail 0 outside its window. -/
def State.runWithoutRail0 : State :=
  State.reset.onDev fun d => (d.sf F.GBL_MODE_MODE 0 0 mRun).sf F.GBL_RESET_CAUSE 0 0 2

/-- After RESET_N low, GBL_RESET is as the restart leaves it: no channel counts in it. -/
theorem State.resetCause_resetNLow {s t : State} (hr : s.dev.pin.resetN = true) (hx : exec .resetNLow s = .next t) :
    t.dev.gf F.GBL_RESET_CAUSE =
      (({ s.dev with pin := { s.dev.pin with resetN := false } } : Dev).restartBy 1 0).gf F.GBL_RESET_CAUSE := by
  have he : exec .resetNLow s = .next (s.clearChannels.act fun d =>
      ({ d with pin := { d.pin with resetN := false } } : Dev).restartBy 1 0) := if_pos hr
  rw [he] at hx
  cases hx
  exact State.gf_act _ _ rfl (by decide) (by decide)

/-- The restart finds the device in Supply ramp with that rail not good, takes the internal reset to hold, and leaves
GBL_RESET.CAUSE at 2. -/
theorem State.resetCause_runWithoutRail0 :
    (({ State.runWithoutRail0.dev with pin := { State.runWithoutRail0.dev.pin with resetN := false } } : Dev).restartBy
      1 0).gf F.GBL_RESET_CAUSE = 2 := by
  decide +kernel

/-- Refutes O8: RESET_N low in `State.runWithoutRail0` leads to Supply ramp with GBL_RESET.CAUSE 2, where the first clause
has 1. -/
theorem not_resetsAndHoldPin : ¬ Obligations.ResetsAndHoldPin := by
  unfold Obligations.ResetsAndHoldPin
  rintro ⟨⟨hlow, -⟩, -⟩
  obtain ⟨t, hx, -, -, hcause, -⟩ := hlow State.runWithoutRail0 (by decide +kernel) (by decide +kernel) rfl
  have ht := (State.resetCause_resetNLow rfl hx).trans State.resetCause_runWithoutRail0
  exact absurd (hcause.symm.trans ht) (by decide)

end Sys2Proof.Machine
end

section
/-! PROOFS. What work on rooms, clocks, channels, strings and tickets leaves alone: the mode, the rails, the violations
seen, the readings and limits of temperature, and the requests that the governor holds. -/

namespace Sys2Proof.Machine

/-! ### The relation -/

/-- Registers that only a transition of mode, a rail, a violation or a sensor changes. -/
def calmKinds : List RK := [.GBL_MODE, .GBL_RAIL_STAT, .SEC_VSEEN, .GOV_TEMP, .GOV_TLIM]

/-- A field whose write leaves `calmKinds` and GOV_STAT.TCRIT alone. -/
def Fld.calm (f : Fld) : Bool :=
  !calmKinds.contains f.reg && (f.reg != .GOV_STAT || f.lo + f.width ≤ F.GOV_STAT_TCRIT.lo ||
    F.GOV_STAT_TCRIT.lo + F.GOV_STAT_TCRIT.width ≤ f.lo)

/-- The registers of `calmKinds` are the same in two devices. -/
def Dev.calmRegs (d d' : Dev) : Prop := ∀ k ∈ calmKinds, ∀ i j, i < 65536 → j < 256 → d'.reg k i j = d.reg k i j

/-- No mode, rail, violation or sensor has changed between two devices, and no request that the governor holds. -/
structure Dev.calm (d d' : Dev) : Prop where
  reg : d.calmRegs d'
  tcrit : d'.gf F.GOV_STAT_TCRIT = d.gf F.GOV_STAT_TCRIT
  holdN : d'.pin.holdN = d.pin.holdN
  sleep : d'.gov.sleep = d.gov.sleep
  pend : d'.gov.pend = d.gov.pend

section
variable {a b c : Dev}

theorem Dev.calm_refl (d : Dev) : d.calm d := ⟨fun _ _ _ _ _ _ => rfl, rfl, rfl, rfl, rfl⟩

theorem Dev.calm.trans (h : a.calm b) (h' : b.calm c) : a.calm c where
  reg k hk i j hi hj := (h'.reg k hk i j hi hj).trans (h.reg k hk i j hi hj)
  tcrit := h'.tcrit.trans h.tcrit
  holdN := h'.holdN.trans h.holdN
  sleep := h'.sleep.trans h.sleep
  pend := h'.pend.trans h.pend

/-- A change outside the registers, HOLD_N and the governor's requests. -/
theorem Dev.calm.unit (h : a.calm b) (hr : c.regs = b.regs) (hp : c.pin.holdN = b.pin.holdN)
    (hs : c.gov.sleep = b.gov.sleep) (hq : c.gov.pend = b.gov.pend) : a.calm c :=
  h.trans ⟨fun _ _ _ _ _ _ => by rw [Dev.reg, Dev.reg, hr], by rw [Dev.gf, Dev.gf, Dev.reg, Dev.reg, hr], hp, hs, hq⟩

theorem Dev.calmRegs.gf (h : a.calmRegs b) {f : Fld} (hf : f.reg ∈ calmKinds) {i j : Nat} (hi : i < 65536) (hj : j < 256) :
    b.gf f i j = a.gf f i j := by
  rw [Dev.gf, Dev.gf, h _ hf i j hi hj]

theorem Dev.calm.gf (h : a.calm b) {f : Fld} (hf : f.reg ∈ calmKinds) {i j : Nat} (hi : i < 65536) (hj : j < 256) :
    b.gf f i j = a.gf f i j := h.reg.gf hf hi hj

theorem Dev.calm.mode (h : a.calm b) : b.mode = a.mode := h.gf (by decide) (by decide) (by decide)

theorem Dev.calm.setReg (h : a.calm b) {k : RK} {i j : Nat} {v : Word} (hi : i < 65536) (hj : j < 256)
    (hk : k ∉ .GOV_STAT :: calmKinds) : a.calm (b.setReg k i j v) := by
  simp only [List.mem_cons (a := k) (b := .GOV_STAT), not_or] at hk
  obtain ⟨hg, hc⟩ := hk
  refine h.trans ⟨fun k' hk' i' j' hi' hj' => ?_, ?_, rfl, rfl, rfl⟩
  · exact b.reg_setReg_ne v (fun he => hc (he ▸ hk')) hi hj hi' hj'
  · exact b.gf_setReg_ne v hg hi hj (by decide) (by decide)

theorem Dev.calm.sfAt (h : a.calm b) {f : Fld} {i j v : Nat} (hi : i < 65536) (hj : j < 256) (hf : f.calm = true) :
    a.calm (b.sf f i j v) := by
  simp only [Fld.calm, Bool.and_eq_true, Bool.not_eq_true', List.contains_eq_mem, decide_eq_false_iff_not,
    Bool.or_eq_true, bne_iff_ne, decide_eq_true_eq] at hf
  obtain ⟨hc, hg⟩ := hf
  refine h.trans ⟨fun k' hk' i' j' hi' hj' => ?_, ?_, rfl, rfl, rfl⟩
  · exact b.reg_sf_ne v (fun he => hc (he ▸ hk')) hi hj hi' hj'
  · by_cases hr : f.reg = .GOV_STAT
    · by_cases hij : i = 0 ∧ j = 0
      · obtain ⟨rfl, rfl⟩ := hij
        exact b.gf_sf_bits v hr (by simpa [hr] using hg)
      · exact b.gf_sf_idx v (by omega) hi hj (by decide) (by decide)
    · exact b.gf_sf_reg v hr hi hj (by decide) (by decide)

theorem Dev.calm.sf (h : a.calm b) {f : Fld} {i v : Nat} (hi : i < 65536) (hf : f.calm = true) :
    a.calm (b.sf f i 0 v) := h.sfAt hi (by decide) hf

theorem Dev.calm.sf0 (h : a.calm b) {f : Fld} {v : Nat} (hf : f.calm = true) : a.calm (b.sf f 0 0 v) :=
  h.sf (by decide) hf

theorem Dev.calm.cnt (h : a.calm b) {f : Fld} {i n : Nat} (hi : i < 65536) (hf : f.calm = true) :
    a.calm (b.cnt f i 0 n) := h.sf hi hf

theorem Dev.calm.cntWrap0 (h : a.calm b) {f : Fld} {n : Nat} (hf : f.calm = true) : a.calm (b.cntWrap f 0 0 n) :=
  h.sf0 hf

theorem Dev.calm.err (h : a.calm b) (he : b.errOnly c) : a.calm c := by
  have hu := he.2
  refine h.trans ⟨fun k hk i j hi hj => he.1 k i j ?_ hi hj, he.gf _ _ _ rfl (by decide) (by decide), ?_, ?_, ?_⟩
  · fin_cases hk <;> rfl
  all_goals rw [hu]

theorem Dev.calm.raise (h : a.calm b) {src detail : Nat} {sev : Severity} : a.calm (b.raise src sev detail) :=
  h.err (b.errOnly_raise _ _ _)

theorem Dev.calm.notice (h : a.calm b) {src detail : Nat} : a.calm (b.notice src detail) := h.raise

theorem Dev.calm.fault (h : a.calm b) {src detail : Nat} : a.calm (b.fault src detail) := h.raise

theorem Dev.calm.noticeFree (h : a.calm b) {src : Nat} : a.calm (b.noticeFree src) :=
  (h.unit (c := { b with free := b.free + 1 }) rfl rfl rfl rfl).err (Dev.errOnly_raise _ _ _ _)

theorem Dev.calm.faultFree (h : a.calm b) {src : Nat} : a.calm (b.faultFree src) :=
  (h.unit (c := { b with free := b.free + 1 }) rfl rfl rfl rfl).err (Dev.errOnly_raise _ _ _ _)

theorem Dev.calm.ite {p : Prop} [Decidable p] (h : p → a.calm b) (h' : ¬ p → a.calm c) : a.calm (if p then b else c) := by
  split_ifs with hp
  · exact h hp
  · exact h' hp

theorem Dev.calm.when (h : a.calm b) {p : Bool} {f : Dev → Dev} (hf : ∀ d, Dev.calm d (f d)) : a.calm (b.when p f) :=
  Dev.calm.ite (fun _ => h.trans (hf b)) (fun _ => h)

theorem Dev.calm.each {α : Type} (h : a.calm b) {l : List α} {f : Dev → α → Dev}
    (hf : ∀ d, ∀ x ∈ l, Dev.calm d (f d x)) :
    a.calm (b.each l f) :=
  List.foldlRecOn l f (motive := fun t => a.calm t) h fun t ht x hx => ht.trans (hf t x hx)

end

end Sys2Proof.Machine
end

section
/-! PROOFS. Operations on rooms, strings, queues, players, PLLs and the Cellar leave alone what `Dev.calm` names. -/

namespace Sys2Proof.Machine

section
variable {a b : Dev} (h : a.calm b) {n : Nat}
include h

/-! ### Units -/

theorem Dev.calm.onRoom {f : Room → Room} : a.calm (b.onRoom n f) := h.unit rfl rfl rfl rfl
theorem Dev.calm.onStr {f : StringS → StringS} : a.calm (b.onStr n f) := h.unit rfl rfl rfl rfl
theorem Dev.calm.onQueue {f : Queue → Queue} : a.calm (b.onQueue n f) := h.unit rfl rfl rfl rfl
theorem Dev.calm.free {u : Nat} : a.calm { b with free := u } := h.unit rfl rfl rfl rfl
theorem Dev.calm.cfg {x : CfgCtl} : a.calm { b with cfg := x } := h.unit rfl rfl rfl rfl
theorem Dev.calm.sec {x : Security} : a.calm { b with sec := x } := h.unit rfl rfl rfl rfl
theorem Dev.calm.ev {x : EventCore} : a.calm { b with ev := x } := h.unit rfl rfl rfl rfl

/-! ### Rooms -/

theorem Dev.calm.setKeepRegs (hn : n < 65536) {l : List Word} : a.calm (b.setKeepRegs n l) :=
  h.each fun d k hk => d.calm_refl.setReg hn ((List.mem_range.1 hk).trans (by decide)) (by decide)

theorem Dev.calm.dropPark (hn : n < 65536) : a.calm (b.dropPark n) := by
  unfold Dev.dropPark
  have hkeep : ∀ m : Dev, a.calm m → a.calm (if m.pstate n == 1 || m.pstate n == 3 then
      (m.sf F.GOV_ROOM_PSTATE n 0 0).onRoom n (fun r => { r with saved := none }) else m) :=
    fun m hm => Dev.calm.ite (fun _ => hm.sf hn rfl |>.onRoom) (fun _ => hm)
  refine hkeep _ ?_
  split
  · exact h.setKeepRegs hn
  · exact h

theorem Dev.calm.takeClass (hn : n < 65536) : a.calm (b.takeClass n) := by
  unfold Dev.takeClass
  cases (b.room n).newClass with
  | none => exact h
  | some c => exact h.sf hn rfl |>.onRoom

theorem Dev.calm.respond {p : Packet} {st : Nat} {l : List (BitVec 64)} : a.calm (b.respond p st l) :=
  h.unit rfl rfl rfl rfl

theorem Dev.calm.borderAnswer (hn : n < 65536) {e : Nat} (he : e < 256) {p : Packet} {busy : Bool} :
    a.calm (b.borderAnswer n e p busy) := h.respond.sfAt hn he rfl

theorem Dev.calm.flushEndpoint (hn : n < 65536) {e : Nat} (he : e < 256) {busy : Bool} :
    a.calm (b.flushEndpoint n e busy) := h.onRoom.each fun d _ _ => d.calm_refl.borderAnswer hn he

theorem Dev.calm.dropDelivery (hn : n < 65536) {p : Nat} : a.calm (b.dropDelivery n p) :=
  Dev.calm.ite (fun _ => h) fun _ => h.onRoom.cnt hn rfl |>.notice

theorem Dev.calm.abortPackets : a.calm (b.abortPackets n) := h.unit rfl rfl rfl rfl

theorem Dev.calm.roomReset (hn : n < 65536) {busy : Bool} : a.calm (b.roomReset n busy) := by
  have hep : ∀ (d : Dev), ∀ e ∈ List.range 4, Dev.calm d (d.flushEndpoint n e busy) := fun d e he =>
    d.calm_refl.flushEndpoint hn ((List.mem_range.1 he).trans (by decide))
  exact h.onRoom.each hep |>.dropDelivery hn |>.dropDelivery hn |>.abortPackets

theorem Dev.calm.resetAllRooms : a.calm b.resetAllRooms :=
  h.each fun d n hn => by
    have hn := (roomIds_lt hn).trans (by decide : 64 < 65536)
    exact d.calm_refl.dropPark hn |>.takeClass hn |>.roomReset hn |>.onRoom

theorem Dev.calm.roomResult (hn : n < 65536) {r src : Nat} : a.calm (b.roomResult n r src) :=
  h.sf hn rfl |>.sf hn rfl |>.sf hn rfl

theorem Dev.calm.dropLoad (hn : n < 65536) {r src : Nat} : a.calm (b.dropLoad n r src) := by
  unfold Dev.dropLoad
  cases (b.room n).load with
  | none => exact h
  | some l =>
    have hstate : a.calm (if l.active then
        (b.onRoom n fun r => { r with load := none }).sf F.ROOM_PLANE_STAT_ACT_STATE n 0 actDown
        else (b.onRoom n fun r => { r with load := none }).sf F.ROOM_PLANE_STAT_SH_STATE n 0 shInvalid) :=
      Dev.calm.ite (fun _ => h.onRoom.sf hn rfl) (fun _ => h.onRoom.sf hn rfl)
    exact Dev.calm.ite (fun _ => hstate) (fun _ => hstate.roomResult hn)

theorem Dev.calm.dropSwap (hn : n < 65536) {r : Nat} : a.calm (b.dropSwap n r) :=
  Dev.calm.ite (fun _ => h.onRoom.sf hn rfl |>.roomResult hn) (fun _ => h)

theorem Dev.calm.abandonRooms : a.calm b.abandonRooms :=
  h.each fun d n hn => by
    have hn := (roomIds_lt hn).trans (by decide : 64 < 65536)
    exact d.calm_refl.dropLoad hn |>.dropSwap hn

/-! ### The Cellar, checks and the re-apply -/

theorem Dev.calm.takeFree : a.calm b.takeFree.2 := h.free

theorem Dev.calm.cellarSpoil {x k : Nat} : a.calm (b.cellarSpoil x k) := h.unit rfl rfl rfl rfl

theorem Dev.calm.cellarErase {x k : Nat} : a.calm (b.cellarErase x k) := h.unit rfl rfl rfl rfl

theorem Dev.calm.cellarStore {x : Nat} {l : List (BitVec 8)} : a.calm (b.cellarStore x l) := h.unit rfl rfl rfl rfl

theorem Dev.calm.renewCopy {x : Nat} : a.calm (b.renewCopy x) := h.cellarErase.cellarStore.cfg

theorem Dev.calm.interruptCw {w : CwWork} : a.calm (b.interruptCw w) :=
  Dev.calm.ite (fun _ => h.cellarSpoil) fun _ => Dev.calm.ite (fun _ => h.cellarSpoil) fun _ =>
    Dev.calm.ite (fun _ => h.takeFree) fun _ => Dev.calm.ite (fun _ => h.takeFree.cellarSpoil) fun _ =>
      h.takeFree.renewCopy.cellarSpoil

theorem Dev.calm.cwStat {x r : Nat} : a.calm (b.cwStat x r) := h.sf0 rfl |>.sf0 rfl |>.sf0 rfl

theorem Dev.calm.abandonCw : a.calm b.abandonCw := by
  unfold Dev.abandonCw
  cases b.cfg.cw with
  | none => exact h
  | some w =>
    exact Dev.calm.ite (fun _ => h.cfg.interruptCw.sf0 rfl |>.sf0 rfl)
      (fun _ => h.cfg.interruptCw.sf0 rfl |>.sf0 rfl |>.cwStat) |>.fault

theorem Dev.calm.abandonChecks : a.calm b.abandonChecks :=
  Dev.calm.ite (fun _ => h) fun _ => h.cfg.sf0 rfl |>.sf0 rfl

theorem Dev.calm.endReapply {r : Nat} : a.calm (b.endReapply r) := by
  unfold Dev.endReapply
  cases b.cfg.reapply with
  | none => exact h
  | some x => exact h.cfg.sf0 rfl |>.sf0 rfl |>.sf0 rfl |>.sf0 rfl

/-! ### Queues, players, PLLs -/

omit h in
theorem Dev.lt_of_mem_liveQueues (d : Dev) {q : Nat} (hq : q ∈ d.liveQueues) : q < 65536 := by
  obtain ⟨e, -, he⟩ := List.mem_filterMap.1 (List.mem_filter.1 hq).1
  dsimp only at he
  split_ifs at he
  cases he
  omega

theorem Dev.calm.stopQueue (hn : n < 65536) : a.calm (b.stopQueue n) :=
  Dev.calm.ite (fun _ => h.onQueue.sf hn rfl) (fun _ => h)

theorem Dev.calm.stopAllQueues : a.calm b.stopAllQueues :=
  h.each fun d _ hq => d.calm_refl.stopQueue (b.lt_of_mem_liveQueues hq)

theorem Dev.calm.allOff : a.calm b.allOff := h.ev

theorem Dev.calm.onPlayer {f : Player → Player} : a.calm (b.onPlayer n f) :=
  Dev.calm.ite (fun _ => h.ev) fun _ => Dev.calm.ite (fun _ => h.ev) fun _ =>
    Dev.calm.ite (fun _ => h.ev) fun _ => h.ev

theorem Dev.calm.idlePlayers : a.calm b.idlePlayers :=
  h.each fun d k hk => by
    have hk := (List.mem_range.1 hk).trans (by decide : 4 < 65536)
    exact d.calm_refl.sf hk rfl |>.sf hk rfl |>.onPlayer

theorem Dev.calm.endRamp (hn : n < 65536) {r x : Nat} : a.calm (b.endRamp n r x) :=
  h.sf hn rfl |>.sf hn rfl |>.sf hn rfl |>.sf hn rfl |>.sf hn rfl

theorem Dev.calm.haltRamp (hn : n < 65536) {r : Nat} : a.calm (b.haltRamp n r) :=
  Dev.calm.ite (fun _ => h.takeFree.endRamp hn) (fun _ => h)

theorem Dev.calm.stopRamps {r : Nat} : a.calm (b.stopRamps r) :=
  h.each fun d n hn => by
    have hn := (List.mem_range.1 hn).trans (by decide : 8 < 65536)
    exact d.calm_refl.haltRamp hn

/-! ### The security monitor -/

theorem Dev.calm.setLevel {g : Nat} : a.calm (b.setLevel g) := h.sec.sf0 rfl

theorem Dev.calm.barRespond : a.calm b.barRespond := Dev.calm.ite (fun _ => h.sec) (fun _ => h)

/-! ### Strings -/

theorem Dev.calm.abandonTraining (hn : n < 65536) : a.calm (b.abandonTraining n) :=
  h.onStr.sf hn rfl |>.sf hn rfl |>.sf hn rfl |>.sf hn rfl

theorem Dev.calm.stringDown (hn : n < 65536) : a.calm (b.stringDown n) := by
  unfold Dev.stringDown
  exact Dev.calm.ite (fun _ => h.abandonTraining hn) (fun _ => h) |>.sf hn rfl |>.onStr

theorem Dev.calm.stringAlarm (hn : n < 65536) : a.calm (b.stringAlarm n) :=
  Dev.calm.ite (fun _ => h) fun _ => Dev.calm.ite (fun _ => h.stringDown hn) fun _ =>
    (h.when fun d => d.calm_refl.abandonTraining hn).onStr

end

end Sys2Proof.Machine
end

section
/-! PROOFS. Power and rails (R30, R363, R370, R372, R373): transitions of mode, loss and return of VCC_AO, and the rails
by themselves. -/

namespace Sys2Proof.Machine

/-! ### A transition of mode -/

section
variable (d : Dev) {m : Nat} (c : Nat)

theorem Dev.mode_putMode (hm : m < 16) : (d.putMode m c).mode = m :=
  (Dev.gf_sf _ _ _ _ _ (by decide)).trans (Nat.mod_eq_of_lt hm)

theorem Dev.cause_putMode (hc : c < 256) : (d.putMode m c).gf F.GBL_MODE_CAUSE = c := by
  unfold Dev.putMode
  dsimp only
  rw [Dev.gf_sf_bits (f := F.GBL_MODE_MODE) (g := F.GBL_MODE_CAUSE) _ _ rfl (by decide), Dev.gf_sf _ _ _ _ _ (by decide)]
  exact Nat.mod_eq_of_lt hc

theorem Dev.prev_putMode : (d.putMode m c).gf F.GBL_MODE_PREV = d.mode := by
  unfold Dev.putMode
  dsimp only
  rw [Dev.gf_sf_bits (f := F.GBL_MODE_MODE) (g := F.GBL_MODE_PREV) _ _ rfl (by decide),
    Dev.gf_sf_bits (f := F.GBL_MODE_CAUSE) (g := F.GBL_MODE_PREV) _ _ rfl (by decide), Dev.gf_sf _ _ _ _ _ (by decide)]
  exact Nat.mod_eq_of_lt (d.gf_lt _ 0 0)

theorem Dev.keepsRegs_putMode : d.keepsRegs (d.putMode m c) [(.GBL_MODE, 0, 0)] :=
  ((((d.keepsRegs_refl _).sf (by decide) (by decide) (by decide)).sf (by decide) (by decide) (by decide)).sf (by decide)
    (by decide) (by decide)).sf (by decide) (by decide) (by decide)

end

/-- What a change of the device does in the state depends only on the device it gives. -/
theorem State.act_eq {s : State} {f : Dev → Dev} {d : Dev} (h : f s.dev = d) : s.act f = s.act fun _ => d := by
  subst h
  rfl

/-- What a meaning written with `act` yields is what `act` makes of the device that its function gives. -/
theorem yields_act {c : Instr} {s : State} {f : Dev → Dev} {d : Dev} {P : State → Prop} (hx : exec c s = .next (s.act f))
    (hd : f s.dev = d) (hp : P (s.act fun _ => d)) : Yields c s P := ⟨_, hx, by rwa [State.act_eq hd]⟩

theorem State.mode_act (s : State) (f : Dev → Dev) : (s.act f).dev.mode = (f s.dev).mode :=
  s.gf_act f rfl (by decide) (by decide)

/-- Without power and in Supply ramp the host bus target is at its reset state. -/
theorem State.hb_act_of_reset (s : State) (f : Dev → Dev) (h : (f s.dev).mode = mOff ∨ (f s.dev).mode = mRamp) :
    (s.act f).hb = {} := by
  have hm : ((s.onDev f).syncRooms s.dev).dev.mode = (f s.dev).mode :=
    ((s.onDev f).nchOnly_syncRooms s.dev).gf _ 0 0 rfl (by decide) (by decide)
  unfold State.act State.syncHost
  dsimp only
  rw [if_pos (by simpa [hm] using h)]

/-! ### VCC_AO -/

/-- The reset of the security monitor changes its registers and its state, of which the life-cycle copies stay. -/
theorem Dev.secReset_eq (d : Dev) (kf kb : Bool) :
    d.secReset kf kb = { d with regs := (d.secReset kf kb).regs, sec := { lcCopies := d.sec.lcCopies } } := by
  unfold Dev.secReset
  cases kf <;> cases kb <;> rfl

section
variable (d : Dev) (bat : Bool)

theorem Dev.mode_unpowered : (d.unpowered bat).mode = mOff := by
  simp only [Dev.mode, Dev.gf, Dev.unpowered, Dev.reg_setReg]
  rfl

theorem Dev.rooms_unpowered : (d.unpowered bat).rooms = [] := by
  simp only [Dev.unpowered]
  rw [Dev.rooms_setReg, Dev.secReset_eq]
  rfl

theorem Dev.cellar_unpowered : (d.unpowered bat).cfg.cellar = d.cfg.cellar := by
  simp only [Dev.unpowered]
  rw [Dev.cfg_setReg, Dev.secReset_eq]
  rfl

theorem Dev.lcCopies_unpowered : (d.unpowered bat).sec.lcCopies = d.sec.lcCopies := by
  simp only [Dev.unpowered]
  rw [Dev.sec_setReg, Dev.secReset_eq]
  rfl

end

theorem vccAoGood_off (s : State) (h : s.dev.on = false) : ∃ t, exec .vccAoGood s = .next t ∧ t.dev.mode = mRamp ∧
    t.dev.gf F.GBL_MODE_CAUSE = 1 ∧ t.dev.gf F.GBL_MODE_PREV = mOff ∧ t.dev.cfg.cellar = s.dev.cfg.cellar ∧
    t.dev.sec.lcCopies = s.dev.sec.lcCopies := by
  have hup : ∃ d : Dev, ∃ ok : Bool, s.dev.powerUp = (d.setReg .GBL_MODE 0 0 0x101).sf F.SEC_TAMP_VBAT_OK 0 0 (b2n ok) ∧
      d.cfg.cellar = s.dev.cfg.cellar ∧ d.sec.lcCopies = s.dev.sec.lcCopies := by
    unfold Dev.powerUp
    rw [if_neg (by simp [h])]
    exact ⟨_, _, rfl, Dev.cellar_unpowered _ _, Dev.lcCopies_unpowered _ _⟩
  obtain ⟨d, ok, hup, hcellar, hcopies⟩ := hup
  have hmode : ∀ f : Fld, f.reg = .GBL_MODE → (s.act Dev.powerUp).dev.gf f = bits 0x101 f.lo f.width := fun f hf => by
    rw [State.gf_act _ _ (by rw [hf]; rfl) (by decide) (by decide), hup,
      Dev.gf_sf_reg _ _ (by rw [hf]; decide) (by decide) (by decide) (by decide) (by decide), Dev.gf, hf, Dev.reg_setReg]
  refine ⟨_, rfl, (hmode _ rfl).trans (by decide), (hmode _ rfl).trans (by decide), (hmode _ rfl).trans (by decide), ?_, ?_⟩
  · rw [State.cfg_act, hup]
    exact hcellar
  · rw [State.sec_act, hup]
    exact hcopies

theorem does_vccAoGood_on (s : State) (h : s.dev.on = true) : Does .vccAoGood s s.dev :=
  does_act_of_regs rfl (if_pos h) rfl rfl rfl

theorem vccAoLoss_on (s : State) (h : s.dev.on = true) : ∃ t, exec .vccAoLoss s = .next t ∧ t.dev.mode = mOff ∧
    t.dev.rooms = [] ∧ t.hb = {} := by
  have hmode : s.clearChannels.dev.powerOff.mode = mOff := Dev.mode_unpowered _ _
  refine ⟨s.clearChannels.act Dev.powerOff, if_pos h, ?_, ?_, State.hb_act_of_reset _ _ (.inl hmode)⟩
  · rw [State.mode_act, hmode]
  · rw [State.rooms_act]
    exact Dev.rooms_unpowered _ _

theorem vccAoLoss_off (s : State) (h : s.dev.on = false) : exec .vccAoLoss s = .next s := if_neg (by simp [h])

end Sys2Proof.Machine
end

section
/-! PROOFS. Rails that become good or leave their window (R363, R370, R373, R405), where no violation arises. -/

namespace Sys2Proof.Machine

/-! ### The supply of a bank -/

/-- The device once rail `r` has become good: the supply of a bank, whose mismatch falls. -/
def Dev.supplied (d : Dev) (r : Nat) : Dev :=
  if 10 ≤ r then (d.setVccio (r - 10) true).sf F.IOB_STAT_MISMATCH (r - 10) 0 0 else d

/-- The device once rail `r` has left its window: a bank without a mismatch has no supply. -/
def Dev.unsupplied (d : Dev) (r : Nat) : Dev :=
  if 10 ≤ r ∧ d.gb F.IOB_STAT_MISMATCH (r - 10) = false then d.setVccio (r - 10) false else d

section
variable (d : Dev) (r : Nat)

theorem Dev.unsupplied_eq : d.unsupplied r = { d with pin := (d.unsupplied r).pin } := by
  unfold Dev.unsupplied
  split_ifs <;> rfl

theorem Dev.supplied_eq : d.supplied r = { d with pin := (d.supplied r).pin, regs := (d.supplied r).regs } := by
  unfold Dev.supplied
  split_ifs <;> rfl

theorem Dev.keepsRegs_supplied (hr : r < 28) : d.keepsRegs (d.supplied r) [(.IOB_STAT, r - 10, 0)] := by
  unfold Dev.supplied
  split_ifs with h
  · have hp : d.keepsRegs (d.setVccio (r - 10) true) [(.IOB_STAT, r - 10, 0)] := d.keepsRegs_refl _
    exact hp.sf (by simp) (by omega) (by decide)
  · exact d.keepsRegs_refl _

end

/-! ### A rail that becomes good -/

/-- The device with rail `r` good. -/
def Dev.railUp (d : Dev) (r : Nat) : Dev :=
  (d.supplied r).sf F.GBL_RAIL_STAT_GOOD 0 0 (d.gf F.GBL_RAIL_STAT_GOOD ||| 2 ^ r)

section
variable (d : Dev) {r : Nat} (hr : r < 28)
include hr

theorem Dev.gf_supplied {f : Fld} (hf : f.reg ≠ .IOB_STAT) : (d.supplied r).gf f = d.gf f :=
  (d.keepsRegs_supplied r hr).gf (by simp [hf]) (by decide) (by decide)

theorem Dev.keepsRegs_railUp : d.keepsRegs (d.railUp r) [(.IOB_STAT, r - 10, 0), (.GBL_RAIL_STAT, 0, 0)] :=
  ((d.keepsRegs_supplied r hr).mono (by simp)).sf (by simp) (by decide) (by decide)

theorem Dev.gf_railUp {f : Fld} (hf : f.reg ≠ .IOB_STAT) (hg : f.reg ≠ .GBL_RAIL_STAT) : (d.railUp r).gf f = d.gf f :=
  (d.keepsRegs_railUp hr).gf (by simp [hf, hg]) (by decide) (by decide)

theorem Dev.mode_railUp : (d.railUp r).mode = d.mode := d.gf_railUp hr (by decide) (by decide)

omit hr in
theorem Dev.sec_railUp : (d.railUp r).sec = d.sec := by
  rw [Dev.railUp, Dev.sec_sf, Dev.supplied_eq]

omit hr in
theorem Dev.rooms_railUp : (d.railUp r).rooms = d.rooms := by
  rw [Dev.railUp, Dev.rooms_sf, Dev.supplied_eq]

theorem Dev.railGood_railUp : (d.railUp r).railGood r = true := by
  have hlt : d.gf F.GBL_RAIL_STAT_GOOD < 2 ^ 28 := d.gf_lt _ 0 0
  have hor : d.gf F.GBL_RAIL_STAT_GOOD ||| 2 ^ r < 2 ^ 28 :=
    Nat.or_lt_two_pow hlt (Nat.pow_lt_pow_right (by decide) hr)
  unfold Dev.railUp Dev.railGood
  rw [Dev.gf_sf _ _ _ _ _ (by decide), Nat.mod_eq_of_lt hor]
  simp [bitOf]

theorem Dev.railIn_off (h : d.on = false) : d.railIn r = d.supplied r := by
  have hon : (d.supplied r).on = false := by
    rw [← h, Dev.on, Dev.on, Dev.mode, d.gf_supplied hr (by decide)]
    rfl
  have hw : d.when (decide (10 ≤ r)) (fun d => (d.setVccio (r - 10) true).sf F.IOB_STAT_MISMATCH (r - 10) 0 0) =
      d.supplied r := by simp [Dev.when, Dev.supplied]
  unfold Dev.railIn
  rw [hw]
  exact if_pos (by simp [hon])

theorem Dev.railIn_on (h : d.on = true) : d.railIn r =
    (if r = 4 && (d.railUp r).mode != mRamp then (d.railUp r).startErase else d.railUp r).tryStart := by
  have hon : (d.supplied r).on = true := by
    rw [← h, Dev.on, Dev.on, Dev.mode, d.gf_supplied hr (by decide)]
    rfl
  have hw : d.when (decide (10 ≤ r)) (fun d => (d.setVccio (r - 10) true).sf F.IOB_STAT_MISMATCH (r - 10) 0 0) =
      d.supplied r := by simp [Dev.when, Dev.supplied]
  unfold Dev.railIn
  rw [hw]
  dsimp only
  rw [if_neg (by simp [hon]), d.gf_supplied hr (by decide)]
  rfl

end

theorem Dev.tryStart_of_not (d : Dev) (h : d.mode ≠ mRamp ∨ d.rampDone = false ∨ d.sec.resetHeld = true) :
    d.tryStart = d := by
  unfold Dev.tryStart
  rcases h with h | h | h <;> simp [h]

theorem Dev.startErase_of_not (d : Dev) (h : d.gb F.SEC_KEYS_ERASE_PENDING = false ∨ d.secWorking = true) :
    d.startErase = d := by
  unfold Dev.startErase
  rcases h with h | h <;> simp [h]

theorem does_railGood_off (r : Fin 28) (s : State) (h : s.dev.on = false) :
    Does (.railGood r) s (s.dev.supplied r) := by
  have hk := s.dev.keepsRegs_supplied r r.2
  refine does_act_of_regs rfl (s.dev.railIn_off r.2 h) ?_ (hk _ _ _ (by decide) (by decide) (by simp))
    (hk _ _ _ (by decide) (by decide) (by simp))
  rw [Dev.supplied_eq]

theorem does_railGood_on (r : Fin 28) (s : State) (h : s.dev.on = true)
    (hramp : s.dev.mode ≠ mRamp ∨ (s.dev.railUp r).rampDone = false ∨ s.dev.sec.resetHeld = true)
    (herase : r ≠ 4 ∨ s.dev.mode = mRamp ∨ s.dev.gb F.SEC_KEYS_ERASE_PENDING = false ∨ s.dev.secWorking = true) :
    Does (.railGood r) s (s.dev.railUp r) := by
  have hk := s.dev.keepsRegs_railUp r.2
  have hsec := s.dev.sec_railUp (r := r)
  have hnot : (if r.val = 4 && (s.dev.railUp r).mode != mRamp then (s.dev.railUp r).startErase else s.dev.railUp r) =
      s.dev.railUp r := by
    rw [s.dev.mode_railUp r.2]
    rcases herase with hr | hm | hp | hw
    · exact if_neg (by simp [show r.val ≠ 4 from fun he => hr (Fin.ext he)])
    · exact if_neg (by simp [hm])
    · have hp' : (s.dev.railUp r).gb F.SEC_KEYS_ERASE_PENDING = false := by
        rw [← hp, Dev.gb, Dev.gb, s.dev.gf_railUp r.2 (by decide) (by decide)]
      rw [Dev.startErase_of_not _ (.inl hp'), ite_self]
    · have hw' : (s.dev.railUp r).secWorking = true := by rw [Dev.secWorking, hsec]; exact hw
      rw [Dev.startErase_of_not _ (.inr hw'), ite_self]
  refine does_act_of_regs rfl ?_ s.dev.rooms_railUp (hk _ _ _ (by decide) (by decide) (by simp))
    (hk _ _ _ (by decide) (by decide) (by simp))
  rw [Dev.railIn_on _ r.2 h, hnot]
  refine Dev.tryStart_of_not _ ?_
  rw [s.dev.mode_railUp r.2, hsec]
  exact hramp

/-! ### The erase that waits for rail 4 (R363) -/

section
variable (d : Dev)

theorem Dev.keepsKinds_zeroKeys : d.keepsKinds d.zeroKeys [.SEC_KEYS, .SEC_IDK_HASH] := by
  unfold Dev.zeroKeys
  refine Dev.keepsKinds.trans ?_ (Dev.keepsKinds_foldl _ _ _ (fun d k hk => ?_) _)
  · exact ((d.keepsKinds_refl _).sf (by decide) (by decide) (by decide)).sf (by decide) (by decide) (by decide)
  · exact d.keepsKinds_setReg _ (by decide) (by have := List.mem_range.1 hk; omega) (by decide)

theorem Dev.sec_clearHash (l : List Nat) : (l.foldl (fun d k => d.setReg .SEC_IDK_HASH k 0 0) d).sec = d.sec := by
  induction l generalizing d with
  | nil => rfl
  | cons k l ih => rw [List.foldl_cons, ih, Dev.sec_setReg]

theorem Dev.sec_zeroKeys : d.zeroKeys.sec = { d.sec with keyIdk := none, keyImg := none } := by
  unfold Dev.zeroKeys
  dsimp only
  rw [Dev.sec_clearHash]
  rfl

theorem Dev.keepsKinds_startErase : d.keepsKinds d.startErase [.SEC_KEYS, .SEC_IDK_HASH, .SEC_LCS] := by
  unfold Dev.startErase
  refine Dev.keepsKinds.ite ?_ (d.keepsKinds_refl _)
  have hz : d.keepsKinds { d.zeroKeys with sec := { d.zeroKeys.sec with erasing := true } }
      [.SEC_KEYS, .SEC_IDK_HASH, .SEC_LCS] := (d.keepsKinds_zeroKeys.mono (by simp)).of_regs rfl
  exact hz.sf (by decide) (by decide) (by decide)

theorem Dev.startErase_of_pending (hp : d.gb F.SEC_KEYS_ERASE_PENDING = true) (hv : d.railGood 4 = true)
    (hw : d.secWorking = false) : d.startErase.gf F.SEC_LCS_BUSY = 1 ∧
      d.startErase.sec = { d.sec with keyIdk := none, keyImg := none, erasing := true } := by
  have hv' : d.vppGood = true := hv
  unfold Dev.startErase Dev.setSecBusy
  rw [if_pos (by simp [hp, hv', hw])]
  dsimp only
  rw [Dev.gf_sf _ _ _ _ _ (by decide), Dev.sec_sf, Dev.sec_zeroKeys]
  refine ⟨?_, rfl⟩
  simp [Dev.secWorking, b2n]

end

theorem railGood_erases (s : State) (hon : s.dev.on = true) (hm : s.dev.mode ≠ mRamp)
    (hp : s.dev.gb F.SEC_KEYS_ERASE_PENDING = true) (hw : s.dev.secWorking = false) :
    Yields (.railGood 4) s (fun t => t.dev.railGood 4 = true ∧ t.dev.sec.erasing = true ∧ t.dev.gf F.SEC_LCS_BUSY = 1 ∧
      t.dev.sec.keyIdk = none ∧ t.dev.sec.keyImg = none ∧ t.dev.mode = s.dev.mode) := by
  have h4 : 4 < 28 := by decide
  have hmode := s.dev.mode_railUp h4
  have hp' : (s.dev.railUp 4).gb F.SEC_KEYS_ERASE_PENDING = true := by
    rw [← hp, Dev.gb, Dev.gb, s.dev.gf_railUp h4 (by decide) (by decide)]
  have hw' : (s.dev.railUp 4).secWorking = false := by rw [Dev.secWorking, Dev.sec_railUp]; exact hw
  obtain ⟨hbusy, hsec⟩ := Dev.startErase_of_pending _ hp' (s.dev.railGood_railUp h4) hw'
  have hk := (s.dev.railUp 4).keepsKinds_startErase
  have hmode' : (s.dev.railUp 4).startErase.mode = s.dev.mode :=
    (hk.gf (by decide) (by decide) (by decide)).trans hmode
  have hin : s.dev.railIn 4 = (s.dev.railUp 4).startErase := by
    rw [Dev.railIn_on _ h4 hon, if_pos (by simp [hmode, hm]), Dev.tryStart_of_not _ (.inl (hmode' ▸ hm))]
  refine yields_act rfl hin ⟨?_, ?_, ?_, ?_, ?_, ?_⟩
  · rw [Dev.railGood, State.gf_act _ _ rfl (by decide) (by decide), hk.gf (by decide) (by decide) (by decide)]
    exact s.dev.railGood_railUp h4
  · rw [State.sec_act, hsec]
  · rw [State.gf_act _ _ rfl (by decide) (by decide), hbusy]
  · rw [State.sec_act, hsec]
  · rw [State.sec_act, hsec]
  · rw [State.mode_act, hmode']

end Sys2Proof.Machine
end

section
/-! PROOFS. Violation V0 (R361 to R363, R373): what it records, entry into Alarm, and the erase. -/

namespace Sys2Proof.Machine

/-! ### Entry into Alarm -/

section
variable (d : Dev)

theorem Dev.reg_refusePending {k : RK} (hk : k ≠ .GBL_MODE) {i j : Nat} (hi : i < 65536) (hj : j < 256) :
    d.refusePending.reg k i j = d.reg k i j := by
  unfold Dev.refusePending
  split_ifs
  · rfl
  · exact Dev.reg_sf_ne _ _ hk.symm (by decide) (by decide) hi hj

theorem Dev.reg_abandonSleep {k : RK} (hk : k ≠ .GOV_SLEEP_STAT) {i j : Nat} (hi : i < 65536) (hj : j < 256) :
    d.abandonSleep.reg k i j = d.reg k i j := Dev.reg_sf_ne _ _ hk.symm (by decide) (by decide) hi hj

/-- What entry into Alarm does after the sleep handshake is abandoned, up to the transition itself. -/
def Dev.alarmStops : Dev :=
  ((((((d.abandonChecks.endReapply 4).stopAllQueues.allOff).idlePlayers).stopRamps 2).setLevel 0).barRespond.each
    (List.range 64) Dev.stringAlarm).resetAllRooms

theorem Dev.enterAlarm_eq (c : Nat) :
    d.enterAlarm c = d.refusePending.abandonRooms.abandonCw.abandonSleep.alarmStops.putMode mAlarm c := rfl

theorem Dev.calm_alarmStops : d.calm d.alarmStops := by
  have hstop := d.calm_refl.abandonChecks.endReapply (r := 4) |>.stopAllQueues.allOff.idlePlayers.stopRamps (r := 2)
    |>.setLevel (g := 0) |>.barRespond
  refine (hstop.each fun d s hs => ?_).resetAllRooms
  exact d.calm_refl.stringAlarm (by have := List.mem_range.1 hs; omega)

/-- Entry into Alarm leaves alone what is calm, but for GBL_MODE. -/
theorem Dev.reg_enterAlarm (c : Nat) {k : RK} (hk : k ∈ calmKinds) (hm : k ≠ .GBL_MODE) :
    (d.enterAlarm c).reg k 0 0 = d.reg k 0 0 := by
  have hrooms : d.refusePending.calm d.refusePending.abandonRooms.abandonCw := (Dev.calm_refl _).abandonRooms.abandonCw
  rw [Dev.enterAlarm_eq, Dev.keepsRegs_putMode _ _ _ _ _ (by decide) (by decide) (by simp [hm]),
    (Dev.calm_alarmStops _).reg k hk 0 0 (by decide) (by decide),
    Dev.reg_abandonSleep _ (fun he => absurd (he ▸ hk) (by decide)) (by decide) (by decide),
    hrooms.reg k hk 0 0 (by decide) (by decide), d.reg_refusePending hm (by decide) (by decide)]

end

/-! ### What a violation records -/

section
variable (d : Dev)

theorem Dev.errOnly_raiseAll (l : List (Nat × Severity × Nat)) : d.errOnly (d.raiseAll l) :=
  List.foldlRecOn _ _ (motive := fun t => d.errOnly t) d.errOnly_refl fun t ht _ _ => ht.trans (t.errOnly_raise _ _ _)

theorem Dev.keepsRegs_recordViol (v pol detail : Nat) :
    d.keepsRegs (d.recordViol v pol detail) [(.SEC_VSEEN, 0, 0), (.SEC_VIOL, 0, 0)] := by
  have hseen := (d.keepsRegs_refl [(.SEC_VSEEN, 0, 0), (.SEC_VIOL, 0, 0)]).sf (f := F.SEC_VSEEN_SEEN) (i := 0) (j := 0)
    (v := d.gf F.SEC_VSEEN_SEEN ||| 2 ^ v) (by decide) (by decide) (by decide)
  unfold Dev.recordViol
  dsimp only
  split_ifs
  · exact hseen
  · exact (((hseen.sf (by decide) (by decide) (by decide)).sf (by decide) (by decide) (by decide)).sf (by decide)
      (by decide) (by decide)).sf (by decide) (by decide) (by decide)

theorem Dev.seen_recordViol (v pol detail : Nat) (hv : v < 7) :
    (d.recordViol v pol detail).gf F.SEC_VSEEN_SEEN = d.gf F.SEC_VSEEN_SEEN ||| 2 ^ v := by
  have hlt : d.gf F.SEC_VSEEN_SEEN ||| 2 ^ v < 2 ^ F.SEC_VSEEN_SEEN.width :=
    Nat.or_lt_two_pow (d.gf_lt _ 0 0) (Nat.pow_lt_pow_right (by decide) hv)
  have hseen : (d.sf F.SEC_VSEEN_SEEN 0 0 (d.gf F.SEC_VSEEN_SEEN ||| 2 ^ v)).gf F.SEC_VSEEN_SEEN =
      d.gf F.SEC_VSEEN_SEEN ||| 2 ^ v := by
    rw [Dev.gf_sf _ _ _ _ _ (by decide), Nat.mod_eq_of_lt hlt]
  unfold Dev.recordViol
  dsimp only
  split_ifs
  · exact hseen
  · iterate 4 rw [Dev.gf_sf_reg _ _ (by decide) (by decide) (by decide) (by decide) (by decide)]
    exact hseen

theorem Dev.keepsKinds_eraseNow : d.keepsKinds d.eraseNow [.SEC_KEYS, .SEC_IDK_HASH, .SEC_LCS] :=
  ((((d.keepsKinds_refl _).sf (by decide) (by decide) (by decide)).trans (Dev.keepsKinds_zeroKeys _)).mono
    (by simp)).trans (Dev.keepsKinds_startErase _)

/-! ### Violation V0 -/

/-- V0 recorded and logged, before its policy acts. -/
def Dev.supplyLogged (r : Nat) : Dev :=
  (d.recordViol 0 (d.policy 0) r).raiseAll [(0x10, if d.policy 0 = 0 then Severity.notice else .alarm, r)]

/-- The transition that the policy of V0 asks for. -/
def Dev.supplyAnswered (r : Nat) : Dev :=
  let e := d.supplyLogged r
  if d.policy 0 = 0 || e.mode == mAlarm || e.mode == mDormant then e
  else e.enterAlarm (if d.policy 0 = 1 then 0x12 else 0x13)

theorem Dev.violate_supply (r : Nat) (hoff : d.mode ≠ mOff) (hramp : d.mode ≠ mRamp) :
    d.violate [(0, r)] = if 2 ≤ d.policy 0 then (d.supplyAnswered r).eraseNow else d.supplyAnswered r := by
  unfold Dev.violate
  rw [if_neg (by simp [hoff, hramp])]
  simp only [List.foldl_cons, List.foldl_nil, Nat.zero_max, List.map_cons, List.map_nil, Nat.add_zero]
  rfl

theorem Dev.reg_supplyLogged (r : Nat) {k : RK} (hk : k.isErr = false) (h : k ≠ .SEC_VSEEN) (h' : k ≠ .SEC_VIOL) :
    (d.supplyLogged r).reg k 0 0 = d.reg k 0 0 := by
  rw [Dev.supplyLogged, (Dev.errOnly_raiseAll _ _).1 _ _ _ hk (by decide) (by decide)]
  exact d.keepsRegs_recordViol _ _ _ _ _ _ (by decide) (by decide) (by simp [h, h'])

theorem Dev.seen_supplyLogged (r : Nat) : (d.supplyLogged r).gf F.SEC_VSEEN_SEEN = d.gf F.SEC_VSEEN_SEEN ||| 1 := by
  rw [Dev.supplyLogged, (Dev.errOnly_raiseAll _ _).gf _ _ _ rfl (by decide) (by decide)]
  exact d.seen_recordViol 0 _ _ (by decide)

theorem Dev.mode_supplyLogged (r : Nat) : (d.supplyLogged r).mode = d.mode := by
  rw [Dev.mode, Dev.gf, d.reg_supplyLogged r rfl (by decide) (by decide)]
  rfl

/-- What V0 leaves alone or records, whatever its policy: the rails, and itself among those seen. -/
theorem Dev.rails_supplyAnswered (r : Nat) :
    (d.supplyAnswered r).gf F.GBL_RAIL_STAT_GOOD = d.gf F.GBL_RAIL_STAT_GOOD ∧
      (d.supplyAnswered r).gf F.SEC_VSEEN_SEEN = d.gf F.SEC_VSEEN_SEEN ||| 1 := by
  have hlog : (d.supplyLogged r).gf F.GBL_RAIL_STAT_GOOD = d.gf F.GBL_RAIL_STAT_GOOD := by
    rw [Dev.gf, Dev.gf, d.reg_supplyLogged r rfl (by decide) (by decide)]
  unfold Dev.supplyAnswered
  dsimp only
  split_ifs
  · exact ⟨hlog, d.seen_supplyLogged r⟩
  all_goals
    refine ⟨?_, ?_⟩
    · rw [← hlog, Dev.gf, Dev.gf, Dev.reg_enterAlarm _ _ (by decide) (by decide)]
    · rw [← d.seen_supplyLogged r, Dev.gf, Dev.gf, Dev.reg_enterAlarm _ _ (by decide) (by decide)]

theorem Dev.mode_supplyAnswered_of_passed (r : Nat) (h : d.policy 0 = 0 ∨ d.mode = mAlarm ∨ d.mode = mDormant) :
    (d.supplyAnswered r).mode = d.mode := by
  unfold Dev.supplyAnswered
  dsimp only
  rw [if_pos (by simpa [d.mode_supplyLogged, or_assoc] using h), d.mode_supplyLogged]

theorem Dev.mode_supplyAnswered_of_alarm (r : Nat) (h : ¬(d.policy 0 = 0 ∨ d.mode = mAlarm ∨ d.mode = mDormant)) :
    (d.supplyAnswered r).mode = mAlarm ∧
      (d.supplyAnswered r).gf F.GBL_MODE_CAUSE = if d.policy 0 = 1 then 0x12 else 0x13 := by
  unfold Dev.supplyAnswered
  dsimp only
  rw [if_neg (by simpa [d.mode_supplyLogged, or_assoc] using h), Dev.enterAlarm_eq]
  exact ⟨Dev.mode_putMode _ _ (by decide), Dev.cause_putMode _ _ (by split_ifs <;> decide)⟩

/-- The erase that policy ERASE adds changes none of the registers that V0 speaks of. -/
theorem Dev.gf_violate_supply (r : Nat) (hoff : d.mode ≠ mOff) (hramp : d.mode ≠ mRamp) {f : Fld}
    (hf : f.reg ∉ [.SEC_KEYS, .SEC_IDK_HASH, .SEC_LCS]) : (d.violate [(0, r)]).gf f = (d.supplyAnswered r).gf f := by
  rw [d.violate_supply r hoff hramp]
  split_ifs
  · exact (Dev.keepsKinds_eraseNow _).gf hf (by decide) (by decide)
  · rfl

end

end Sys2Proof.Machine
end

section
/-! PROOFS. Rails that leave their window (R373), and `Obligations.PowerAndRails`. -/

namespace Sys2Proof.Machine

/-! ### A rail that leaves its window -/

/-- The device with rail `r` out of its window: no violation has arisen yet. -/
def Dev.railLeft (d : Dev) (r : Nat) : Dev :=
  ((d.unsupplied r).railDown r).sf F.GBL_RAIL_SEEN_LEFT 0 0 (d.gf F.GBL_RAIL_SEEN_LEFT ||| 2 ^ r)

section
variable (d : Dev) (r : Nat)

theorem Dev.gf_unsupplied (f : Fld) (i j : Nat) : (d.unsupplied r).gf f i j = d.gf f i j := by
  rw [Dev.unsupplied_eq]
  rfl

theorem Dev.regs_unsupplied : (d.unsupplied r).regs = d.regs := by rw [Dev.unsupplied_eq]

theorem Dev.railLeft_eq : d.railLeft r = { d with pin := (d.railLeft r).pin, regs := (d.railLeft r).regs } := by
  rw [Dev.railLeft, Dev.unsupplied_eq]
  rfl

theorem Dev.keepsRegs_railLeft : d.keepsRegs (d.railLeft r) [(.GBL_RAIL_STAT, 0, 0), (.GBL_RAIL_SEEN, 0, 0)] := by
  have hs : d.keepsRegs (d.unsupplied r) [(.GBL_RAIL_STAT, 0, 0), (.GBL_RAIL_SEEN, 0, 0)] := fun _ _ _ _ _ _ => by
    rw [Dev.reg, Dev.reg, d.regs_unsupplied]
  exact (hs.sf (by decide) (by decide) (by decide)).sf (by decide) (by decide) (by decide)

theorem Dev.gf_railLeft {f : Fld} {i j : Nat} (hf : f.reg ∉ [.GBL_RAIL_STAT, .GBL_RAIL_SEEN]) (hi : i < 65536)
    (hj : j < 256) : (d.railLeft r).gf f i j = d.gf f i j := by
  simp only [List.mem_cons, List.not_mem_nil, or_false, not_or] at hf
  exact (d.keepsRegs_railLeft r).gf (by simp [hf.1, hf.2]) hi hj

theorem Dev.mode_railLeft : (d.railLeft r).mode = d.mode := d.gf_railLeft r (by decide) (by decide) (by decide)

theorem Dev.railGood_railLeft : (d.railLeft r).railGood r = false := by
  have hg : (d.railLeft r).railGood r = ((d.unsupplied r).railDown r).railGood r := by
    rw [Dev.railGood, Dev.railGood, Dev.railLeft,
      Dev.gf_sf_reg _ _ (by decide) (by decide) (by decide) (by decide) (by decide)]
  simp [hg, Dev.railGood_railDown]

/-- Whether a block is in use does not depend on its rail. -/
theorem Dev.railUsed_railLeft (hr : r < 28) : (d.railLeft r).railUsed r = d.railUsed r := by
  have hk : ∀ f : Fld, ∀ i, f.reg ∉ [.GBL_RAIL_STAT, .GBL_RAIL_SEEN] → i < 65536 → (d.railLeft r).gf f i = d.gf f i :=
    fun f i hf hi => d.gf_railLeft r hf hi (by decide)
  have hany : ∀ (k : Nat) (p q : Nat → Bool), (∀ n < k, p n = q n) → (List.range k).any p = (List.range k).any q :=
    fun k p q h => by
      rw [Bool.eq_iff_iff, List.any_eq_true, List.any_eq_true]
      exact exists_congr fun n => and_congr_right fun hn => by rw [h n (List.mem_range.1 hn)]
  unfold Dev.railUsed
  refine if_congr Iff.rfl rfl (if_congr Iff.rfl ?_ (if_congr Iff.rfl ?_ (if_congr Iff.rfl ?_ (if_congr Iff.rfl ?_ rfl))))
  · refine hany 4 _ _ fun n hn => ?_
    simp only [Dev.dramState, hk F.DRC_STAT_STATE n (by decide) (by omega)]
  · refine hany 64 _ _ fun n hn => ?_
    simp only [Dev.gb, hk F.STG_CFG_EN n (by decide) (by omega)]
  · refine congrArg₂ or (congrArg₂ or ?_ (hany 4 _ _ fun n hn => ?_)) (hany 8 _ _ fun n hn => ?_)
    · simp only [Dev.gb, hk F.HBT_CFG_EN 0 (by decide) (by decide)]
    · simp only [Dev.gb, hk F.EVT_ANG_CFG_EN n (by decide) (by omega)]
    · simp only [Dev.gb, hk F.PLL_OUT_EN n (by decide) (by omega)]
  · simp only [hk F.IOB_CFG_STD (r - 10) (by decide) (by omega)]

theorem Dev.when_unsupplied : d.when (decide (10 ≤ r) && !d.gb F.IOB_STAT_MISMATCH (r - 10))
    (fun d => d.setVccio (r - 10) false) = d.unsupplied r := by
  simp [Dev.when, Dev.unsupplied]

theorem Dev.railOut_of_down (h : d.railGood r = false) : d.railOut r = d.unsupplied r := by
  unfold Dev.railOut
  rw [d.when_unsupplied]
  exact if_pos (by simpa [Dev.railGood, d.gf_unsupplied] using h)

theorem Dev.railOut_of_good (h : d.railGood r = true) : d.railOut r =
    if (if r = 4 then (d.railLeft r).abandonCw else d.railLeft r).railUsed r then
      (if r = 4 then (d.railLeft r).abandonCw else d.railLeft r).violate [(0, r)]
    else if r = 4 then (d.railLeft r).abandonCw else d.railLeft r := by
  unfold Dev.railOut
  rw [d.when_unsupplied]
  dsimp only
  rw [if_neg (by simpa [Dev.railGood, d.gf_unsupplied] using h), d.gf_unsupplied]
  rfl

end

theorem does_railOut_of_down (r : Fin 28) (s : State) (h : s.dev.railGood r = false) :
    Does (.railLeavesWindow r) s (s.dev.unsupplied r) := by
  refine does_act_of_regs rfl (s.dev.railOut_of_down r h) ?_ ?_ ?_ <;> rw [Dev.unsupplied_eq] <;> rfl

theorem does_railOut_of_unused (r : Fin 28) (s : State) (h : s.dev.railGood r = true) (hcw : r ≠ 4 ∨ s.dev.cfg.cw = none)
    (hu : s.dev.railUsed r = false) : Does (.railLeavesWindow r) s (s.dev.railLeft r) := by
  have hk := s.dev.keepsRegs_railLeft r
  have hcell : (if r.val = 4 then (s.dev.railLeft r).abandonCw else s.dev.railLeft r) = s.dev.railLeft r := by
    rcases hcw with hr | hcw
    · exact if_neg fun he => hr (Fin.ext he)
    · have hnone : (s.dev.railLeft r).cfg.cw = none := by rw [Dev.railLeft_eq]; exact hcw
      have hsame : (s.dev.railLeft r).abandonCw = s.dev.railLeft r := by rw [Dev.abandonCw, hnone]
      rw [hsame, ite_self]
  refine does_act_of_regs rfl ?_ ?_ (hk _ _ _ (by decide) (by decide) (by simp)) (hk _ _ _ (by decide) (by decide) (by simp))
  · rw [Dev.railOut_of_good _ _ h, hcell, if_neg (by simp [s.dev.railUsed_railLeft r r.2, hu])]
  · rw [Dev.railLeft_eq]

/-! ### VPP_CEL and a Cellar write -/

theorem Dev.cw_cellarSpoil (d : Dev) (a n : Nat) : (d.cellarSpoil a n).cfg.cw = d.cfg.cw := rfl

theorem Dev.cw_cellarErase (d : Dev) (a n : Nat) : (d.cellarErase a n).cfg.cw = d.cfg.cw := rfl

theorem Dev.cw_cellarStore (d : Dev) (a : Nat) (l : List (BitVec 8)) : (d.cellarStore a l).cfg.cw = d.cfg.cw := rfl

theorem Dev.cw_journal (d : Dev) (j : Option Journal) :
    ({ d with cfg := { d.cfg with journal := j } } : Dev).cfg.cw = d.cfg.cw := rfl

theorem Dev.cw_renewCopy (d : Dev) (a : Nat) : (d.renewCopy a).cfg.cw = d.cfg.cw := by
  unfold Dev.renewCopy
  rw [Dev.cw_journal, Dev.cw_cellarStore, Dev.cw_cellarErase]

theorem Dev.cw_ite {d a b : Dev} {p : Prop} [Decidable p] (ha : a.cfg.cw = d.cfg.cw) (hb : b.cfg.cw = d.cfg.cw) :
    (if p then a else b).cfg.cw = d.cfg.cw := by
  split_ifs
  · exact ha
  · exact hb

theorem Dev.cw_interruptCw (d : Dev) (w : CwWork) : (d.interruptCw w).cfg.cw = d.cfg.cw := by
  unfold Dev.interruptCw
  refine Dev.cw_ite (d.cw_cellarSpoil _ _) (Dev.cw_ite (d.cw_cellarSpoil _ _) (Dev.cw_ite rfl (Dev.cw_ite ?_ ?_)))
  · exact d.takeFree.2.cw_cellarSpoil _ _
  · exact (Dev.cw_cellarSpoil _ _ _).trans (d.takeFree.2.cw_renewCopy _)

/-- A Cellar write of CFG_CW_CTRL that is abandoned ends with RESULT ABANDONED. -/
theorem Dev.abandonCw_of_write {d : Dev} {w : CwWork} (hcw : d.cfg.cw = some w) (hw : w.ticket = false) :
    d.abandonCw.cfg.cw = none ∧ d.abandonCw.gf F.CFG_STATUS_BUSY = 0 ∧ d.abandonCw.gf F.CFG_CW_STAT_DONE = 1 ∧
      d.abandonCw.gf F.CFG_CW_STAT_RESULT = 5 := by
  obtain ⟨e, he, hc⟩ : ∃ e : Dev, d.abandonCw = ((e.sf F.CFG_STATUS_BUSY 0 0 0).cwStat w.addr 5).fault 0x0D w.addr ∧
      e.cfg.cw = none := by
    unfold Dev.abandonCw
    rw [hcw]
    dsimp only
    rw [if_neg (by simp [hw])]
    exact ⟨_, rfl, by rw [Dev.cfg_sf, Dev.cw_interruptCw]⟩
  have hf : ∀ f : Fld, f.reg.isErr = false → d.abandonCw.gf f = ((e.sf F.CFG_STATUS_BUSY 0 0 0).cwStat w.addr 5).gf f :=
    fun f h => by rw [he]; exact (Dev.errOnly_raise _ _ _ _).gf _ _ _ h (by decide) (by decide)
  refine ⟨?_, ?_, ?_, ?_⟩
  · rw [he, Dev.cfg_fault]
    exact hc
  · rw [hf _ rfl]
    unfold Dev.cwStat
    iterate 3 rw [Dev.gf_sf_reg _ _ (by decide) (by decide) (by decide) (by decide) (by decide)]
    exact Dev.gf_sf _ _ _ _ _ (by decide)
  · rw [hf _ rfl]
    unfold Dev.cwStat
    rw [Dev.gf_sf_bits (f := F.CFG_CW_STAT_CYCLES) (g := F.CFG_CW_STAT_DONE) _ _ rfl (by decide),
      Dev.gf_sf_bits (f := F.CFG_CW_STAT_RESULT) (g := F.CFG_CW_STAT_DONE) _ _ rfl (by decide)]
    exact Dev.gf_sf _ _ _ _ _ (by decide)
  · rw [hf _ rfl]
    unfold Dev.cwStat
    rw [Dev.gf_sf_bits (f := F.CFG_CW_STAT_CYCLES) (g := F.CFG_CW_STAT_RESULT) _ _ rfl (by decide)]
    exact Dev.gf_sf _ _ _ _ _ (by decide)

theorem Dev.railUsed_four (d : Dev) : d.railUsed 4 = false := rfl

theorem railOut_abandons (w : CwWork) (s : State) (h : s.dev.railGood 4 = true) (hcw : s.dev.cfg.cw = some w)
    (hw : w.ticket = false) : Yields (.railLeavesWindow 4) s (fun t => t.dev.railGood 4 = false ∧ t.dev.cfg.cw = none ∧
      t.dev.gf F.CFG_STATUS_BUSY = 0 ∧ t.dev.gf F.CFG_CW_STAT_DONE = 1 ∧ t.dev.gf F.CFG_CW_STAT_RESULT = 5) := by
  have hout : s.dev.railOut 4 = (s.dev.railLeft 4).abandonCw := by
    rw [Dev.railOut_of_good _ _ h, if_neg (by rw [Dev.railUsed_four]; decide)]
    rfl
  have hcw' : (s.dev.railLeft 4).cfg.cw = some w := by rw [Dev.railLeft_eq]; exact hcw
  obtain ⟨hnone, hbusy, hdone, hresult⟩ := Dev.abandonCw_of_write hcw' hw
  have hgood : (s.dev.railLeft 4).abandonCw.gf F.GBL_RAIL_STAT_GOOD = (s.dev.railLeft 4).gf F.GBL_RAIL_STAT_GOOD :=
    (Dev.calm_refl _).abandonCw.gf (by decide) (by decide) (by decide)
  refine yields_act rfl hout ⟨?_, by rw [State.cfg_act, hnone], ?_, ?_, ?_⟩
  · rw [Dev.railGood, State.gf_act _ _ rfl (by decide) (by decide), hgood]
    exact s.dev.railGood_railLeft 4
  all_goals rwa [State.gf_act _ _ rfl (by decide) (by decide)]

/-! ### A rail in use -/

theorem railOut_violates (r : Fin 28) (s : State) (h : s.dev.railGood r = true) (hr : r ≠ 4)
    (hu : s.dev.railUsed r = true) (hon : s.dev.on = true) (hm : s.dev.mode ≠ mRamp) :
    Yields (.railLeavesWindow r) s (fun t => t.dev.railGood r = false ∧
      t.dev.gf F.SEC_VSEEN_SEEN = s.dev.gf F.SEC_VSEEN_SEEN ||| 1 ∧
      (if s.dev.policy 0 = 0 ∨ s.dev.mode = mAlarm ∨ s.dev.mode = mDormant then t.dev.mode = s.dev.mode
       else t.dev.mode = mAlarm ∧ t.dev.gf F.GBL_MODE_CAUSE = (if s.dev.policy 0 = 1 then 0x12 else 0x13))) := by
  have hr4 : ¬r.val = 4 := fun he => hr (Fin.ext he)
  have hout : s.dev.railOut r = (s.dev.railLeft r).violate [(0, r.val)] := by
    rw [Dev.railOut_of_good _ _ h, if_neg hr4, if_pos (by rw [s.dev.railUsed_railLeft r r.2, hu])]
  have hmode := s.dev.mode_railLeft r
  have hpol : (s.dev.railLeft r).policy 0 = s.dev.policy 0 := by
    rw [Dev.policy, Dev.policy, s.dev.gf_railLeft r (by decide) (by decide) (by decide)]
  have hseen : (s.dev.railLeft r).gf F.SEC_VSEEN_SEEN = s.dev.gf F.SEC_VSEEN_SEEN :=
    s.dev.gf_railLeft r (by decide) (by decide) (by decide)
  have hgf : ∀ f : Fld, f.reg.isNch = false → f.reg ∉ [.SEC_KEYS, .SEC_IDK_HASH, .SEC_LCS] →
      (s.act fun _ => (s.dev.railLeft r).violate [(0, r.val)]).dev.gf f = ((s.dev.railLeft r).supplyAnswered r).gf f :=
    fun f hn hf => by
      rw [State.gf_act _ _ hn (by decide) (by decide)]
      exact (s.dev.railLeft r).gf_violate_supply r (by rw [hmode]; simpa [Dev.on] using hon) (hmode ▸ hm) hf
  obtain ⟨hgood, hsv⟩ := (s.dev.railLeft r).rails_supplyAnswered r
  refine yields_act rfl hout ⟨?_, ?_, ?_⟩
  · rw [Dev.railGood, hgf _ rfl (by decide), hgood]
    exact s.dev.railGood_railLeft r
  · rw [hgf _ rfl (by decide), hsv, hseen]
  · have hm' : (s.act fun _ => (s.dev.railLeft r).violate [(0, r.val)]).dev.mode =
        ((s.dev.railLeft r).supplyAnswered r).mode := hgf _ rfl (by decide)
    rw [hm', hgf F.GBL_MODE_CAUSE rfl (by decide), ← hmode, ← hpol]
    split_ifs with hp hone
    · exact (s.dev.railLeft r).mode_supplyAnswered_of_passed r hp
    all_goals
      have ha := (s.dev.railLeft r).mode_supplyAnswered_of_alarm r hp
      simpa [hone] using ha

/-! ### The statement -/

/-- Settles O7: VCC_AO (`vccAoGood_off`, `vccAoLoss_on`), rails that become good (`does_railGood_on`, `railGood_erases`)
and rails that leave their window (`does_railOut_of_unused`, `railOut_abandons`, `railOut_violates`). -/
theorem powerAndRails : Obligations.PowerAndRails := by
  unfold Obligations.PowerAndRails
  exact ⟨vccAoGood_off, does_vccAoGood_on, vccAoLoss_on, vccAoLoss_off,
    fun r s => ⟨does_railGood_off r s, does_railGood_on r s⟩, railGood_erases, does_railOut_of_down,
    does_railOut_of_unused, railOut_abandons, railOut_violates⟩

end Sys2Proof.Machine
end

section
/-! PROOFS. The AVSBus (R308 to R310) with no sleep handshake under way. -/

namespace Sys2Proof.Machine

/-! ### An exchange that fails (R310) -/

/-- The device with the exchange ended and its failure shown. -/
def Dev.avsLost (d : Dev) : Dev := (d.avsDone.sf F.GOV_STAT_AVS_FAIL 0 0 1).faultFree 0x22

/-- The governor's count of failed raises after exchange `w` has failed. -/
def Governor.failed (g : Governor) (w : AvsWork) : Governor :=
  if !w.raise then g
  else if w.rail = 0 then { g with raiseFails := g.raiseFails + 1, capped := g.capped || decide (2 ≤ g.raiseFails) }
  else { g with sramFails := (if g.sramGoal = w.target then g.sramFails else 0) + 1, sramGoal := w.target }

section
variable (g : Governor) (w : AvsWork)

theorem Governor.sleep_failed : (g.failed w).sleep = g.sleep := by
  unfold Governor.failed
  split_ifs <;> rfl

theorem Governor.avs_failed : (g.failed w).avs = g.avs := by
  unfold Governor.failed
  split_ifs <;> rfl

theorem Governor.vccSram_failed : (g.failed w).vccSram = g.vccSram := by
  unfold Governor.failed
  split_ifs <;> rfl

/-- The rooms are capped after the third failed raise of VCC, and stay so. -/
theorem Governor.capped_failed (h : g.capped = true ∨ (w.rail = 0 ∧ w.raise = true ∧ 2 ≤ g.raiseFails)) :
    (g.failed w).capped = true := by
  unfold Governor.failed
  rcases h with h | ⟨hr, hw, hf⟩
  · split_ifs <;> simp [h]
  · simp [hr, hw, hf]

end

section
variable (d : Dev) (w : AvsWork)

theorem Dev.gov_avsLost : d.avsLost.gov = { d.gov with avs := none } := by
  rw [Dev.avsLost, Dev.gov_faultFree]
  rfl

theorem Dev.avsFail_eq : d.avsFail w = { d.avsLost with gov := d.avsLost.gov.failed w } := by
  unfold Dev.avsFail Governor.failed
  dsimp only
  rw [← Dev.avsLost]
  split_ifs <;> rfl

theorem Dev.gov_avsFail : (d.avsFail w).gov = ({ d.gov with avs := none } : Governor).failed w := by
  rw [Dev.avsFail_eq, Dev.gov_avsLost]

theorem Dev.gf_avsFail {f : Fld} (hf : f.reg.isErr = false) :
    (d.avsFail w).gf f = (d.avsDone.sf F.GOV_STAT_AVS_FAIL 0 0 1).gf f := by
  rw [Dev.avsFail_eq]
  exact Dev.gf_faultFree _ _ hf (by decide) (by decide)

theorem Dev.busy_avsFail : (d.avsFail w).gf F.GOV_STAT_AVS_BUSY = 0 := by
  rw [d.gf_avsFail w rfl, Dev.gf_sf_bits (f := F.GOV_STAT_AVS_FAIL) (g := F.GOV_STAT_AVS_BUSY) _ _ rfl (by decide)]
  exact Dev.gf_sf _ _ _ _ _ (by decide)

theorem Dev.fail_avsFail : (d.avsFail w).gf F.GOV_STAT_AVS_FAIL = 1 :=
  (d.gf_avsFail w rfl).trans (Dev.gf_sf _ _ _ _ _ (by decide))

theorem Dev.vccSet_avsFail : (d.avsFail w).gf F.GOV_STAT_VCC_SET = d.gf F.GOV_STAT_VCC_SET := by
  rw [d.gf_avsFail w rfl, Dev.gf_sf_bits (f := F.GOV_STAT_AVS_FAIL) (g := F.GOV_STAT_VCC_SET) _ _ rfl (by decide),
    Dev.avsDone, Dev.gf_sf_bits (f := F.GOV_STAT_AVS_BUSY) (g := F.GOV_STAT_VCC_SET) _ _ rfl (by decide)]
  rfl

end

/-! ### The end of an exchange -/

section
variable {d : Dev}

theorem Dev.sleepVolt_of_awake (h : d.gov.sleep = none) : d.sleepVolt = d := by rw [Dev.sleepVolt, h]

theorem Dev.wakeVolt_of_awake (h : d.gov.sleep = none) : d.wakeVolt = d := by rw [Dev.wakeVolt, h]

theorem Dev.sleep_avsOk (d : Dev) (w : AvsWork) : (d.avsOk w).gov.sleep = d.gov.sleep := by
  unfold Dev.avsOk
  dsimp only
  split_ifs <;> rfl

theorem Dev.sleep_avsFail (d : Dev) (w : AvsWork) : (d.avsFail w).gov.sleep = d.gov.sleep := by
  rw [Dev.gov_avsFail]
  exact Governor.sleep_failed _ _

theorem Dev.avsEnd_of_awake (h : d.gov.sleep = none) (w : AvsWork) :
    d.avsEnd w true = d.avsOk w ∧ d.avsEnd w false = d.avsFail w := by
  have hok : (d.avsOk w).gov.sleep = none := (d.sleep_avsOk w).trans h
  constructor
  · exact (congrArg Dev.sleepVolt (Dev.wakeVolt_of_awake hok)).trans (Dev.sleepVolt_of_awake hok)
  · exact Dev.sleepVolt_of_awake ((d.sleep_avsFail w).trans h)

end

/-- The voltage of an exchange is confirmed. -/
def Dev.avsConfirmed (d : Dev) (w : AvsWork) : Dev :=
  let e := (d.sf F.GOV_STAT_AVS_BUSY 0 0 0).sf F.GOV_STAT_AVS_FAIL 0 0 0
  if w.rail = 0 then
    { e with gov := { d.gov with avs := none, raiseFails := 0, capped := false } }.sf F.GOV_STAT_VCC_SET 0 0 w.target
  else { e with gov := { d.gov with avs := none, vccSram := w.target, sramFails := 0 } }

theorem Dev.avsOk_eq (d : Dev) (w : AvsWork) : d.avsOk w = d.avsConfirmed w := rfl

theorem Dev.reg_avsConfirmed (d : Dev) (w : AvsWork) {k : RK} (hg : k ≠ .GOV_STAT) :
    (d.avsConfirmed w).reg k 0 0 = d.reg k 0 0 := by
  have he : ((d.sf F.GOV_STAT_AVS_BUSY 0 0 0).sf F.GOV_STAT_AVS_FAIL 0 0 0).reg k 0 0 = d.reg k 0 0 := by
    rw [Dev.reg_sf_ne _ _ hg.symm (by decide) (by decide) (by decide) (by decide),
      Dev.reg_sf_ne _ _ hg.symm (by decide) (by decide) (by decide) (by decide)]
  unfold Dev.avsConfirmed
  dsimp only
  split_ifs
  · exact (Dev.reg_sf_ne _ _ hg.symm (by decide) (by decide) (by decide) (by decide)).trans he
  · exact he

theorem Dev.rooms_avsConfirmed (d : Dev) (w : AvsWork) : (d.avsConfirmed w).rooms = d.rooms := by
  unfold Dev.avsConfirmed
  dsimp only
  split_ifs <;> rfl

/-- The exchange once a voltage has been read: near its target or not. -/
def AvsWork.judged (w : AvsWork) (d : Dev) (v : BitVec 16) : AvsWork :=
  { w with crcErr := false, near :=
      decide (w.target ≤ v.toNat + d.gf F.GOV_AVS_TOL ∧ v.toNat ≤ w.target + d.gf F.GOV_AVS_TOL) }

/-! ### Responses -/

section
variable {d : Dev} {w : AvsWork} (hw : d.gov.avs = some w)
include hw

theorem Dev.avsResponse_ack (hwr : w.written = false) : d.avsResponse .writeAck true =
    { d with gov := { d.gov with avs := some { w with crcErr := false, written := true } } } := by
  simp [Dev.avsResponse, hw, hwr]

theorem Dev.avsResponse_status (hwr : w.written = true) (hv : w.voltage = false) (done : Bool) :
    d.avsResponse (.status done) true = d.avsRead { w with crcErr := false, done := done } := by
  simp [Dev.avsResponse, hw, hwr, hv]

theorem Dev.avsResponse_voltage (hwr : w.written = true) (hv : w.voltage = true) (v : BitVec 16) :
    d.avsResponse (.voltage v) true = d.avsRead (w.judged d v) := by
  simp [Dev.avsResponse, AvsWork.judged, hw, hwr, hv]

theorem Dev.avsResponse_crc (f : AvsFrame) : d.avsResponse f false = if w.crcErr then d.avsEnd w false
    else { d with gov := { d.gov with avs := some { w with crcErr := true } } } := by
  unfold Dev.avsResponse
  rw [hw]
  rfl

theorem Dev.avsTimeout_eq : d.avsTimeout = if d.gf F.GOV_AVS_TO ≤ w.cycles then d.avsEnd w false else d := by
  rw [Dev.avsTimeout, hw]

end

/-- A response that changes the governor's part only. -/
theorem does_avsResponse_gov {s : State} {f : AvsFrame} {ok : Bool} {g : Governor}
    (h : s.dev.avsResponse f ok = { s.dev with gov := g }) : Does (.avsResponse f ok) s { s.dev with gov := g } :=
  does_act_of_regs rfl h rfl rfl rfl

theorem Dev.avsRead_of_near {d : Dev} {w : AvsWork} (h : (w.done && w.near) = true) (hs : d.gov.sleep = none) :
    d.avsRead w = d.avsConfirmed w := by
  rw [Dev.avsRead, if_pos h, (Dev.avsEnd_of_awake hs w).1, Dev.avsOk_eq]

theorem Dev.avsRead_of_far {d : Dev} {w : AvsWork} (h : (w.done && w.near) = false) :
    d.avsRead w = { d with gov := { d.gov with avs := some { w with voltage := !w.voltage } } } :=
  if_neg (by simp [h])

theorem avs_confirms (f : AvsFrame) (v : BitVec 16) (w : AvsWork) (s : State) (hw : s.dev.gov.avs = some w)
    (hs : s.dev.gov.sleep = none) (hwr : w.written = true)
    (hf : (f = .status true ∧ w.voltage = false ∧ w.near = true) ∨ (f = .voltage v ∧ w.voltage = true ∧ w.done = true ∧
      w.target ≤ v.toNat + s.dev.gf F.GOV_AVS_TOL ∧ v.toNat ≤ w.target + s.dev.gf F.GOV_AVS_TOL)) :
    Does (.avsResponse f true) s (s.dev.avsConfirmed w) := by
  refine does_act_of_regs rfl ?_ (s.dev.rooms_avsConfirmed w) (s.dev.reg_avsConfirmed w (by decide))
    (s.dev.reg_avsConfirmed w (by decide))
  rcases hf with ⟨rfl, hv, hn⟩ | ⟨rfl, hv, hd, hn⟩
  · exact (Dev.avsResponse_status hw hwr hv true).trans (Dev.avsRead_of_near (by simp [hn]) hs)
  · exact (Dev.avsResponse_voltage hw hwr hv v).trans (Dev.avsRead_of_near (by simp [AvsWork.judged, hd, hn]) hs)

theorem avs_fails (c : Instr) (f : AvsFrame) (w : AvsWork) (s : State) (hw : s.dev.gov.avs = some w)
    (hs : s.dev.gov.sleep = none)
    (hc : (c = .avsResponse f false ∧ w.crcErr = true) ∨ (c = .avsExchangeTimeout ∧ s.dev.gf F.GOV_AVS_TO ≤ w.cycles)) :
    Yields c s (fun t => t.dev.gov.avs = none ∧ t.dev.gf F.GOV_STAT_AVS_BUSY = 0 ∧ t.dev.gf F.GOV_STAT_AVS_FAIL = 1 ∧
      t.dev.gf F.GOV_STAT_VCC_SET = s.dev.gf F.GOV_STAT_VCC_SET ∧ t.dev.gov.vccSram = s.dev.gov.vccSram ∧
      (s.dev.gov.capped = true ∨ (w.rail = 0 ∧ w.raise = true ∧ 2 ≤ s.dev.gov.raiseFails) →
        t.dev.gov.capped = true)) := by
  have hend := (Dev.avsEnd_of_awake hs w).2
  obtain ⟨g, hx, hg⟩ : ∃ g, exec c s = .next (s.act g) ∧ g s.dev = s.dev.avsFail w := by
    rcases hc with ⟨rfl, hcrc⟩ | ⟨rfl, hto⟩
    · exact ⟨_, rfl, (Dev.avsResponse_crc hw f).trans ((if_pos hcrc).trans hend)⟩
    · exact ⟨_, rfl, (Dev.avsTimeout_eq hw).trans ((if_pos hto).trans hend)⟩
  refine yields_act hx hg ⟨?_, ?_, ?_, ?_, ?_, ?_⟩
  · rw [State.gov_act, Dev.gov_avsFail, Governor.avs_failed]
  · rw [State.gf_act _ _ rfl (by decide) (by decide), Dev.busy_avsFail]
  · rw [State.gf_act _ _ rfl (by decide) (by decide), Dev.fail_avsFail]
  · rw [State.gf_act _ _ rfl (by decide) (by decide), Dev.vccSet_avsFail]
  · rw [State.gov_act, Dev.gov_avsFail, Governor.vccSram_failed]
  · intro h
    rw [State.gov_act, Dev.gov_avsFail]
    exact Governor.capped_failed _ _ h

theorem avs_repeats (f : AvsFrame) (w : AvsWork) (s : State) (hw : s.dev.gov.avs = some w) (hc : w.crcErr = false) :
    Does (.avsResponse f false) s { s.dev with gov := { s.dev.gov with avs := some { w with crcErr := true } } } :=
  does_avsResponse_gov ((Dev.avsResponse_crc hw f).trans (if_neg (by simp [hc])))

theorem avs_written (w : AvsWork) (s : State) (hw : s.dev.gov.avs = some w) (hwr : w.written = false) :
    Does (.avsResponse .writeAck true) s
      { s.dev with gov := { s.dev.gov with avs := some { w with crcErr := false, written := true } } } :=
  does_avsResponse_gov (Dev.avsResponse_ack hw hwr)

theorem avs_reads (done : Bool) (v : BitVec 16) (w : AvsWork) (s : State) (hw : s.dev.gov.avs = some w)
    (hwr : w.written = true) :
    let near := decide (w.target ≤ v.toNat + s.dev.gf F.GOV_AVS_TOL ∧ v.toNat ≤ w.target + s.dev.gf F.GOV_AVS_TOL)
    (w.voltage = false → (done && w.near) = false → Does (.avsResponse (.status done) true) s { s.dev with
      gov := { s.dev.gov with avs := some { w with crcErr := false, done := done, voltage := true } } }) ∧
    (w.voltage = true → (w.done && near) = false → Does (.avsResponse (.voltage v) true) s { s.dev with
      gov := { s.dev.gov with avs := some { w with crcErr := false, near := near, voltage := false } } }) := by
  refine ⟨fun hv hfar => ?_, fun hv hfar => ?_⟩
  · have hread := (Dev.avsResponse_status hw hwr hv done).trans (Dev.avsRead_of_far hfar)
    simp only [hv, Bool.not_false] at hread
    exact does_avsResponse_gov hread
  · have hread := (Dev.avsResponse_voltage hw hwr hv v).trans (Dev.avsRead_of_far hfar)
    simp only [AvsWork.judged, hv, Bool.not_true] at hread
    exact does_avsResponse_gov hread

/-! ### Reads of the currents -/

section
variable {d : Dev} (hw : d.gov.avs = none)
include hw

theorem Dev.avsResponse_of_idle (f : AvsFrame) (ok : Bool) : d.avsResponse f ok = d.currentRead f ok := by
  rw [Dev.avsResponse, hw]

end

theorem avs_unasked (f : AvsFrame) (ok : Bool) (s : State) (hw : s.dev.gov.avs = none) (ha : s.dev.gov.asks = []) :
    Does (.avsResponse f ok) s s.dev := by
  refine does_act_of_regs rfl ?_ rfl rfl rfl
  rw [Dev.avsResponse_of_idle hw]
  unfold Dev.currentRead
  rw [ha]
  rfl

section
variable {d : Dev} {k : Nat} {l : List Nat} (ha : d.gov.asks = k :: l)
include ha

theorem Dev.askDone_eq : d.askDone = { d with gov := { d.gov with asks := l, askErr := false } } := by
  rw [Dev.askDone, ha]
  rfl

theorem Dev.currentRead_crc (f : AvsFrame) : d.currentRead f false = if d.gov.askErr then d.askDone
    else { d with gov := { d.gov with askErr := true } } := by
  unfold Dev.currentRead
  rw [ha]
  rfl

theorem Dev.currentRead_vcc (hk : k = 0) (i : BitVec 16) :
    d.currentRead (.currentVcc i) true = d.askDone.sf F.GOV_AVS_STAT_I_VCC 0 0 i.toNat := by
  unfold Dev.currentRead
  rw [ha]
  exact if_pos hk

theorem Dev.currentRead_sram (hk : k = 1) (i : BitVec 16) :
    d.currentRead (.currentSram i) true = d.askDone.sf F.GOV_AVS_STAT_I_SRAM 0 0 i.toNat := by
  unfold Dev.currentRead
  rw [ha]
  exact if_pos hk

end

/-- A current that is shown, in a field of GOV_AVS_STAT. -/
theorem does_avsResponse_shown {s : State} {f : AvsFrame} {x : Fld} {i : Nat} (hx : x.reg = .GOV_AVS_STAT)
    (h : s.dev.avsResponse f true = s.dev.askDone.sf x 0 0 i) : Does (.avsResponse f true) s (s.dev.askDone.sf x 0 0 i) := by
  have hk : ∀ k : RK, k ≠ .GOV_AVS_STAT → (s.dev.askDone.sf x 0 0 i).reg k 0 0 = s.dev.reg k 0 0 := fun k hk =>
    Dev.reg_sf_ne _ _ (by rw [hx]; exact hk.symm) (by decide) (by decide) (by decide) (by decide)
  exact does_act_of_regs rfl h rfl (hk _ (by decide)) (hk _ (by decide))

theorem avs_currents (k : Fin 2) (i : BitVec 16) (l : List Nat) (s : State) (hw : s.dev.gov.avs = none)
    (ha : s.dev.gov.asks = k.val :: l) :
    let f := if k = 0 then AvsFrame.currentVcc i else .currentSram i
    let d := { s.dev with gov := { s.dev.gov with asks := l, askErr := false } }
    Does (.avsResponse f true) s
      (d.sf (if k = 0 then F.GOV_AVS_STAT_I_VCC else F.GOV_AVS_STAT_I_SRAM) 0 0 i.toNat) ∧
    Does (.avsResponse f false) s (if s.dev.gov.askErr = true then d
      else { s.dev with gov := { s.dev.gov with askErr := true } }) := by
  dsimp only
  rw [← Dev.askDone_eq ha]
  refine ⟨?_, ?_⟩
  · fin_cases k
    · exact does_avsResponse_shown rfl ((Dev.avsResponse_of_idle hw _ _).trans (Dev.currentRead_vcc ha rfl i))
    · exact does_avsResponse_shown rfl ((Dev.avsResponse_of_idle hw _ _).trans (Dev.currentRead_sram ha rfl i))
  · refine does_act_of_regs rfl ((Dev.avsResponse_of_idle hw _ _).trans (Dev.currentRead_crc ha _)) ?_ ?_ ?_ <;>
      split_ifs <;> rfl

theorem avs_early (s : State)
    (h : s.dev.gov.avs = none ∨ ∃ w, s.dev.gov.avs = some w ∧ w.cycles < s.dev.gf F.GOV_AVS_TO) :
    Does .avsExchangeTimeout s s.dev := by
  refine does_act_of_regs rfl ?_ rfl rfl rfl
  rcases h with hw | ⟨w, hw, hc⟩
  · rw [Dev.avsTimeout, hw]
  · rw [Dev.avsTimeout_eq hw, if_neg (by omega)]

end Sys2Proof.Machine
end

section
/-! PROOFS. The work of a governor cycle leaves alone what `Dev.calm` names: clocks and voltages, parks and wakes, and
what a ticket starts. -/

namespace Sys2Proof.Machine

section
variable {a b : Dev} (h : a.calm b) {n : Nat}
include h

/-! ### Units -/

/-- A change of the governor's part that leaves its requests alone. -/
theorem Dev.calm.gov {g : Governor} (hs : g.sleep = b.gov.sleep) (hq : g.pend = b.gov.pend) :
    a.calm { b with gov := g } := h.unit rfl rfl hs hq

theorem Dev.calm.onDram {f : Dram → Dram} : a.calm (b.onDram n f) := h.unit rfl rfl rfl rfl
theorem Dev.calm.onArb {f : Arbiter → Arbiter} : a.calm (b.onArb n f) := h.unit rfl rfl rfl rfl
theorem Dev.calm.lar {x : Larder} : a.calm { b with lar := x } := h.unit rfl rfl rfl rfl
theorem Dev.calm.held {l : List Packet} : a.calm { b with held := l } := h.unit rfl rfl rfl rfl
theorem Dev.calm.onQui {f : Quiesce → Quiesce} : a.calm (b.onQui n f) := h.onRoom
theorem Dev.calm.leaveSafe {p : Nat → Bool} : a.calm (b.leaveSafe p) := h.unit rfl rfl rfl rfl

/-! ### Room clocks -/

theorem Dev.calm.roomOut (hn : n < 65536) : a.calm (b.roomOut n) := by
  unfold Dev.roomOut
  cases bankOf n with
  | none => exact h.onRoom.sf hn rfl |>.sf hn rfl |>.sf hn rfl
  | some k => exact h.onRoom.leaveSafe.sf hn rfl |>.sf hn rfl |>.sf hn rfl

theorem Dev.calm.firstEdge (hn : n < 65536) : a.calm (b.firstEdge n) := h.when fun d => d.calm_refl.roomOut hn

theorem Dev.calm.setCur (hn : n < 65536) {c : Nat} : a.calm (b.setCur n c) := by
  unfold Dev.setCur
  refine Dev.calm.ite (fun _ => h) fun _ => ?_
  exact Dev.calm.ite (fun _ => h.sf hn rfl |>.sf hn rfl |>.sf hn rfl |>.sf hn rfl) fun _ =>
    Dev.calm.ite (fun _ => h.sf hn rfl |>.sf hn rfl |>.sf hn rfl |>.firstEdge hn) fun _ => h.sf hn rfl |>.sf hn rfl

theorem Dev.calm.moveClock (hn : n < 65536) {w : Nat} : a.calm (b.moveClock n w) :=
  Dev.calm.ite (fun _ => h.setCur hn) fun _ => Dev.calm.ite (fun _ => h.setCur hn) fun _ => h

/-! ### Voltages -/

theorem Dev.calm.avsStart {r t : Nat} {u : Bool} : a.calm (b.avsStart r t u) := h.gov (by rfl) (by rfl) |>.sf0 rfl

theorem Dev.calm.holdVoltages {v : Nat} : a.calm (b.holdVoltages v) := by
  have hset : a.calm (if v ≤ b.gf F.GOV_STAT_VCC_SET then
      { b with gov := { b.gov with raiseFails := 0, capped := false } } else b) :=
    Dev.calm.ite (fun _ => h.gov rfl rfl) fun _ => h
  unfold Dev.holdVoltages
  exact Dev.calm.ite (fun _ => hset) fun _ => Dev.calm.ite (fun _ => hset.avsStart) fun _ =>
    Dev.calm.ite (fun _ => hset.avsStart) fun _ => Dev.calm.ite (fun _ => hset.avsStart) fun _ =>
    Dev.calm.ite (fun _ => hset.avsStart) fun _ => hset

theorem Dev.calm.askCurrents : a.calm b.askCurrents := h.gov rfl rfl

/-! ### Tickets' states -/

omit h in
theorem Dev.lt_of_mem_ticketsIn (d : Dev) {st t : Nat} (ht : t ∈ d.ticketsIn st) : t < 65536 := by
  obtain ⟨e, -, he⟩ := List.mem_filterMap.1 (List.mem_filter.1 ht).1
  split_ifs at he
  cases he
  omega

theorem Dev.calm.setTk (hn : n < 65536) {st : Nat} : a.calm (b.setTk n st) := h.sf hn rfl

theorem Dev.calm.setWork {v : Nat} : a.calm (b.setWork n v) := h.gov rfl rfl

theorem Dev.calm.unsuspend : a.calm b.unsuspend :=
  h.each fun d _ ht => d.calm_refl.setTk (b.lt_of_mem_ticketsIn ht)

/-! ### Parks and wakes -/

theorem Dev.calm.clamp {busy : Bool} : a.calm (b.clamp n busy) := h.onRoom

theorem Dev.calm.parkBegin : a.calm (b.parkBegin n) := Dev.calm.ite (fun _ => h) fun _ => h.clamp.onRoom

theorem Dev.calm.parkStart (hn : n < 65536) : a.calm (b.parkStart n) := by
  have hjobs : a.calm (b.each (b.jobsOf n) fun d t => d.setTk t tkSuspended) :=
    h.each fun d _ ht => d.calm_refl.setTk (b.lt_of_mem_ticketsIn (List.mem_filter.1 ht).1)
  exact hjobs.sf hn rfl |>.onQui |>.parkBegin

/-- A room asked for a park of its own parks by itself, and no handshake goes on. -/
theorem Dev.calm.askRoom (hn : n < 65536) : a.calm (b.askRoom n 0) := by
  unfold Dev.askRoom
  refine Dev.calm.ite (fun _ => ?_) fun _ => h.onQui
  unfold Dev.agree
  rw [if_neg (by simp [Dev.onQui])]
  exact h.onQui.parkStart hn

theorem Dev.calm.considerPark (hn : n < 65536) : a.calm (b.considerPark n) := by
  unfold Dev.considerPark
  exact Dev.calm.ite (fun _ => h) fun _ => Dev.calm.ite (fun _ => Dev.calm.ite (fun _ => h) fun _ => h.onQui) fun _ =>
    Dev.calm.ite (fun _ => h) fun _ => h.askRoom hn

theorem Dev.calm.roomWake (hn : n < 65536) : a.calm (b.roomWake n) :=
  Dev.calm.ite (fun _ => h.sf hn rfl |>.onRoom) fun _ => h

theorem Dev.calm.considerWake (hn : n < 65536) : a.calm (b.considerWake n) :=
  Dev.calm.ite (fun _ => h.roomWake hn) fun _ => h

theorem Dev.calm.parkAndWake : a.calm b.parkAndWake :=
  h.each fun d n hn => by
    have hn := (roomIds_lt hn).trans (by decide : 64 < 65536)
    exact Dev.calm.ite (fun _ => d.calm_refl.parkBegin) fun _ => d.calm_refl.considerPark hn |>.considerWake hn

/-! ### Loads -/

theorem Dev.calm.onPlane {act : Bool} {f : Plane → Plane} : a.calm (b.onPlane n act f) := h.onRoom

theorem Dev.calm.setPlaneState (hn : n < 65536) {act : Bool} {x y : Nat} : a.calm (b.setPlaneState n act x y) :=
  Dev.calm.ite (fun _ => h.sf hn rfl) fun _ => h.sf hn rfl

theorem Dev.calm.setPlaneSrc (hn : n < 65536) {act : Bool} {x y z u : Nat} :
    a.calm (b.setPlaneSrc n act x y z u) := by
  unfold Dev.setPlaneSrc
  exact Dev.calm.ite (fun _ => h.onPlane.sf hn rfl |>.sf hn rfl |>.sf hn rfl) fun _ =>
    h.onPlane.sf hn rfl |>.sf hn rfl |>.sf hn rfl |>.sf hn rfl

theorem Dev.calm.refuseLoad (hn : n < 65536) {act : Bool} {r : Nat} : a.calm (b.refuseLoad n act r) :=
  h.onRoom.onPlane.setPlaneState hn |>.roomResult hn

theorem Dev.calm.beginLoad (hn : n < 65536) {act : Bool} {x y : Nat} : a.calm (b.beginLoad n act x y) := by
  unfold Dev.beginLoad
  have hplane : a.calm (((if act then (b.roomReset n false).onRoom n (fun r => { r with stage := .idle })
      else b).setPlaneState n act shLoading actLoading).onPlane n act (fun x => { x with drivers := [], kind2 := [] })) :=
    Dev.calm.ite (fun _ => h.roomReset hn |>.onRoom) (fun _ => h) |>.setPlaneState hn |>.onPlane
  exact Dev.calm.ite (fun _ => hplane.fault.refuseLoad hn) fun _ => hplane.setPlaneSrc hn |>.onRoom

theorem Dev.calm.loadPlane (hn : n < 65536) {act : Bool} : a.calm (b.loadPlane n act) := by
  unfold Dev.loadPlane
  exact Dev.calm.ite (fun _ => h.roomResult hn) fun _ => Dev.calm.ite (fun _ => h.roomResult hn) fun _ =>
    Dev.calm.ite (fun _ => h.roomResult hn) fun _ => h.beginLoad hn

/-! ### The Larder's test and the scrubbers -/

theorem Dev.calm.phaseBegin {ph : Nat} : a.calm (b.phaseBegin ph) := h.lar.sf0 rfl |>.when fun d => d.calm_refl.onArb

theorem Dev.calm.testBegin (hn : n < 2 ^ 20) : a.calm (b.testBegin n) := by
  have hbank : itemBank n / 16 < 65536 := by
    unfold itemBank
    split_ifs <;> omega
  exact h.lar.sf0 rfl |>.sf0 rfl |>.sf0 rfl |>.sf hbank rfl |>.phaseBegin

theorem Dev.calm.passEnd {c : Bool} : a.calm (b.passEnd c) :=
  Dev.calm.ite (fun _ => h.sf0 rfl |>.sf0 rfl |>.sf0 rfl |>.cntWrap0 rfl) fun _ => h.sf0 rfl |>.sf0 rfl |>.sf0 rfl

theorem Dev.calm.passGo : a.calm b.passGo := by
  unfold Dev.passGo
  refine Dev.calm.ite (fun _ => h.passEnd) fun hi => Dev.calm.ite (fun _ => ?_) fun _ => h.lar
  have hlt : b.nextItem b.lar.item < passItems := Nat.lt_of_not_le hi
  exact h.lar.testBegin (hlt.trans (by decide))

theorem Dev.calm.larTestPass : a.calm b.larTestPass :=
  Dev.calm.ite (fun _ => h.notice) fun _ => h.sf0 rfl |>.sf0 rfl |>.lar |>.passGo

theorem Dev.calm.scrubStart (hn : n < 65536) : a.calm (b.scrubStart n) := h.sf hn rfl |>.sf hn rfl |>.sf hn rfl

/-! ### DRAM channels -/

theorem Dev.calm.setDramState (hn : n < 65536) {st : Nat} : a.calm (b.setDramState n st) := h.sf hn rfl

theorem Dev.calm.dramResult (hn : n < 65536) {r : Nat} : a.calm (b.dramResult n r) := h.sf hn rfl |>.sf hn rfl

theorem Dev.calm.dramTrain (hn : n < 65536) : a.calm (b.dramTrain n) :=
  Dev.calm.ite (fun _ => h.onDram.setDramState hn) fun _ => h.dramResult hn

theorem Dev.calm.answerNo {k st : Nat} {l : List (BitVec 64)} : a.calm (b.answerNo k st l) := by
  unfold Dev.answerNo Dev.answerAt
  split
  · exact h
  · split
    · exact h
    · exact h.held.respond

theorem Dev.calm.dramAnswer {no : Option Nat} {st : Nat} {l : List (BitVec 64)} : a.calm (b.dramAnswer n no st l) := by
  unfold Dev.dramAnswer
  cases no with
  | none => exact h.onDram
  | some k => exact h.onDram.answerNo

theorem Dev.calm.arbDown : a.calm (b.arbDown n) := h.onArb

theorem Dev.calm.dramTurnAway : a.calm (b.dramTurnAway n) := by
  unfold Dev.dramTurnAway
  exact ((h.onDram.each fun d _ _ => d.calm_refl.dramAnswer).each fun d _ _ => d.calm_refl.answerNo).arbDown

theorem Dev.calm.offlineDone (hn : n < 65536) : a.calm (b.offlineDone n) :=
  Dev.calm.ite (fun _ => h.onDram.sf hn rfl |>.sf hn rfl) fun _ => h

theorem Dev.calm.dramOffline (hn : n < 65536) : a.calm (b.dramOffline n) := by
  unfold Dev.dramOffline
  exact Dev.calm.ite (fun _ => h.dramResult hn) fun _ =>
    Dev.calm.ite (fun _ => h.onDram.setDramState hn) (fun _ => h.onDram.setDramState hn |>.dramTurnAway) |>.offlineDone hn

/-! ### Renewal of the Cellar -/

theorem Dev.calm.cwBegin {w : CwWork} : a.calm (b.cwBegin w) := h.cfg.sf0 rfl

theorem Dev.calm.renewStep {x : Nat} : a.calm (b.renewStep x) := h.cwBegin

theorem Dev.calm.renewEnd {x : Bool} : a.calm (b.renewEnd x) := h.cfg.sf0 rfl

theorem Dev.calm.renewSector {x : Nat} : a.calm (b.renewSector x) := Dev.calm.ite (fun _ => h.renewStep) fun _ => h

theorem Dev.calm.renewGo {x : Nat} : a.calm (b.renewGo x) :=
  Dev.calm.ite (fun _ => h.renewEnd.renewSector) fun _ => Dev.calm.ite (fun _ => h.renewEnd.fault) fun _ => h.cfg.renewStep

theorem Dev.calm.renewStart : a.calm b.renewStart := h.sf0 rfl |>.renewGo

end

end Sys2Proof.Machine
end

section
/-! PROOFS. The governor cycle (R298): what it finds and keeps up to the transitions of mode, and the transition to
Hold (R307). -/

namespace Sys2Proof.Machine

/-! ### Temperatures -/

/-- The hottest of the sensors seen so far, after sensor `k`. -/
def Dev.hotter (d : Dev) (m : Option Nat) (k : Nat) : Option Nat :=
  if !d.gb F.GOV_TEMP_VALID k then m
  else match m with
    | none => some k
    | some j => if d.temp j < d.temp k then some k else m

section
variable {a b : Dev} (h : a.calmRegs b)
include h

theorem Dev.calmRegs.temp {k : Nat} (hk : k < 72) : b.temp k = a.temp k := by
  rw [Dev.temp, Dev.temp, h.gf (by decide) (by omega) (by decide)]

theorem Dev.calmRegs.valid {k : Nat} (hk : k < 72) : b.gb F.GOV_TEMP_VALID k = a.gb F.GOV_TEMP_VALID k := by
  rw [Dev.gb, Dev.gb, h.gf (by decide) (by omega) (by decide)]

theorem Dev.calmRegs.hotter {m : Option Nat} (hm : ∀ j ∈ m, j < 72) {k : Nat} (hk : k < 72) :
    b.hotter m k = a.hotter m k := by
  unfold Dev.hotter
  rw [h.valid hk]
  cases m with
  | none => rfl
  | some j =>
    dsimp only
    rw [h.temp hk, h.temp (hm j rfl)]

omit h in
theorem Dev.hotter_eq_or (d : Dev) (m : Option Nat) (k : Nat) : d.hotter m k = m ∨ d.hotter m k = some k := by
  unfold Dev.hotter
  cases m <;> dsimp only <;> split_ifs <;> simp

omit h in
theorem Dev.hotter_lt (d : Dev) {m : Option Nat} (hm : ∀ j ∈ m, j < 72) {k : Nat} (hk : k < 72) :
    ∀ j ∈ d.hotter m k, j < 72 := by
  rcases d.hotter_eq_or m k with he | he <;> rw [he]
  · exact hm
  · simpa using hk

/-- Among sensors, both devices find the same one the hottest. -/
theorem Dev.calmRegs.foldl_hotter (l : List Nat) (hl : ∀ k ∈ l, k < 72) : ∀ m : Option Nat, (∀ j ∈ m, j < 72) →
    l.foldl b.hotter m = l.foldl a.hotter m ∧ ∀ j ∈ l.foldl a.hotter m, j < 72 := by
  induction l with
  | nil => exact fun m hm => ⟨by rw [List.foldl_nil, List.foldl_nil], hm⟩
  | cons k l ih =>
    intro m hm
    have hk : k < 72 := hl k (List.mem_cons_self ..)
    rw [List.foldl_cons, List.foldl_cons, h.hotter hm hk]
    exact ih (fun j hj => hl j (List.mem_cons_of_mem _ hj)) _ (a.hotter_lt hm hk)

theorem Dev.calmRegs.hottest : b.hottest = a.hottest ∧ ∀ j ∈ a.hottest, j < 72 :=
  h.foldl_hotter (List.range 72) (fun _ hk => List.mem_range.1 hk) none (by simp)

theorem Dev.calmRegs.tjLim : b.tjLim = a.tjLim := by
  rw [Dev.tjLim, Dev.tjLim, h.gf (by decide) (by decide) (by decide)]

theorem Dev.calmRegs.tjCrit : b.tjCrit = a.tjCrit := by
  rw [Dev.tjCrit, Dev.tjCrit, h.gf (by decide) (by decide) (by decide)]

theorem Dev.calmRegs.tMax : b.tMax = a.tMax := by
  obtain ⟨hh, hlt⟩ := h.hottest
  have hall : (List.range 72).all (fun j => b.gb F.GOV_TEMP_VALID j) =
      (List.range 72).all (fun j => a.gb F.GOV_TEMP_VALID j) := by
    rw [Bool.eq_iff_iff, List.all_eq_true, List.all_eq_true]
    exact forall₂_congr fun j hj => by rw [h.valid (List.mem_range.1 hj)]
  unfold Dev.tMax
  rw [hh, h.tjLim, hall]
  cases hk : a.hottest with
  | none => rfl
  | some k =>
    dsimp only
    rw [h.temp (hlt k hk)]

end

/-! ### The cycle up to the transitions -/

section
variable {a b : Dev} (h : a.calm b)
include h

theorem Dev.calm.takeActs (l : List (Fin 64 × BitVec 16)) : a.calm (b.takeActs (l.map fun x => (x.1.val, x.2))) :=
  h.each fun d x hx => by
    obtain ⟨y, -, rfl⟩ := List.mem_map.1 hx
    exact d.calm_refl.sf (y.1.2.trans (by decide)) rfl

theorem Dev.calm.sampleAll_nil : a.calm (b.sampleAll []) := by
  have hmax : a.calm (match b.hottest with
      | some k => (b.sf F.GOV_TMAX_SENSOR 0 0 k).sf F.GOV_TMAX_TEMP 0 0 (b.gf F.GOV_TEMP_TEMP k)
      | none => b) := by
    cases b.hottest with
    | none => exact h
    | some k => exact h.sf0 rfl |>.sf0 rfl
  exact hmax

theorem Dev.calm.measurePower : a.calm b.measurePower := by
  have hp : ∀ (g : Governor) (p : Nat), (g.addPower p).sleep = g.sleep ∧ (g.addPower p).pend = g.pend := fun g p => by
    unfold Governor.addPower
    dsimp only
    split_ifs <;> exact ⟨rfl, rfl⟩
  exact h.gov (hp _ _).1 (hp _ _).2 |>.sf0 rfl |>.sf0 rfl

theorem Dev.calm.onQui_each {p : Dev → Nat → Bool} {f : Quiesce → Quiesce} :
    a.calm (b.each roomIds fun d n => if p d n then d.onQui n f else d) :=
  h.each fun d _ _ => Dev.calm.ite (fun _ => d.calm_refl.onQui) fun _ => d.calm_refl

theorem Dev.calm.jobsAgain : a.calm b.jobsAgain := h.onQui_each

theorem Dev.calm.setHot {v : Nat} : a.calm (b.setHot v) :=
  h.each fun d n hn => by
    have hn := (List.mem_range.1 hn).trans (by decide : 4 < 65536)
    exact d.calm_refl.sf hn rfl

theorem Dev.calm.levelUp : a.calm b.levelUp := by
  unfold Dev.levelUp
  exact Dev.calm.ite (fun _ => h.sf0 rfl |>.jobsAgain) fun _ =>
    Dev.calm.ite (fun _ => h.sf0 rfl |>.setHot) fun _ => h.sf0 rfl

theorem Dev.calm.levelDown : a.calm b.levelDown := by
  unfold Dev.levelDown
  exact Dev.calm.ite (fun _ => h.sf0 rfl |>.setHot) fun _ => h.sf0 rfl |>.when fun d => d.calm_refl.unsuspend

theorem Dev.calm.setClear {n : Nat} : a.calm (b.setClear n) := h.gov rfl rfl

theorem Dev.calm.judgeLevel {ovr clear : Bool} : a.calm (b.judgeLevel ovr clear) := by
  have hshown : a.calm ((b.sf F.GOV_STAT_OVER 0 0 (b2n ovr)).sf F.GOV_STAT_CLEAR 0 0 (b2n clear)) := h.sf0 rfl |>.sf0 rfl
  unfold Dev.judgeLevel
  refine Dev.calm.ite (fun _ => ?_) fun _ => Dev.calm.ite (fun _ => Dev.calm.ite (fun _ => ?_) fun _ => ?_) fun _ => ?_
  · exact (Dev.calm.ite (fun _ => hshown.levelUp) fun _ => hshown).setClear
  · exact (Dev.calm.ite (fun _ => hshown) fun _ => hshown.levelDown).setClear
  · exact hshown.setClear
  · exact hshown.setClear

theorem Dev.calm.tkExpire {t : Nat} (hn : t < 65536) : a.calm (b.tkExpire t) :=
  Dev.calm.ite (fun _ => h.setTk hn |>.noticeFree) fun _ => h

omit h in
theorem Dev.tkTarget_lt (d : Dev) (t : Nat) : d.tkTarget t < 65536 := (d.gf_lt _ t 0).trans (by decide)

theorem Dev.calm.tkTrain {t : Nat} : a.calm (b.tkTrain t) := (h.dramTrain (b.tkTarget_lt t)).setWork

theorem Dev.calm.tkStart {t : Nat} (hn : t < 65536) : a.calm (b.tkStart t) := by
  have hx := b.tkTarget_lt t
  have hrun : a.calm ((b.setTk t tkRunning).setWork t 0) := h.setTk hn |>.setWork
  unfold Dev.tkStart
  dsimp only
  split
  · exact hrun.loadPlane hx
  · exact hrun.setWork.larTestPass
  · exact hrun.setWork.scrubStart hx
  · exact Dev.calm.ite (fun _ => hrun.tkTrain) fun _ => hrun.dramOffline hx
  · exact hrun.renewStart
  · exact hrun.roomWake hx
  · exact hrun

omit h in
theorem Dev.lt_of_tkCandidate (d : Dev) {t : Nat} (ht : d.tkCandidate = some t) : t < 65536 := by
  have hall : ∀ u ∈ d.tkCandidate, u < 65536 := by
    refine List.foldlRecOn _ _ (motive := fun m : Option Nat => ∀ u ∈ m, u < 65536) (by simp) fun m hm u hu => ?_
    have hlt := d.lt_of_mem_ticketsIn (List.mem_filter.1 hu).1
    cases m with
    | none => simpa using hlt
    | some v =>
      dsimp only
      split_ifs
      · simpa using hlt
      · exact hm
  exact hall t ht

theorem Dev.calm.admitTicket : a.calm b.admitTicket := by
  unfold Dev.admitTicket
  refine Dev.calm.ite (fun _ => h) fun _ => ?_
  cases ht : b.tkCandidate with
  | none => exact h
  | some t => exact Dev.calm.ite (fun _ => h.tkStart (b.lt_of_tkCandidate ht)) fun _ => h

theorem Dev.calm.stepTickets : a.calm b.stepTickets :=
  (h.each fun d _ _ => Dev.calm.ite (fun _ => d.calm_refl.tkTrain) fun _ => d.calm_refl).when fun d => d.calm_refl.unsuspend

theorem Dev.calm.tickets : a.calm b.tickets :=
  h.stepTickets.admitTicket.each fun d _ ht => d.calm_refl.tkExpire (Dev.lt_of_mem_ticketsIn _ ht)

end

end Sys2Proof.Machine
end

section
/-! PROOFS. The governor cycle that goes from Run to Hold (R29, R31, R307), and
`Obligations.GovernorCycleAndAvs`. -/

namespace Sys2Proof.Machine

/-! ### The cycle up to the transitions -/

/-- The cycle up to the judgement of heat. -/
def Dev.cycleRead (d : Dev) (acts : List (Fin 64 × BitVec 16)) : Dev :=
  ((d.takeActs (acts.map fun x => (x.1.val, x.2))).sampleAll []).measurePower

/-- The cycle between the judgement of heat and the transitions of mode. -/
def Dev.cycleWork (d : Dev) (ovr clear : Bool) : Dev :=
  (((d.judgeLevel ovr clear).clocksAndVcc ovr).parkAndWake).tickets

/-- An exchange that is outstanding has lasted one cycle more. -/
def Dev.avsCycled (d : Dev) : Dev :=
  match d.gov.avs with
  | some w => { d with gov := { d.gov with avs := some { w with cycles := w.cycles + 1 } } }
  | none => d

/-- The room clocks have moved, and the exchange that they need has started. -/
def Dev.clocksMoved (d : Dev) (ovr : Bool) : Dev :=
  (d.each (d.roomWants ovr) fun d x => d.moveClock x.1 x.2).holdVoltages (d.vNeed (d.roomWants ovr))

theorem Dev.clocksAndVcc_eq (d : Dev) (ovr : Bool) :
    d.clocksAndVcc ovr = (d.clocksMoved ovr).avsCycled.sleepVolt.wakeVolt.askCurrents := rfl

section
variable {a b : Dev} (h : a.calm b)
include h

theorem Dev.calm.cycleRead {acts : List (Fin 64 × BitVec 16)} : a.calm (b.cycleRead acts) :=
  (h.takeActs acts).sampleAll_nil.measurePower

omit h in
/-- The rooms whose clocks the governor moves are rooms. -/
theorem Dev.lt_of_mem_roomWants (d : Dev) (ovr : Bool) {x : Nat × Nat} (hx : x ∈ d.roomWants ovr) : x.1 < 65536 := by
  have hall : ∀ y ∈ d.roomWants ovr, y.1 < 65536 := by
    unfold Dev.roomWants
    refine List.foldlRecOn _ _ (motive := fun r : List (Nat × Nat) × (Nat × Nat) => ∀ y ∈ r.1, y.1 < 65536) (by simp)
      fun r hr n hn => ?_
    have hlt : n < 65536 := (roomIds_lt (List.mem_filter.1 hn).1).trans (by decide)
    dsimp only
    split_ifs <;> simpa [hlt, or_imp, forall_and] using hr
  exact hall x hx

theorem Dev.calm.avsCycled : a.calm b.avsCycled := by
  unfold Dev.avsCycled
  cases b.gov.avs with
  | none => exact h
  | some w => exact h.gov rfl rfl

theorem Dev.calm.clocksAndVcc (hs : b.gov.sleep = none) {ovr : Bool} : a.calm (b.clocksAndVcc ovr) := by
  have hmove : a.calm (b.each (b.roomWants ovr) fun d x => d.moveClock x.1 x.2) :=
    h.each fun d x hx => d.calm_refl.moveClock (b.lt_of_mem_roomWants ovr hx)
  have hvolt : a.calm (b.clocksMoved ovr).avsCycled := hmove.holdVoltages.avsCycled
  have hsleep : (b.clocksMoved ovr).avsCycled.gov.sleep = none := hvolt.sleep.trans (h.sleep.symm.trans hs)
  rw [Dev.clocksAndVcc_eq, Dev.sleepVolt_of_awake hsleep, Dev.wakeVolt_of_awake hsleep]
  exact hvolt.askCurrents

theorem Dev.calm.cycleWork (hs : b.gov.sleep = none) {ovr clear : Bool} : a.calm (b.cycleWork ovr clear) :=
  (h.judgeLevel.clocksAndVcc ((b.calm_refl.judgeLevel).sleep.trans hs)).parkAndWake.tickets

end

/-! ### The judgement of heat (R307) -/

/-- GOV_STAT.TCRIT follows the hottest sensor. -/
def Dev.judgeCrit (d : Dev) : Dev :=
  if d.tjCrit ≤ d.tMax then (if d.gb F.GOV_STAT_TCRIT then d else (d.sf F.GOV_STAT_TCRIT 0 0 1).faultFree 0x21)
  else if d.tMax < d.tjCrit - d.tjHyst then d.sf F.GOV_STAT_TCRIT 0 0 0 else d

/-- The NOTICE of a hottest sensor that reaches TJ_LIM, once until it has cooled down. -/
def Dev.judgeLimit (d : Dev) (t : Int) : Dev :=
  if d.tjLim ≤ t then
    (if d.gov.tlimSeen then d else { d with gov := { d.gov with tlimSeen := true } }.noticeFree 0x20)
  else if t < d.tjLim - d.tjHyst then { d with gov := { d.gov with tlimSeen := false } }
  else d

theorem Dev.judgeHeat_eq (d : Dev) : d.judgeHeat = d.judgeCrit.judgeLimit d.tMax := rfl

theorem Dev.calm.judgeLimit {a b : Dev} (h : a.calm b) {t : Int} : a.calm (b.judgeLimit t) :=
  Dev.calm.ite (fun _ => Dev.calm.ite (fun _ => h) fun _ => (h.gov (by rfl) (by rfl)).noticeFree) fun _ =>
    Dev.calm.ite (fun _ => h.gov rfl rfl) fun _ => h

section
variable (d : Dev)

/-- A write of GOV_STAT.TCRIT leaves alone what is calm, but for itself. -/
theorem Dev.reg_sf_tcrit (v : Nat) {k : RK} (hk : k ∈ calmKinds) {i j : Nat} (hi : i < 65536) (hj : j < 256) :
    (d.sf F.GOV_STAT_TCRIT 0 0 v).reg k i j = d.reg k i j :=
  d.reg_sf_ne v (fun he => absurd (he ▸ hk) (by decide)) (by decide) (by decide) hi hj

theorem Dev.calm_sf_tcrit_same : (d.sf F.GOV_STAT_TCRIT 0 0 (d.gf F.GOV_STAT_TCRIT)).calm d where
  reg k hk i j hi hj := (d.reg_sf_tcrit _ hk hi hj).symm
  tcrit := by rw [Dev.gf_sf _ _ _ _ _ (by decide), Nat.mod_eq_of_lt (d.gf_lt _ 0 0)]
  holdN := rfl
  sleep := rfl
  pend := rfl

/-- The judgement of heat writes GOV_STAT.TCRIT, to 1 where a sensor is at TJ_CRIT, and changes nothing else that
`Dev.calm` names. -/
theorem Dev.calm_judgeHeat : ∃ v, (d.sf F.GOV_STAT_TCRIT 0 0 v).calm d.judgeHeat ∧ (d.tjCrit ≤ d.tMax → v = 1) := by
  have hcrit : ∃ v, (d.sf F.GOV_STAT_TCRIT 0 0 v).calm d.judgeCrit ∧ (d.tjCrit ≤ d.tMax → v = 1) := by
    unfold Dev.judgeCrit
    split_ifs with hot hset hcold
    · exact ⟨_, d.calm_sf_tcrit_same, fun _ => by simpa [Dev.gb] using hset⟩
    · exact ⟨1, (Dev.calm_refl _).faultFree, fun _ => rfl⟩
    · exact ⟨0, Dev.calm_refl _, fun h => absurd h hot⟩
    · exact ⟨_, d.calm_sf_tcrit_same, fun h => absurd h hot⟩
  obtain ⟨v, hv, h1⟩ := hcrit
  rw [d.judgeHeat_eq]
  exact ⟨v, hv.judgeLimit, h1⟩

end

/-! ### What the transitions find -/

/-- In Run with no handshake under way, what is as before when the cycle comes to the transitions of mode. -/
structure Dev.atTransitions (d t : Dev) : Prop where
  mode : t.reg .GBL_MODE 0 0 = d.reg .GBL_MODE 0 0
  holdN : t.pin.holdN = d.pin.holdN
  sleep : t.gov.sleep = none
  pend : t.gov.pend = d.gov.pend
  tMax : t.tMax = d.tMax
  tjCrit : t.tjCrit = d.tjCrit
  tcrit : d.tjCrit ≤ d.tMax → t.gf F.GOV_STAT_TCRIT = 1

/-- The cycle up to the transitions of mode. -/
def Dev.cycleBefore (d : Dev) (acts : List (Fin 64 × BitVec 16)) : Dev :=
  (d.cycleRead acts).judgeHeat.cycleWork (d.cycleRead acts).isOver (d.cycleRead acts).isClear

theorem Dev.governorCycle_eq {d : Dev} (acts : List (Fin 64 × BitVec 16)) (h : d.govRuns = true) :
    d.governorCycle [] (acts.map fun x => (x.1.val, x.2)) = (d.cycleBefore acts).transitions.askLate.restartGo := by
  unfold Dev.governorCycle
  exact if_neg (by simp [h])

theorem Dev.atTransitions_cycleBefore (d : Dev) (acts : List (Fin 64 × BitVec 16)) (hs : d.gov.sleep = none) :
    d.atTransitions (d.cycleBefore acts) := by
  have hread : d.calm (d.cycleRead acts) := d.calm_refl.cycleRead
  obtain ⟨v, hheat, hv⟩ := (d.cycleRead acts).calm_judgeHeat
  have hsleep : (d.cycleRead acts).judgeHeat.gov.sleep = none := hheat.sleep.trans (hread.sleep.trans hs)
  have hwork : ((d.cycleRead acts).sf F.GOV_STAT_TCRIT 0 0 v).calm (d.cycleBefore acts) := hheat.cycleWork hsleep
  have hregs : d.calmRegs (d.cycleBefore acts) := fun k hk i j hi hj =>
    (hwork.reg k hk i j hi hj).trans (((d.cycleRead acts).reg_sf_tcrit v hk hi hj).trans (hread.reg k hk i j hi hj))
  refine ⟨hregs _ (by decide) 0 0 (by decide) (by decide), hwork.holdN.trans hread.holdN,
    hwork.sleep.trans (hread.sleep.trans hs), hwork.pend.trans hread.pend, hregs.tMax, hregs.tjCrit, fun hot => ?_⟩
  rw [hwork.tcrit, hv (by rw [hread.reg.tjCrit, hread.reg.tMax]; exact hot), Dev.gf_sf _ _ _ _ _ (by decide)]
  rfl

/-! ### The transition to Hold -/

section
variable (d : Dev)

theorem Dev.calm.autoTrain {a b : Dev} (h : a.calm b) : a.calm b.autoTrain :=
  h.each fun d s hs => by
    have hs := (List.mem_range.1 hs).trans (by decide : 64 < 65536)
    exact Dev.calm.ite (fun _ => d.calm_refl.onStr.sf hs rfl) fun _ => d.calm_refl

/-- The requests for Quiet and for Hold that stand end with the mode they asked for. -/
def Dev.asksEnded (d : Dev) : Dev :=
  { d with gov := { d.gov with holdAsked := d.gov.holdAsked && mHold == mHold, quietAsked := false } }

theorem Dev.goReady_hold (c : Nat) : d.goReady mHold c = ((d.asksEnded.putMode mHold c).withdraw.each (List.range 64)
    fun d s => d.onStr s fun x => { x with fallOff := false }).autoTrain := by
  unfold Dev.goReady Dev.enterReady
  dsimp only
  rw [if_pos (rfl : mHold = mHold), if_neg (by decide : ¬mHold = mQuiet)]
  rfl

/-- Hold is entered by the transition itself, and by work on queues and strings. -/
theorem Dev.calm_goReady_hold (c : Nat) : (d.asksEnded.putMode mHold c).calm (d.goReady mHold c) := by
  have hw : (d.asksEnded.putMode mHold c).calm (d.asksEnded.putMode mHold c).withdraw := (Dev.calm_refl _).ev
  rw [d.goReady_hold c]
  exact (hw.each fun t _ _ => t.calm_refl.onStr).autoTrain

theorem Dev.gf_goReady_hold (c : Nat) {f : Fld} (hf : f.reg = .GBL_MODE) :
    (d.goReady mHold c).gf f = (d.putMode mHold c).gf f := by
  rw [(d.calm_goReady_hold c).gf (by rw [hf]; decide) (by decide) (by decide)]
  rfl

theorem Dev.reqSt_putMode {m : Nat} (c : Nat) : (d.putMode m c).gf F.GBL_MODE_REQ_ST = d.gf F.GBL_MODE_REQ_ST := by
  unfold Dev.putMode Dev.cntWrap
  dsimp only
  rw [Dev.gf_sf_bits (f := F.GBL_MODE_MODE) (g := F.GBL_MODE_REQ_ST) _ _ rfl (by decide),
    Dev.gf_sf_bits (f := F.GBL_MODE_CAUSE) (g := F.GBL_MODE_REQ_ST) _ _ rfl (by decide),
    Dev.gf_sf_bits (f := F.GBL_MODE_PREV) (g := F.GBL_MODE_REQ_ST) _ _ rfl (by decide),
    Dev.gf_sf_bits (f := F.GBL_MODE_SEQ) (g := F.GBL_MODE_REQ_ST) _ _ rfl (by decide)]

/-! ### A request that is refused -/

theorem Dev.mode_refusePending : d.refusePending.mode = d.mode := by
  unfold Dev.refusePending
  split_ifs
  · rfl
  · exact Dev.mode_sf_reqSt _ 3

theorem Dev.pend_refusePending : d.refusePending.gov.pend = 0 := by
  unfold Dev.refusePending
  split_ifs with h
  · exact h
  · rfl

theorem Dev.sleep_refusePending : d.refusePending.gov.sleep = d.gov.sleep := by
  unfold Dev.refusePending
  split_ifs <;> rfl

theorem Dev.reqSt_refusePending (h : d.gov.pend ≠ 0) : d.refusePending.gf F.GBL_MODE_REQ_ST = 3 := by
  unfold Dev.refusePending
  rw [if_neg h]
  exact Dev.gf_sf _ _ _ _ _ (by decide)

theorem Dev.tcrit_refusePending : d.refusePending.gf F.GOV_STAT_TCRIT = d.gf F.GOV_STAT_TCRIT := by
  rw [Dev.gf, Dev.gf, d.reg_refusePending (by decide) (by decide) (by decide)]

/-- What the transition from Run to Hold leaves. -/
structure Dev.inHold (d t : Dev) (c : Nat) : Prop where
  mode : t.mode = mHold
  cause : t.gf F.GBL_MODE_CAUSE = c
  prev : t.gf F.GBL_MODE_PREV = mRun
  reqSt : d.gov.pend ≠ 0 → t.gf F.GBL_MODE_REQ_ST = 3
  pend : t.gov.pend = 0
  tcrit : t.gf F.GOV_STAT_TCRIT = d.gf F.GOV_STAT_TCRIT
  sleep : t.gov.sleep = d.gov.sleep

theorem Dev.inHold_goReady {d : Dev} {c : Nat} (hc : c < 256) (hm : d.mode = mRun) :
    d.inHold (d.refusePending.goReady mHold c) c := by
  have hcalm := d.refusePending.calm_goReady_hold c
  refine ⟨?_, ?_, ?_, fun hp => ?_, ?_, ?_, ?_⟩
  · exact (d.refusePending.gf_goReady_hold c rfl).trans (Dev.mode_putMode _ c (by decide))
  · rw [d.refusePending.gf_goReady_hold c rfl, Dev.cause_putMode _ c hc]
  · rw [d.refusePending.gf_goReady_hold c rfl, Dev.prev_putMode, d.mode_refusePending, hm]
  · rw [d.refusePending.gf_goReady_hold c rfl, Dev.reqSt_putMode, d.reqSt_refusePending hp]
  · exact hcalm.pend.trans d.pend_refusePending
  · rw [hcalm.tcrit, (Dev.keepsRegs_putMode _ c).gf (by decide) (by decide) (by decide)]
    exact d.tcrit_refusePending
  · exact hcalm.sleep.trans d.sleep_refusePending

end

/-- With no handshake under way, the transitions that lead to Hold refuse the request, and nothing follows them. -/
theorem Dev.transitions_to_hold {d : Dev} {c : Nat} (hs : d.gov.sleep = none) (hmove : d.governorMove = some (mHold, c))
    (hc : c < 256) (hm : d.mode = mRun) : d.inHold d.transitions.askLate.restartGo c := by
  have hgo : d.transitions = d.refusePending.goReady mHold c := by
    unfold Dev.transitions
    rw [hmove]
    dsimp only
    rw [if_neg (by simp [hs])]
  have hin := Dev.inHold_goReady hc hm
  have hsleep : d.transitions.gov.sleep = none := by rw [hgo, hin.sleep, hs]
  have hask : d.transitions.askLate = d.transitions := if_neg (by simp [hsleep])
  have hgo' : d.transitions.restartGo = d.transitions := by rw [Dev.restartGo, hsleep]
  rw [hask, hgo', hgo]
  exact hin

theorem Dev.governorMove_pin {d : Dev} (hm : d.mode = mRun) (hp : d.pin.holdN = false) :
    d.governorMove = some (mHold, 0x0D) := if_pos (by simp [hm, hp])

theorem Dev.governorMove_heat {d : Dev} (hm : d.mode = mRun) (hp : d.pin.holdN = true) (ht : d.tjCrit ≤ d.tMax) :
    d.governorMove = some (mHold, 0x0F) := by
  unfold Dev.governorMove
  dsimp only
  rw [if_neg (by simp [hp]), if_pos (by simp [hm, ht])]

/-! ### The command -/

section
variable (d : Dev) (dt : Nat)

theorem Dev.tick_eq : d.tick dt = { d with ev := (d.tick dt).ev } := by
  unfold Dev.tick
  split_ifs <;> rfl

theorem Dev.calm_tick : d.calm (d.tick dt) := by
  rw [Dev.tick_eq]
  exact d.calm_refl.ev

end

/-- In Off, Supply ramp and Deep hold, up to the wake that restores the governor, there is no governor cycle. -/
theorem Dev.govRuns_of_stopped {d : Dev} (h : d.mode = mOff ∨ d.mode = mRamp ∨
    (d.mode = mDeep ∧ ∀ x, d.gov.sleep = some x → x.waking = false ∨ x.next = 20)) : d.govRuns = false := by
  unfold Dev.govRuns
  rcases h with h | h | ⟨h, hx⟩
  · simp [h]
  · simp [h]
  · cases hs : d.gov.sleep with
    | none => simp [h]
    | some x => rcases hx x hs with hw | hw <;> simp [h, hw]

theorem does_governorCycle_stopped (dt : Nat) (temps : List (Fin 72 × SensorReading)) (acts : List (Fin 64 × BitVec 16))
    (s : State) (h : s.dev.mode = mOff ∨ s.dev.mode = mRamp ∨
      (s.dev.mode = mDeep ∧ ∀ x, s.dev.gov.sleep = some x → x.waking = false ∨ x.next = 20)) :
    Does (.governorCycle dt temps acts) s (s.dev.tick dt) := by
  have hruns : (s.dev.tick dt).govRuns = false := by
    rw [Dev.tick_eq]
    exact Dev.govRuns_of_stopped h
  refine does_act_of_regs rfl (if_pos (by simp [hruns])) ?_ ?_ ?_ <;> rw [Dev.tick_eq] <;> rfl

/-- A governor cycle in Run that leads to Hold, with the cause that `governorMove` gives. -/
theorem Dev.inHold_governorCycle {d : Dev} {c : Nat} (dt : Nat) (acts : List (Fin 64 × BitVec 16)) (hm : d.mode = mRun)
    (hs : d.gov.sleep = none) (hc : c < 256)
    (hmove : ∀ t : Dev, (d.tick dt).atTransitions t → t.mode = mRun → t.governorMove = some (mHold, c)) :
    ∃ t, (d.tick dt).atTransitions t ∧
      t.inHold ((d.tick dt).governorCycle [] (acts.map fun x => (x.1.val, x.2))) c := by
  have htick := d.calm_tick dt
  have hm' : (d.tick dt).mode = mRun := htick.mode.trans hm
  have hruns : (d.tick dt).govRuns = true := by simp [Dev.govRuns, hm']
  have hat := (d.tick dt).atTransitions_cycleBefore acts (htick.sleep.trans hs)
  have hmt : ((d.tick dt).cycleBefore acts).mode = mRun := by
    rw [← hm', Dev.mode, Dev.mode, Dev.gf, Dev.gf, hat.mode]
  rw [Dev.governorCycle_eq acts hruns]
  exact ⟨_, hat, Dev.transitions_to_hold hat.sleep (hmove _ hat hmt) hc hmt⟩

theorem governorCycle_pin (dt : Nat) (acts : List (Fin 64 × BitVec 16)) (s : State) (hm : s.dev.mode = mRun)
    (hs : s.dev.gov.sleep = none) (hp : s.dev.pin.holdN = false) :
    Yields (.governorCycle dt [] acts) s (fun t => t.dev.mode = mHold ∧ t.dev.gf F.GBL_MODE_CAUSE = 0x0D ∧
      t.dev.gf F.GBL_MODE_PREV = mRun ∧ (s.dev.gov.pend ≠ 0 → t.dev.gf F.GBL_MODE_REQ_ST = 3) ∧ t.dev.gov.pend = 0) := by
  have htick := s.dev.calm_tick dt
  obtain ⟨t, hat, hin⟩ := Dev.inHold_governorCycle dt acts hm hs (by decide : 0x0D < 256) fun t hat hmt =>
    Dev.governorMove_pin hmt (hat.holdN.trans (htick.holdN.trans hp))
  refine ⟨_, rfl, (State.mode_act _ _).trans hin.mode, ?_, ?_, fun hpend => ?_, ?_⟩
  · exact (State.gf_act _ _ rfl (by decide) (by decide)).trans hin.cause
  · exact (State.gf_act _ _ rfl (by decide) (by decide)).trans hin.prev
  · refine (State.gf_act _ _ rfl (by decide) (by decide)).trans (hin.reqSt ?_)
    rw [hat.pend, htick.pend]
    exact hpend
  · exact (congrArg Governor.pend (State.gov_act _ _)).trans hin.pend

theorem governorCycle_heat (dt : Nat) (acts : List (Fin 64 × BitVec 16)) (s : State) (hm : s.dev.mode = mRun)
    (hs : s.dev.gov.sleep = none) (hp : s.dev.pin.holdN = true) (ht : s.dev.tjCrit ≤ s.dev.tMax) :
    Yields (.governorCycle dt [] acts) s (fun t => t.dev.mode = mHold ∧ t.dev.gf F.GBL_MODE_CAUSE = 0x0F ∧
      t.dev.gf F.GBL_MODE_PREV = mRun ∧ t.dev.gb F.GOV_STAT_TCRIT = true) := by
  have htick := s.dev.calm_tick dt
  have ht' : (s.dev.tick dt).tjCrit ≤ (s.dev.tick dt).tMax := by
    rw [htick.reg.tjCrit, htick.reg.tMax]
    exact ht
  obtain ⟨t, hat, hin⟩ := Dev.inHold_governorCycle dt acts hm hs (by decide : 0x0F < 256) fun t hat hmt =>
    Dev.governorMove_heat hmt (hat.holdN.trans (htick.holdN.trans hp)) (by rw [hat.tjCrit, hat.tMax]; exact ht')
  refine ⟨_, rfl, (State.mode_act _ _).trans hin.mode, ?_, ?_, ?_⟩
  · exact (State.gf_act _ _ rfl (by decide) (by decide)).trans hin.cause
  · exact (State.gf_act _ _ rfl (by decide) (by decide)).trans hin.prev
  · refine beq_iff_eq.2 ?_
    exact (State.gf_act _ _ rfl (by decide) (by decide)).trans (hin.tcrit.trans (hat.tcrit ht'))

/-- Settles O10: the cycle that does nothing (`does_governorCycle_stopped`), the two that lead to Hold
(`Dev.inHold_governorCycle`), and the exchanges and reads of the AVSBus. -/
theorem governorCycleAndAvs : Obligations.GovernorCycleAndAvs := by
  unfold Obligations.GovernorCycleAndAvs
  exact ⟨⟨does_governorCycle_stopped, governorCycle_pin, governorCycle_heat⟩, avs_confirms, avs_repeats, avs_fails,
    avs_written, avs_reads, avs_currents, avs_unasked, avs_early⟩

end Sys2Proof.Machine
end

section
/-! PROOFS. The table of neighbour channels (R69 to R73) as an invariant of its own: which operations on the state leave
the table alone, which keep every channel within its credits, and `Obligations.ChannelsStayWithinCredits`. -/

namespace Sys2Proof.Machine

/-! ### The table -/

/-- `State.channelsOk`, said of the table alone. -/
def nchOk (m : Map Chan) : Bool := Map.wf (fun _ => {}) m && m.all (fun e => e.2.ok)

theorem State.channelsOk_eq (s : State) : s.channelsOk = nchOk s.nch := rfl

theorem Chan.ok_iff (c : Chan) : c.ok = true ↔ c.credits ≤ 4 ∧ c.fifo.length ≤ 4 := by simp [Chan.ok]

theorem nchOk_put {m : Map Chan} {c : Chan} (h : nchOk m = true) (k : Nat) (hc : c.ok = true) :
    nchOk (Map.put (fun _ => {}) m k c) = true := by
  simp only [nchOk, Bool.and_eq_true, List.all_eq_true] at h ⊢
  exact ⟨Map.wf_put h.1 k c, Map.forall_put (P := fun e : Nat × Chan => e.2.ok = true) h.2 hc⟩

theorem nchOk_ite {m m' : Map Chan} {p : Prop} [Decidable p] (h : nchOk m = true) (h' : nchOk m' = true) :
    nchOk (if p then m else m') = true := by
  split_ifs
  · exact h
  · exact h'

/-- What keeps the invariant at every step of a fold keeps it. -/
theorem nchOk_foldl {α : Type} (l : List α) (f : State → α → State)
    (hf : ∀ (s : State) (x : α), nchOk s.nch = true → nchOk (f s x).nch = true) {s : State} (h : nchOk s.nch = true) :
    nchOk (l.foldl f s).nch = true :=
  List.foldlRecOn l f (motive := fun t => nchOk t.nch = true) h fun t ht x _ => hf t x ht

section
variable {s : State} (h : nchOk s.nch = true)
include h

theorem State.ch_le_four (n side j : Nat) : (s.ch n side j).credits ≤ 4 ∧ (s.ch n side j).fifo.length ≤ 4 := by
  simp only [nchOk, Bool.and_eq_true, List.all_eq_true] at h
  exact (Chan.ok_iff _).1 (Map.get_of_forall (P := fun c : Chan => c.ok = true) h.2 (nchKey n side j) rfl)

theorem nchOk_setCh (n side j : Nat) {c : Chan} (hc : c.credits ≤ 4) (hf : c.fifo.length ≤ 4) :
    nchOk (s.setCh n side j c).nch = true := nchOk_put h _ (c.ok_iff.2 ⟨hc, hf⟩)

/-! ### Rooms that enter or leave reset -/

theorem nchOk_flushRx (m side j : Nat) : nchOk (s.flushRx m side j).nch = true := by
  unfold State.flushRx
  cases neighbour m side with
  | none => exact h
  | some n =>
    dsimp only
    split_ifs
    · exact h
    · rw [State.nch_onDev]
      exact nchOk_setCh h _ _ _ (s.ch_le_four h n (opposite side) j).1 (Nat.zero_le 4)

theorem nchOk_flushRoom (m : Nat) : nchOk (s.flushRoom m).nch = true :=
  nchOk_foldl _ _ (fun _ p ht => nchOk_flushRx ht m p.1 p.2) h

theorem nchOk_freshTx (n : Nat) : nchOk (s.freshTx n).nch = true :=
  nchOk_foldl _ _ (fun t p ht => by
    rw [State.nch_onDev]
    exact nchOk_setCh ht _ _ _ le_rfl (t.ch_le_four ht n p.1 p.2).2) h

@[simp] theorem nchOk_act (f : Dev → Dev) : nchOk (s.act f).nch = true := by
  rw [State.act, State.nch_syncHost]
  refine nchOk_foldl _ _ (fun t n ht => ?_) h
  dsimp only
  split_ifs
  · exact nchOk_flushRoom ht n
  · exact nchOk_freshTx ht n
  · exact ht

@[simp] theorem nchOk_actOn (f : Dev → Dev) : nchOk (s.actOn f).nch = true := nchOk_act h _

end

/-! ### Units that leave the table alone -/

section
variable (s : State)

@[simp] theorem State.nch_hbEdge : s.hbEdge.nch = s.nch := by simp [State.hbEdge, apply_ite State.nch]

@[simp] theorem State.nch_hbRead (a : Nat) : (s.hbRead a).nch = s.nch := by simp [State.hbRead, apply_ite State.nch]

@[simp] theorem State.nch_hbUnmapped : s.hbUnmapped.nch = s.nch := by simp [State.hbUnmapped]

@[simp] theorem State.nch_mirrorWrite (a : Nat) (v : Word) : (s.mirrorWrite a v).nch = s.nch := by
  simp [State.mirrorWrite, apply_ite State.nch]

@[simp] theorem State.nch_statusWrite (k : Nat) (v : Word) : (s.statusWrite k v).nch = s.nch := by
  simp [State.statusWrite, apply_ite State.nch]

@[simp] theorem State.nch_unpaired (q : Nat) : (s.unpaired q).nch = s.nch := by simp [State.unpaired]

@[simp] theorem State.nch_postHalf0 (q : Nat) (v : Word) : (s.postHalf0 q v).nch = s.nch := by
  unfold State.postHalf0
  cases s.hb.latch <;> simp

@[simp] theorem State.nch_postHalf1 (q : Nat) (v : Word) : (s.postHalf1 q v).nch = s.nch := by
  unfold State.postHalf1
  cases s.hb.latch with
  | none => simp
  | some l => simp [apply_ite State.nch]

@[simp] theorem State.nch_hbWrite (a : Nat) (v : Word) : (s.hbWrite a v).nch = s.nch := by
  simp [State.hbWrite, apply_ite State.nch]

@[simp] theorem State.nch_passAt (i : Nat) : (s.passAt i).nch = s.nch := by simp [State.passAt, apply_ite State.nch]

@[simp] theorem State.nch_mirFail (wa : Nat) : (s.mirFail wa).nch = s.nch := by simp [State.mirFail]

@[simp] theorem State.nch_mirrorRefresh (us : List (BitVec 72)) : (s.mirrorRefresh us).nch = s.nch := by
  unfold State.mirrorRefresh
  cases s.hb.pass with
  | none => rfl
  | some i => dsimp only; split_ifs <;> simp

@[simp] theorem State.nch_writeThrough (u : BitVec 72) : (s.writeThrough u).nch = s.nch := by
  unfold State.writeThrough
  cases s.hb.buffer with
  | nil => rfl
  | cons e l => dsimp only; split_ifs <;> simp

@[simp] theorem State.nch_reflexFire (j : Nat) (lv : BitVec 64) : (s.reflexFire j lv).nch = s.nch := by
  unfold State.reflexFire
  dsimp only
  cases (s.onDev fun d => d.rfxIn lv).dev.rfxActive j lv <;> dsimp only <;> split_ifs <;> rfl

@[simp] theorem State.nch_hostAppend : s.hostAppend.nch = s.nch := by
  unfold State.hostAppend
  cases s.hb.posts with
  | nil => rfl
  | cons r l => dsimp only; cases s.dev.appendJudge r.1 <;> simp

@[simp] theorem State.nch_posted (p : Nat) : (s.posted p).nch = s.nch := by
  unfold State.posted
  split_ifs <;> rfl

@[simp] theorem State.nch_postFailed (q p : Nat) : (s.postFailed q p).nch = s.nch := by
  simp [State.postFailed, apply_ite State.nch]

@[simp] theorem State.nch_appendAck (q : Nat) : (s.appendAck q).nch = s.nch := by
  unfold State.appendAck
  cases (s.dev.queue q).append with
  | none => rfl
  | some a => simp [apply_ite State.nch]

@[simp] theorem State.nch_spiBegin : s.spiBegin.nch = s.nch := rfl
@[simp] theorem State.nch_hatEnd (p st : Nat) (w : Word) : (s.hatEnd p st w).nch = s.nch := rfl
@[simp] theorem State.nch_capture (st : Nat) (a w : Word) : (s.capture st a w).nch = s.nch := rfl

@[simp] theorem State.nch_roomEdge (n : Nat) : (s.roomEdge n).nch = s.nch := by
  simp [State.roomEdge, apply_ite State.nch]

@[simp] theorem State.nch_fabricEdge : s.fabricEdge.nch = s.nch := by
  simp [State.fabricEdge, apply_ite State.nch, foldl_keeps State.nch _ _ fun s n _ => s.nch_roomEdge n]

end

/-! ### The Hatch and its ports, whose accesses may bring a room into reset or out of it -/

section
variable {s : State} (h : nchOk s.nch = true)
include h

@[simp] theorem nchOk_hatchRead (a : Nat) : nchOk (s.hatchRead a).1.nch = true := nchOk_act h _
@[simp] theorem nchOk_hatchWrite (a : Nat) (v : Word) : nchOk (s.hatchWrite a v).1.nch = true := nchOk_act h _
@[simp] theorem nchOk_spiRead (a : Nat) (r : Bool) : nchOk (s.spiRead a r).1.nch = true :=
  nchOk_hatchRead h a

@[simp] theorem nchOk_drain (k : Nat) : nchOk (s.drain k).nch = true := by
  induction k generalizing s with
  | zero => exact h
  | succ k ih =>
    unfold State.drain
    cases s.dev.hat.buffer with
    | nil => exact h
    | cons x l => exact ih (by simp [h])

@[simp] theorem nchOk_flush : nchOk s.flush.nch = true := nchOk_drain h _

theorem nchOk_bufferWords (vs : List Word) (a : Word) (ks : List Nat) : nchOk (s.bufferWords a vs ks).nch = true := by
  induction vs generalizing s a ks with
  | nil => exact nchOk_drain h _
  | cons v l ih =>
    rw [State.bufferWords]
    dsimp only
    split_ifs
    · simp [h]
    · exact ih (by simp [h]) _ _

@[simp] theorem nchOk_spiWrite (a : Word) (vs : List Word) (ks : List Nat) : nchOk (s.spiWrite a vs ks).nch = true :=
  nchOk_bufferWords (by simpa using h) vs a ks

@[simp] theorem nchOk_spiBurst (l : List Bool) (a : Nat) : nchOk (s.spiBurst a l).1.nch = true := by
  induction l generalizing s a with
  | nil => exact nchOk_spiRead h a true
  | cons r l ih => exact ih (nchOk_spiRead h a r) _

@[simp] theorem nchOk_hatchDr (dr : BitVec 72) : nchOk (s.hatchDr dr).nch = true := by
  unfold State.hatchDr
  dsimp only
  split_ifs
  · simp [h]
  · simp [h]
  · exact h
  · exact h

theorem nchOk_idle : nchOk s.idle.nch = true := nchOk_drain (by simpa using h) 1

end

/-! ### Every command -/

/-- An answer that is a next state with every channel within its credits. -/
def Out.withinCredits (o : Out) : Prop := ∃ t, o = .next t ∧ nchOk t.nch = true

theorem Out.withinCredits_ite {p : Prop} [Decidable p] {a b : Out} (ha : Out.withinCredits a)
    (hb : Out.withinCredits b) : Out.withinCredits (if p then a else b) := by
  split_ifs
  · exact ha
  · exact hb

section
variable {s : State} (h : nchOk s.nch = true)
include h

theorem Out.withinCredits_self : Out.withinCredits (.next s) := ⟨s, rfl, h⟩

theorem Out.withinCredits_setCh {n side j : Nat} {c : Chan} (hc : c.credits ≤ 4) (hf : c.fifo.length ≤ 4) :
    Out.withinCredits (.next (s.setCh n side j c)) := ⟨_, rfl, nchOk_setCh h n side j hc hf⟩

theorem Out.withinCredits_setCh_onDev {n side j : Nat} {c : Chan} {f : Dev → Dev} (hc : c.credits ≤ 4)
    (hf : c.fifo.length ≤ 4) : Out.withinCredits (.next ((s.setCh n side j c).onDev f)) :=
  ⟨_, rfl, nchOk_setCh h n side j hc hf⟩

/-- A word that arrives is stored only in a FIFO of fewer than four words (log entry 76). -/
theorem withinCredits_nchWordArrive (n side j : Nat) : Out.withinCredits (execNchWordArrive n side j s) := by
  obtain ⟨hc, hf⟩ := s.ch_le_four h n side j
  unfold execNchWordArrive
  cases neighbour n side with
  | none => exact Out.withinCredits_self h
  | some m =>
    dsimp only
    cases (s.ch n side j).wires with
    | nil => exact Out.withinCredits_self h
    | cons w rest =>
      dsimp only
      split_ifs with hr hfull
      · exact Out.withinCredits_setCh_onDev h hc hf
      · exact Out.withinCredits_self h
      · exact Out.withinCredits_setCh h hc (by simp only [List.length_append, List.length_singleton]; omega)

theorem withinCredits_nchTake (n side j : Nat) : Out.withinCredits (execNchTake n side j s) := by
  obtain ⟨hc, hf⟩ := s.ch_le_four h n side j
  unfold execNchTake
  cases neighbour n side with
  | none => exact Out.withinCredits_self h
  | some m =>
    dsimp only
    cases hw : (s.ch n side j).fifo with
    | nil => exact Out.withinCredits_self h
    | cons w rest =>
      rw [hw, List.length_cons] at hf
      exact Out.withinCredits_ite (Out.withinCredits_self h) (Out.withinCredits_setCh h hc (by dsimp only; omega))

/-- A send uses one credit; an acknowledge, a NACK and a loss token give credits back, up to four. -/
theorem withinCredits_exec (c : Instr) : Out.withinCredits (exec c s) := by
  have hself := Out.withinCredits_self h
  cases c with
  | nchSend n side j w =>
    obtain ⟨hc, hf⟩ := s.ch_le_four h n side j
    exact Out.withinCredits_ite (Out.withinCredits_setCh h ((Nat.sub_le _ _).trans hc) hf) hself
  | nchWordArrive n side j => exact withinCredits_nchWordArrive h _ _ _
  | nchTake n side j => exact withinCredits_nchTake h _ _ _
  | nchAckArrive n side j =>
    exact Out.withinCredits_ite hself (Out.withinCredits_setCh h (min_le_left _ _) (s.ch_le_four h n side j).2)
  | nchNack n side j =>
    exact Out.withinCredits_ite hself (Out.withinCredits_setCh_onDev h (min_le_left _ _) (s.ch_le_four h n side j).2)
  | nchLossToken n side j =>
    exact Out.withinCredits_ite hself (Out.withinCredits_setCh_onDev h le_rfl (s.ch_le_four h n side j).2)
  | txResync n side j =>
    obtain ⟨hc, hf⟩ := s.ch_le_four h n side j
    exact Out.withinCredits_ite (Out.withinCredits_setCh_onDev h hc hf) hself
  | internalReset | resetNLow | vccAoLoss =>
    exact Out.withinCredits_ite ⟨_, rfl, nchOk_act (s := s.clearChannels) rfl _⟩ hself
  | internalAppend src =>
    refine ⟨_, rfl, ?_⟩
    cases src <;> simp [apply_ite State.nch, h]
  | mirrorPassStart | mirrorRefreshData | writeThroughDone | appendAck | spiStatus | spiUnknownCommand =>
    exact ⟨_, rfl, by simp [apply_ite State.nch, h]⟩
  | registerWrite | spiReadWord | spiWriteWord | spiBurstRead | spiBurstWrite | hatchUpdateDr =>
    refine ⟨_, rfl, ?_⟩
    rw [apply_ite State.nch]
    exact nchOk_ite (by simp [h]) h
  | _ => exact ⟨_, rfl, by simp [h]⟩

end

/-- Settles O4: the invariant is one of the table of channels alone, which every command keeps (`withinCredits_exec`),
and the block's idling as well (`nchOk_idle`). -/
theorem channelsStayWithinCredits : Obligations.ChannelsStayWithinCredits := by
  unfold Obligations.ChannelsStayWithinCredits
  intro s t h hstep
  rw [State.channelsOk_eq] at h ⊢
  unfold step at hstep
  cases hq : s.pending with
  | nil =>
    rw [hq] at hstep
    cases hstep
    exact nchOk_idle h
  | cons c l =>
    rw [hq] at hstep
    change exec c (s.withPending l) = _ at hstep
    obtain ⟨t', ht', hok⟩ := withinCredits_exec (s := s.withPending l) h c
    rw [ht'] at hstep
    cases hstep
    exact hok

end Sys2Proof.Machine
end

section
/-! PROOFS. The way of a word on a neighbour channel, its refused state, and the crossing of an unbonded bank (R66, R70,
R72, R73): `Obligations.NeighbourChannels`. -/

namespace Sys2Proof.Machine

/-! ### Ports and peers -/

theorem State.txReady_iff (s : State) (n side j : Nat) : s.txReady n side j = true ↔
    (neighbour n side).isSome = true ∧ s.dev.roomUp n = true ∧ s.dev.portEn n (txPort side j) = true ∧
      s.dev.txRefused n side j = false ∧ 0 < (s.ch n side j).credits := by
  simp [State.txReady, and_assoc]

@[simp] theorem State.ch_setCh (s : State) (n side j : Nat) (c : Chan) : (s.setCh n side j c).ch n side j = c :=
  Map.get_put_same _ _ _ _

/-- The refused state of a sending port reads as set: its bit is one of the sixteen of ROOM_NCH_STAT.TX_REFUSED. -/
theorem Dev.txRefused_setTxRefused (d : Dev) (n : Nat) (side j : Fin 4) (v : Bool) :
    (d.setTxRefused n side j v).txRefused n side j = v := by
  have hbit : 4 * side.val + j.val < 32 := by omega
  unfold Dev.txRefused Dev.setTxRefused Dev.sf
  rw [Dev.reg_setReg, getLsbD_putBits]
  cases v <;> simp [hbit, b2n]

/-- The neighbour on a side is there and up: a bit of ROOM_NCH_STAT.PEER_UP. -/
def Dev.peerOn (d : Dev) (n side : Nat) : Bool := (neighbour n side).any d.roomUp

theorem Dev.peerUp_eq (d : Dev) (n : Nat) :
    d.peerUp n = (List.range 4).foldl (fun v side => v + 2 ^ side * b2n (d.peerOn n side)) 0 := by
  refine congrArg (fun f => List.foldl f 0 (List.range 4)) (funext fun v => funext fun side => ?_)
  unfold Dev.peerOn
  cases neighbour n side with
  | none => rfl
  | some m => cases hm : d.roomUp m <;> simp [hm, b2n]

theorem Dev.bitOf_peerUp (d : Dev) (n : Nat) (side : Fin 4) : bitOf (d.peerUp n) side = d.peerOn n side := by
  have hbits : ∀ a b c e : Bool, ∀ v, v = 0 + 2 ^ 0 * b2n a + 2 ^ 1 * b2n b + 2 ^ 2 * b2n c + 2 ^ 3 * b2n e →
      bitOf v 0 = a ∧ bitOf v 1 = b ∧ bitOf v 2 = c ∧ bitOf v 3 = e := by
    rintro a b c e v rfl
    revert a b c e
    decide
  obtain ⟨h0, h1, h2, h3⟩ := hbits _ _ _ _ _ (d.peerUp_eq n)
  match side with
  | 0 => exact h0
  | 1 => exact h1
  | 2 => exact h2
  | 3 => exact h3

/-- TX_RESYNC acts on a refused port of a running room exactly while the room on the other side is up (R72). -/
theorem execTxResync_eq {s : State} {n m : Nat} {side j : Fin 4} (hm : neighbour n side = some m)
    (hr : s.dev.txRefused n side j = true) (hg : (s.dev.room n).gsr = false) :
    execTxResync n side j s = if s.dev.roomUp m then
      .next ((s.setCh n side j { s.ch n side j with
        rxRefusing := false, wires := (s.ch n side j).wires.map (fun w => (w.1, true)) }).onDev
          (fun d => d.setTxRefused n side j false))
      else .next s := by
  simp [execTxResync, hr, hg, Dev.bitOf_peerUp, Dev.peerOn, hm]

/-! ### The way of a word (R70, R72) -/

theorem nchSend_word (n : Fin 64) (side j : Fin 4) (data : BitVec 36) (s : State) :
    let c := s.ch n side j
    let ready := (neighbour n side).isSome = true ∧ s.dev.roomUp n = true ∧ s.dev.portEn n (txPort side j) = true ∧
      s.dev.txRefused n side j = false ∧ 0 < c.credits
    (ready → exec (.nchSend n side j data) s =
      .next (s.setCh n side j { c with credits := c.credits - 1, wires := c.wires ++ [(data, false)] })) ∧
    (¬ ready → exec (.nchSend n side j data) s = .next s) :=
  ⟨fun h => if_pos ((s.txReady_iff _ _ _).2 h), fun h => if_neg (mt (s.txReady_iff _ _ _).1 h)⟩

/-- A word on the wires reaches its receiving port. -/
theorem execNchWordArrive_eq {s : State} {n m side j : Nat} {w : BitVec 36} {mark : Bool}
    {rest : List (BitVec 36 × Bool)} (hm : neighbour n side = some m) (hw : (s.ch n side j).wires = (w, mark) :: rest) :
    execNchWordArrive n side j s =
      if s.rxRefuses m side j (s.ch n side j) mark then
        .next ((s.setCh n side j { s.ch n side j with
          wires := rest, nacks := (s.ch n side j).nacks + 1, rxRefusing := true }).onDev
            (fun d => d.cnt F.ROOM_NCH_CNT_REFUSED m (rxPort (opposite side) j)))
      else if 4 ≤ (s.ch n side j).fifo.length then .next s
      else .next (s.setCh n side j { s.ch n side j with wires := rest, fifo := (s.ch n side j).fifo ++ [w] }) := by
  simp only [execNchWordArrive, hm, hw]

theorem State.rxRefuses_iff (s : State) (m side j : Nat) (c : Chan) (mark : Bool) : s.rxRefuses m side j c mark = true ↔
    (mark = true ∨ c.rxRefusing = true ∨ s.dev.roomUp m = false ∨
      s.dev.portEn m (rxPort (opposite side) j) = false) := by
  simp [State.rxRefuses, or_assoc]

theorem execNchTake_eq {s : State} {n m side j : Nat} {w : BitVec 36} {rest : List (BitVec 36)}
    (hm : neighbour n side = some m) (hw : (s.ch n side j).fifo = w :: rest) :
    execNchTake n side j s = if (s.dev.room m).gsr then .next s
      else .next (s.setCh n side j { s.ch n side j with fifo := rest, acks := (s.ch n side j).acks + 1 }) := by
  simp only [execNchTake, hm, hw]

theorem nchWordArrive_word (n m : Fin 64) (side j : Fin 4) (w : BitVec 36) (mark : Bool)
    (rest : List (BitVec 36 × Bool)) (s : State) :
    let c := s.ch n side j
    let rx := rxPort (opposite side) j
    neighbour n side = some m.val → c.wires = (w, mark) :: rest →
    (mark = false → c.rxRefusing = false → s.dev.roomUp m = true → s.dev.portEn m rx = true → c.fifo.length < 4 →
      exec (.nchWordArrive n side j) s = .next (s.setCh n side j { c with wires := rest, fifo := c.fifo ++ [w] })) ∧
    ((mark = true ∨ c.rxRefusing = true ∨ s.dev.roomUp m = false ∨ s.dev.portEn m rx = false) →
      exec (.nchWordArrive n side j) s = .next ((s.setCh n side j { c with
        wires := rest, nacks := c.nacks + 1, rxRefusing := true }).onDev (fun d => d.cnt F.ROOM_NCH_CNT_REFUSED m
            rx))) := by
  intro c rx hm hw
  have hx := execNchWordArrive_eq hm hw
  refine ⟨fun hmark hrx hup hen hlen => ?_, fun h => hx.trans (if_pos ((s.rxRefuses_iff _ _ _ _ _).2 h))⟩
  have hr : ¬ s.rxRefuses m side j c mark = true := by
    rw [State.rxRefuses_iff]
    rintro (h | h | h | h)
    · exact absurd (hmark.symm.trans h) (by decide)
    · exact absurd (hrx.symm.trans h) (by decide)
    · exact absurd (hup.symm.trans h) (by decide)
    · exact absurd (hen.symm.trans h) (by decide)
  exact hx.trans ((if_neg hr).trans (if_neg (Nat.not_le.2 hlen)))

/-! ### Refused channels (R72, R73) -/

theorem txResync_port (n m : Fin 64) (side j : Fin 4) (s : State) :
    let c := s.ch n side j
    neighbour n side = some m.val → s.dev.txRefused n side j = true → (s.dev.room n).gsr = false →
    (s.dev.roomUp m = true → Yields (.txResync n side j) s (fun t => t.dev.txRefused n side j = false ∧
      t.ch n side j = { c with rxRefusing := false, wires := c.wires.map (fun w => (w.1, true)) } ∧
      t.dev.rooms = s.dev.rooms ∧ t.hb = s.hb)) ∧
    (s.dev.roomUp m = false → exec (.txResync n side j) s = .next s) := by
  intro c hm hr hg
  have hx := execTxResync_eq hm hr hg
  refine ⟨fun hup => ?_, fun hup => hx.trans (if_neg (by simp [hup]))⟩
  exact ⟨_, hx.trans (if_pos hup), Dev.txRefused_setTxRefused _ _ _ _ _, s.ch_setCh _ _ _ _, rfl, rfl⟩

/-! ### The crossing of an unbonded bank (R66) -/

/-- A room's bank registers after the words that have crossed, with `q` in the FIFO of the direction. -/
def Room.crossInto (r : Room) (toPin : Bool) (drained : Nat) (q : List (BitVec 440)) : Room :=
  if toPin then { r.crossed toPin drained with crossOut := q } else { r.crossed toPin drained with crossIn := q }

/-- The FIFO of a direction once the words that have crossed have left it. -/
def Dev.crossLeft (d : Dev) (b : Nat) (toPin : Bool) (drained : Nat) : List (BitVec 440) :=
  (if toPin then (d.room (facingRoom b)).crossOut else (d.room (facingRoom b)).crossIn).drop drained

theorem Dev.bankCrossing_of_bonded {d : Dev} {b : Nat} (h : d.gb F.CLK_ISL_CTRL_BOND (64 + b) = true) (toPin : Bool)
    (word : BitVec 440) (drained : Nat) : d.bankCrossing b toPin word drained = d := if_pos h

theorem Dev.bankCrossing_joins {d : Dev} {b drained : Nat} {toPin : Bool}
    (h : d.gb F.CLK_ISL_CTRL_BOND (64 + b) = false) (hq : (d.crossLeft b toPin drained).length < 8)
    (word : BitVec 440) :
    d.bankCrossing b toPin word drained =
      d.onRoom (facingRoom b) (fun r => r.crossInto toPin drained (d.crossLeft b toPin drained ++ [word])) := by
  unfold Dev.crossLeft at *
  simp only [Dev.bankCrossing, h, Bool.false_eq_true, if_false, if_pos hq]
  rfl

theorem Dev.bankCrossing_overflows {d : Dev} {b drained : Nat} {toPin : Bool}
    (h : d.gb F.CLK_ISL_CTRL_BOND (64 + b) = false) (hq : 8 ≤ (d.crossLeft b toPin drained).length)
    (word : BitVec 440) :
    d.bankCrossing b toPin word drained =
      ((d.onRoom (facingRoom b) (fun r => r.crossInto toPin drained (d.crossLeft b toPin drained))).sf
        (if toPin then F.ROOM_BANK_OVF_OUT else F.ROOM_BANK_OVF_IN) (facingRoom b) 0 1).noticeFree 0x64 := by
  unfold Dev.crossLeft at *
  simp only [Dev.bankCrossing, h, Bool.false_eq_true, if_false, if_neg (Nat.not_lt.2 hq)]
  cases toPin <;> rfl

theorem Room.queue_crossInto (r : Room) (toPin : Bool) (drained : Nat) (q : List (BitVec 440)) :
    (if toPin then (r.crossInto toPin drained q).crossOut else (r.crossInto toPin drained q).crossIn) = q := by
  cases toPin <;> rfl

/-- The registers at the far end show the last of the words that have crossed. -/
theorem Room.shows_crossInto {r : Room} {toPin : Bool} {drained : Nat} {w : BitVec 440}
    (h : ((if toPin then r.crossOut else r.crossIn).take drained).getLast? = some w) (q : List (BitVec 440)) :
    if toPin then (r.crossInto toPin drained q).bankOut = w.setWidth 400 ∧
      (r.crossInto toPin drained q).bankOe = (w >>> 400).setWidth 40
    else (r.crossInto toPin drained q).bankIn = w.setWidth 400 := by
  unfold Room.crossInto Room.crossed
  rw [h]
  cases toPin
  · rfl
  · exact ⟨rfl, rfl⟩

theorem bankCrossingWord_unbonded (b : Fin 18) (toPin : Bool) (word : BitVec 440) (drained : Nat) (s : State) :
    let n := facingRoom b
    let q := fun (r : Room) => if toPin then r.crossOut else r.crossIn
    s.dev.gb F.CLK_ISL_CTRL_BOND (64 + b) = false →
    (((q (s.dev.room n)).drop drained).length < 8 → Yields (.bankCrossingWord b toPin word drained) s (fun t =>
      q (t.dev.room n) = (q (s.dev.room n)).drop drained ++ [word] ∧ t.dev.regs = s.dev.regs ∧
      (∀ w, ((q (s.dev.room n)).take drained).getLast? = some w → if toPin
        then (t.dev.room n).bankOut = w.setWidth 400 ∧ (t.dev.room n).bankOe = (w >>> 400).setWidth 40
        else (t.dev.room n).bankIn = w.setWidth 400) ∧
      ∀ m, m ≠ n → t.dev.room m = s.dev.room m)) ∧
    (8 ≤ ((q (s.dev.room n)).drop drained).length → Yields (.bankCrossingWord b toPin word drained) s (fun t =>
      q (t.dev.room n) = (q (s.dev.room n)).drop drained ∧
      t.dev.gb (if toPin then F.ROOM_BANK_OVF_OUT else F.ROOM_BANK_OVF_IN) n = true)) := by
  intro n q hbond
  refine ⟨fun hq => ⟨_, rfl, ?_⟩, fun hq => ⟨_, rfl, ?_⟩⟩
  · dsimp only [q]
    rw [State.dev_onDev, Dev.bankCrossing_joins hbond hq]
    rw [Dev.room_onRoom]
    exact ⟨Room.queue_crossInto _ _ _ _, rfl, fun w hw => Room.shows_crossInto hw _,
      fun m hm => Dev.room_onRoom_ne _ _ (Ne.symm hm)⟩
  · have hn : n < 65536 := (facingRoom_lt b).trans (by decide)
    dsimp only [q]
    rw [State.dev_onDev, Dev.bankCrossing_overflows hbond hq, Dev.room_noticeFree, Dev.room_sf, Dev.room_onRoom]
    refine ⟨Room.queue_crossInto _ _ _ _, beq_iff_eq.2 ?_⟩
    cases toPin
    · exact (Dev.gf_noticeFree _ _ rfl hn (by decide)).trans (Dev.gf_sf _ F.ROOM_BANK_OVF_IN _ _ _ (by decide))
    · exact (Dev.gf_noticeFree _ _ rfl hn (by decide)).trans (Dev.gf_sf _ F.ROOM_BANK_OVF_OUT _ _ _ (by decide))

/-- Settles O23: each row is one equation of its command (`execNchWordArrive_eq`, `execNchTake_eq`, `execTxResync_eq`,
`Dev.bankCrossing_joins`, `Dev.bankCrossing_overflows`), and acknowledges, NACKs and loss tokens are one guard each. -/
theorem neighbourChannels : Obligations.NeighbourChannels := by
  unfold Obligations.NeighbourChannels
  refine ⟨⟨nchSend_word, nchWordArrive_word, ?_, ?_⟩, ⟨?_, ?_, txResync_port⟩, bankCrossingWord_unbonded, ?_⟩
  · intro n m side j w rest s c hm hw hg
    exact (execNchTake_eq hm hw).trans (if_neg (by simp [hg]))
  · exact fun n side j s h => if_neg (Nat.pos_iff_ne_zero.1 h)
  · exact fun n side j s h => if_neg (Nat.pos_iff_ne_zero.1 h)
  · exact fun n side j s h => if_neg (Nat.pos_iff_ne_zero.1 h)
  · exact fun b toPin word drained s h => does_onDev rfl (Dev.bankCrossing_of_bonded h toPin word drained)

end Sys2Proof.Machine
end

section
/-! PROOFS. Endpoints, their slots and buffers, and packets on the corridor: what reads give after each operation, and
one equation per case of a request's or a response's arrival (R77 to R83). -/

namespace Sys2Proof.Machine

/-! ### Endpoints and slots -/

@[simp] theorem Room.ep_onEp (r : Room) (e : Nat) (f : Endpoint → Endpoint) : (r.onEp e f).ep e = f (r.ep e) := by
  unfold Room.onEp Room.ep
  split_ifs <;> rfl

@[simp] theorem Dev.ep_onEp (d : Dev) (n e : Nat) (f : Endpoint → Endpoint) : (d.onEp n e f).ep n e = f (d.ep n e) := by
  simp [Dev.ep, Dev.onEp]

theorem Room.onEp_congr {r : Room} {e : Nat} {f g : Endpoint → Endpoint} (h : f (r.ep e) = g (r.ep e)) :
    r.onEp e f = r.onEp e g := by
  unfold Room.onEp Room.ep at *
  split_ifs at * <;> rw [h]

/-- A change of an endpoint is what it makes of that endpoint. -/
theorem Dev.onEp_congr {d : Dev} {n e : Nat} {f g : Endpoint → Endpoint} (h : f (d.ep n e) = g (d.ep n e)) :
    d.onEp n e f = d.onEp n e g := by
  unfold Dev.onEp Dev.onRoom
  dsimp only
  rw [Room.onEp_congr h]

@[simp] theorem Endpoint.slot_setSlot (x : Endpoint) (k : Nat) (v : Slot) : (x.setSlot k v).slot k = v :=
  Map.get_put_same _ _ _ _

theorem Endpoint.slot_setSlot_ne (x : Endpoint) {k k' : Nat} (v : Slot) (h : k' ≠ k) :
    (x.setSlot k v).slot k' = x.slot k' := by
  simp only [Endpoint.slot, Endpoint.setSlot]
  exact Map.get_put_ne _ _ _ _ (Ne.symm h)

theorem Endpoint.slot_withRespBuf (x : Endpoint) (l : List RespPkt) (k : Nat) :
    ({ x with respBuf := l } : Endpoint).slot k = x.slot k := rfl

/-! ### Issue (R77, R81, R83) -/

theorem Dev.free_ne_nil {d : Dev} {n e : Nat} {op len : BitVec 4} (h : d.mayIssue n e op len = true) :
    (d.ep n e).free ≠ [] := by
  simp only [Dev.mayIssue, Bool.and_eq_true, Bool.not_eq_true', List.isEmpty_eq_false_iff] at h
  exact h.1.1.2

/-- The slot an issue takes is a free one. -/
theorem Dev.pickSlot_mem {d : Dev} {n e : Nat} (h : (d.ep n e).free ≠ []) : d.pickSlot n e ∈ (d.ep n e).free := by
  have hlt := Nat.mod_lt (Config.freeWord d.free).toNat (List.length_pos_iff.2 h)
  rw [Dev.pickSlot, List.getD_eq_getElem _ _ hlt]
  exact List.getElem_mem hlt

/-- The slot of a request as an issue leaves it. -/
def Dev.issuedSlot (d : Dev) (n e : Nat) (op len : BitVec 4) (rtr port : Nat) : Slot :=
  { busy := true, gen := !((d.ep n e).slot (d.pickSlot n e)).gen, reserve := respNeed op (packetLen op len)
    timeout := d.gf F.ROOM_COR_CTRL_TIMEOUT n, isRead := op == opRead, len := packetLen op len
    rtr := rtr, port := port }

/-- The packet that an issue sends. -/
def Dev.issuedPacket (d : Dev) (n e : Nat) (op len : BitVec 4) (rtr port : Nat) (addr : Word)
    (flits : List (BitVec 64)) : Packet :=
  { no := d.issued, op := op, len := packetLen op len, dstRtr := rtr, dstPort := port, srcRtr := n, srcPort := e
    gen := !((d.ep n e).slot (d.pickSlot n e)).gen, slot := d.pickSlot n e, addr := addr, flits := flits
    need := payloadFlits op (packetLen op len) }

theorem Dev.corIssue_eq {d : Dev} {n e : Nat} {op len : BitVec 4} {flits : List (BitVec 64)}
    (h : d.mayIssue n e op len = true) (hf : flits.length ≤ payloadFlits op (packetLen op len)) (rtr port : Nat)
    (addr : Word) :
    d.corIssue n e op len rtr port addr flits =
      { ({ d with free := d.free + 1 } : Dev).onEp n e
          (fun x => x.setSlot (d.pickSlot n e) (d.issuedSlot n e op len rtr port)) with
        issued := d.issued + 1, net := d.net ++ [d.issuedPacket n e op len rtr port addr flits] } :=
  if_pos (by simp [h, hf])

theorem Dev.corIssue_of_not {d : Dev} {n e : Nat} {op len : BitVec 4} (h : d.mayIssue n e op len = false)
    (rtr port : Nat) (addr : Word) (flits : List (BitVec 64)) : d.corIssue n e op len rtr port addr flits = d :=
  if_neg (by simp [h])

theorem corRequestIssue_takes (n : Fin 64) (e : Fin 4) (op len : BitVec 4) (rtr : Fin 64) (port : BitVec 3)
    (addr : Word) (flits : List (BitVec 64)) (s : State) :
    let l := packetLen op len
    s.dev.mayIssue n e op len = true → flits.length ≤ payloadFlits op l →
    Yields (.corRequestIssue n e op len rtr port addr flits) s (fun t => ∃ k, k ∈ (s.dev.ep n e).free ∧
      t.dev.net = s.dev.net ++ [{
        no := s.dev.issued, op := op, len := l, dstRtr := rtr, dstPort := port.toNat, srcRtr := n, srcPort := e,
        gen := !((s.dev.ep n e).slot k).gen, slot := k, addr := addr, flits := flits, need := payloadFlits op l }] ∧
      (t.dev.ep n e).slot k = {
        busy := true, gen := !((s.dev.ep n e).slot k).gen, reserve := respNeed op l,
        timeout := s.dev.gf F.ROOM_COR_CTRL_TIMEOUT n, isRead := op == opRead, len := l, rtr := rtr,
            port := port.toNat } ∧
      (∀ k', k' ≠ k → (t.dev.ep n e).slot k' = (s.dev.ep n e).slot k') ∧ t.dev.regs = s.dev.regs) := by
  intro l hmay hf
  have hep : (s.dev.corIssue n e op len rtr port.toNat addr flits).ep n e =
      (s.dev.ep n e).setSlot (s.dev.pickSlot n e) (s.dev.issuedSlot n e op len rtr port.toNat) := by
    rw [Dev.corIssue_eq hmay hf]
    exact Dev.ep_onEp { s.dev with free := s.dev.free + 1 } n e _
  refine ⟨_, rfl, s.dev.pickSlot n e, Dev.pickSlot_mem (Dev.free_ne_nil hmay), ?_, ?_, fun k' hk => ?_, ?_⟩
  · rw [State.dev_onDev, Dev.corIssue_eq hmay hf]
    rfl
  · rw [State.dev_onDev, hep, Endpoint.slot_setSlot]
    rfl
  · rw [State.dev_onDev, hep, Endpoint.slot_setSlot_ne _ _ hk]
  · rw [State.dev_onDev, Dev.corIssue_eq hmay hf]
    rfl

/-! ### A further payload flit (R171, R183) -/

/-- A packet that port `p` of room `n` has only partly injected. -/
def Packet.openAt (x : Packet) (n p : Nat) : Prop := x.srcRtr = n ∧ x.srcPort = p ∧ x.flits.length < x.need

theorem Packet.inject_of_open {x : Packet} {n p : Nat} (h : x.openAt n p) (flit : BitVec 64) :
    x.inject n p flit = { x with flits := x.flits ++ [flit] } := by
  obtain ⟨hn, hp, hlt⟩ := h
  exact if_pos ⟨hn, hp, decide_eq_true hlt⟩

theorem Packet.inject_of_not_open {x : Packet} {n p : Nat} (h : ¬ x.openAt n p) (flit : BitVec 64) :
    x.inject n p flit = x := if_neg fun ⟨hn, hp, hlt⟩ => h ⟨hn, hp, of_decide_eq_true hlt⟩

theorem map_inject_of_not_open {l : List Packet} {n p : Nat} (h : ∀ y ∈ l, ¬ y.openAt n p) (flit : BitVec 64) :
    l.map (Packet.inject n p flit) = l :=
  (List.map_congr_left fun y hy => Packet.inject_of_not_open (h y hy) flit).trans l.map_id

/-- Among packets of which only `x` is partly injected, the flit joins `x`. -/
theorem map_inject_of_open {before after : List Packet} {x : Packet} {n p : Nat} (hx : x.openAt n p)
    (h : ∀ y ∈ before ++ after, ¬ y.openAt n p) (flit : BitVec 64) :
    (before ++ x :: after).map (Packet.inject n p flit) = before ++ { x with flits := x.flits ++ [flit] } :: after := by
  rw [List.map_append, List.map_cons, Packet.inject_of_open hx,
    map_inject_of_not_open (fun y hy => h y (List.mem_append_left _ hy)),
    map_inject_of_not_open (fun y hy => h y (List.mem_append_right _ hy))]

/-- Answered packets whose flits are still to come keep their links, and so do those without an answer. -/
theorem filter_links_of_forall {l : List Packet} (h : ∀ y ∈ l, y.answered = true → y.flits.length < y.need) :
    l.filter (fun x => x.isPartial || !x.answered) = l := by
  refine List.filter_eq_self.2 fun y hy => ?_
  cases ha : y.answered
  · simp
  · simpa [Packet.isPartial] using h y hy ha

theorem payloadFlitInject_joins (n : Fin 64) (p : Fin 6) (flit : BitVec 64) (x : Packet) (before after : List Packet)
    (s : State) :
    x.srcRtr = n → x.srcPort = p → x.flits.length < x.need →
    (∀ y ∈ before ++ after, ¬ (y.srcRtr = n ∧ y.srcPort = p ∧ y.flits.length < y.need)) →
    (∀ y ∈ s.dev.held, y.answered = true → y.flits.length < y.need) →
    let x' := { x with flits := x.flits ++ [flit] }
    (s.dev.net = before ++ x :: after → (∀ y ∈ s.dev.held, ¬ (y.srcRtr = n ∧ y.srcPort = p ∧
        y.flits.length < y.need)) →
      Does (.payloadFlitInject n p flit) s { s.dev with net := before ++ x' :: after }) ∧
    (s.dev.held = before ++ x :: after → (∀ y ∈ s.dev.net, ¬ (y.srcRtr = n ∧ y.srcPort = p ∧
        y.flits.length < y.need)) →
      Does (.payloadFlitInject n p flit) s { s.dev with held := before ++
        (if x'.flits.length < x.need ∨ x.answered = false then [x'] else []) ++ after }) := by
  intro hn hp hlt hothers hans x'
  have hx : x.openAt n p := ⟨hn, hp, hlt⟩
  refine ⟨fun hnet hheld => does_onDev rfl ?_, fun hheld hnet => does_onDev rfl ?_⟩
  · unfold Dev.injectFlit
    rw [map_inject_of_not_open hheld, filter_links_of_forall hans, hnet, map_inject_of_open hx hothers]
  · have hkeep : ∀ l ⊆ before ++ x :: after, l.filter (fun x => x.isPartial || !x.answered) = l := fun l hl =>
      filter_links_of_forall fun y hy => hans y (hheld ▸ hl hy)
    unfold Dev.injectFlit
    rw [map_inject_of_not_open hnet, hheld, map_inject_of_open hx hothers, List.filter_append, List.filter_cons,
      hkeep before (by simp), hkeep after (by simp)]
    congr 1
    rw [List.append_assoc]
    congr 1
    by_cases hc : x'.flits.length < x.need ∨ x.answered = false
    · rw [if_pos hc, if_pos (by simpa [x', Packet.isPartial] using hc)]
      rfl
    · rw [if_neg hc, if_neg (by simpa [x', Packet.isPartial] using hc)]
      rfl

end Sys2Proof.Machine
end

section
/-! PROOFS. Requests that arrive, at an endpoint and at an attach port; an endpoint's buffers, responses and timers; and
`Obligations.CorridorExchanges`. -/

namespace Sys2Proof.Machine

/-! ### Requests that arrive at an endpoint (R79, R82, R83) -/

theorem Packet.isPartial_of_whole {p : Packet} (h : p.need ≤ p.flits.length) : p.isPartial = false :=
  decide_eq_false (Nat.not_lt.2 h)

/-- A whole request reaches its endpoint. -/
theorem Dev.corArrive_of_whole {d : Dev} {k : Nat} {p : Packet} (h : d.arriving k = some p) (hp : p.dstPort < 4)
    (hw : p.need ≤ p.flits.length) :
    d.corArrive k = ({ d with net := d.net.eraseIdx k } : Dev).endpointArrive p.dstRtr p.dstPort p := by
  simp only [Dev.corArrive, h, if_pos hp, Packet.isPartial_of_whole hw]
  rfl

theorem Dev.corArrive_of_partial {d : Dev} {k : Nat} {p : Packet} (h : d.arriving k = some p) (hp : p.dstPort < 4)
    (hw : p.flits.length < p.need) :
    d.corArrive k = { d with net := d.net.modify k (fun p => { p with here := true }) } := by
  simp only [Dev.corArrive, h, if_pos hp, show p.isPartial = true from decide_eq_true hw]
  rfl

theorem Dev.endpointArrive_buffers {d : Dev} {m e : Nat} {p : Packet} (hg : (d.room m).gsr = false)
    (hc : (d.room m).clamps = false) (ht : (d.gf F.ROOM_COR_CTRL_TGT_EN m).testBit e = true) (hop : p.op.toNat < 4)
    (hroom : (d.ep m e).reqBuf = [] ∨ ((d.ep m e).reqBuf.map Packet.size).sum + p.size ≤ 16) :
    d.endpointArrive m e p = d.onEp m e (fun x => { x with reqBuf := x.reqBuf ++ [p] }) := by
  have hroom' : (((d.ep m e).reqBuf.map Packet.size).sum = 0 ||
      decide (((d.ep m e).reqBuf.map Packet.size).sum + p.size ≤ 16)) = true := by
    rcases hroom with h | h <;> simp [h]
  have hop' : ¬ 4 ≤ p.op.toNat := Nat.not_le.2 hop
  simp only [Dev.endpointArrive, hg, hc, bitOf, ht, hop', Bool.or_self, Bool.not_true, decide_false,
    Bool.false_eq_true, if_false]
  exact if_pos hroom'

theorem Dev.endpointArrive_border {d : Dev} {m e : Nat} {p : Packet}
    (h : (d.room m).gsr = true ∨ (d.room m).clamps = true) :
    d.endpointArrive m e p = d.borderAnswer m e p (!(d.room m).down) :=
  if_pos (by simpa using h)

/-! ### Requests whose header reaches an attach port (R76, R171) -/

/-- The answer to a whole request at the last place of the attach ports, which it leaves. -/
theorem Dev.answerAt_last {d : Dev} {l : List Packet} {p : Packet} (hd : d.held = l ++ [p])
    (hw : p.need ≤ p.flits.length) (st : Nat) (data : List (BitVec 64)) :
    d.answerAt (some l.length) st data = ({ d with held := l } : Dev).respond p st data := by
  have hget : d.held[l.length]? = some p := by simp [hd]
  have herase : d.held.eraseIdx l.length = l := by simp [hd, List.eraseIdx_append_of_length_le]
  simp only [Dev.answerAt, hget, Packet.isPartial_of_whole hw, Bool.false_eq_true, if_false, herase]

theorem Dev.countDown_withHeld (d : Dev) (p : Packet) (st : Nat) (l : List Packet) :
    ({ d with held := l } : Dev).countDown p st = { d.countDown p st with held := l } := by
  unfold Dev.countDown
  cases attachOf p.dstRtr with
  | none => rfl
  | some x => cases x with
    | quad q => dsimp only; split_ifs <;> rfl
    | dram n | core a => rfl

theorem Dev.countDown_of_noTarget (d : Dev) {p : Packet} (h : attachOf p.dstRtr = none) (st : Nat) :
    d.countDown p st = d := by
  simp only [Dev.countDown, h]

/-- Where no port of an attachment is addressed, the request is answered NO_TARGET. -/
theorem Dev.corArrive_of_noPort {d : Dev} {k : Nat} {p : Packet} (h : d.arriving k = some p) (hp : 4 ≤ p.dstPort)
    (hw : p.need ≤ p.flits.length) (h6 : p.dstPort ≠ 6) :
    d.corArrive k = ({ d with net := d.net.eraseIdx k } : Dev).respond p stNoTarget [] := by
  simp only [Dev.corArrive, h, if_neg (Nat.not_lt.2 hp), if_neg h6]
  exact Dev.answerAt_last (d := d.hold k p) rfl hw _ _

/-- A request that its attachment refuses is counted, and answered with the refusal's status. -/
theorem Dev.corArrive_of_answer {d : Dev} {k st : Nat} {p : Packet} (h : d.arriving k = some p)
    (hw : p.need ≤ p.flits.length) (h6 : p.dstPort = 6) (ha : d.attachAnswer p = some st) :
    d.corArrive k = (({ d with net := d.net.eraseIdx k } : Dev).countDown p st).respond p st [] := by
  have hport : ¬ p.dstPort < 4 := by omega
  have ha' : (d.hold k p).attachAnswer p = some st := ha
  have hdown : (d.hold k p).countDown p st =
      { (d.dropNet k).countDown p st with held := d.held ++ [p] } := Dev.countDown_withHeld (d.dropNet k) p st _
  simp only [Dev.corArrive, h, if_neg hport, if_pos h6, ha']
  rw [hdown, Dev.answerAt_last rfl hw]
  exact congrArg (Dev.respond · p st []) (Dev.countDown_withHeld (d.dropNet k) p st d.held).symm

/-- Any other request waits, and its room's line is raised at the arbiter in front of the target. -/
theorem Dev.corArrive_of_wait {d : Dev} {k : Nat} {p : Packet} {x : Target} (h : d.arriving k = some p)
    (h6 : p.dstPort = 6) (ha : d.attachAnswer p = none) (hx : attachOf p.dstRtr = some x)
    (hf : d.fenced (d.roomArb x) p.srcRtr = false) :
    d.corArrive k = (d.hold k p).onArb (d.roomArb x) (fun y => y.raise p.srcRtr) := by
  have hport : ¬ p.dstPort < 4 := by omega
  have ha' : (d.hold k p).attachAnswer p = none := ha
  simp only [Dev.corArrive, h, if_neg hport, if_pos h6, ha', hx]
  exact if_neg (by rw [show (d.hold k p).fenced ((d.hold k p).roomArb x) p.srcRtr = false from hf]; decide)

theorem Arbiter.raise_raised (x : Arbiter) (i : Nat) :
    (x.raise i).owner = some i ∨ ∃ r ∈ (x.raise i).reqs, r.id = i := by
  unfold Arbiter.raise
  split_ifs with h
  · simpa using h
  · exact .inr ⟨{ id := i }, by simp, rfl⟩

theorem corRequestArrive_attach (k : Nat) (p : Packet) (s : State) :
    s.dev.arriving k = some p → 4 ≤ p.dstPort → p.need ≤ p.flits.length →
    (p.dstPort ≠ 6 ∨ attachOf p.dstRtr = none →
      Does (.corRequestArrive k) s (({ s.dev with net := s.dev.net.eraseIdx k } : Dev).respond p stNoTarget [])) ∧
    (∀ st, p.dstPort = 6 → s.dev.attachAnswer p = some st → Does (.corRequestArrive k) s
      ((({ s.dev with net := s.dev.net.eraseIdx k } : Dev).countDown p st).respond p st [])) := by
  intro h hp hw
  refine ⟨fun hno => does_onDev rfl ?_, fun st h6 ha => does_onDev rfl (Dev.corArrive_of_answer h hw h6 ha)⟩
  by_cases h6 : p.dstPort = 6
  · have hnone := hno.resolve_left (not_not.2 h6)
    have ha : s.dev.attachAnswer p = some stNoTarget := by simp only [Dev.attachAnswer, hnone]
    rw [Dev.corArrive_of_answer h hw h6 ha, Dev.countDown_of_noTarget _ hnone]
  · exact Dev.corArrive_of_noPort h hp hw h6

theorem corRequestArrive_waits (k : Nat) (p : Packet) (x : Target) (s : State) :
    s.dev.arriving k = some p → p.dstPort = 6 → s.dev.attachAnswer p = none → attachOf p.dstRtr = some x →
    s.dev.fenced (s.dev.roomArb x) p.srcRtr = false →
    Yields (.corRequestArrive k) s (fun t => t.dev.held = s.dev.held ++ [p] ∧ t.dev.net = s.dev.net.eraseIdx k ∧
      ((t.dev.arb (s.dev.roomArb x)).owner = some p.srcRtr ∨
        ∃ r ∈ (t.dev.arb (s.dev.roomArb x)).reqs, r.id = p.srcRtr)) := by
  intro h h6 ha hx hf
  refine ⟨_, rfl, ?_⟩
  beta_reduce
  rw [State.dev_onDev, Dev.corArrive_of_wait h h6 ha hx hf, Dev.arb_onArb]
  exact ⟨rfl, rfl, Arbiter.raise_raised _ _⟩

/-! ### Responses (R78, R81, R82) -/

theorem Dev.corRespond_eq {d : Dev} {k : Nat} {r : RespPkt} (h : d.respArriving k = some r) (hp : r.dstPort < 4) :
    d.corRespond k = ({ d with netResp := d.netResp.eraseIdx k } : Dev).respAt r.dstRtr r.dstPort r := by
  simp only [Dev.corRespond, h, if_pos hp]

theorem Dev.respAt_orphan {d : Dev} {n e : Nat} {r : RespPkt} (hg : (d.room n).gsr = true) :
    d.respAt n e r = (d.cnt F.ROOM_COR_CNT_ORPHAN n e).noticeFree 0x62 := if_pos hg

theorem Dev.respAt_late {d : Dev} {n e : Nat} {r : RespPkt} (hg : (d.room n).gsr = false)
    (hq : ((d.ep n e).slot r.slot).quarantine = false)
    (hl : ((d.ep n e).slot r.slot).busy = false ∨ ((d.ep n e).slot r.slot).gen ≠ r.gen) :
    d.respAt n e r = (d.cnt F.ROOM_COR_CNT_LATE n e).noticeFree 0x63 := by
  simp only [Dev.respAt, hg, hq, Bool.false_and, Bool.false_eq_true, if_false]
  exact if_pos (by simpa using hl)

theorem Dev.respAt_match {d : Dev} {n e : Nat} {r : RespPkt} (hg : (d.room n).gsr = false)
    (hq : ((d.ep n e).slot r.slot).quarantine = false) (hb : ((d.ep n e).slot r.slot).busy = true)
    (hgen : ((d.ep n e).slot r.slot).gen = r.gen) :
    d.respAt n e r = d.onEp n e (fun y =>
      { y.setSlot r.slot { (d.ep n e).slot r.slot with busy := false, reserve := 0 } with
        respBuf := y.respBuf ++ [r] }) := by
  simp only [Dev.respAt, hg, hq, Bool.false_and, Bool.false_eq_true, if_false]
  exact if_neg (by simp [hb, hgen])

theorem corResponseArrive_running (k : Nat) (r : RespPkt) (n : Fin 64) (e : Fin 4) (s : State) :
    s.dev.respArriving k = some r → r.dstRtr = n → r.dstPort = e → (s.dev.room n).gsr = false →
    let x := (s.dev.ep n e).slot r.slot
    let d : Dev := { s.dev with netResp := s.dev.netResp.eraseIdx k }
    (x.quarantine = false → x.busy = true → x.gen = r.gen → Does (.corResponseArrive k) s (d.onEp n e (fun y =>
      { y.setSlot r.slot { x with busy := false, reserve := 0 } with respBuf := y.respBuf ++ [r] }))) ∧
    (x.quarantine = false → (x.busy = false ∨ x.gen ≠ r.gen) →
      Does (.corResponseArrive k) s ((d.cnt F.ROOM_COR_CNT_LATE n e).noticeFree 0x63)) := by
  intro h hn he hg x d
  have hresp : s.dev.corRespond k = d.respAt n e r := by rw [Dev.corRespond_eq h (he ▸ e.isLt), hn, he]
  exact ⟨fun hq hb hgen => does_onDev rfl (hresp.trans (Dev.respAt_match (d := d) hg hq hb hgen)),
    fun hq hl => does_onDev rfl (hresp.trans (Dev.respAt_late (d := d) hg hq hl))⟩

/-! ### Timers (R81) -/

/-- The TIMEOUT response to the request of slot `k`. -/
def Slot.timeoutResp (x : Slot) (n e k : Nat) : RespPkt :=
  { isRead := x.isRead, len := x.len, dstRtr := n, dstPort := e, srcRtr := x.rtr, srcPort := x.port, gen := x.gen
    slot := k, status := stTimeout, data := [] }

theorem Dev.corTimeout_eq {d : Dev} {n e k : Nat} (hb : ((d.ep n e).slot k).busy = true)
    (ht : ((d.ep n e).slot k).timeout ≠ 0) (hg : (d.room n).gsr = false) :
    d.corTimeout n e k = ((d.onEp n e (fun y =>
      { y.setSlot k { (d.ep n e).slot k with busy := false, quarantine := true, byReset := false, reserve := 0 } with
        respBuf := y.respBuf ++ [((d.ep n e).slot k).timeoutResp n e k] })).cnt
          F.ROOM_COR_CNT_TIMEOUT n e).noticeFree 0x61 :=
  if_pos (by simp [hb, ht, hg])

theorem corTimeout_expires (n : Fin 64) (e : Fin 4) (k : Fin 32) (s : State) :
    let x := (s.dev.ep n e).slot k
    x.busy = true → x.timeout ≠ 0 → (s.dev.room n).gsr = false →
    Yields (.corTimeout n e k) s (fun t => (t.dev.ep n e).slot k = { x with
        busy := false, quarantine := true, byReset := false, reserve := 0 } ∧
      (∃ r, (t.dev.ep n e).respBuf = (s.dev.ep n e).respBuf ++ [r] ∧ r.status = stTimeout ∧ r.slot = k.val ∧
        r.srcRtr = x.rtr ∧ r.srcPort = x.port ∧ r.data = []) ∧
      t.dev.gf F.ROOM_COR_CNT_TIMEOUT n e = min (s.dev.gf F.ROOM_COR_CNT_TIMEOUT n e + 1) (2 ^
          F.ROOM_COR_CNT_TIMEOUT.width - 1)) := by
  intro x hb ht hg
  have hn : n.val < 65536 := by omega
  have he : e.val < 256 := by omega
  refine ⟨_, rfl, ?_⟩
  beta_reduce
  rw [State.dev_onDev, Dev.corTimeout_eq hb ht hg, Dev.gf_noticeFree _ _ rfl hn he, Dev.gf_cnt _ _ _ _ _ (by decide),
    Dev.ep, Dev.room_noticeFree, Dev.room_cnt, ← Dev.ep, Dev.ep_onEp]
  exact ⟨(Endpoint.slot_withRespBuf _ _ _).trans (Endpoint.slot_setSlot _ _ _), ⟨_, rfl, rfl, rfl, rfl, rfl, rfl⟩, rfl⟩

/-! ### Every exchange -/

theorem corRequestArrive_buffers (k : Nat) (p : Packet) (m : Fin 64) (e : Fin 4) (s : State)
    (h : s.dev.arriving k = some p) (hm : p.dstRtr = m) (he : p.dstPort = e) (hw : p.need ≤ p.flits.length)
    (hg : (s.dev.room m).gsr = false) (hc : (s.dev.room m).clamps = false)
    (ht : (s.dev.gf F.ROOM_COR_CTRL_TGT_EN m).testBit e = true) (hop : p.op.toNat < 4)
    (hroom : (s.dev.ep m e).reqBuf = [] ∨ ((s.dev.ep m e).reqBuf.map Packet.size).sum + p.size ≤ 16) :
    Does (.corRequestArrive k) s (({ s.dev with net := s.dev.net.eraseIdx k } : Dev).onEp m e
      (fun x => { x with reqBuf := x.reqBuf ++ [p] })) := by
  refine does_onDev rfl ((Dev.corArrive_of_whole h (he ▸ e.isLt) hw).trans ?_)
  rw [hm, he]
  exact Dev.endpointArrive_buffers (d := { s.dev with net := s.dev.net.eraseIdx k }) hg hc ht hop hroom

theorem corRequestArrive_border (k : Nat) (p : Packet) (m : Fin 64) (e : Fin 4) (s : State)
    (h : s.dev.arriving k = some p) (hm : p.dstRtr = m) (he : p.dstPort = e) (hw : p.need ≤ p.flits.length)
    (hb : (s.dev.room m).gsr = true ∨ (s.dev.room m).clamps = true) :
    Does (.corRequestArrive k) s ((({ s.dev with net := s.dev.net.eraseIdx k } : Dev).respond p
      (if (s.dev.room m).down then stRoomDown else stRoomBusy) []).cnt F.ROOM_COR_CNT_BORDER m e) := by
  refine does_onDev rfl ((Dev.corArrive_of_whole h (he ▸ e.isLt) hw).trans ?_)
  rw [hm, he, Dev.endpointArrive_border (d := { s.dev with net := s.dev.net.eraseIdx k }) hb]
  change Dev.borderAnswer _ _ _ _ (!(s.dev.room m).down) = _
  cases (s.dev.room m).down <;> rfl

/-- The fabric of a running room takes the oldest request. -/
theorem corRequestTake_takes (n : Fin 64) (e : Fin 4) (p : Packet) (l : List Packet) (s : State)
    (hup : s.dev.roomUp n = true) (hq : (s.dev.ep n e).reqBuf = p :: l) :
    Does (.corRequestTake n e) s (s.dev.onEp n e (fun x => { x with reqBuf := l, taken := x.taken ++ [p] })) := by
  refine does_onDev rfl ((if_pos hup).trans (Dev.onEp_congr ?_))
  simp only [hq]

theorem corTargetResponse_answers (n : Fin 64) (e : Fin 4) (k : Nat) (data : List (BitVec 64)) (p : Packet) (s : State)
    (hp : (s.dev.ep n e).taken[k]? = some p) (hg : (s.dev.room n).gsr = false)
    (hl : p.op = opRead → data.length = p.len.toNat + 1) :
    Does (.corTargetResponse n e k data) s
      ((s.dev.onEp n e (fun x => { x with taken := x.taken.eraseIdx k })).respond p stOk data) := by
  refine does_onDev rfl ?_
  simp only [Dev.corTarget, hp]
  exact if_neg (by simpa [hg] using hl)

/-- Settles O24: each row is one equation of its command in the case it speaks of. -/
theorem corridorExchanges : Obligations.CorridorExchanges := by
  unfold Obligations.CorridorExchanges
  refine ⟨⟨corRequestIssue_takes, ?_, payloadFlitInject_joins, corRequestArrive_buffers, corRequestArrive_border, ?_,
    corRequestArrive_attach, corRequestArrive_waits⟩, corRequestTake_takes, corTargetResponse_answers,
    corResponseArrive_running, ?_, ?_, corTimeout_expires, ?_⟩
  · exact fun n e op len rtr port addr flits s h => does_onDev rfl (Dev.corIssue_of_not h _ _ _ _)
  · exact fun k p s h hp hw => does_onDev rfl (Dev.corArrive_of_partial h hp hw)
  · intro k r n e s h hn he hg
    refine does_onDev rfl ((Dev.corRespond_eq h (he ▸ e.isLt)).trans ?_)
    rw [hn, he]
    exact Dev.respAt_orphan (d := { s.dev with netResp := s.dev.netResp.eraseIdx k }) hg
  · exact fun n e s hg => does_onDev rfl (if_neg (by simp [hg]))
  · exact fun n e k s hq => does_onDev rfl (if_pos hq)

end Sys2Proof.Machine
end

section
/-! PROOFS. Frames of a load (R94, R115, R119, R133, R134): `Obligations.FrameChecks`. -/

namespace Sys2Proof.Machine

/-! ### The result of an operation and the plane a load goes into (R152, R134) -/

section
variable (d : Dev) {n : Nat} (hn : n < 65536)

@[simp] theorem Dev.room_onPlane (active : Bool) (f : Plane → Plane) : (d.onPlane n active f).room n =
    if active then { d.room n with act := f (d.room n).act } else { d.room n with shd := f (d.room n).shd } :=
  d.room_onRoom n _

@[simp] theorem Dev.rooms_setPlaneState (active : Bool) (sh act : Nat) :
    (d.setPlaneState n active sh act).rooms = d.rooms := by
  unfold Dev.setPlaneState
  split_ifs <;> rfl

@[simp] theorem Dev.room_roomResult (result source m : Nat) : (d.roomResult n result source).room m = d.room m := rfl

include hn

theorem Dev.reg_setPlaneState (active : Bool) (sh act : Nat) {k : RK} (hk : .ROOM_PLANE_STAT ≠ k) :
    (d.setPlaneState n active sh act).reg k = d.reg k := by
  unfold Dev.setPlaneState
  split_ifs <;> exact d.reg_sf_ne _ hk hn (by decide) (by decide) (by decide)

theorem Dev.gf_roomResult_ne (result source : Nat) {f : Fld} (hf : .ROOM_LOAD_STAT ≠ f.reg) :
    (d.roomResult n result source).gf f n = d.gf f n := by
  unfold Dev.roomResult
  iterate 3 rw [Dev.gf_sf_reg _ _ hf hn (by decide) hn (by decide)]

omit hn

theorem Dev.gf_roomResult (result source : Nat) :
    (d.roomResult n result source).gf F.ROOM_LOAD_STAT_DONE n = 1 ∧
    (d.roomResult n result source).gf F.ROOM_LOAD_STAT_RESULT n = result % 8 ∧
    (d.roomResult n result source).gf F.ROOM_LOAD_STAT_SOURCE n = source % 128 := by
  unfold Dev.roomResult
  refine ⟨?_, ?_, Dev.gf_sf _ _ _ _ _ (by decide)⟩
  · rw [Dev.gf_sf_bits (f := F.ROOM_LOAD_STAT_SOURCE) (g := F.ROOM_LOAD_STAT_DONE) _ _ rfl (by decide),
      Dev.gf_sf_bits (f := F.ROOM_LOAD_STAT_RESULT) (g := F.ROOM_LOAD_STAT_DONE) _ _ rfl (by decide)]
    exact Dev.gf_sf _ _ _ _ _ (by decide)
  · rw [Dev.gf_sf_bits (f := F.ROOM_LOAD_STAT_SOURCE) (g := F.ROOM_LOAD_STAT_RESULT) _ _ rfl (by decide)]
    exact Dev.gf_sf _ _ _ _ _ (by decide)

end

/-! ### A frame that is committed (R94, R119 step 4, R133) -/

section
variable {d d' : Dev} {n addr : Nat} {active : Bool} {p : BitVec 2048}

theorem Dev.commitFrame_logic {m : List (Nat × Nat)} (hk : frameKind addr = 0)
    (hg : guardCheck (if active then (d.room n).act else (d.room n).shd).drivers (frameIndex addr) p = .ok m) :
    d.commitFrame n addr active p = .ok (d.onPlane n active (fun x => x.commit (frameIndex addr) p m)) := by
  simp only [Dev.commitFrame, hk, if_true, hg]

theorem Dev.commitFrame_bram (hk : frameKind addr = 1) :
    d.commitFrame n addr active p = .ok (if active then d.commitBram n (frameIndex addr) p else d) := by
  simp [Dev.commitFrame, hk]

theorem Dev.commitFrame_settings (hk : 1 < frameKind addr) (hl : kind2Ok (kind2List p) = true) :
    d.commitFrame n addr active p = .ok (d.onPlane n active (fun x => { x with kind2 := kind2List p })) := by
  have h0 : frameKind addr ≠ 0 := by omega
  have h1 : frameKind addr ≠ 1 := by omega
  simp only [Dev.commitFrame, h0, h1, hl, if_true, if_false]

theorem Dev.commitFrame_guard {hit : GuardHit} (hk : frameKind addr = 0)
    (hg : guardCheck (if active then (d.room n).act else (d.room n).shd).drivers (frameIndex addr) p = .error hit) :
    d.commitFrame n addr active p = .error (d.guardRefused n (frameIndex addr) addr hit, 5) := by
  simp only [Dev.commitFrame, hk, if_true, hg]

theorem Dev.commitFrame_badSettings (hk : 1 < frameKind addr) (hl : kind2Ok (kind2List p) = false) :
    d.commitFrame n addr active p = .error (d.fault 0x0A addr, 0x0A) := by
  have h0 : frameKind addr ≠ 0 := by omega
  have h1 : frameKind addr ≠ 1 := by omega
  simp [Dev.commitFrame, h0, h1, hl]

/-- A change of a room that leaves its GSR alone leaves every room's alone. -/
theorem Dev.gsr_onRoom (d : Dev) {n : Nat} {f : Room → Room} (hf : (f (d.room n)).gsr = (d.room n).gsr) (m : Nat) :
    ((d.onRoom n f).room m).gsr = (d.room m).gsr := by
  by_cases hm : n = m
  · rw [← hm, Dev.room_onRoom, hf]
  · rw [d.room_onRoom_ne _ hm]

theorem Dev.gsr_commitBram (d : Dev) (n idx : Nat) (p : BitVec 2048) (m : Nat) :
    ((d.commitBram n idx p).room m).gsr = (d.room m).gsr := d.gsr_onRoom rfl m

/-- A commit changes no register and no GSR. -/
theorem Dev.frame_of_commitFrame (h : d.commitFrame n addr active p = .ok d') :
    d'.regs = d.regs ∧ ∀ m, (d'.room m).gsr = (d.room m).gsr := by
  have hplane (f : Plane → Plane) :
      (d.onPlane n active f).regs = d.regs ∧ ∀ m, ((d.onPlane n active f).room m).gsr = (d.room m).gsr :=
    ⟨rfl, d.gsr_onRoom (by cases active <;> rfl)⟩
  by_cases h0 : frameKind addr = 0
  · cases hg : guardCheck (if active then (d.room n).act else (d.room n).shd).drivers (frameIndex addr) p with
    | error hit => rw [Dev.commitFrame_guard h0 hg] at h; cases h
    | ok m => rw [Dev.commitFrame_logic h0 hg] at h; cases h; exact hplane _
  by_cases h1 : frameKind addr = 1
  · rw [Dev.commitFrame_bram h1] at h
    cases active <;> obtain rfl := Except.ok.inj h
    · exact ⟨rfl, fun _ => rfl⟩
    · exact ⟨rfl, d.gsr_commitBram n _ p⟩
  have hk : 1 < frameKind addr := by omega
  cases hl : kind2Ok (kind2List p) with
  | false => rw [Dev.commitFrame_badSettings hk hl] at h; cases h
  | true => rw [Dev.commitFrame_settings hk hl] at h; cases h; exact hplane _

end

/-! ### The next record of a load (R113, R119) -/

/-- The frame address that the next record of a load must have. -/
abbrev Dev.nextAddr (d : Dev) (n : Nat) (l : Load) : Nat :=
  frameAddr (!l.full && hdrKind (d.header l.image) == 2) n l.pos

/-- What checks 1 to 3 of R119 find of the next record of a load. -/
abbrev Dev.nextRecord (d : Dev) (n : Nat) (l : Load) (disturbed : Nat) : Except (Nat × Nat) (BitVec 2048) :=
  d.recordCheck (d.header l.image) (recNumber l.image (l.records + 264 * l.pos)) (l.records + 264 * l.pos)
    (d.nextAddr n l) disturbed

/-- The branches of `Dev.linkFrame` over any check and any commit: the check refuses the record, or the commit does, or
room `n` changes by `f` after the commit. With the check a variable, taking a branch never evaluates a record's CRC. -/
def linkBy (check : Except (Nat × Nat) (BitVec 2048)) (refuse : Nat → Nat → Dev × Nat)
    (commit : BitVec 2048 → Except (Dev × Nat) Dev) (n : Nat) (f : Room → Room) : Except (Dev × Nat) Dev :=
  match check with
  | .error (src, detail) => .error (refuse src detail)
  | .ok p =>
    match commit p with
    | .error e => .error e
    | .ok d => .ok (d.onRoom n f)

section
variable {check : Except (Nat × Nat) (BitVec 2048)} {refuse : Nat → Nat → Dev × Nat}
  {commit : BitVec 2048 → Except (Dev × Nat) Dev} {n : Nat} {f : Room → Room} {p : BitVec 2048}

theorem linkBy_commit {d : Dev} (hc : check = .ok p) (hd : commit p = .ok d) :
    linkBy check refuse commit n f = .ok (d.onRoom n f) := by
  simp only [linkBy, hc, hd]

theorem linkBy_refused {e : Dev × Nat} (hc : check = .ok p) (hd : commit p = .error e) :
    linkBy check refuse commit n f = .error e := by
  simp only [linkBy, hc, hd]

theorem linkBy_badRecord {src detail : Nat} (hc : check = .error (src, detail)) :
    linkBy check refuse commit n f = .error (refuse src detail) := by
  simp only [linkBy, hc]

end

section
variable {d : Dev} {n disturbed : Nat} {l : Load}

theorem Dev.linkFrame_eq : d.linkFrame n l disturbed = linkBy
    (d.recordCheck (d.header l.image) (recNumber l.image (l.records + 264 * l.pos)) (l.records + 264 * l.pos)
      (frameAddr (!l.full && hdrKind (d.header l.image) == 2) n l.pos) disturbed)
    (fun src detail => (d.fault src detail, src))
    (d.commitFrame n (frameAddr (!l.full && hdrKind (d.header l.image) == 2) n l.pos) l.active) n
    (fun r => { r with load := some { l with pos := l.pos + 1 } }) := rfl

theorem Dev.linkFrame_of_commit {d' : Dev} {p : BitVec 2048} (hc : d.nextRecord n l disturbed = .ok p)
    (hd : d.commitFrame n (d.nextAddr n l) l.active p = .ok d') : d.linkFrame n l disturbed =
      .ok (d'.onRoom n (fun r => { r with load := some { l with pos := l.pos + 1 } })) :=
  Dev.linkFrame_eq.trans (linkBy_commit hc hd)

theorem Dev.linkFrame_of_refused {e : Dev × Nat} {p : BitVec 2048} (hc : d.nextRecord n l disturbed = .ok p)
    (hd : d.commitFrame n (d.nextAddr n l) l.active p = .error e) : d.linkFrame n l disturbed = .error e :=
  Dev.linkFrame_eq.trans (linkBy_refused hc hd)

theorem Dev.linkFrame_of_badRecord {src detail : Nat} (hc : d.nextRecord n l disturbed = .error (src, detail)) :
    d.linkFrame n l disturbed = .error (d.fault src detail, src) :=
  Dev.linkFrame_eq.trans (linkBy_badRecord hc)

end

section
variable {d d' : Dev} {n disturbed : Nat} {l : Load} (hl : (d.room n).load = some l) (hp : l.pos < l.total)
include hl hp

theorem Dev.frameCheck_of_commit (hlink : d.linkFrame n l disturbed = .ok d') :
    d.frameCheck n disturbed = if l.pos + 1 < l.total then d' else if l.full then d'.fullRoomDone n
      else d'.setPlaneState n l.active shChecking actChecking := by
  unfold Dev.frameCheck
  rw [hl]
  dsimp only
  rw [if_neg (Nat.not_le.2 hp), hlink]

theorem Dev.frameCheck_of_refused {src : Nat} (hlink : d.linkFrame n l disturbed = .error (d', src)) :
    d.frameCheck n disturbed = if l.full then d'.refuseImage src 7 else d'.refuseLoad n l.active src := by
  unfold Dev.frameCheck
  rw [hl]
  dsimp only
  rw [if_neg (Nat.not_le.2 hp), hlink]

end

theorem Dev.frameCheck_of_idle {d : Dev} {n : Nat} (disturbed : Nat)
    (h : (d.room n).load = none ∨ ∃ l, (d.room n).load = some l ∧ l.total ≤ l.pos) : d.frameCheck n disturbed = d := by
  unfold Dev.frameCheck
  rcases h with h | ⟨l, hl, hend⟩
  · rw [h]
  · rw [hl]
    exact if_pos hend

section
variable {n : Fin 64} {disturbed : Fin 3} {l : Load} {s : State} (hl : (s.dev.room n).load = some l)
  (hp : l.pos < l.total)
include hl hp

/-- A record that passes its checks moves the load on by one, and the last one of a room load leaves the plane
CHECKING. -/
theorem does_frameCheck_of_commit {p : BitVec 2048} {d : Dev} (hc : s.dev.nextRecord n l disturbed = .ok p)
    (hd : s.dev.commitFrame n (s.dev.nextAddr n l) l.active p = .ok d) :
    let d' := d.onRoom n (fun r => { r with load := some { l with pos := l.pos + 1 } })
    (l.pos + 1 < l.total → Does (.frameCheck n disturbed) s d') ∧
      (l.total ≤ l.pos + 1 → l.full = false →
        Does (.frameCheck n disturbed) s (d'.setPlaneState n l.active shChecking actChecking)) := by
  intro d'
  obtain ⟨hregs, hgsr⟩ := Dev.frame_of_commitFrame hd
  have hn : n.val < 65536 := by omega
  have hreg (k : RK) : d'.reg k = s.dev.reg k := by simp only [Dev.reg, d', Dev.regs_onRoom, hregs]
  have hgsr' (m : Nat) : (d'.room m).gsr = (s.dev.room m).gsr := (d.gsr_onRoom rfl m).trans (hgsr m)
  have hcheck : s.dev.frameCheck n disturbed = if l.pos + 1 < l.total then d' else if l.full then d'.fullRoomDone n
      else d'.setPlaneState n l.active shChecking actChecking :=
    Dev.frameCheck_of_commit hl hp (Dev.linkFrame_of_commit hc hd)
  refine ⟨fun hmore => ?_, fun hlast hfull => ?_⟩
  · exact does_act_gsr rfl (hcheck.trans (if_pos hmore)) hgsr' (congrArg (bits · 0 4) (hreg .GBL_MODE))
      (congrArg (bits · 24 8) (hreg .GBL_MODE)) (congrArg (bits · 30 1) (hreg .HBT_CFG))
  · have hkeep (k : RK) (hk : .ROOM_PLANE_STAT ≠ k) :
        (d'.setPlaneState n l.active shChecking actChecking).reg k = s.dev.reg k :=
      (d'.reg_setPlaneState hn _ _ _ hk).trans (hreg k)
    have hlast' : s.dev.frameCheck n disturbed = d'.setPlaneState n l.active shChecking actChecking := by
      rw [hcheck, if_neg (Nat.not_lt.2 hlast), if_neg (by simp [hfull])]
    exact does_act_gsr rfl hlast' (fun m => by rw [Dev.room, Dev.rooms_setPlaneState]; exact hgsr' m)
      (congrArg (bits · 0 4) (hkeep .GBL_MODE (by decide))) (congrArg (bits · 24 8) (hkeep .GBL_MODE (by decide)))
      (congrArg (bits · 30 1) (hkeep .HBT_CFG (by decide)))

/-! ### A frame that is refused (R54, R134) -/

/-- A room load whose record is refused ends, and the frames of both planes stand. -/
theorem frameCheck_refuses {d : Dev} {src : Nat} (hfull : l.full = false)
    (hlink : s.dev.linkFrame n l disturbed = .error (d, src)) (hrooms : d.rooms = s.dev.rooms) (hsrc : src < 128) :
    Yields (.frameCheck n disturbed) s (fun t =>
      (if l.active then t.dev.act n = actDown else t.dev.sh n = shInvalid) ∧ t.dev.gf F.ROOM_LOAD_STAT_DONE n = 1 ∧
      t.dev.gf F.ROOM_LOAD_STAT_RESULT n = rRefused ∧ t.dev.gf F.ROOM_LOAD_STAT_SOURCE n = src ∧
      (t.dev.room n).load = none ∧ (t.dev.room n).shd.frames = (s.dev.room n).shd.frames ∧
      (t.dev.room n).act.frames = (s.dev.room n).act.frames) := by
  have hn : n.val < 65536 := by omega
  have hcheck : s.dev.frameCheck n disturbed = d.refuseLoad n l.active src := by
    rw [Dev.frameCheck_of_refused hl hp hlink, if_neg (by simp [hfull])]
  have hgf (f : Fld) (hf : f.reg.isNch = false) :
      (s.act fun d => d.frameCheck n disturbed).dev.gf f n = (d.refuseLoad n l.active src).gf f n := by
    rw [State.gf_act _ _ hf hn (by decide), hcheck]
  have hroom : (s.act fun d => d.frameCheck n disturbed).dev.room n = (d.refuseLoad n l.active src).room n := by
    rw [Dev.room, State.rooms_act, hcheck]; rfl
  have hs : s.dev.room n = d.room n := by rw [Dev.room, Dev.room, hrooms]
  obtain ⟨hdone, hres, hsource⟩ := Dev.gf_roomResult (n := n) ((((d.onRoom n (fun r => { r with load := none })).onPlane
    n l.active (fun x => { x with src := false }))).setPlaneState n l.active shInvalid actDown) rRefused src
  refine ⟨_, rfl, ?_, (hgf _ rfl).trans hdone, (hgf _ rfl).trans hres,
    (hgf _ rfl).trans (hsource.trans (Nat.mod_eq_of_lt hsrc)), ?_⟩
  · rw [Dev.act, Dev.sh, hgf _ rfl, hgf _ rfl, Dev.refuseLoad, Dev.gf_roomResult_ne _ hn _ _ (by decide),
      Dev.gf_roomResult_ne _ hn _ _ (by decide), Dev.setPlaneState]
    cases l.active <;> exact Dev.gf_sf _ _ _ _ _ (by decide)
  · rw [hroom, hs, Dev.refuseLoad, Dev.room_roomResult, Dev.room, Dev.rooms_setPlaneState, ← Dev.room, Dev.room_onPlane,
      Dev.room_onRoom]
    cases l.active <;> exact ⟨rfl, rfl, rfl⟩

end

/-- The sources by which checks 1 to 3 of R119 refuse a record. -/
theorem Dev.source_of_recordCheck {d : Dev} {h : List (BitVec 8)} {k a expected disturbed src detail : Nat}
    (hc : d.recordCheck h k a expected disturbed = .error (src, detail)) : src = 6 ∨ src = 4 := by
  unfold Dev.recordCheck at hc
  dsimp only at hc
  split_ifs at hc <;> cases hc
  · exact .inl rfl
  · exact .inr rfl

@[simp] theorem Dev.rooms_guardRefused (d : Dev) (n idx addr : Nat) (h : GuardHit) :
    (d.guardRefused n idx addr h).rooms = d.rooms := by
  unfold Dev.guardRefused Dev.guardRecord
  split_ifs <;> simp

/-- Settles O18: a record is committed by its kind (`Dev.commitFrame`), or its source ends the load. -/
theorem frameChecks : Obligations.FrameChecks := by
  unfold Obligations.FrameChecks
  refine ⟨?_, ?_, ?_⟩
  · intro n disturbed l p s hl hp h a addr hc goes
    have hgoes (d : Dev) (hd : s.dev.commitFrame n addr l.active p = .ok d) : goes d :=
      does_frameCheck_of_commit hl hp hc hd
    refine ⟨fun m hk hg => hgoes _ (Dev.commitFrame_logic hk hg), fun hk ha => hgoes _ ?_, fun hk ha => hgoes _ ?_,
      fun hk hok => hgoes _ (Dev.commitFrame_settings hk hok)⟩
    · rw [Dev.commitFrame_bram hk, ha]; rfl
    · rw [Dev.commitFrame_bram hk, ha]; rfl
  · intro n disturbed l s hl hp hfull a addr check ends
    have haddr : s.dev.nextAddr n l = addr := by rw [Dev.nextAddr, hfull]; rfl
    have hcheck : s.dev.nextRecord n l disturbed = check := by rw [Dev.nextRecord, haddr]
    have hends (p : BitVec 2048) (d : Dev) (src : Nat) (hc : check = .ok p)
        (hd : s.dev.commitFrame n addr l.active p = .error (d, src)) (hr : d.rooms = s.dev.rooms) (hs : src < 128) :
        ends src :=
      frameCheck_refuses hl hp hfull (Dev.linkFrame_of_refused (hcheck.trans hc) (by rw [haddr, hd])) hr hs
    refine ⟨fun src detail hc => ?_, fun p hit hc hk hg => ?_, fun p hc hk hbad => ?_⟩
    · refine frameCheck_refuses hl hp hfull (Dev.linkFrame_of_badRecord (hcheck.trans hc)) (by simp) ?_
      rcases Dev.source_of_recordCheck hc with h | h <;> omega
    · exact hends p _ 5 hc (Dev.commitFrame_guard hk hg) (by simp) (by decide)
    · exact hends p _ 0x0A hc (Dev.commitFrame_badSettings hk hbad) (by simp) (by decide)
  · intro n disturbed s hno
    exact does_act rfl (Dev.frameCheck_of_idle _ hno) rfl rfl rfl rfl

end Sys2Proof.Machine
end

section
/-! PROOFS. Bits of a block RAM (R87, R88): what a write of lanes stores, and what it leaves alone. -/

namespace Sys2Proof.Machine

/-! ### Masked bits of a wide vector -/

theorem getLsbD_setMasked {w : Nat} (x : BitVec w) (lo mask v i : Nat) : (setMasked x lo mask v).getLsbD i =
    (decide (i < w) && if lo ≤ i ∧ mask.testBit (i - lo) then v.testBit (i - lo) else x.getLsbD i) := by
  simp only [setMasked, BitVec.getLsbD_or, BitVec.getLsbD_and, BitVec.getLsbD_not, BitVec.getLsbD_ofNat,
    Nat.testBit_shiftLeft, Nat.testBit_and]
  by_cases hi : i < w <;> by_cases hlo : lo ≤ i <;> cases mask.testBit (i - lo) <;> simp [hi, hlo]

theorem setMasked_zero {w : Nat} (x : BitVec w) (lo v : Nat) : setMasked x lo 0 v = x := by
  refine BitVec.eq_of_getLsbD_eq fun i hi => ?_
  rw [getLsbD_setMasked]
  simp [hi]

/-- A field of `n` bits written whole reads as its new value. -/
theorem setMasked_field {w lo n : Nat} (x : BitVec w) (v : Nat) (h : lo + n ≤ w) :
    (setMasked x lo (2 ^ n - 1) v).toNat >>> lo % 2 ^ n = v % 2 ^ n := by
  refine Nat.eq_of_testBit_eq fun i => ?_
  rw [Nat.testBit_mod_two_pow, Nat.testBit_mod_two_pow, Nat.testBit_shiftRight, BitVec.testBit_toNat,
    getLsbD_setMasked, Nat.testBit_two_pow_sub_one]
  by_cases hi : i < n
  · simp [hi, show lo + i < w by omega]
  · simp [hi]

/-- A field that a write does not overlap reads as before. -/
theorem setMasked_field_of_disjoint {w lo lo' n : Nat} (x : BitVec w) (v : Nat) (h : lo + n ≤ lo' ∨ lo' + n ≤ lo) :
    (setMasked x lo (2 ^ n - 1) v).toNat >>> lo' % 2 ^ n = x.toNat >>> lo' % 2 ^ n := by
  refine Nat.eq_of_testBit_eq fun i => ?_
  simp only [Nat.testBit_mod_two_pow, Nat.testBit_shiftRight, BitVec.testBit_toNat, getLsbD_setMasked,
    Nat.testBit_two_pow_sub_one]
  by_cases hi : i < n
  · have hno : ¬(lo ≤ lo' + i ∧ decide (lo' + i - lo < n) = true) := by simp only [decide_eq_true_eq]; omega
    rw [if_neg hno]
    by_cases hw : lo' + i < w
    · simp [hw]
    · simp [hw, BitVec.getLsbD_of_ge x (lo' + i) (by omega)]
  · simp [hi]

/-- Fields of `n` bits at the places of two different words do not overlap. -/
theorem fields_disjoint {w w' : Nat} (n : Nat) (h : w ≠ w') : n * w + n ≤ n * w' ∨ n * w' + n ≤ n * w := by
  rcases Nat.lt_or_gt_of_ne h with h | h
  · exact .inl (by rw [← Nat.mul_succ]; exact Nat.mul_le_mul_left n h)
  · exact .inr (by rw [← Nat.mul_succ]; exact Nat.mul_le_mul_left n h)

/-! ### Lanes (R87, R88) -/

section
variable {c : Nat}

theorem bramDataMask_zero : bramDataMask c 0 = 0 := by
  simp [bramDataMask]

theorem bramParMask_zero : bramParMask c 0 = 0 := by
  simp [bramParMask]

/-- Every lane of a width. -/
def allLanes (c : Nat) : BitVec 8 := BitVec.ofNat 8 (2 ^ bramLanes c - 1)

theorem bramMasks_allLanes (hc : c < 6) : bramDataMask c (allLanes c) = 2 ^ bramDataBits c - 1 ∧
    bramParMask c (allLanes c) = 2 ^ bramParBits c - 1 := by
  interval_cases c <;> decide

variable (b : Bram) (addr : Nat) (din : BitVec 72)

/-- A write without a lane changes no stored bit. -/
theorem Bram.put_zero_d : (b.put c addr 0 din).d = b.d := by
  rw [Bram.put, bramDataMask_zero]; exact setMasked_zero _ _ _

theorem Bram.put_zero_p : (b.put c addr 0 din).p = b.p := by
  rw [Bram.put, bramParMask_zero]; exact setMasked_zero _ _ _

theorem Bram.word_congr {b b' : Bram} (hd : b.d = b'.d) (hp : b.p = b'.p) (c addr : Nat) :
    b.word c addr = b'.word c addr := by
  simp only [Bram.word, hd, hp]

/-- The data bits of a word lie within the block. -/
theorem bramData_le (hc : c < 6) (addr : Nat) :
    bramDataBits c * (addr % 2 ^ bramDepthBits c) + bramDataBits c ≤ 32768 := by
  have hw : addr % 2 ^ bramDepthBits c < 2 ^ bramDepthBits c := Nat.mod_lt _ (Nat.two_pow_pos _)
  generalize addr % 2 ^ bramDepthBits c = w at hw ⊢
  interval_cases c <;> simp only [bramDataBits, bramDepthBits] at hw ⊢ <;> omega

/-- The parity bits of a word lie within the block. -/
theorem bramPar_le (hc : c < 6) (addr : Nat) :
    bramParBits c * (addr % 2 ^ bramDepthBits c) + bramParBits c ≤ 4096 := by
  have hw : addr % 2 ^ bramDepthBits c < 2 ^ bramDepthBits c := Nat.mod_lt _ (Nat.two_pow_pos _)
  generalize addr % 2 ^ bramDepthBits c = w at hw ⊢
  interval_cases c <;> simp [bramParBits, bramDepthBits] at hw ⊢ <;> omega

/-- A word written with every lane reads as it was written, cut to its width. -/
theorem Bram.word_put (hc : c < 6) : (b.put c addr (allLanes c) din).word c addr =
    BitVec.ofNat 72 (din.toNat % 2 ^ (bramDataBits c + bramParBits c)) := by
  obtain ⟨hd, hp⟩ := bramMasks_allLanes hc
  simp only [Bram.word, Bram.put, hd, hp]
  rw [setMasked_field _ _ (bramData_le hc addr), setMasked_field _ _ (bramPar_le hc addr), Nat.mod_mod, pow_add,
    Nat.mod_mul, Nat.shiftRight_eq_div_pow]

/-- A write with every lane leaves the other words of its width alone. -/
theorem Bram.word_put_ne (hc : c < 6) {addr' : Nat}
    (h : addr' % 2 ^ bramDepthBits c ≠ addr % 2 ^ bramDepthBits c) :
    (b.put c addr (allLanes c) din).word c addr' = b.word c addr' := by
  obtain ⟨hd, hp⟩ := bramMasks_allLanes hc
  simp only [Bram.word, Bram.put, hd, hp]
  rw [setMasked_field_of_disjoint _ _ (fields_disjoint _ h.symm),
    setMasked_field_of_disjoint _ _ (fields_disjoint _ h.symm)]

end

end Sys2Proof.Machine
end

section
/-! PROOFS. Keep registers and block RAM ports (R86 to R95, R100, R101, R394):
`Obligations.KeepRegistersAndBlockRam`. -/

namespace Sys2Proof.Machine

/-! ### An edge of a block RAM's ports (R87 to R92) -/

section
variable {c : BramCfg} {x : BramIn}

theorem portLanes_of_disabled {portA : Bool} (h : x.en = false) : portLanes portA c x = 0 := by
  simp [portLanes, h]

theorem portLanes_of_we {portA : Bool} (h : x.we = 0) : portLanes portA c x = 0 := by
  simp [portLanes, h]

/-- Port A of a simple dual-port block writes nothing (R87). -/
theorem portLanes_of_simpleDual (h : simpleDual c = true) : portLanes true c x = 0 := by
  simp [portLanes, h]

theorem eccOn_of_zero {w : BitVec 3} (he : c.ecc = 0) : eccOn c w = false := by
  simp [eccOn, he]

/-- A port that enables every lane of a width without ECC writes them all. -/
theorem portLanes_all (hs : simpleDual c = false) (he : c.ecc = 0) (hen : x.en = true) (hwe : x.we = 0xFF) :
    portLanes true c x = allLanes c.widthA.toNat := by
  simp only [portLanes, hs, hen, hwe, eccOn_of_zero he, Bool.not_true, Bool.and_false, Bool.or_false,
    Bool.false_eq_true, if_true, if_false]
  exact BitVec.allOnes_and (w := 8)

variable (b : Bram) (pa pb : BramIn)

theorem Bram.edge_d : (b.edge c pa pb).1.d = ((b.put c.widthB.toNat pb.addr.toNat (portLanes false c pb)
    (portData c c.widthB pb)).put c.widthA.toNat pa.addr.toNat (portLanes true c pa) (portData c c.widthA pa)).d := rfl

theorem Bram.edge_p : (b.edge c pa pb).1.p = ((b.put c.widthB.toNat pb.addr.toNat (portLanes false c pb)
    (portData c c.widthB pb)).put c.widthA.toNat pa.addr.toNat (portLanes true c pa) (portData c c.widthA pa)).p := rfl

/-- Without ECC no error is found. -/
theorem Bram.edge_found (he : c.ecc = 0) : (b.edge c pa pb).2 = .good := by
  simp only [Bram.edge]
  split_ifs
  · simp [portCheck, eccOn_of_zero he]
  · rfl

end

theorem Bram.upset_zero (b : Bram) (addr : Nat) : b.upset addr 0 = b := by
  simp [Bram.upset]

/-! ### A port operation (R89, R93, R95) -/

/-- The device with block RAM `b` of room `n` as an edge leaves it. -/
def Dev.bramStored (d : Dev) (n b : Nat) (x : Bram) (same : Bool) : Dev :=
  d.onRoom n (fun y => { y with bram := Map.put (fun _ => {}) y.bram b x, eccEdge := y.eccEdge && same })

section
variable (d : Dev) (n b : Nat) (x : Bram) (same : Bool)

@[simp] theorem Dev.bramOf_bramStored : (d.bramStored n b x same).bramOf n b = x := by
  simp [Dev.bramOf, Dev.bramStored]

theorem Dev.bramOf_bramStored_ne {b' : Nat} (h : b' ≠ b) : (d.bramStored n b x same).bramOf n b' = d.bramOf n b' := by
  simp only [Dev.bramOf, Dev.bramStored, Dev.room_onRoom]
  exact Map.get_put_ne _ _ _ _ h.symm

@[simp] theorem Dev.bramOf_bramFirst (addr b' : Nat) : (d.bramFirst n b addr).bramOf n b' = d.bramOf n b' := by
  unfold Dev.bramFirst
  split_ifs <;> simp [Dev.bramOf]

/-- Counting what a read finds changes no block RAM. -/
@[simp] theorem Dev.bramOf_bramError (addr : Nat) (e : Ecc) (b' : Nat) :
    (d.bramError n b addr e).bramOf n b' = d.bramOf n b' := by
  cases e
  · rfl
  · simp [Dev.bramError, Dev.bramOf]
  · exact (Dev.bramOf_bramFirst _ _ _ _ _).trans (by simp [Dev.bramOf])

theorem Dev.bramPortOp_of_bad {c : BramCfg} (h : bramCfgOk c = false) (pa pb : BramIn) (u : BitVec 72) :
    d.bramPortOp n b c pa pb u same = d := by
  simp [Dev.bramPortOp, h]

variable {c : BramCfg} (pa pb : BramIn) (u : BitVec 72)

theorem Dev.bramPortOp_of_edge (h : bramCfgOk c = true) (hg : (d.room n).gsr = false) :
    d.bramPortOp n b c pa pb u same =
      (d.bramStored n b (((d.bramOf n b).upset pa.addr.toNat u).edge c pa pb).1 same).bramError n b pa.addr.toNat
        (((d.bramOf n b).upset pa.addr.toNat u).edge c pa pb).2 := by
  simp only [Dev.bramPortOp, h, hg]
  rfl

theorem Dev.bramPortOp_of_gsr (h : bramCfgOk c = true) (hg : (d.room n).gsr = true) :
    d.bramPortOp n b c pa pb u same = d.bramStored n b ((d.bramOf n b).upset pa.addr.toNat u) same := by
  simp only [Dev.bramPortOp, h, hg]
  rfl

end

/-! ### What an edge counts (R93) -/

section
variable (d : Dev) {n b : Nat} (hn : n < 65536) (addr : Nat)
include hn

theorem Dev.corr_bramError : (d.bramError n b addr .single).gf F.ROOM_BRAM_ECC_CORR n =
    min (d.gf F.ROOM_BRAM_ECC_CORR n + 1) (2 ^ F.ROOM_BRAM_ECC_CORR.width - 1) :=
  (Dev.gf_noticeFree _ _ rfl hn (by decide)).trans (Dev.gf_cnt _ F.ROOM_BRAM_ECC_CORR _ _ _ (by decide))

theorem Dev.gf_bramFirst_ne {f : Fld} (hf : .ROOM_BRAM_EADDR ≠ f.reg) : (d.bramFirst n b addr).gf f n = d.gf f n := by
  unfold Dev.bramFirst
  split_ifs
  · rfl
  · rw [Dev.gf_onRoom]
    iterate 3 rw [Dev.gf_sf_reg _ _ hf hn (by decide) hn (by decide)]

theorem Dev.uncorr_bramError : (d.bramError n b addr .double).gf F.ROOM_BRAM_ECC_UNCORR n =
    min (d.gf F.ROOM_BRAM_ECC_UNCORR n + 1) (2 ^ F.ROOM_BRAM_ECC_UNCORR.width - 1) :=
  (Dev.gf_bramFirst_ne _ hn _ (by decide)).trans ((Dev.gf_fault _ _ _ rfl hn (by decide)).trans
    (Dev.gf_cnt _ F.ROOM_BRAM_ECC_UNCORR _ _ _ (by decide)))

omit hn

/-- The first double error is held in ROOM_BRAM_EADDR. -/
theorem Dev.eaddr_bramFirst (hb : b < 64) (h : d.gb F.ROOM_BRAM_EADDR_VALID n = false) :
    (d.bramFirst n b addr).gb F.ROOM_BRAM_EADDR_VALID n = true ∧
      (d.bramFirst n b addr).gf F.ROOM_BRAM_EADDR_BRAM n = b ∧
      (d.bramFirst n b addr).gf F.ROOM_BRAM_EADDR_ADDR n = addr % 512 := by
  unfold Dev.bramFirst
  rw [h, Bool.false_and, if_neg (by decide)]
  simp only [Dev.gf_onRoom, Dev.gb_onRoom]
  refine ⟨?_, ?_, ?_⟩
  · rw [Dev.gb, Dev.gf_sf_bits (f := F.ROOM_BRAM_EADDR_ADDR) (g := F.ROOM_BRAM_EADDR_VALID) _ _ rfl (by decide),
      Dev.gf_sf_bits (f := F.ROOM_BRAM_EADDR_BRAM) (g := F.ROOM_BRAM_EADDR_VALID) _ _ rfl (by decide),
      Dev.gf_sf _ _ _ _ _ (by decide)]
    rfl
  · rw [Dev.gf_sf_bits (f := F.ROOM_BRAM_EADDR_ADDR) (g := F.ROOM_BRAM_EADDR_BRAM) _ _ rfl (by decide),
      Dev.gf_sf _ _ _ _ _ (by decide)]
    exact Nat.mod_eq_of_lt hb
  · rw [Dev.gf_sf _ _ _ _ _ (by decide)]
    exact Nat.mod_mod _ _

include hn

theorem Dev.eaddr_bramError (hb : b < 64) (h : d.gb F.ROOM_BRAM_EADDR_VALID n = false) :
    (d.bramError n b addr .double).gb F.ROOM_BRAM_EADDR_VALID n = true ∧
      (d.bramError n b addr .double).gf F.ROOM_BRAM_EADDR_BRAM n = b ∧
      (d.bramError n b addr .double).gf F.ROOM_BRAM_EADDR_ADDR n = addr % 512 := by
  refine Dev.eaddr_bramFirst _ _ hb ?_
  rw [Dev.gb, Dev.gf_fault _ _ _ rfl hn (by decide), Dev.cnt,
    Dev.gf_sf_reg _ _ (by decide) hn (by decide) hn (by decide)]
  exact h

end

/-! ### Port operations of a room out of reset -/

section
variable (n : Fin 64) (b : Fin 40) (cfg : BramCfg) (pa pb : BramIn) (same : Bool) (s : State)

theorem bramPortOp_writes (hg : (s.dev.room n).gsr = false) (hc : bramCfgOk cfg = true) (he : cfg.ecc = 0)
    (hA : cfg.widthA.toNat < 6) (hB : cfg.widthB.toNat < 6) (hen : pa.en = true) (hwe : pa.we = 0xFF)
    (hoff : pb.en = false) :
    let c := cfg.widthA.toNat
    Yields (.bramPortOp n b cfg pa pb ⟨0, same⟩) s (fun t =>
      (t.dev.bramOf n b).word c pa.addr.toNat =
        BitVec.ofNat 72 (pa.din.toNat % 2 ^ (bramDataBits c + bramParBits c)) ∧
      (∀ a, a % 2 ^ bramDepthBits c ≠ pa.addr.toNat % 2 ^ bramDepthBits c →
        (t.dev.bramOf n b).word c a = (s.dev.bramOf n b).word c a) ∧
      (∀ b', b' ≠ b.val → t.dev.bramOf n b' = s.dev.bramOf n b') ∧ t.dev.regs = s.dev.regs) := by
  intro c
  have hs : simpleDual cfg = false := by
    have hne {w : BitVec 3} (h : w.toNat < 6) : (w == 6) = false := by
      rw [beq_eq_false_iff_ne]
      rintro rfl
      exact absurd h (by decide)
    rw [simpleDual, hne hA, hne hB]; rfl
  have hdata : portData cfg cfg.widthA pa = pa.din := by simp [portData, eccOn_of_zero he]
  have hop := s.dev.bramPortOp_of_edge n b same pa pb 0 hc hg
  rw [Bram.upset_zero, Bram.edge_found _ _ _ he] at hop
  have hword (a : Nat) : ((s.dev.bramPortOp n b cfg pa pb 0 same).bramOf n b).word c a =
      ((s.dev.bramOf n b).put c pa.addr.toNat (allLanes c) pa.din).word c a := by
    rw [hop, Dev.bramOf_bramError, Dev.bramOf_bramStored]
    refine Bram.word_congr ?_ ?_ c a
    · rw [Bram.edge_d, portLanes_of_disabled hoff, portLanes_all hs he hen hwe, hdata]
      simp only [Bram.put, bramDataMask_zero, setMasked_zero, c]
    · rw [Bram.edge_p, portLanes_of_disabled hoff, portLanes_all hs he hen hwe, hdata]
      simp only [Bram.put, bramParMask_zero, setMasked_zero, c]
  refine (does_onDev rfl hop).yields fun t ht _ _ => ?_
  rw [hop] at hword
  rw [ht]
  refine ⟨(hword _).trans (Bram.word_put _ _ _ hA), fun a ha => (hword a).trans (Bram.word_put_ne _ _ _ hA ha),
    fun b' hb => ?_, rfl⟩
  rw [Dev.bramOf_bramError]
  exact s.dev.bramOf_bramStored_ne _ _ _ _ hb

theorem bramPortOp_keeps (hg : (s.dev.room n).gsr = false) (hc : bramCfgOk cfg = true)
    (hA : pa.we = 0 ∨ cfg.widthA = 6 ∨ cfg.widthB = 6) (hB : pb.we = 0 ∨ pb.en = false) :
    Yields (.bramPortOp n b cfg pa pb ⟨0, same⟩) s (fun t => (t.dev.bramOf n b).d = (s.dev.bramOf n b).d ∧
      (t.dev.bramOf n b).p = (s.dev.bramOf n b).p) := by
  have hlanesA : portLanes true cfg pa = 0 := by
    rcases hA with h | h
    · exact portLanes_of_we h
    · exact portLanes_of_simpleDual (by simpa [simpleDual] using h)
  have hlanesB : portLanes false cfg pb = 0 := hB.elim portLanes_of_we portLanes_of_disabled
  have hop := s.dev.bramPortOp_of_edge n b same pa pb 0 hc hg
  refine (does_onDev rfl hop).yields fun t ht _ _ => ?_
  rw [ht, Dev.bramOf_bramError, Dev.bramOf_bramStored, Bram.upset_zero, Bram.edge_d, Bram.edge_p, hlanesA, hlanesB,
    Bram.put_zero_d, Bram.put_zero_d, Bram.put_zero_p, Bram.put_zero_p]
  exact ⟨rfl, rfl⟩

theorem bramPortOp_edge (upset : BitVec 72) (hc : bramCfgOk cfg = true) (hg : (s.dev.room n).gsr = false) :
    let r := ((s.dev.bramOf n b).upset pa.addr.toNat upset).edge cfg pa pb
    Yields (.bramPortOp n b cfg pa pb ⟨upset, same⟩) s (fun t => t.dev.bramOf n b = r.1 ∧
      (∀ b', b' ≠ b.val → t.dev.bramOf n b' = s.dev.bramOf n b') ∧ (r.2 = .good → t.dev.regs = s.dev.regs) ∧
      (r.2 = .single → t.dev.gf F.ROOM_BRAM_ECC_CORR n =
        min (s.dev.gf F.ROOM_BRAM_ECC_CORR n + 1) (2 ^ F.ROOM_BRAM_ECC_CORR.width - 1)) ∧
      (r.2 = .double → t.dev.gf F.ROOM_BRAM_ECC_UNCORR n =
          min (s.dev.gf F.ROOM_BRAM_ECC_UNCORR n + 1) (2 ^ F.ROOM_BRAM_ECC_UNCORR.width - 1) ∧
        (s.dev.gb F.ROOM_BRAM_EADDR_VALID n = false → t.dev.gb F.ROOM_BRAM_EADDR_VALID n = true ∧
          t.dev.gf F.ROOM_BRAM_EADDR_BRAM n = b ∧ t.dev.gf F.ROOM_BRAM_EADDR_ADDR n = pa.addr.toNat % 512))) := by
  intro r
  have hn : n.val < 65536 := by omega
  have hop : s.dev.bramPortOp n b cfg pa pb upset same =
      (s.dev.bramStored n b r.1 same).bramError n b pa.addr.toNat r.2 := s.dev.bramPortOp_of_edge n b same pa pb _ hc hg
  refine (does_onDev rfl hop).yields fun t ht _ _ => ?_
  rw [ht]
  refine ⟨by simp, fun b' hb => ?_, fun h => ?_, fun h => ?_, fun h => ⟨?_, fun hv => ?_⟩⟩
  · rw [Dev.bramOf_bramError]
    exact s.dev.bramOf_bramStored_ne _ _ _ _ hb
  · rw [h]; rfl
  · rw [h]; exact Dev.corr_bramError _ hn _
  · rw [h]; exact Dev.uncorr_bramError _ hn _
  · rw [h]; exact Dev.eaddr_bramError _ hn _ (by omega) hv

/-- Under the GSR a port operation changes no block RAM and no register (R95). -/
theorem bramPortOp_gsr (hg : (s.dev.room n).gsr = true) :
    Yields (.bramPortOp n b cfg pa pb ⟨0, same⟩) s (fun t => (∀ b', t.dev.bramOf n b' = s.dev.bramOf n b') ∧
      t.dev.regs = s.dev.regs) := by
  cases hc : bramCfgOk cfg with
  | false =>
    refine (does_onDev rfl (s.dev.bramPortOp_of_bad n b same hc pa pb 0)).yields fun t ht _ _ => ?_
    rw [ht]
    exact ⟨fun _ => rfl, rfl⟩
  | true =>
    refine (does_onDev rfl (s.dev.bramPortOp_of_gsr n b same pa pb 0 hc hg)).yields fun t ht _ _ => ?_
    rw [ht, Bram.upset_zero]
    refine ⟨fun b' => ?_, rfl⟩
    by_cases hb : b' = b
    · rw [hb, Dev.bramOf_bramStored]
    · exact s.dev.bramOf_bramStored_ne _ _ _ _ hb

end

/-! ### Keep registers (R100, R101, R394) -/

/-- What KEEP_k takes on an edge on which the Hatch writes it. -/
def Dev.keepTakes (d : Dev) (n : Nat) (v : Word) (fabric : Option Word) : Word :=
  match fabric with
  | some w => if (d.room n).gsr then v else w
  | none => v

section
variable (n k : Fin 64) (v : Word) (fabric : Option Word) (s : State)

/-- A write of a keep register that is within reach ends OK, and changes that register and HAT_STAT alone. -/
theorem keepHatchWrite_awake (h : s.dev.keepAsleep n = false) :
    Yields (.keepHatchWrite n k v fabric) s (fun t => t.dev.reg .KEEP n k = s.dev.keepTakes n v fabric ∧
      t.dev.gf F.HAT_STAT_LAST = hOk ∧
      (∀ m k' : Fin 64, (m, k') ≠ (n, k) → t.dev.reg .KEEP m k' = s.dev.reg .KEEP m k') ∧ t.nch = s.nch) := by
  have hop : s.dev.keepHatchWrite n k v fabric = (s.dev.keepWrite n k v fabric).hatDone hOk 0 := by
    simp [Dev.keepHatchWrite, h]
  have hkeep (m k' : Fin 64) : (s.dev.keepHatchWrite n k v fabric).reg .KEEP m k' =
      (s.dev.setReg .KEEP n k (s.dev.keepTakes n v fabric)).reg .KEEP m k' := by
    rw [hop, Dev.keepsRegs_hatDone _ _ _ (by decide) _ _ _ (by omega) (by omega) (by simp)]
    rfl
  refine ⟨_, rfl, (hkeep n k).trans (Dev.reg_setReg _ _ _ _ _), ?_, fun m k' hne => (hkeep m k').trans ?_, rfl⟩
  · rw [State.dev_onDev, hop]
    exact Dev.gf_last_hatDone _ _ _
  · refine Dev.reg_setReg_idx _ _ ?_ (by omega) (by omega) (by omega) (by omega)
    by_contra hno
    push Not at hno
    exact hne (Prod.ext (Fin.ext hno.1.symm) (Fin.ext hno.2.symm))

/-- A write of a keep register out of reach is discarded and counted. -/
theorem keepHatchWrite_asleep (h : s.dev.keepAsleep n = true) :
    Yields (.keepHatchWrite n k v fabric) s (fun t =>
      (∀ m k' : Fin 64, t.dev.reg .KEEP m k' = s.dev.reg .KEEP m k') ∧ t.dev.gf F.HAT_STAT_LAST = hAsleep ∧
      t.dev.gf F.HAT_CNT_ASLEEP = min (s.dev.gf F.HAT_CNT_ASLEEP + 1) (2 ^ F.HAT_CNT_ASLEEP.width - 1)) := by
  have hop : s.dev.keepHatchWrite n k v fabric =
      (s.dev.asleepAccess (0x200400 + 0x1000 * n + 4 * k)).hatDone hAsleep 0 := if_pos h
  refine (does_onDev rfl hop).yields fun t ht _ _ => ?_
  rw [ht]
  refine ⟨fun m k' => ?_, Dev.gf_last_hatDone _ _ _, ?_⟩
  · rw [Dev.keepsRegs_hatDone _ _ _ (by decide) _ _ _ (by omega) (by omega) (by simp), Dev.asleepAccess,
      Dev.reg_notice _ _ _ (by decide) (by omega) (by omega)]
    exact Dev.reg_sf_ne _ _ (by decide) (by decide) (by decide) (by omega) (by omega)
  · rw [(Dev.keepsRegs_hatDone _ _ _ (by decide)).gf (by decide) (by decide) (by decide), Dev.asleepAccess,
      Dev.gf_notice _ _ _ (by decide) (by decide) (by decide)]
    exact Dev.gf_cnt _ _ _ _ _ (by decide)

end

/-- Settles O25: a keep register in reach takes `Dev.keepTakes`, and a port operation stores what `Bram.edge` gives. -/
theorem keepRegistersAndBlockRam : Obligations.KeepRegistersAndBlockRam := by
  unfold Obligations.KeepRegistersAndBlockRam
  refine ⟨⟨fun n k v s => keepHatchWrite_awake n k v none s, fun n k v w s h => ?_, keepHatchWrite_asleep⟩,
    bramPortOp_writes, bramPortOp_keeps, fun n b cfg pa pb upset same s => ⟨?_, fun hbad => ?_⟩, bramPortOp_gsr⟩
  · obtain ⟨t, hx, hk, -⟩ := keepHatchWrite_awake n k v (some w) s h
    exact ⟨t, hx, hk⟩
  · exact bramPortOp_edge n b cfg pa pb same s upset
  · exact does_onDev rfl (s.dev.bramPortOp_of_bad n b same hbad pa pb upset)

end Sys2Proof.Machine
end

section
/-! PROOFS. What a read of the Cellar gives after an erase, a program and a rewrite through the spare (R103, R125,
R126). -/

namespace Sys2Proof.Machine

/-! ### Reads -/

/-- A table of which the keys with a property are kept. -/
theorem Map.get_filter {α : Type} (dflt : Nat → α) (m : Map α) (p : Nat → Bool) (k : Nat) :
    Map.get dflt (m.filter fun e => p e.1) k = if p k then Map.get dflt m k else dflt k := by
  induction m with
  | nil => exact (ite_self _).symm
  | cons e m ih =>
    by_cases he : e.1 = k
    · subst he
      by_cases hp : p e.1 <;> simp [hp, Map.get, ih]
    · by_cases hp : p e.1 <;> simp [hp, Map.get, ih, he]

theorem Dev.cellarCell_congr {d d' : Dev} (hc : d'.cfg.cellar = d.cfg.cellar) (hu : d'.cfg.undef = d.cfg.undef)
    (a : Nat) : d'.cellarCell a = d.cellarCell a := by
  rw [Dev.cellarCell, Dev.cellarCell, hc, hu]

/-- A read of the Cellar depends on its bytes, its undefined pages and the journal. -/
theorem Dev.cellar_congr {d d' : Dev} (hc : d'.cfg.cellar = d.cfg.cellar) (hu : d'.cfg.undef = d.cfg.undef)
    (hj : d'.cfg.journal = d.cfg.journal) (a : Nat) : d'.cellar a = d.cellar a := by
  have ha : d'.cellarAddr a = d.cellarAddr a := by rw [Dev.cellarAddr, Dev.cellarAddr, hj]
  rw [Dev.cellar, Dev.cellar, ha, Dev.cellarCell_congr hc hu]

section
variable (d : Dev)

@[simp] theorem Dev.cellarCell_withJournal (j : Option Journal) (k : Nat) :
    ({ d with cfg := { d.cfg with journal := j } } : Dev).cellarCell k = d.cellarCell k := rfl

/-- With no journal open a read is served from its own cell. -/
theorem Dev.cellar_of_no_journal (h : d.cfg.journal = none) (k : Nat) : d.cellar k = d.cellarCell k := by
  simp only [Dev.cellar, Dev.cellarAddr, h]

theorem Dev.cellarCell_of_defined {k : Nat} (h : Map.get (fun _ => 0) d.cfg.undef (k / 256) = 0) :
    d.cellarCell k = Map.get erasedByte d.cfg.cellar k := if_pos h

/-! ### Erase and program (R103) -/

/-- The pages that an erase covers are defined after it, and the others as they were. -/
theorem Dev.undef_cellarErase {a n : Nat} (ha : a % 256 = 0) (hn : n % 256 = 0) (k : Nat) :
    Map.get (fun _ => 0) (d.cellarErase a n).cfg.undef (k / 256) =
      if a ≤ k ∧ k < a + n then 0 else Map.get (fun _ => 0) d.cfg.undef (k / 256) := by
  have hp : (decide (k / 256 * 256 < a) || decide (a + n ≤ k / 256 * 256)) = true ↔ ¬ (a ≤ k ∧ k < a + n) := by
    simp only [Bool.or_eq_true, decide_eq_true_eq]
    omega
  refine (Map.get_filter _ _ (fun p => decide (p * 256 < a) || decide (a + n ≤ p * 256)) _).trans ?_
  by_cases hk : a ≤ k ∧ k < a + n
  · rw [if_neg (fun h => hp.1 h hk), if_pos hk]
  · rw [if_pos (hp.2 hk), if_neg hk]

/-- An erased cell reads 0xFF, and the others read as before. -/
theorem Dev.cellarCell_cellarErase {a n : Nat} (ha : a % 256 = 0) (hn : n % 256 = 0) (k : Nat) :
    (d.cellarErase a n).cellarCell k = if a ≤ k ∧ k < a + n then 0xFF else d.cellarCell k := by
  rw [Dev.cellarCell, d.undef_cellarErase ha hn, d.cellarErase_get]
  by_cases hk : a ≤ k ∧ k < a + n
  · simp only [if_pos hk, if_true]
  · simp only [if_neg hk]
    rfl

/-- Bytes stored in defined pages read as stored, and the other cells read as before. -/
theorem Dev.cellarCell_cellarStore {a : Nat} {l : List (BitVec 8)}
    (hu : ∀ k, a ≤ k → k < a + l.length → Map.get (fun _ => 0) d.cfg.undef (k / 256) = 0) (k : Nat) :
    (d.cellarStore a l).cellarCell k = if a ≤ k ∧ k < a + l.length then l.getD (k - a) 0 else d.cellarCell k := by
  by_cases hk : a ≤ k ∧ k < a + l.length
  · have hi : k - a < l.length := by omega
    have hin := d.cellarStore_in a (k - a) l hi
    rw [Nat.add_sub_cancel' hk.1] at hin
    rw [if_pos hk, (d.cellarStore a l).cellarCell_of_defined (hu k hk.1 hk.2), hin, List.getD_eq_getElem _ _ hi]
  · have hout := d.cellarStore_out a k l (by omega)
    rw [if_neg hk, Dev.cellarCell, Dev.cellarCell, hout]
    rfl

/-- An erase as a read shows it, with no journal open. -/
theorem Dev.cellar_cellarErase {a n : Nat} (hj : d.cfg.journal = none) (ha : a % 256 = 0) (hn : n % 256 = 0) (k : Nat) :
    (d.cellarErase a n).cellar k = if a ≤ k ∧ k < a + n then 0xFF else d.cellar k := by
  rw [(d.cellarErase a n).cellar_of_no_journal hj, d.cellarCell_cellarErase ha hn, d.cellar_of_no_journal hj]

/-- A program as a read shows it, with no journal open. -/
theorem Dev.cellar_cellarStore {a : Nat} {l : List (BitVec 8)} (hj : d.cfg.journal = none)
    (hu : ∀ k, a ≤ k → k < a + l.length → Map.get (fun _ => 0) d.cfg.undef (k / 256) = 0) (k : Nat) :
    (d.cellarStore a l).cellar k = if a ≤ k ∧ k < a + l.length then l.getD (k - a) 0 else d.cellar k := by
  rw [(d.cellarStore a l).cellar_of_no_journal hj, d.cellarCell_cellarStore hu, d.cellar_of_no_journal hj]

/-- A range that is erased and programmed reads as programmed, and the other cells read as before. -/
theorem Dev.cellarCell_erase_store {a n : Nat} {l : List (BitVec 8)} (ha : a % 256 = 0) (hn : n % 256 = 0)
    (hl : l.length = n) (k : Nat) : ((d.cellarErase a n).cellarStore a l).cellarCell k =
      if a ≤ k ∧ k < a + n then l.getD (k - a) 0 else d.cellarCell k := by
  subst hl
  rw [Dev.cellarCell_cellarStore _ fun k hlo hhi => (d.undef_cellarErase ha hn k).trans (if_pos ⟨hlo, hhi⟩)]
  split_ifs with hk
  · rfl
  · rw [d.cellarCell_cellarErase ha hn, if_neg hk]

/-! ### A rewrite through the spare (R126) -/

theorem getD_map_range (f : Nat → BitVec 8) {n i : Nat} (h : i < n) : ((List.range n).map f).getD i 0 = f i := by
  simp [List.getD_eq_getElem?_getD, h]

/-- The copy: the spare reads as the block did, and every other cell as before. -/
theorem Dev.cellarCell_renewCopy (a k : Nat) : (d.renewCopy a).cellarCell k =
    if 0x40000 ≤ k ∧ k < 0x40000 + 0x10000 then d.cellar (a + (k - 0x40000)) else d.cellarCell k := by
  have hl : (d.cellarRange a 0x10000).length = 0x10000 := by rw [Dev.cellarRange, List.length_map, List.length_range]
  unfold Dev.renewCopy
  rw [Dev.cellarCell_withJournal, d.cellarCell_erase_store (by decide) (by decide) hl]
  split_ifs with hk
  · exact getD_map_range _ (by omega)
  · rfl

/-- The rewrite: the block reads as the spare, and every other cell as before. -/
theorem Dev.cellarCell_renewFinish {a : Nat} (ha : a % 65536 = 0) (k : Nat) : (d.renewFinish a).cellarCell k =
    if a ≤ k ∧ k < a + 0x10000 then d.cellarCell (0x40000 + (k - a)) else d.cellarCell k := by
  unfold Dev.renewFinish
  rw [Dev.cellarCell_erase_store _ (by omega) (by decide) (by rw [List.length_map, List.length_range]),
    Dev.cellarCell_withJournal]
  split_ifs with hk
  · exact getD_map_range _ (by omega)
  · rfl

/-- Both together leave every cell outside the spare as a read gave it before. -/
theorem Dev.cellarCell_rewrite {a : Nat} (hj : d.cfg.journal = none) (ha : a % 65536 = 0) {k : Nat}
    (hk : k < 0x40000 ∨ 0x50000 ≤ k) : ((d.renewCopy a).renewFinish a).cellarCell k = d.cellarCell k := by
  rw [(d.renewCopy a).cellarCell_renewFinish ha]
  split_ifs with hb
  · rw [d.cellarCell_renewCopy, if_pos (by omega), d.cellar_of_no_journal hj,
      show a + (0x40000 + (k - a) - 0x40000) = k by omega]
  · rw [d.cellarCell_renewCopy, if_neg (by omega)]

end

end Sys2Proof.Machine
end

section
/-! PROOFS. Cellar write operations (R103, R123, R126): how one starts, what its end leaves, and
`Obligations.CellarWriteOperations`. -/

namespace Sys2Proof.Machine

/-! ### How an operation starts (R123) -/

/-- The commands that start a Cellar write operation, with their codes in CFG_CW_CTRL. -/
def cwCommands : List (Instr × Nat) := [(.cwProgramPage, 1), (.cwEraseBlock, 2), (.cwRenewBlock, 3)]

theorem exec_cwCommand {c : Instr} {op : Nat} (h : (c, op) ∈ cwCommands) (s : State) :
    exec c s = .next (s.onDev fun d => d.cwStart op) := by
  simp only [cwCommands, List.mem_cons, List.not_mem_nil, Prod.mk.injEq, or_false] at h
  obtain ⟨rfl, rfl⟩ | ⟨rfl, rfl⟩ | ⟨rfl, rfl⟩ := h <;> rfl

/-- What a meaning written with `onDev` yields. -/
theorem yields_onDev {c : Instr} {s : State} {f : Dev → Dev} {d : Dev} {P : State → Prop}
    (hx : exec c s = .next (s.onDev f)) (hd : f s.dev = d) (hp : P (s.onDev fun _ => d)) : Yields c s P := by
  subst hd
  exact ⟨_, hx, hp⟩

section
variable (d : Dev) (a : Nat) {r : Nat}

@[simp] theorem Dev.cfg_cwEnd : (d.cwEnd a r).cfg = d.cfg := by
  unfold Dev.cwEnd
  split_ifs
  · rfl
  · exact Dev.cfg_fault _ _ _

theorem Dev.cellar_cwEnd (k : Nat) : (d.cwEnd a r).cellar k = d.cellar k := by
  apply Dev.cellar_congr <;> rw [Dev.cfg_cwEnd]

/-- The end of an operation shows its result, and the write engine is free. -/
theorem Dev.cwEnd_shows (hr : r < 8) : (d.cwEnd a r).gf F.CFG_CW_STAT_RESULT = r ∧
    (d.cwEnd a r).gf F.CFG_CW_STAT_DONE = 1 ∧ (d.cwEnd a r).gb F.CFG_STATUS_BUSY = false := by
  have herr : ((d.cwStat a r).sf F.CFG_STATUS_BUSY 0 0 0).errOnly (d.cwEnd a r) := by
    unfold Dev.cwEnd
    split_ifs
    · exact Dev.errOnly_refl _
    · exact Dev.errOnly_raise _ _ _ _
  have hstat : ∀ f : Fld, f.reg = .CFG_CW_STAT → (d.cwEnd a r).gf f = (d.cwStat a r).gf f := fun f hf => by
    rw [herr.gf _ _ _ (by rw [hf]; rfl) (by decide) (by decide)]
    exact Dev.gf_sf_reg _ _ (by rw [hf]; decide) (by decide) (by decide) (by decide) (by decide)
  refine ⟨?_, ?_, ?_⟩
  · rw [hstat _ rfl, Dev.cwStat,
      Dev.gf_sf_bits (f := F.CFG_CW_STAT_CYCLES) (g := F.CFG_CW_STAT_RESULT) _ _ rfl (by decide),
      Dev.gf_sf _ _ _ _ _ (by decide)]
    exact Nat.mod_eq_of_lt hr
  · rw [hstat _ rfl, Dev.cwStat,
      Dev.gf_sf_bits (f := F.CFG_CW_STAT_CYCLES) (g := F.CFG_CW_STAT_DONE) _ _ rfl (by decide),
      Dev.gf_sf_bits (f := F.CFG_CW_STAT_RESULT) (g := F.CFG_CW_STAT_DONE) _ _ rfl (by decide)]
    exact Dev.gf_sf _ _ _ _ _ (by decide)
  · rw [Dev.gb, herr.gf _ _ _ rfl (by decide) (by decide), Dev.gf_sf _ _ _ _ _ (by decide)]
    rfl

end

section
variable {d : Dev} {op : Nat}

theorem Dev.cwStart_of_busy (h : d.gb F.CFG_STATUS_BUSY = true) (op : Nat) : d.cwStart op = d.notice 0x75 0x30100 :=
  if_pos h

variable (hb : d.gb F.CFG_STATUS_BUSY = false)
include hb

theorem Dev.cwStart_of_unaligned (h : d.gf F.CFG_CW_ADDR_ADDR % (if op = 1 then 256 else 65536) ≠ 0) :
    d.cwStart op = d.cwEnd (d.gf F.CFG_CW_ADDR_ADDR) cwAlign := by
  unfold Dev.cwStart
  dsimp only
  rw [if_neg (by simp [hb]), if_pos (by simpa using h)]

theorem Dev.cwStart_of_refused (h : d.gf F.CFG_CW_ADDR_ADDR % (if op = 1 then 256 else 65536) = 0)
    (hbar : d.cwBarred (op == 3) (d.gf F.CFG_CW_ADDR_ADDR) = true ∨ d.vppGood = false) :
    d.cwStart op = d.cwEnd (d.gf F.CFG_CW_ADDR_ADDR)
      (if d.cwBarred (op == 3) (d.gf F.CFG_CW_ADDR_ADDR) then cwProtected else cwNoVpp) := by
  unfold Dev.cwStart
  dsimp only
  rw [if_neg (by simp [hb]), if_neg (by simpa using h)]
  by_cases hp : d.cwBarred (op == 3) (d.gf F.CFG_CW_ADDR_ADDR) = true
  · rw [if_pos hp, if_pos hp]
  · rw [if_neg hp, if_neg hp, if_pos (by simp [hbar.resolve_left hp])]

theorem Dev.cwStart_of_taken (h : d.gf F.CFG_CW_ADDR_ADDR % (if op = 1 then 256 else 65536) = 0)
    (hbar : d.cwBarred (op == 3) (d.gf F.CFG_CW_ADDR_ADDR) = false) (hv : d.vppGood = true) :
    d.cwStart op = d.cwBegin ⟨op, d.gf F.CFG_CW_ADDR_ADDR, if op = 1 then d.cwBuffer else [], false⟩ := by
  unfold Dev.cwStart
  dsimp only
  rw [if_neg (by simp [hb]), if_neg (by simpa using h), if_neg (by simp [hbar]), if_neg (by simp [hv])]

end

/-- An operation refused at its start: its result, and the Cellar as it was. -/
theorem cwCommand_refused {c : Instr} {op r : Nat} {s : State} (hc : (c, op) ∈ cwCommands) (hr : r < 8)
    (hd : s.dev.cwStart op = s.dev.cwEnd (s.dev.gf F.CFG_CW_ADDR_ADDR) r) : Yields c s (fun t =>
      t.dev.gf F.CFG_CW_STAT_RESULT = r ∧ t.dev.gf F.CFG_CW_STAT_DONE = 1 ∧ t.dev.cfg = s.dev.cfg) := by
  obtain ⟨hres, hdone, -⟩ := s.dev.cwEnd_shows (s.dev.gf F.CFG_CW_ADDR_ADDR) hr
  exact yields_onDev (exec_cwCommand hc s) hd ⟨hres, hdone, Dev.cfg_cwEnd _ _⟩

/-! ### What the end of an operation leaves -/

/-- The device with its write engine at rest. -/
def Dev.cwRest (d : Dev) : Dev := { d with cfg := { d.cfg with cw := none } }

section
variable {d : Dev} {w : CwWork} {physOk low : Bool}

theorem Dev.pageErased_cwRest (d : Dev) (a : Nat) : d.cwRest.pageErased a = d.pageErased a := rfl

theorem Dev.undef_of_pageErased {a : Nat} (h : d.pageErased a = true) :
    Map.get (fun _ => 0) d.cfg.undef (a / 256) = 0 := by
  simp only [Dev.pageErased, Bool.and_eq_true, beq_iff_eq] at h
  exact h.1

theorem Dev.cwDone_of_none (h : d.cfg.cw = none) (physOk low : Bool) : d.cwDone physOk low = d := by
  unfold Dev.cwDone
  rw [h]

variable (hw : d.cfg.cw = some w)
include hw

theorem Dev.cwDone_of_ticket (ht : w.ticket = true) : d.cwDone physOk low =
    ((d.cwRest.renewDone w.addr low).sf F.CFG_STATUS_BUSY 0 0 0).renewNext (w.addr / 65536) := by
  unfold Dev.cwDone
  rw [hw]
  exact if_pos ht

variable (ht : w.ticket = false)
include ht

/-- An operation of CFG_CW_CTRL ends by its code. -/
theorem Dev.cwDone_of_command : d.cwDone physOk low =
    if w.op = 1 then (d.cwRest.programDone w physOk).1.cwEnd w.addr (d.cwRest.programDone w physOk).2
    else if w.op = 2 then ((d.cwRest.cellarErase w.addr 65536).cycleBlock (w.addr / 65536)).cwEnd w.addr cwOk
    else (d.cwRest.renewDone w.addr low).cwEnd w.addr cwOk := by
  unfold Dev.cwDone
  rw [hw]
  exact if_neg (by simp [ht])

theorem Dev.cwDone_of_programmed (ho : w.op = 1) (he : d.pageErased w.addr = true) :
    d.cwDone true low = (d.cwRest.cellarStore w.addr w.page).cwEnd w.addr cwOk := by
  rw [Dev.cwDone_of_command hw ht, if_pos ho, Dev.programDone, if_pos (by rw [Dev.pageErased_cwRest, he]; rfl)]

theorem Dev.cwDone_of_failed (ho : w.op = 1) (h : physOk = false ∨ d.pageErased w.addr = false) :
    d.cwDone physOk low = (d.cwRest.cellarSpoil w.addr 256).cwEnd w.addr cwVerifyFail := by
  rw [Dev.cwDone_of_command hw ht, if_pos ho, Dev.programDone,
    if_neg (by rw [Dev.pageErased_cwRest]; obtain h | h := h <;> simp [h])]

theorem Dev.cwDone_of_erase (ho : w.op = 2) : d.cwDone physOk low =
    ((d.cwRest.cellarErase w.addr 65536).cycleBlock (w.addr / 65536)).cwEnd w.addr cwOk := by
  rw [Dev.cwDone_of_command hw ht, if_neg (by omega), if_pos ho]

theorem Dev.cwDone_of_renewal (ho : w.op = 3) :
    d.cwDone physOk low = (d.cwRest.renewDone w.addr low).cwEnd w.addr cwOk := by
  rw [Dev.cwDone_of_command hw ht, if_neg (by omega), if_neg (by omega)]

end

/-! ### Renewal (R126) -/

section
variable (d : Dev)

theorem Dev.journal_cellarStore (a : Nat) (l : List (BitVec 8)) : (d.cellarStore a l).cfg.journal = d.cfg.journal := rfl

theorem Dev.journal_cellarErase (a n : Nat) : (d.cellarErase a n).cfg.journal = d.cfg.journal := rfl

theorem Dev.cw_cycleBlock (b : Nat) : (d.cycleBlock b).cfg.cw = d.cfg.cw := rfl

theorem Dev.journal_cycleBlock (b : Nat) : (d.cycleBlock b).cfg.journal = d.cfg.journal := rfl

theorem Dev.cellar_cycleBlock (b k : Nat) : (d.cycleBlock b).cellar k = d.cellar k := Dev.cellar_congr rfl rfl rfl k

theorem Dev.journal_renewFinish (a : Nat) : (d.renewFinish a).cfg.journal = none := by
  unfold Dev.renewFinish
  rw [Dev.journal_cellarStore, Dev.journal_cellarErase]

theorem Dev.cw_renewFinish (a : Nat) : (d.renewFinish a).cfg.cw = d.cfg.cw := by
  unfold Dev.renewFinish
  rw [Dev.cw_cellarStore, Dev.cw_cellarErase]

/-- The count of rewrites and its NOTICE leave the configuration controller as the rewrite does. -/
theorem Dev.cfg_renewDone (a : Nat) : (d.renewDone a true).cfg =
    ((((d.renewCopy a).renewFinish a).cycleBlock (a / 65536)).cycleBlock 4).cfg := by
  unfold Dev.renewDone
  rw [if_pos rfl, Dev.cfg_notice, Dev.cfg_cnt]

/-- A renewal leaves the write engine and the journal as they were, and every byte outside the spare. -/
theorem Dev.renewDone_keeps {a : Nat} (low : Bool) (hj : d.cfg.journal = none) (ha : a % 65536 = 0) :
    (d.renewDone a low).cfg.cw = d.cfg.cw ∧ (d.renewDone a low).cfg.journal = none ∧
      ∀ k, (k < 0x40000 ∨ 0x50000 ≤ k) → (d.renewDone a low).cellar k = d.cellar k := by
  cases low with
  | false => exact ⟨rfl, hj, fun _ _ => rfl⟩
  | true =>
    have hcfg := d.cfg_renewDone a
    refine ⟨?_, ?_, fun k hk => ?_⟩
    · rw [hcfg, Dev.cw_cycleBlock, Dev.cw_cycleBlock, Dev.cw_renewFinish, Dev.cw_renewCopy]
    · rw [hcfg, Dev.journal_cycleBlock, Dev.journal_cycleBlock, Dev.journal_renewFinish]
    · rw [Dev.cellar_congr (congrArg _ hcfg) (congrArg _ hcfg) (congrArg _ hcfg), Dev.cellar_cycleBlock,
        Dev.cellar_cycleBlock, Dev.cellar_of_no_journal _ (Dev.journal_renewFinish _ _), d.cellarCell_rewrite hj ha hk,
        d.cellar_of_no_journal hj]

end

/-- A step of a pass, of a block of good margin with blocks after it, goes on with the next block. -/
theorem Dev.cwDone_of_step {d : Dev} {w : CwWork} (physOk : Bool) (hw : d.cfg.cw = some w) (ht : w.ticket = true)
    (hlo : 6 ≤ w.addr / 65536) (hhi : w.addr / 65536 < 4095) (hv : d.vppGood = true) :
    d.cwDone physOk false = ({ d.cwRest.sf F.CFG_STATUS_BUSY 0 0 0 with
      cfg := { d.cwRest.cfg with renewPass := some (w.addr / 65536 + 1) } } : Dev).renewStep (w.addr / 65536 + 1) := by
  have hpass : passNext (w.addr / 65536 + 1) = w.addr / 65536 + 1 := if_neg (by simp; omega)
  have hvpp : (d.cwRest.sf F.CFG_STATUS_BUSY 0 0 0).vppGood = true := by
    rw [Dev.vppGood, Dev.gf_sf_reg _ _ (by decide) (by decide) (by decide) (by decide) (by decide)]
    exact hv
  rw [Dev.cwDone_of_ticket hw ht, Dev.renewDone, if_neg (by decide), Dev.renewNext, if_neg (by omega),
    if_neg (by omega), Dev.renewGo, hpass, if_neg (by omega), if_neg (by simp [hvpp])]
  rfl

/-! ### The statement -/

section
variable {w : CwWork} {s : State} (hw : s.dev.cfg.cw = some w)
include hw

theorem cwOpDone_step (physOk : Bool) (ht : w.ticket = true) (hlo : 6 ≤ w.addr / 65536) (hhi : w.addr / 65536 < 4095)
    (hv : s.dev.vppGood = true) : Yields (.cwOpDone physOk false) s (fun t => t.dev.gf F.CFG_STATUS_BUSY = 1 ∧
      t.dev.cfg = { s.dev.cfg with
        renewPass := some (w.addr / 65536 + 1), cw := some ⟨3, (w.addr / 65536 + 1) * 65536, [], true⟩ }) :=
  yields_onDev rfl (Dev.cwDone_of_step physOk hw ht hlo hhi hv) ⟨Dev.gf_sf _ _ _ _ _ (by decide), rfl⟩

variable (ht : w.ticket = false)
include ht

theorem cwOpDone_program (low : Bool) (ho : w.op = 1) (hl : w.page.length = 256) (ha : w.addr % 256 = 0)
    (hj : s.dev.cfg.journal = none) (he : s.dev.pageErased w.addr = true) : Yields (.cwOpDone true low) s (fun t =>
      t.dev.gf F.CFG_CW_STAT_RESULT = cwOk ∧ t.dev.gb F.CFG_STATUS_BUSY = false ∧ t.dev.cfg.cw = none ∧
      ∀ a, t.dev.cellar a =
        if w.addr ≤ a ∧ a < w.addr + 256 then w.page.getD (a - w.addr) 0 else s.dev.cellar a) := by
  obtain ⟨hres, -, hbusy⟩ := (s.dev.cwRest.cellarStore w.addr w.page).cwEnd_shows w.addr (r := cwOk) (by decide)
  refine yields_onDev rfl (Dev.cwDone_of_programmed hw ht ho he) ⟨hres, hbusy, congrArg CfgCtl.cw (Dev.cfg_cwEnd _ _),
    fun a => ?_⟩
  have hdef : ∀ k, w.addr ≤ k → k < w.addr + w.page.length →
      Map.get (fun _ => 0) s.dev.cwRest.cfg.undef (k / 256) = 0 := by
    intro k hlo hhi
    rw [show k / 256 = w.addr / 256 by omega]
    exact Dev.undef_of_pageErased he
  have hread := s.dev.cwRest.cellar_cellarStore hj hdef a
  rw [hl] at hread
  exact (Dev.cellar_cwEnd _ _ _).trans hread

theorem cwOpDone_fails (physOk low : Bool) (ho : w.op = 1) (h : physOk = false ∨ s.dev.pageErased w.addr = false) :
    Yields (.cwOpDone physOk low) s (fun t => t.dev.gf F.CFG_CW_STAT_RESULT = cwVerifyFail ∧
      t.dev.gf F.CFG_CW_STAT_DONE = 1 ∧ t.dev.gb F.CFG_STATUS_BUSY = false ∧ t.dev.cfg.cw = none) := by
  obtain ⟨hres, hdone, hbusy⟩ := (s.dev.cwRest.cellarSpoil w.addr 256).cwEnd_shows w.addr (r := cwVerifyFail)
    (by decide)
  exact yields_onDev rfl (Dev.cwDone_of_failed hw ht ho h)
    ⟨hres, hdone, hbusy, congrArg CfgCtl.cw (Dev.cfg_cwEnd _ _)⟩

theorem cwOpDone_erase (physOk low : Bool) (ho : w.op = 2) (ha : w.addr % 65536 = 0) (hj : s.dev.cfg.journal = none) :
    Yields (.cwOpDone physOk low) s (fun t => t.dev.gf F.CFG_CW_STAT_RESULT = cwOk ∧ t.dev.cfg.cw = none ∧
      ∀ a, t.dev.cellar a = if w.addr ≤ a ∧ a < w.addr + 65536 then 0xFF else s.dev.cellar a) := by
  obtain ⟨hres, -, -⟩ := ((s.dev.cwRest.cellarErase w.addr 65536).cycleBlock (w.addr / 65536)).cwEnd_shows w.addr
    (r := cwOk) (by decide)
  refine yields_onDev rfl (Dev.cwDone_of_erase hw ht ho) ⟨hres, congrArg CfgCtl.cw (Dev.cfg_cwEnd _ _), fun a => ?_⟩
  exact (Dev.cellar_cwEnd _ _ _).trans ((Dev.cellar_cycleBlock _ _ _).trans
    (s.dev.cwRest.cellar_cellarErase hj (by omega) (by decide) a))

theorem cwOpDone_renewal (physOk low : Bool) (ho : w.op = 3) (ha : w.addr % 65536 = 0) (hj : s.dev.cfg.journal = none) :
    Yields (.cwOpDone physOk low) s (fun t => t.dev.gf F.CFG_CW_STAT_RESULT = cwOk ∧ t.dev.cfg.cw = none ∧
      t.dev.cfg.journal = none ∧ ∀ a, (a < 0x40000 ∨ 0x50000 ≤ a) → t.dev.cellar a = s.dev.cellar a) := by
  obtain ⟨hres, -, -⟩ := (s.dev.cwRest.renewDone w.addr low).cwEnd_shows w.addr (r := cwOk) (by decide)
  obtain ⟨hcw, hjournal, hcellar⟩ := s.dev.cwRest.renewDone_keeps low hj ha
  exact yields_onDev rfl (Dev.cwDone_of_renewal hw ht ho) ⟨hres, (congrArg CfgCtl.cw (Dev.cfg_cwEnd _ _)).trans hcw,
    (congrArg CfgCtl.journal (Dev.cfg_cwEnd _ _)).trans hjournal,
    fun a hout => (Dev.cellar_cwEnd _ _ _).trans (hcellar a hout)⟩

end

/-- Settles O19: each command that starts an operation takes one branch of `Dev.cwStart`, and CW_OP_DONE ends the step
under way by its code. -/
theorem cellarWriteOperations : Obligations.CellarWriteOperations := by
  unfold Obligations.CellarWriteOperations
  refine ⟨⟨fun c s hc hb => ?_, fun c unit s hc hb hu => ?_, fun c renew s hc hb ha hr => ?_, fun s hb hv => ?_⟩,
    fun w low s hw ht ho hl ha hj he => cwOpDone_program hw ht low ho hl ha hj he,
    fun w physOk low s hw ht ho h => cwOpDone_fails hw ht physOk low ho h,
    fun w physOk s hw ht hlo hhi hv => cwOpDone_step hw physOk ht hlo hhi hv,
    fun w physOk low s hw ht ho ha hj => cwOpDone_erase hw ht physOk low ho ha hj,
    fun w physOk low s hw ht ho ha _ hj => cwOpDone_renewal hw ht physOk low ho ha hj,
    fun physOk low s hn => does_onDev rfl (Dev.cwDone_of_none hn physOk low)⟩
  · obtain ⟨op, hop⟩ : ∃ op, (c, op) ∈ cwCommands := by simpa [cwCommands, exists_or] using hc
    exact does_onDev (exec_cwCommand hop s) (Dev.cwStart_of_busy hb op)
  · obtain ⟨op, hop, hunit⟩ : ∃ op, (c, op) ∈ cwCommands ∧ unit = if op = 1 then 256 else 65536 := by
      simpa [cwCommands, or_and_right, exists_or, and_assoc] using hc
    exact cwCommand_refused hop (by decide) (Dev.cwStart_of_unaligned hb (hunit ▸ hu))
  · obtain ⟨op, hop, rfl⟩ : ∃ op, (c, op) ∈ cwCommands ∧ renew = (op == 3) := by
      simpa [cwCommands, or_and_right, exists_or, and_assoc] using hc
    exact cwCommand_refused hop (by split_ifs <;> decide) (Dev.cwStart_of_refused hb (by split_ifs <;> omega) hr)
  · exact ⟨fun ha hn => does_onDev rfl (Dev.cwStart_of_taken (op := 1) hb ha hn hv),
      fun ha hn => does_onDev rfl (Dev.cwStart_of_taken (op := 2) hb ha hn hv),
      fun ha hn => does_onDev rfl (Dev.cwStart_of_taken (op := 3) hb ha hn hv)⟩

end Sys2Proof.Machine
end

section
/-! PROOFS. `Obligations.ImageHeaderAndChecks`, refuted: the end of the clock wait also lets every pin leave the safe
state it was in (R108, Table 19.12), which `Dev.pin` holds and the clause leaves out. -/

namespace Sys2Proof.Machine

theorem Dev.applySection_of_nil {d : Dev} {x : Section} (h : d.sectionList x = []) (lvl2 : Bool) :
    (d.applySection x lvl2).1 = d := by
  rw [Dev.applySection, h]
  rfl

/-- A record's write lists depend on the registers and the Cellar alone. -/
theorem Dev.sectionList_congr {d d' : Dev} (hr : d'.regs = d.regs) (hc : ∀ a, d'.cellar a = d.cellar a) (x : Section) :
    d'.sectionList x = d.sectionList x := by
  have hlist : d'.writeList = d.writeList := by
    funext a n
    simp only [Dev.writeList, Dev.cellarRange, hc]
  have hrec : d'.gf F.CFG_STATUS_RECORD = d.gf F.CFG_STATUS_RECORD := by simp only [Dev.gf, Dev.reg, hr]
  rw [Dev.sectionList, Dev.sectionList, hlist, hrec]

/-- The device with the wait for clocks over. -/
def Dev.clockWaited (d : Dev) : Dev := { d with cfg := { d.cfg with clockWait := false } }

/-- The end of the clock wait in its state: the islands still unlocked, the IO and CONTROL sections, HEADER (R108). -/
theorem Dev.clockWaitEnd_of_wait {d : Dev} (hst : d.loadState = stSettings) (hwait : d.cfg.clockWait = true)
    (hm : d.mode = mLoad) : d.clockWaitEnd =
      (((((d.clockWaited.each d.clockWaited.unlockedIslands Dev.islandUnlocked).applySection .io true).1.leaveSafe
        (fun _ => true)).applySection .control true).1).nextHeader :=
  if_neg (by simp [hst, hwait, hm])

/-- With nothing to handle and nothing to apply: HEADER of the first slot, and no pin keeps an older safe state. -/
theorem Dev.clockWaitEnd_of_nothing {d : Dev} {k : Nat} {l : List Nat} (hst : d.loadState = stSettings)
    (hwait : d.cfg.clockWait = true) (hm : d.mode = mLoad) (hu : d.unlockedIslands = []) (hio : d.sectionList .io = [])
    (hcontrol : d.sectionList .control = []) (ho : d.cfg.order = k :: l) : d.clockWaitEnd =
      ({ d with cfg := { d.cfg with clockWait := false, slot := k, order := l }, pin := { d.pin with safeOld := [] } } :
        Dev).setLoadState stHeader := by
  have heach : d.clockWaited.each d.clockWaited.unlockedIslands Dev.islandUnlocked = d.clockWaited := by
    rw [show d.clockWaited.unlockedIslands = [] from hu]
    rfl
  have hsafe : d.clockWaited.leaveSafe (fun _ => true) =
      { d.clockWaited with pin := { d.pin with safeOld := [] } } := by
    rw [Dev.leaveSafe]
    simp [Dev.clockWaited]
  have hio' : d.clockWaited.sectionList .io = [] :=
    (Dev.sectionList_congr rfl (Dev.cellar_congr rfl rfl rfl) _).trans hio
  have hcontrol' : ({ d.clockWaited with pin := { d.pin with safeOld := [] } } : Dev).sectionList .control = [] :=
    (Dev.sectionList_congr rfl (Dev.cellar_congr rfl rfl rfl) _).trans hcontrol
  rw [Dev.clockWaitEnd_of_wait hst hwait hm, heach, Dev.applySection_of_nil hio', hsafe,
    Dev.applySection_of_nil hcontrol', Dev.nextHeader,
    show ({ d.clockWaited with pin := _ } : Dev).cfg.order = k :: l from ho]
  rfl

theorem State.pin_clockLockWaitEnd {s t : State} (hx : exec .clockLockWaitEnd s = .next t) :
    t.dev.pin = s.dev.clockWaitEnd.pin := by
  cases hx
  exact State.pin_act _ _

/-- Cellar load at the end of its clock wait, with a SAFE of pin 0 of bank B00 written since the pin entered its safe
state. -/
def State.clockWaitWithOldSafe : State :=
  State.reset.onDev fun d => (({ d with
    cfg := { d.cfg with clockWait := true, order := [1] }, pin := { d.pin with safeOld := [(0, 1)] } } : Dev).sf
    F.GBL_MODE_MODE 0 0 mLoad).sf F.CFG_STATUS_STATE 0 0 stSettings

/-- There the wait is under way, with nothing to handle or to apply at its end. -/
theorem State.waits_clockWaitWithOldSafe : State.clockWaitWithOldSafe.dev.loadState = stSettings ∧
    State.clockWaitWithOldSafe.dev.mode = mLoad ∧ State.clockWaitWithOldSafe.dev.unlockedIslands = [] ∧
    State.clockWaitWithOldSafe.dev.sectionList .io = [] ∧ State.clockWaitWithOldSafe.dev.sectionList .control = [] := by
  decide +kernel

/-- Refutes O17: CLOCK_LOCK_WAIT_END in `State.clockWaitWithOldSafe` ends the older safe state of pin 0, where the
clause leaves every pin as it was. -/
theorem not_imageHeaderAndChecks : ¬ Obligations.ImageHeaderAndChecks := by
  unfold Obligations.ImageHeaderAndChecks
  rintro ⟨⟨-, -, -, -, hwait, -⟩, -⟩
  obtain ⟨hst, hm, hu, hio, hcontrol⟩ := State.waits_clockWaitWithOldSafe
  obtain ⟨t, hx, hd, -⟩ := hwait 1 [] State.clockWaitWithOldSafe hst rfl hm hu hio hcontrol rfl
  have hnone : t.dev.pin.safeOld = [] := by
    rw [State.pin_clockLockWaitEnd hx, Dev.clockWaitEnd_of_nothing hst rfl hm hu hio hcontrol rfl]
    rfl
  rw [hd] at hnone
  exact absurd hnone (List.cons_ne_nil _ _)

end Sys2Proof.Machine
end

section
/-! PROOFS. `Obligations.SwapArmingAndExchange`, refuted: a drain that is given up leaves the clamps engaged over a room
that the GSR held (R146, Table 6.4), where the clause opens them in every room. -/

namespace Sys2Proof.Machine

@[simp] theorem Dev.room_scrubResume (d : Dev) (n m : Nat) : (d.scrubResume n).room m = d.room m := by
  unfold Dev.scrubResume
  split_ifs <;> rfl

/-- A drain given up opens the clamps of a room that runs, and no others. -/
theorem Dev.clamps_swapDrainTimeout {d : Dev} {n : Nat} (hstage : (d.room n).stage = .swapDrain)
    (hd : d.drained n = false) (habort : d.gb F.ROOM_SWAP_CFG_DRAIN_ABORT n = true) :
    ((d.swapDrainTimeout n).room n).clamps = (d.room n).gsr := by
  unfold Dev.swapDrainTimeout
  rw [if_neg (by simp [hstage]), if_neg (by simp [hd]), if_pos habort, Dev.room_fault, Dev.room_scrubResume,
    Dev.room_roomResult, Dev.room_sf, Dev.room_onRoom]

theorem clamps_of_swapDrainTimeout {n : Fin 64} {s t : State} (hx : exec (.swapDrainTimeout n) s = .next t)
    (hstage : (s.dev.room n).stage = .swapDrain) (hd : s.dev.drained n = false)
    (habort : s.dev.gb F.ROOM_SWAP_CFG_DRAIN_ABORT n = true) : (t.dev.room n).clamps = (s.dev.room n).gsr := by
  cases hx
  rw [Dev.room, State.rooms_act, ← Dev.room]
  exact Dev.clamps_swapDrainTimeout hstage hd habort

/-- Run, with room 5 powered and held by the GSR: its shadow is READY, DRAIN_ABORT is set, and a request of its
endpoint 0 still waits for the response. -/
def State.heldWithShadow : State :=
  State.reset.onDev fun d => (((((d.onRoom 5 fun r => { r with ep0 := { slots := [(0, { busy := true })] } }).sf
    F.GBL_MODE_MODE 0 0 mRun).sf F.GOV_ROOM_PSTATE 5 0 0).sf F.ROOM_PLANE_STAT_SH_STATE 5 0 shReady).sf
    F.ROOM_SWAP_CFG_DRAIN_ABORT 5 0 1)

/-- The same after ARM with the immediate trigger. -/
def State.drainUnderGsr : State := State.heldWithShadow.onDev fun d => d.armSwap 5

/-- There the drain of room 5 is under way and not complete, with DRAIN_ABORT set and the room held by the GSR. -/
theorem State.drains_drainUnderGsr : (State.drainUnderGsr.dev.room 5).stage = .swapDrain ∧
    State.drainUnderGsr.dev.drained 5 = false ∧ State.drainUnderGsr.dev.gb F.ROOM_SWAP_CFG_DRAIN_ABORT 5 = true ∧
    (State.drainUnderGsr.dev.room 5).gsr = true := by
  decide +kernel

/-- Refutes O21: SWAP_DRAIN_TIMEOUT in `State.drainUnderGsr` leaves the clamps of room 5 engaged. -/
theorem not_swapArmingAndExchange : ¬ Obligations.SwapArmingAndExchange := by
  unfold Obligations.SwapArmingAndExchange
  rintro ⟨-, -, hdrain, -⟩
  obtain ⟨hstage, hwait, habort, hgsr⟩ := State.drains_drainUnderGsr
  obtain ⟨-, hopens, -⟩ := hdrain 5 State.drainUnderGsr hstage hwait
  obtain ⟨t, hx, -, hopen, -⟩ := hopens habort
  have hclamps : (t.dev.room 5).clamps = true := (clamps_of_swapDrainTimeout hx hstage hwait habort).trans hgsr
  exact Bool.false_ne_true (hopen.symm.trans hclamps)

end Sys2Proof.Machine
end

section
/-! PROOFS. Work on one room (R52 to R58, R82, R152): which registers an error record, the result of an operation, entry
into reset and a release may change, and what they leave of the room. -/

namespace Sys2Proof.Machine

/-! ### The error unit -/

/-- The registers of the error unit that records change. -/
def errKinds : List RK :=
  [.ERR_STAT, .ERR_FIRST, .ERR_FIRST_TIME_LO, .ERR_FIRST_TIME_HI, .ERR_FIRST_DETAIL, .ERR_ALARM, .ERR_ALARM_TIME_LO,
   .ERR_ALARM_TIME_HI, .ERR_ALARM_DETAIL, .ERR_NOTICE, .ERR_CNT]

theorem RK.isErr_of_not_mem {k : RK} (h : k ∉ errKinds) : k.isErr = false := by
  unfold RK.isErr
  split <;> simp_all [errKinds]

section
variable {a b c : Dev} {l : List RK}

theorem Dev.errOnly.keepsKinds (h : a.errOnly b) (hl : errKinds ⊆ l) : a.keepsKinds b l :=
  fun k i j hi hj hk => h.1 k i j (RK.isErr_of_not_mem fun he => hk (hl he)) hi hj

theorem Dev.keepsKinds.notice (h : a.keepsKinds b l) (hl : errKinds ⊆ l) {src detail : Nat} :
    a.keepsKinds (b.notice src detail) l := h.trans ((b.errOnly_raise _ _ _).keepsKinds hl)

theorem Dev.keepsKinds.faultFree (h : a.keepsKinds b l) (hl : errKinds ⊆ l) {src : Nat} :
    a.keepsKinds (b.faultFree src) l :=
  (h.of_regs (c := { b with free := b.free + 1 }) rfl).trans ((Dev.errOnly_raise _ _ _ _).keepsKinds hl)

theorem Dev.keepsKinds.onRoom (h : a.keepsKinds b l) {n : Nat} {f : Room → Room} : a.keepsKinds (b.onRoom n f) l :=
  h.of_regs rfl

/-! ### The result of an operation (R152) -/

theorem Dev.keepsKinds.roomResult (h : a.keepsKinds b l) (hl : .ROOM_LOAD_STAT ∈ l) {n result source : Nat}
    (hn : n < 65536) : a.keepsKinds (b.roomResult n result source) l :=
  ((h.sf hl hn (by decide)).sf hl hn (by decide)).sf hl hn (by decide)

end

/-! ### Entry into reset (R73, R82, R171, R250) -/

/-- The registers that a room's entry into reset may change: of the answers of its border, its dropped deliveries, and
the error unit. -/
def resetKinds : List RK := .ROOM_COR_CNT :: .EVT_EVP_CNT :: errKinds

section
variable (d : Dev) {n : Nat} (busy : Bool)

theorem Room.gsr_onEp (r : Room) (e : Nat) (f : Endpoint → Endpoint) : (r.onEp e f).gsr = r.gsr := by
  unfold Room.onEp
  split_ifs <;> rfl

theorem Room.gsr_setEv (r : Room) (p : Nat) (l : List (BitVec 64)) : (r.setEv p l).gsr = r.gsr := by
  unfold Room.setEv
  split_ifs <;> rfl

/-- What every answer of a border leaves alone, the flush of an endpoint changes in the room's buffers at most. -/
theorem Dev.flushEndpoint_keeps {β : Type} (g : Dev → β) (hg : ∀ d e p, g (Dev.borderAnswer d n e p busy) = g d)
    (e : Nat) : g (d.flushEndpoint n e busy) =
      g (d.onRoom n fun r => r.onEp e fun x => { x with reqBuf := [], taken := [], respBuf := [] }) :=
  foldl_keeps g _ _ (fun d p _ => hg d e p) _

theorem Dev.gsr_flushEndpoint (e : Nat) : ((d.flushEndpoint n e busy).room n).gsr = (d.room n).gsr := by
  rw [d.flushEndpoint_keeps busy (fun d => (d.room n).gsr) (fun _ _ _ => rfl), Dev.room_onRoom, Room.gsr_onEp]

theorem Dev.cfg_flushEndpoint (e : Nat) : (d.flushEndpoint n e busy).cfg = d.cfg :=
  d.flushEndpoint_keeps busy Dev.cfg (fun _ _ _ => rfl) e

theorem Dev.gsr_dropDelivery (p : Nat) : ((d.dropDelivery n p).room n).gsr = (d.room n).gsr := by
  unfold Dev.dropDelivery
  dsimp only
  split_ifs
  · rfl
  · rw [Dev.room_notice, Dev.room_cnt, Dev.room_onRoom, Room.gsr_setEv]

theorem Dev.cfg_dropDelivery (p : Nat) : (d.dropDelivery n p).cfg = d.cfg := by
  unfold Dev.dropDelivery
  dsimp only
  split_ifs
  · rfl
  · rw [Dev.cfg_notice]
    rfl

/-- A room under the GSR, before its buffers are flushed. -/
def Dev.underGsr (d : Dev) (n : Nat) (busy : Bool) : Dev :=
  d.onRoom n fun r => ({ r with
    gsr := true, clamps := true, down := !busy, release := false, started := false, ff := [], mem := [], keepers := 0,
    macs := [] }).clearBramOutputs

theorem Dev.roomReset_eq : d.roomReset n busy =
    ((((List.range 4).foldl (fun d e => d.flushEndpoint n e busy) (d.underGsr n busy)).dropDelivery n 0).dropDelivery n
      1).abortPackets n := rfl

theorem Dev.room_abortPackets (m : Nat) : (d.abortPackets n).room m = d.room m := rfl
theorem Dev.cfg_abortPackets : (d.abortPackets n).cfg = d.cfg := rfl
theorem Dev.regs_abortPackets : (d.abortPackets n).regs = d.regs := rfl

theorem Dev.gsr_underGsr : ((d.underGsr n busy).room n).gsr = true := by
  rw [Dev.underGsr, Dev.room_onRoom]
  rfl

@[simp] theorem Dev.gsr_roomReset : ((d.roomReset n busy).room n).gsr = true := by
  rw [Dev.roomReset_eq, Dev.room_abortPackets, Dev.gsr_dropDelivery, Dev.gsr_dropDelivery,
    foldl_keeps (fun d : Dev => (d.room n).gsr) _ _ (fun d e _ => d.gsr_flushEndpoint busy e), Dev.gsr_underGsr]

@[simp] theorem Dev.cfg_roomReset : (d.roomReset n busy).cfg = d.cfg := by
  rw [Dev.roomReset_eq, Dev.cfg_abortPackets, Dev.cfg_dropDelivery, Dev.cfg_dropDelivery,
    foldl_keeps Dev.cfg _ _ (fun d e _ => d.cfg_flushEndpoint busy e), Dev.underGsr, Dev.cfg_onRoom]

theorem Dev.keepsKinds_flushEndpoint (hn : n < 65536) {e : Nat} (he : e < 256) :
    d.keepsKinds (d.flushEndpoint n e busy) resetKinds := by
  refine (d.keepsKinds_refl _).onRoom.trans (Dev.keepsKinds_foldl _ _ _ (fun d p _ => ?_) _)
  exact Dev.keepsKinds.sf ((d.keepsKinds_refl _).of_regs rfl) (f := F.ROOM_COR_CNT_BORDER) (by decide) hn he

theorem Dev.keepsKinds_dropDelivery (hn : n < 65536) (p : Nat) : d.keepsKinds (d.dropDelivery n p) resetKinds := by
  refine Dev.keepsKinds.ite (d.keepsKinds_refl _) ?_
  exact ((d.keepsKinds_refl _).onRoom.sf (f := F.EVT_EVP_CNT_DROPPED) (by decide) hn (by decide)).notice (by decide)

theorem Dev.keepsKinds_roomReset (hn : n < 65536) : d.keepsKinds (d.roomReset n busy) resetKinds := by
  have hheld : d.keepsKinds (d.underGsr n busy) resetKinds := (d.keepsKinds_refl _).onRoom
  have hflush := hheld.trans (Dev.keepsKinds_foldl _ (fun d e => d.flushEndpoint n e busy) (List.range 4)
    (fun d e he => d.keepsKinds_flushEndpoint busy hn ((List.mem_range.1 he).trans (by decide))) _)
  rw [Dev.roomReset_eq]
  exact ((hflush.trans (Dev.keepsKinds_dropDelivery _ hn 0)).trans (Dev.keepsKinds_dropDelivery _ hn 1)).of_regs
    (Dev.regs_abortPackets _)

end

/-! ### Release (R58, R135) -/

section
variable (d : Dev) {n : Nat}

theorem Dev.keepsKinds_roomRelease (hn : n < 65536) : d.keepsKinds (d.roomRelease n) islandKinds :=
  Dev.keepsKinds.ite (d.keepsKinds_roomOut hn) (d.keepsKinds_refl _).onRoom

theorem Dev.room_bankLeaves (b m : Nat) : (d.bankLeaves b).room m = d.room m := rfl

/-- A release leaves the load of a room as it is. -/
theorem Dev.load_roomRelease : ((d.roomRelease n).room n).load = (d.room n).load := by
  unfold Dev.roomRelease Dev.roomOut
  cases bankOf n <;> split_ifs <;> simp [Dev.room_bankLeaves]

/-- The GSR of a room whose clock runs is off at its release. -/
theorem Dev.gsr_roomRelease (h : d.gb F.CLK_ISL_STAT_RUN n = true) : ((d.roomRelease n).room n).gsr = false := by
  unfold Dev.roomRelease
  rw [if_pos h]
  unfold Dev.roomOut
  cases bankOf n <;> simp [Dev.room_bankLeaves]

end

/-! ### Claims about one command on a room -/

theorem State.room_act (s : State) (f : Dev → Dev) (m : Nat) : (s.act f).dev.room m = (f s.dev).room m := by
  rw [Dev.room, State.rooms_act, Dev.room]

/-- The registers of a room's operations. -/
def roomOpKinds : List RK := [.ROOM_PLANE_STAT, .ROOM_LOAD_STAT, .ROOM_SCRUB_STAT]

/-- A meaning written with `act` that changes the registers of a room's operations, and rooms without a change of any
GSR, does what its function says. -/
theorem does_act_of_room {c : Instr} {s : State} {f : Dev → Dev} {d : Dev} (hx : exec c s = .next (s.act f))
    (hd : f s.dev = d) (hg : ∀ m, (d.room m).gsr = (s.dev.room m).gsr) (hk : s.dev.keepsKinds d roomOpKinds) :
    Does c s d :=
  does_act_gsr hx hd hg (hk.gf (f := F.GBL_MODE_MODE) (by decide) (by decide) (by decide))
    (hk.gf (by decide) (by decide) (by decide)) (hk.gf (by decide) (by decide) (by decide))

/-- A command that only ends with a result does no more than show it. -/
theorem does_roomResult {c : Instr} {n : Fin 64} {s : State} {f : Dev → Dev} {result source : Nat}
    (hx : exec c s = .next (s.act f)) (hd : f s.dev = s.dev.roomResult n result source) :
    Does c s (s.dev.roomResult n result source) :=
  does_act_of_room hx hd (fun _ => rfl) ((s.dev.keepsKinds_refl _).roomResult (by decide) (by omega))

end Sys2Proof.Machine
end

section
/-! PROOFS. The settings that go with a plane (R107, R115, R134, R141): an entry of a ROOM list writes border registers
of a room, and no more. -/

namespace Sys2Proof.Machine

/-! ### The registers of a room's border blocks -/

/-- The registers between offsets 0x100 and 0x3FC of a room's block (Table 5.2), the three whose writes do more than
store their fields first. -/
def borderKinds : List RK :=
  [.ROOM_BRAM_EADDR, .ROOM_CLAMP, .ROOM_SCRUB_CFG, .ROOM_BANK, .ROOM_NCH_EN, .ROOM_NCH_STAT, .ROOM_NCH_CNT,
   .ROOM_COR_CTRL, .ROOM_COR_STAT, .ROOM_COR_CNT, .ROOM_BRAM_ECC, .ROOM_SWAP_CFG]

/-- An array of registers none of which the ROOM section covers, judged by its ends and by its place in a room's
block. -/
def RegDesc.offBorder (x : RegDesc) : Bool :=
  let last := x.st2 * (x.n2 - 1)
  decide (0x240000 ≤ x.base) || decide (x.base + x.st1 * (x.n1 - 1) + last < 0x200000) ||
    (x.st1 == 0x1000 && decide (0x3FC < x.base % 0x1000) && decide (x.base % 0x1000 + last < 0x1000))

/-- The register table has no others within the ROOM section. -/
theorem RK.border_or_offBorder : ∀ k ∈ RK.all, (k ∈ borderKinds ∧ k.desc.n1 ≤ 64 ∧ k.desc.n2 ≤ 64) ∨
    k.desc.offBorder = true := by
  decide +kernel

/-- The address of an element of an array of registers. -/
theorem RegDesc.of_index {x : RegDesc} {a i j : Nat} (h : x.index a = some (i, j)) :
    a = x.base + x.st1 * i + x.st2 * j ∧ i < x.n1 ∧ j < x.n2 := by
  unfold RegDesc.index at h
  dsimp only at h
  split_ifs at h with hlo hin
  obtain ⟨rfl, rfl⟩ := Prod.mk.inj (Option.some.inj h)
  simp only [Bool.and_eq_true, decide_eq_true_eq, beq_iff_eq] at hin
  obtain ⟨⟨hi, hr⟩, hj⟩ := hin
  have hrow := Nat.div_add_mod (a - x.base) x.st1
  have hcol := Nat.mul_div_cancel' (Nat.dvd_of_mod_eq_zero hr)
  exact ⟨by omega, hi, hj⟩

/-- An array off the border registers has no element that the ROOM section covers. -/
theorem RegDesc.not_covers {x : RegDesc} {a i j : Nat} (hx : x.offBorder = true) (h : x.index a = some (i, j)) :
    Section.room.covers a = false := by
  obtain ⟨ha, hi, hj⟩ := RegDesc.of_index h
  have hrow : x.st1 * i ≤ x.st1 * (x.n1 - 1) := Nat.mul_le_mul_left _ (by omega)
  have hcol : x.st2 * j ≤ x.st2 * (x.n2 - 1) := Nat.mul_le_mul_left _ (by omega)
  simp only [RegDesc.offBorder, Bool.or_eq_true, Bool.and_eq_true, decide_eq_true_eq, beq_iff_eq] at hx
  simp only [Section.covers, Bool.and_eq_false_iff, decide_eq_false_iff_not]
  rcases hx with (hhi | hlo) | ⟨⟨hst, hplace⟩, hend⟩
  · omega
  · omega
  · rw [hst] at ha
    omega

/-- What is found at an address that the ROOM section covers is a border register of a room. -/
theorem RK.border_of_find {a i j : Nat} {k : RK} (hc : Section.room.covers a = true) (h : RK.find a = some (k, i, j)) :
    k ∈ borderKinds ∧ i < 64 ∧ j < 64 := by
  unfold RK.find at h
  cases hf : RK.all.find? (fun k => (k.desc.index a).isSome) with
  | none => rw [hf] at h; cases h
  | some k' =>
    rw [hf] at h
    obtain ⟨⟨i', j'⟩, hindex, hk⟩ := Option.bind_eq_some_iff.1 h
    split_ifs at hk
    cases hk
    rcases RK.border_or_offBorder k (List.mem_of_find?_eq_some hf) with ⟨hb, hn1, hn2⟩ | hoff
    · obtain ⟨-, hi, hj⟩ := RegDesc.of_index hindex
      exact ⟨hb, by omega, by omega⟩
    · rw [RegDesc.not_covers hoff hindex] at hc
      cases hc

/-! ### One entry, and a list -/

/-- The registers that a list of border settings may change: the border registers, the scrubber that ROOM_SCRUB_CFG
starts or stops, and what counts and records a refusal. -/
def settingsKinds : List RK := .ROOM_SCRUB_STAT :: .HAT_CNT :: (borderKinds ++ errKinds)

/-- A change of registers within `settingsKinds`, and of no room. -/
def Dev.setsBorder (d d' : Dev) : Prop := d.keepsKinds d' settingsKinds ∧ d'.rooms = d.rooms

section
variable {a b c : Dev} {n : Nat}

theorem Dev.setsBorder_refl (d : Dev) : d.setsBorder d := ⟨d.keepsKinds_refl _, rfl⟩

theorem Dev.setsBorder.trans (h : a.setsBorder b) (h' : b.setsBorder c) : a.setsBorder c :=
  ⟨h.1.trans h'.1, h'.2.trans h.2⟩

theorem Dev.setsBorder.ite {p : Prop} [Decidable p] (h : a.setsBorder b) (h' : a.setsBorder c) :
    a.setsBorder (if p then b else c) := by
  split_ifs
  · exact h
  · exact h'

theorem Dev.setsBorder.setReg (h : a.setsBorder b) {k : RK} {j : Nat} {v : Word} (hk : k ∈ settingsKinds) (hn : n < 64)
    (hj : j < 64) : a.setsBorder (b.setReg k n j v) :=
  h.trans ⟨b.keepsKinds_setReg v hk (by omega) (by omega), rfl⟩

theorem Dev.setsBorder.sf (h : a.setsBorder b) {f : Fld} {v : Nat} (hf : f.reg ∈ settingsKinds) (hn : n < 64) :
    a.setsBorder (b.sf f n 0 v) := h.setReg hf hn (by decide)

theorem Dev.setsBorder.notice (h : a.setsBorder b) {src detail : Nat} : a.setsBorder (b.notice src detail) :=
  h.trans ⟨(b.keepsKinds_refl _).notice (by decide), by simp⟩

theorem Dev.setsBorder.noted {r : Dev × Bool} (h : a.setsBorder r.1) {src x : Nat} :
    a.setsBorder (Dev.noted r src x).1 := Dev.setsBorder.ite h.notice h

theorem Dev.setsBorder.fld {r : Dev × Bool} (h : a.setsBorder r.1) {f : Fld} {v : Word} {bad : Nat → Bool}
    (hf : f.reg ∈ settingsKinds) (hn : n < 64) : a.setsBorder (Dev.fld r n 0 f v bad).1 := by
  unfold Dev.fld
  dsimp only
  split_ifs
  · exact h
  · exact h
  · exact h.sf hf hn

theorem Dev.setsBorder_clampWrite (d : Dev) (v : Word) {k : Nat} (hn : n < 64) (hk : k < 64) :
    d.setsBorder (d.clampWrite n k v).1 := by
  unfold Dev.clampWrite
  by_cases hb : (bankOf n).isNone = true
  · rw [if_pos hb]
    exact d.setsBorder_refl
  · rw [if_neg hb]
    exact Dev.setsBorder.noted (d.setsBorder_refl.setReg (by decide) hn hk)

theorem Dev.setsBorder_scrubCfgWrite (d : Dev) (v : Word) (hn : n < 64) : d.setsBorder (d.scrubCfgWrite n v).1 := by
  have hflds : d.setsBorder (d.flds n 0 v [(F.ROOM_SCRUB_CFG_FAIL_RESET, anyVal), (F.ROOM_SCRUB_CFG_SHADOW_EN, anyVal),
      (F.ROOM_SCRUB_CFG_MODE, (· == 3))]).1 :=
    ((d.setsBorder_refl.fld (r := (d, false)) (by decide) hn).fld (by decide) hn).fld (by decide) hn
  have hstart {b : Dev} (h : d.setsBorder b) : d.setsBorder (b.scrubStart n) :=
    ((h.sf (by decide) hn).sf (by decide) hn).sf (by decide) hn
  unfold Dev.scrubCfgWrite
  refine Dev.setsBorder.noted ?_
  dsimp only
  split_ifs
  · exact hflds
  · exact hstart hflds
  · exact hflds
  · exact hflds.sf (by decide) hn

/-- A write of a border register sets the border and changes nothing else. -/
theorem Dev.setsBorder_roomWrite (d : Dev) (v : Word) {k : RK} {j : Nat} (hk : k ∈ borderKinds) (hn : n < 64)
    (hj : j < 64) : d.setsBorder (d.roomWrite k n j v).1 := by
  have hset : ∀ w, d.setsBorder (d.setReg k n j w) := fun w =>
    d.setsBorder_refl.setReg (by simp [settingsKinds, hk]) hn hj
  obtain rfl | hk := List.mem_cons.1 hk
  · exact Dev.setsBorder.ite (d.setsBorder_refl.setReg (by decide) hn (by decide)) d.setsBorder_refl
  obtain rfl | hk := List.mem_cons.1 hk
  · exact d.setsBorder_clampWrite v hn hj
  obtain rfl | hk := List.mem_cons.1 hk
  · exact d.setsBorder_scrubCfgWrite v hn
  · fin_cases hk <;> exact hset _

theorem RK.within_of_border : ∀ k ∈ borderKinds, k.within 0x200000 0x240000 = true := by decide

/-- An entry of a ROOM list sets the border, or is skipped with its record. -/
theorem Dev.setsBorder_applyEntry (d : Dev) (e : Nat × Word) (lvl2 : Bool) :
    d.setsBorder (d.applyEntry .room e lvl2).1 := by
  have hcount {f : Fld} (hf : f.reg ∈ settingsKinds) (src : Nat) : d.setsBorder ((d.cnt f 0 0).notice src e.1) :=
    (d.setsBorder_refl.sf hf (by decide)).notice
  unfold Dev.applyEntry
  by_cases hskip : (e.1 % 4 != 0 || !Section.room.covers e.1) = true
  · rw [if_pos hskip]
    dsimp only
    exact d.setsBorder_refl.notice
  · rw [if_neg hskip]
    simp only [Bool.or_eq_true, Bool.not_eq_true', not_or, Bool.not_eq_false] at hskip
    cases hf : RK.find e.1 with
    | none =>
      dsimp only
      split_ifs
      · exact d.setsBorder_refl
      · dsimp only
        exact hcount (f := F.HAT_CNT_NO_REG) (by decide) 0x75
    | some kij =>
      obtain ⟨k, i, j⟩ := kij
      obtain ⟨hk, hi, hj⟩ := RK.border_of_find hskip.2 hf
      dsimp only
      split_ifs
      · dsimp only
        exact hcount (f := F.HAT_CNT_ASLEEP) (by decide) 0x73
      · rw [Dev.regWrite, if_pos (RK.within_of_border k hk)]
        exact d.setsBorder_roomWrite e.2 hk hi hj

theorem Dev.setsBorder_applyList (d : Dev) (lvl2 : Bool) (l : List (Nat × Word)) :
    d.setsBorder (d.applyList .room lvl2 l).1 :=
  List.foldlRecOn l _ (motive := fun r : Dev × Nat => d.setsBorder r.1) d.setsBorder_refl
    fun r hr e _ => hr.trans (r.1.setsBorder_applyEntry e lvl2)

/-- The settings that go with a plane set border registers, and change no room. -/
theorem Dev.setsBorder_applyPlane (d : Dev) (n : Nat) : d.setsBorder (d.applyPlane n) :=
  Dev.setsBorder.ite (d.setsBorder_applyList true _) (d.setsBorder_applyList true _)

end

end Sys2Proof.Machine
end

section
/-! PROOFS. The scrubber (R148 to R150): `Obligations.Scrubbing`, clause by clause. -/

namespace Sys2Proof.Machine

/-! ### Stored design data (R45, R149) -/

/-- The mask of stored design data depends on the frames as they read. -/
theorem Plane.memoryMask_congr {p q : Plane}
    (h : ∀ k, Map.get (fun _ => 0) p.frames k = Map.get (fun _ => 0) q.frames k) (idx : Nat) :
    p.memoryMask idx = q.memoryMask idx := by
  have hbit : p.bit = q.bit := by
    funext c t minor b
    rw [Plane.bit, Plane.bit, h]
  have hstores : p.lutStores = q.lutStores := by
    funext c t i
    simp only [Plane.lutStores, Plane.lutMode, Plane.lutBit, hbit]
  simp only [Plane.memoryMask, hstores]

/-- The cells of the frame itself do not count where its payload is given. -/
theorem Plane.memoryMaskOf_put (p : Plane) (idx : Nat) (x v : BitVec 2048) :
    ({ p with frames := Map.put (fun _ => 0) p.frames idx x } : Plane).memoryMaskOf idx v = p.memoryMaskOf idx v := by
  refine Plane.memoryMask_congr (fun k => ?_) idx
  by_cases hk : idx = k
  · rw [hk, Map.get_put_same, Map.get_put_same]
  · rw [Map.get_put_ne _ _ _ _ hk, Map.get_put_ne _ _ _ _ hk, Map.get_put_ne _ _ _ _ hk]

/-! ### A frame of the active plane, and its source (R148) -/

section
variable (d : Dev) (n idx : Nat) (upset : BitVec 2048)

/-- The source record of a frame of the active plane. -/
abbrev Dev.scrubRecord : List (BitVec 8) := d.record (d.scrubSource n idx false).2.1

/-- The payload of that record. -/
abbrev Dev.scrubPlain : BitVec 2048 :=
  d.plain (d.scrubSource n idx false).1 (d.scrubSource n idx false).2.2 (d.scrubRecord n idx)

/-- The bits of the frame that hold stored design data. -/
abbrev Dev.scrubMask : BitVec 2048 := (d.room n).act.memoryMaskOf idx (d.scrubPlain n idx)

/-- The cells of the frame once those of `upset` have flipped. -/
abbrev Dev.scrubCells : BitVec 2048 := Map.get (fun _ => 0) (d.room n).act.frames idx ^^^ upset

/-- The frame agrees with the CRC of its record, stored design data left out. -/
abbrev Dev.scrubAgrees : Prop :=
  (frameCrc (field4 (d.scrubRecord n idx) 0) ((d.scrubCells n idx upset &&& ~~~d.scrubMask n idx) |||
    (d.scrubPlain n idx &&& d.scrubMask n idx))).toNat = field4 (d.scrubRecord n idx) 260

/-- The device with the cells of `upset` flipped. -/
def Dev.withUpset : Dev :=
  d.onPlane n true (fun x =>
    { x with frames := Map.put (fun _ => 0) x.frames idx (Map.get (fun _ => 0) x.frames idx ^^^ upset) })

theorem Dev.act_withUpset : ((d.withUpset n idx upset).room n).act =
    { (d.room n).act with frames := Map.put (fun _ => 0) (d.room n).act.frames idx (d.scrubCells n idx upset) } := by
  rw [Dev.withUpset, Dev.room_onPlane, if_pos rfl]

theorem Dev.gsr_withUpset : ((d.withUpset n idx upset).room n).gsr = (d.room n).gsr := by
  rw [Dev.withUpset, Dev.room_onPlane, if_pos rfl]

theorem Dev.scrubCells_withUpset : Map.get (fun _ => 0) ((d.withUpset n idx upset).room n).act.frames idx =
    d.scrubCells n idx upset := by
  rw [Dev.act_withUpset, Map.get_put_same]

theorem Dev.scrubMask_withUpset : (d.withUpset n idx upset).scrubMask n idx = d.scrubMask n idx := by
  rw [Dev.scrubMask, Dev.act_withUpset, Plane.memoryMaskOf_put]
  rfl

/-- A frame that agrees keeps its cells; one that does not is repaired. -/
theorem Dev.scrubFrame_eq (disturbed : Nat) : d.scrubFrame n idx false upset disturbed =
    if d.scrubAgrees n idx upset then d.withUpset n idx upset
    else (d.withUpset n idx upset).scrubRepair n idx false disturbed := by
  unfold Dev.scrubAgrees
  rw [← Dev.scrubMask_withUpset (upset := upset), ← Dev.scrubCells_withUpset]
  rfl

end

/-! ### A repair (R149) -/

section
variable {d : Dev} {n idx disturbed : Nat}

/-- The device as a repair that succeeds leaves it. -/
def Dev.repaired (d : Dev) (n idx : Nat) (m : List (Nat × Nat)) : Dev :=
  ((((d.sf F.ROOM_SCRUB_LAST_ADDR n 0 (mkFrame n 0 idx / 4096)).onPlane n true (fun x => x.commit idx
    ((d.scrubPlain n idx &&& ~~~d.scrubMask n idx) |||
      (Map.get (fun _ => 0) (d.room n).act.frames idx &&& d.scrubMask n idx)) m)).sf
    F.ROOM_SCRUB_LAST_FAILED n 0 0).cnt F.ROOM_SCRUB_CNT_REPAIRED n 0).notice 0x0F (mkFrame n 0 idx)

theorem Dev.room_repaired (d : Dev) (n idx : Nat) (m : List (Nat × Nat)) : (d.repaired n idx m).room n =
    { d.room n with act := (d.room n).act.commit idx ((d.scrubPlain n idx &&& ~~~d.scrubMask n idx) |||
      (Map.get (fun _ => 0) (d.room n).act.frames idx &&& d.scrubMask n idx)) m } := by
  rw [Dev.repaired, Dev.room_notice, Dev.room_cnt, Dev.room_sf, Dev.room_onPlane, if_pos rfl, Dev.room_sf]

theorem Dev.scrubRepair_of_unread (h : disturbed = 2) : d.scrubRepair n idx false disturbed =
    (d.sf F.ROOM_SCRUB_LAST_ADDR n 0 (mkFrame n 0 idx / 4096)).scrubFailed n false :=
  if_pos (by simp [h])

theorem Dev.scrubRepair_of_read {m : List (Nat × Nat)} (h : disturbed ≠ 2)
    (hkey : d.canDecrypt (d.scrubSource n idx false).1 = true)
    (hcrc : (frameCrc (field4 (d.scrubRecord n idx) 0) (d.scrubPlain n idx)).toNat = field4 (d.scrubRecord n idx) 260)
    (hg : guardCheck (withoutFrame (d.room n).act.drivers idx) idx (d.scrubPlain n idx) = .ok m) :
    d.scrubRepair n idx false disturbed = d.repaired n idx m := by
  have hread : (decide (disturbed = 2) || !d.canDecrypt (d.scrubSource n idx false).1 ||
      field4 (d.scrubRecord n idx) 260 != (frameCrc (field4 (d.scrubRecord n idx) 0) (d.scrubPlain n idx)).toNat) =
      false := by
    rw [decide_eq_false h, hkey, hcrc]
    simp
  refine (if_neg (by rw [Bool.not_eq_true]; exact hread)).trans ?_
  rw [show guardCheck (withoutFrame (if false = true then (d.room n).shd else (d.room n).act).drivers idx) idx
    (d.scrubPlain n idx) = .ok m from hg]
  rfl

/-- The registers that a failed repair may change beside its own: those of a room that enters reset. -/
def repairKinds : List RK := .ROOM_PLANE_STAT :: .ROOM_SCRUB_STAT :: resetKinds

theorem Dev.keepsKinds_scrubFailed (d : Dev) (hn : n < 65536) :
    Dev.keepsKinds ((d.sf F.ROOM_SCRUB_LAST_FAILED n 0 1).cnt F.ROOM_SCRUB_CNT_FAILED n 0) (d.scrubFailed n false)
      repairKinds := by
  have hfault := (Dev.keepsKinds_refl ((d.sf F.ROOM_SCRUB_LAST_FAILED n 0 1).cnt F.ROOM_SCRUB_CNT_FAILED n 0)
    repairKinds).faultFree (by decide) (src := 0x0F)
  exact Dev.keepsKinds.ite
    ((hfault.trans ((Dev.keepsKinds_roomReset _ false hn).mono (by decide))).sf (by decide) hn (by decide)) hfault

end

/-! ### A position (R148) -/

section
variable {d : Dev} {n : Nat} (upset : BitVec 2048) (disturbed : Nat)

theorem Dev.scrubPosition_of_paused (h : d.scrubRuns n = false) : d.scrubPosition n upset disturbed = d :=
  if_pos (by simp [h])

theorem Dev.scrubPosition_of_skipped (hr : d.scrubRuns n = true) (hg : (d.room n).gsr = false)
    (hs : 2304 ≤ d.gf F.ROOM_SCRUB_STAT_POSITION n ∨ d.scrubCovers n (d.gb F.ROOM_SCRUB_STAT_PLANE n) = false) :
    d.scrubPosition n upset disturbed = if 3023 ≤ d.gf F.ROOM_SCRUB_STAT_POSITION n then d.scrubPassEnd n
      else d.sf F.ROOM_SCRUB_STAT_POSITION n 0 (d.gf F.ROOM_SCRUB_STAT_POSITION n + 1) := by
  have hskip : ¬ (decide (d.gf F.ROOM_SCRUB_STAT_POSITION n < 2304) &&
      d.scrubCovers n (d.gb F.ROOM_SCRUB_STAT_PLANE n)) = true := by
    simp only [Bool.and_eq_true, decide_eq_true_eq, not_and, Bool.not_eq_true]
    intro hlt
    exact hs.resolve_left (by omega)
  unfold Dev.scrubPosition
  dsimp only
  rw [if_neg (by simp [hr]), if_neg hskip, if_neg (by simp [hg])]

theorem Dev.scrubPosition_of_frame (hr : d.scrubRuns n = true) (hp : d.gf F.ROOM_SCRUB_STAT_POSITION n < 2304)
    (hplane : d.gb F.ROOM_SCRUB_STAT_PLANE n = false) (ha : d.act n = actValid) {d' : Dev}
    (hd : d.scrubFrame n (d.gf F.ROOM_SCRUB_STAT_POSITION n) false upset disturbed = d') :
    d.scrubPosition n upset disturbed = if (d'.room n).gsr then d'
      else d'.sf F.ROOM_SCRUB_STAT_POSITION n 0 (d.gf F.ROOM_SCRUB_STAT_POSITION n + 1) := by
  have hcovers : d.scrubCovers n false = true := by simp [Dev.scrubCovers, ha]
  have hlogic : (decide (d.gf F.ROOM_SCRUB_STAT_POSITION n < 2304) && true) = true := by simpa using hp
  unfold Dev.scrubPosition
  dsimp only
  rw [if_neg (by simp [hr]), hplane, hcovers, if_pos hlogic, hd,
    if_neg (by omega : ¬ 3023 ≤ d.gf F.ROOM_SCRUB_STAT_POSITION n)]

/-- The end of a pass counts it and goes back to position 0. -/
theorem Dev.scrubPassEnd_shows (d : Dev) (n : Nat) : (d.scrubPassEnd n).gf F.ROOM_SCRUB_STAT_POSITION n = 0 ∧
    (d.scrubPassEnd n).gf F.ROOM_SCRUB_STAT_PASSES n = (d.gf F.ROOM_SCRUB_STAT_PASSES n + 1) % 65536 ∧
    (d.scrubPassEnd n).rooms = d.rooms := by
  unfold Dev.scrubPassEnd
  dsimp only
  refine ⟨?_, ?_, ?_⟩
  · rw [Dev.gf_sf_bits (f := F.ROOM_SCRUB_STAT_RUNNING) (g := F.ROOM_SCRUB_STAT_POSITION) _ _ rfl (by decide),
      Dev.gf_sf_bits (f := F.ROOM_SCRUB_STAT_PLANE) (g := F.ROOM_SCRUB_STAT_POSITION) _ _ rfl (by decide)]
    exact Dev.gf_sf _ _ _ _ _ (by decide)
  · rw [Dev.gf_sf_bits (f := F.ROOM_SCRUB_STAT_RUNNING) (g := F.ROOM_SCRUB_STAT_PASSES) _ _ rfl (by decide),
      Dev.gf_sf_bits (f := F.ROOM_SCRUB_STAT_PLANE) (g := F.ROOM_SCRUB_STAT_PASSES) _ _ rfl (by decide),
      Dev.gf_sf_bits (f := F.ROOM_SCRUB_STAT_POSITION) (g := F.ROOM_SCRUB_STAT_PASSES) _ _ rfl (by decide)]
    exact Dev.gf_cntWrap _ _ _ _ _ (by decide)
  · rw [Dev.rooms_sf, Dev.rooms_sf, Dev.rooms_sf, Dev.rooms_cntWrap]

end

/-! ### The statement -/

section
variable {n : Fin 64} {s : State}

/-- The position that follows that of a frame. -/
theorem Dev.gf_nextPosition (d : Dev) (n : Nat) {p : Nat} (hp : p < 2304) :
    (d.sf F.ROOM_SCRUB_STAT_POSITION n 0 (p + 1)).gf F.ROOM_SCRUB_STAT_POSITION n = p + 1 :=
  (Dev.gf_sf _ _ _ _ _ (by decide)).trans (Nat.mod_eq_of_lt (show p + 1 < 2 ^ 12 by omega))

theorem does_scrubPosition_skip (upset : BitVec 2048) (disturbed : Fin 3) (hr : s.dev.scrubRuns n = true)
    (hs : 2304 ≤ s.dev.gf F.ROOM_SCRUB_STAT_POSITION n ∨
      s.dev.scrubCovers n (s.dev.gb F.ROOM_SCRUB_STAT_PLANE n) = false)
    (hp : s.dev.gf F.ROOM_SCRUB_STAT_POSITION n < 3023) (hg : (s.dev.room n).gsr = false) :
    Does (.scrubPosition n upset disturbed) s
      (s.dev.sf F.ROOM_SCRUB_STAT_POSITION n 0 (s.dev.gf F.ROOM_SCRUB_STAT_POSITION n + 1)) :=
  does_act_of_room rfl ((Dev.scrubPosition_of_skipped upset disturbed hr hg hs).trans (if_neg (by omega)))
    (fun _ => rfl) (s.dev.keepsKinds_sf _ (by decide) (by omega) (by decide))

theorem scrubPosition_ends_pass (upset : BitVec 2048) (disturbed : Fin 3) (hr : s.dev.scrubRuns n = true)
    (hp : s.dev.gf F.ROOM_SCRUB_STAT_POSITION n = 3023) (hg : (s.dev.room n).gsr = false) :
    Yields (.scrubPosition n upset disturbed) s (fun t => t.dev.gf F.ROOM_SCRUB_STAT_POSITION n = 0 ∧
      t.dev.gf F.ROOM_SCRUB_STAT_PASSES n = (s.dev.gf F.ROOM_SCRUB_STAT_PASSES n + 1) % 65536 ∧
      t.dev.rooms = s.dev.rooms) := by
  obtain ⟨hpos, hpasses, hrooms⟩ := s.dev.scrubPassEnd_shows n
  refine yields_act rfl ((Dev.scrubPosition_of_skipped upset disturbed hr hg (.inl (by omega))).trans
    (if_pos (by omega))) ⟨?_, ?_, ?_⟩
  · rwa [State.gf_act _ _ rfl (by omega) (by decide)]
  · rwa [State.gf_act _ _ rfl (by omega) (by decide)]
  · rwa [State.rooms_act]

variable (hr : s.dev.scrubRuns n = true) (hg : (s.dev.room n).gsr = false)
  (hplane : s.dev.gb F.ROOM_SCRUB_STAT_PLANE n = false) (ha : s.dev.act n = actValid) {idx : Nat}
  (hidx : s.dev.gf F.ROOM_SCRUB_STAT_POSITION n = idx) (hp : idx < 2304) {upset : BitVec 2048} {disturbed : Fin 3}
include hr hg hplane ha hidx hp

theorem scrubPosition_agrees (h : s.dev.scrubAgrees n idx upset) :
    Yields (.scrubPosition n upset disturbed) s (fun t => t.dev.gf F.ROOM_SCRUB_STAT_POSITION n = idx + 1 ∧
      t.dev.gf F.ROOM_SCRUB_CNT_REPAIRED n = s.dev.gf F.ROOM_SCRUB_CNT_REPAIRED n ∧
      ∀ i, Map.get (fun _ => 0) (t.dev.room n).act.frames i =
        if i = idx then s.dev.scrubCells n idx upset else Map.get (fun _ => 0) (s.dev.room n).act.frames i) := by
  subst hidx
  have hframe := (s.dev.scrubFrame_eq n _ upset disturbed).trans (if_pos h)
  refine yields_act rfl ((Dev.scrubPosition_of_frame upset disturbed hr hp hplane ha hframe).trans
    (if_neg (by rw [Dev.gsr_withUpset, hg]; decide))) ⟨?_, ?_, fun i => ?_⟩
  · rw [State.gf_act _ _ rfl (by omega) (by decide), Dev.gf_nextPosition _ _ hp]
  · rw [State.gf_act _ _ rfl (by omega) (by decide),
      Dev.gf_sf_reg _ _ (by decide) (by omega) (by decide) (by omega) (by decide)]
    rfl
  · rw [State.room_act, Dev.room_sf, Dev.act_withUpset]
    split_ifs with hi
    · rw [hi]
      exact Map.get_put_same (fun _ => (0 : BitVec 2048)) _ _ _
    · exact Map.get_put_ne (fun _ => (0 : BitVec 2048)) _ _ _ (Ne.symm hi)

theorem scrubPosition_repairs (h : ¬ s.dev.scrubAgrees n idx upset) (hd : disturbed.val ≠ 2)
    (hkey : s.dev.canDecrypt (s.dev.scrubSource n idx false).1 = true)
    (hcrc : (frameCrc (field4 (s.dev.scrubRecord n idx) 0) (s.dev.scrubPlain n idx)).toNat =
      field4 (s.dev.scrubRecord n idx) 260)
    (hguard : ∃ m, guardCheck (withoutFrame (s.dev.room n).act.drivers idx) idx (s.dev.scrubPlain n idx) = .ok m) :
    Yields (.scrubPosition n upset disturbed) s (fun t => t.dev.gf F.ROOM_SCRUB_STAT_POSITION n = idx + 1 ∧
      t.dev.gf F.ROOM_SCRUB_LAST_FAILED n = 0 ∧ t.dev.gf F.ROOM_SCRUB_CNT_REPAIRED n =
        min (s.dev.gf F.ROOM_SCRUB_CNT_REPAIRED n + 1) (2 ^ F.ROOM_SCRUB_CNT_REPAIRED.width - 1) ∧
      Map.get (fun _ => 0) (t.dev.room n).act.frames idx = (s.dev.scrubPlain n idx &&& ~~~s.dev.scrubMask n idx) |||
        (s.dev.scrubCells n idx upset &&& s.dev.scrubMask n idx)) := by
  subst hidx
  obtain ⟨m, hm⟩ := hguard
  have hdrivers : ((s.dev.withUpset n (s.dev.gf F.ROOM_SCRUB_STAT_POSITION n) upset).room n).act.drivers =
      (s.dev.room n).act.drivers := by rw [Dev.act_withUpset]
  have hrepair := Dev.scrubRepair_of_read (d := s.dev.withUpset n (s.dev.gf F.ROOM_SCRUB_STAT_POSITION n) upset) hd hkey
    hcrc ((congrArg (fun l => guardCheck (withoutFrame l _) _ _) hdrivers).trans hm)
  have hframe := ((s.dev.scrubFrame_eq n _ upset disturbed).trans (if_neg h)).trans hrepair
  refine yields_act rfl ((Dev.scrubPosition_of_frame upset disturbed hr hp hplane ha hframe).trans
    (if_neg ?_)) ⟨?_, ?_, ?_, ?_⟩
  · rw [Dev.room_repaired]
    dsimp only
    rw [Dev.gsr_withUpset, hg]
    decide
  · rw [State.gf_act _ _ rfl (by omega) (by decide), Dev.gf_nextPosition _ _ hp]
  · rw [State.gf_act _ _ rfl (by omega) (by decide),
      Dev.gf_sf_reg _ _ (by decide) (by omega) (by decide) (by omega) (by decide), Dev.repaired,
      Dev.gf_notice _ _ _ rfl (by omega) (by decide)]
    exact (Dev.gf_sf_reg _ _ (by decide) (by omega) (by decide) (by omega) (by decide)).trans
      (Dev.gf_sf _ _ _ _ _ (by decide))
  · rw [State.gf_act _ _ rfl (by omega) (by decide),
      Dev.gf_sf_reg _ _ (by decide) (by omega) (by decide) (by omega) (by decide), Dev.repaired,
      Dev.gf_notice _ _ _ rfl (by omega) (by decide), Dev.gf_cnt _ _ _ _ _ (by decide),
      Dev.gf_sf_reg _ _ (by decide) (by omega) (by decide) (by omega) (by decide)]
    congr 2
    exact Dev.gf_sf_reg _ _ (by decide) (by omega) (by decide) (by omega) (by decide)
  · rw [State.room_act, Dev.room_sf, Dev.room_repaired]
    dsimp only [Plane.commit]
    rw [Map.get_put_same, Dev.scrubMask_withUpset, Dev.scrubCells_withUpset]
    rfl

omit hg in
theorem scrubPosition_cannot_repair (h : ¬ s.dev.scrubAgrees n idx upset) (hd : disturbed.val = 2) :
    Yields (.scrubPosition n upset disturbed) s (fun t => t.dev.gf F.ROOM_SCRUB_LAST_FAILED n = 1 ∧
      t.dev.gf F.ROOM_SCRUB_CNT_FAILED n =
        min (s.dev.gf F.ROOM_SCRUB_CNT_FAILED n + 1) (2 ^ F.ROOM_SCRUB_CNT_FAILED.width - 1)) := by
  subst hidx
  have hn : n.val < 65536 := by omega
  have hframe := ((s.dev.scrubFrame_eq n _ upset disturbed).trans (if_neg h)).trans (Dev.scrubRepair_of_unread hd)
  have hposition := Dev.scrubPosition_of_frame upset disturbed hr hp hplane ha hframe
  have hfailed := Dev.keepsKinds_scrubFailed ((s.dev.withUpset n (s.dev.gf F.ROOM_SCRUB_STAT_POSITION n) upset).sf
    F.ROOM_SCRUB_LAST_ADDR n 0 (mkFrame n 0 (s.dev.gf F.ROOM_SCRUB_STAT_POSITION n) / 4096)) hn
  have hkeeps := hposition ▸ Dev.keepsKinds.ite hfailed (hfailed.sf (by decide) hn (by decide))
  refine yields_act rfl rfl ⟨?_, ?_⟩
  · rw [State.gf_act _ _ rfl (by omega) (by decide), hkeeps.gf (by decide) hn (by decide)]
    exact (Dev.gf_sf_reg _ _ (by decide) hn (by decide) hn (by decide)).trans (Dev.gf_sf _ _ _ _ _ (by decide))
  · rw [State.gf_act _ _ rfl (by omega) (by decide), hkeeps.gf (by decide) hn (by decide),
      Dev.gf_cnt _ _ _ _ _ (by decide)]
    congr 2
    exact (Dev.gf_sf_reg _ _ (by decide) hn (by decide) hn (by decide)).trans
      (Dev.gf_sf_reg _ _ (by decide) hn (by decide) hn (by decide))

end

/-- Settles O22: a position is skipped, or its frame agrees, is repaired, or cannot be. -/
theorem scrubbing : Obligations.Scrubbing := by
  unfold Obligations.Scrubbing
  refine ⟨fun n upset disturbed s h => ?_, fun n upset disturbed s hr hs hp hg => ?_,
    fun n upset disturbed s hr hp hg => ?_, fun n upset disturbed s hr hg hplane ha => ?_⟩
  · exact does_act_of_room rfl (Dev.scrubPosition_of_paused upset disturbed h) (fun _ => rfl) (s.dev.keepsKinds_refl _)
  · exact does_scrubPosition_skip upset disturbed hr hs hp hg
  · exact scrubPosition_ends_pass upset disturbed hr hp hg
  · intro idx x r p mask cells hp
    exact ⟨fun h => scrubPosition_agrees hr hg hplane ha rfl hp h, fun h =>
      ⟨fun hd hkey hcrc hm => scrubPosition_repairs hr hg hplane ha rfl hp h hd hkey hcrc hm,
        fun hd => scrubPosition_cannot_repair hr hplane ha rfl hp h hd⟩⟩

end Sys2Proof.Machine
end

section
/-! PROOFS. Starts, aborts and discards of a room's loads (R111, R131, R133 to R135, R152). -/

namespace Sys2Proof.Machine

/-! ### Where a load starts from (R131, R135) -/

theorem exec_loadPlane {n : Fin 64} {c : Instr} (h : c ∈ [Instr.loadShadow n, Instr.loadActive n]) (s : State) :
    ∃ active, exec c s = .next (s.act fun d => d.loadPlane n active) := by
  simp only [List.mem_cons, List.not_mem_nil, or_false] at h
  obtain rfl | rfl := h
  exacts [⟨false, rfl⟩, ⟨true, rfl⟩]

section
variable {d : Dev} {n : Nat} (active : Bool)

/-- The source that ROOM_LOAD_SRC names is an image: a pool block, or a slot in use. -/
def Dev.sourceOk (d : Dev) (n : Nat) : Prop :=
  d.gf F.ROOM_LOAD_SRC_SRC n = 0 ∧ d.gf F.ROOM_LOAD_SRC_BLOCK n ≤ 959 ∨
    d.gf F.ROOM_LOAD_SRC_SRC n ≠ 0 ∧ d.slotUsable (d.gf F.ROOM_LOAD_SRC_SRC n) = true

theorem Dev.loadPlane_of_down (hu : d.roomOpsUp n = false) : d.loadPlane n active = d.roomResult n rNotUp 0 :=
  if_pos (by simp [hu])

variable (hu : d.roomOpsUp n = true)
include hu

theorem Dev.loadPlane_of_busy (hb : d.roomOpBusy n = true) : d.loadPlane n active = d.roomResult n rBusy 0 :=
  (if_neg (by simp [hu])).trans (if_pos hb)

variable (hb : d.roomOpBusy n = false)
include hb

theorem Dev.loadPlane_of_badSource (hs : (d.gf F.ROOM_LOAD_SRC_SRC n = 0 ∧ 959 < d.gf F.ROOM_LOAD_SRC_BLOCK n) ∨
    (d.gf F.ROOM_LOAD_SRC_SRC n ≠ 0 ∧ d.slotUsable (d.gf F.ROOM_LOAD_SRC_SRC n) = false)) :
    d.loadPlane n active = d.roomResult n rBadSource 0 :=
  (if_neg (by simp [hu])).trans ((if_neg (by simp [hb])).trans (if_pos (by simpa using hs)))

theorem Dev.loadPlane_of_source (hs : d.sourceOk n) : d.loadPlane n active =
    d.beginLoad n active (d.gf F.ROOM_LOAD_SRC_SRC n) (d.gf F.ROOM_LOAD_SRC_BLOCK n) := by
  refine (if_neg (by simp [hu])).trans ((if_neg (by simp [hb])).trans (if_neg ?_))
  simp only [Bool.or_eq_true, Bool.and_eq_true, beq_iff_eq, bne_iff_ne, decide_eq_true_eq, Bool.not_eq_true']
  rcases hs with ⟨h0, hblock⟩ | ⟨h0, hslot⟩
  · omega
  · simp [h0, hslot]

end

/-! ### The header (R111) -/

theorem Dev.header_congr {d d' : Dev} (hc : d'.cfg = d.cfg) (a : Nat) : d'.header a = d.header a := by
  have hcell : d'.cellar = d.cellar := funext fun a => Dev.cellar_congr (by rw [hc]) (by rw [hc]) (by rw [hc]) a
  rw [Dev.header, Dev.header, Dev.cellarRange, Dev.cellarRange, hcell]

theorem Dev.roomHeaderRefusal_congr {d d' : Dev} (hc : d'.cfg = d.cfg) (hr : d'.reg .GBL_IDCODE = d.reg .GBL_IDCODE)
    (n src base : Nat) : d'.roomHeaderRefusal n src base = d.roomHeaderRefusal n src base := by
  have hrev : d'.gf F.GBL_IDCODE_REV = d.gf F.GBL_IDCODE_REV := by rw [Dev.gf, Dev.gf, hr]
  simp only [Dev.roomHeaderRefusal, Dev.header_congr hc, hrev]

section
variable (d : Dev) {n : Nat} (active : Bool)

theorem Dev.cfg_onPlane (f : Plane → Plane) : (d.onPlane n active f).cfg = d.cfg := rfl
theorem Dev.reg_onPlane (f : Plane → Plane) (k : RK) (i j : Nat) : (d.onPlane n active f).reg k i j = d.reg k i j := rfl
theorem Dev.gf_onPlane (f : Plane → Plane) (g : Fld) (i j : Nat) : (d.onPlane n active f).gf g i j = d.gf g i j := rfl

theorem Dev.cfg_setPlaneState (sh act : Nat) : (d.setPlaneState n active sh act).cfg = d.cfg := by
  cases active <;> rfl

theorem Dev.state_setPlaneState {sh act : Nat} (hs : sh < 8) (ha : act < 4) :
    if active then (d.setPlaneState n active sh act).act n = act else (d.setPlaneState n active sh act).sh n = sh := by
  cases active
  · exact (Dev.gf_sf _ _ _ _ _ (by decide)).trans (Nat.mod_eq_of_lt hs)
  · exact (Dev.gf_sf _ _ _ _ _ (by decide)).trans (Nat.mod_eq_of_lt ha)

/-- The source and flags of a plane stand beside its state. -/
theorem Dev.state_setPlaneSrc (src block keep verified : Nat) :
    (d.setPlaneSrc n active src block keep verified).act n = d.act n ∧
      (d.setPlaneSrc n active src block keep verified).sh n = d.sh n := by
  unfold Dev.setPlaneSrc Dev.act Dev.sh
  cases active
  · simp (disch := decide) only [Dev.gf_sf_bits, Dev.gf_onPlane, and_self, if_false, Bool.false_eq_true]
  · simp (disch := decide) only [Dev.gf_sf_bits, Dev.gf_onPlane, and_self, if_true]

theorem Dev.room_setPlaneSrc (src block keep verified : Nat) :
    (d.setPlaneSrc n active src block keep verified).room n =
      (d.onPlane n active (fun x => { x with keep := keep == 1, src := true })).room n := by
  unfold Dev.setPlaneSrc
  cases active
  · simp only [Dev.room_sf, if_false, Bool.false_eq_true]
  · simp only [Dev.room_sf, if_true]

/-- A room whose active plane is to be loaded is put into reset (R134). -/
def Dev.resetToLoad (d : Dev) (n : Nat) (active : Bool) : Dev :=
  if active then (d.roomReset n false).onRoom n (fun r => { r with stage := .idle }) else d

/-- The plane a load goes into, cleared and LOADING (R53, R133, R134). -/
def Dev.clearedPlane (d : Dev) (n : Nat) (active : Bool) : Dev :=
  ((d.resetToLoad n active).setPlaneState n active shLoading actLoading).onPlane n active
    (fun x => { x with drivers := [], kind2 := [] })

theorem Dev.cfg_clearedPlane : (d.clearedPlane n active).cfg = d.cfg := by
  rw [Dev.clearedPlane, Dev.cfg_onPlane, Dev.cfg_setPlaneState, Dev.resetToLoad]
  split_ifs
  · rw [Dev.cfg_onRoom, Dev.cfg_roomReset]
  · rfl

theorem Dev.idcode_clearedPlane (hn : n < 65536) : (d.clearedPlane n active).reg .GBL_IDCODE = d.reg .GBL_IDCODE := by
  rw [Dev.clearedPlane, Dev.reg_onPlane, Dev.reg_setPlaneState _ hn _ _ _ (by decide), Dev.resetToLoad]
  split_ifs
  · rw [Dev.reg_onRoom]
    exact d.keepsKinds_roomReset false hn _ _ _ (by decide) (by decide) (by decide)
  · rfl

theorem Dev.shadow_clearedPlane : (d.clearedPlane n false).room n =
    { d.room n with shd := { (d.room n).shd with drivers := [], kind2 := [] } } := by
  rw [Dev.clearedPlane, Dev.room_onPlane, if_neg Bool.false_ne_true, Dev.room, Dev.rooms_setPlaneState, ← Dev.room]
  rfl

theorem Dev.active_clearedPlane : ((d.clearedPlane n true).room n).gsr = true ∧
    ((d.clearedPlane n true).room n).act.drivers = [] := by
  rw [Dev.clearedPlane, Dev.room_onPlane, if_pos rfl, Dev.room, Dev.rooms_setPlaneState, ← Dev.room, Dev.resetToLoad,
    if_pos rfl, Dev.room_onRoom]
  dsimp only
  exact ⟨d.gsr_roomReset false, rfl⟩

theorem Dev.state_clearedPlane : if active then (d.clearedPlane n active).act n = actLoading
    else (d.clearedPlane n active).sh n = shLoading :=
  (d.resetToLoad n active).state_setPlaneState active (by decide) (by decide)

theorem Dev.beginLoad_eq (src block : Nat) : d.beginLoad n active src block =
    let base := srcBase src block
    let d := d.clearedPlane n active
    let bad := d.roomHeaderRefusal n src base
    if bad != 0 then (d.fault bad base).refuseLoad n active bad
    else
      let h := d.header base
      let keep := hdrKind h == 2 && hdrKeepBram h
      (d.setPlaneSrc n active src block (b2n keep) 0).onRoom n (fun r => { r with load := some {
        active := active, image := base, records := roomRecords h base n,
        total := recsPerRoom (hdrKind h) (hdrKeepBram h), keepBram := keep, encrypted := hdrEncrypted h } }) := rfl

/-- A load whose header is good begins: the cleared plane, its source, and the load from the first record on. -/
theorem Dev.beginLoad_of_header (hn : n < 65536) {src block : Nat}
    (h : d.roomHeaderRefusal n src (srcBase src block) = 0) : ∃ keep l, d.beginLoad n active src block =
      ((d.clearedPlane n active).setPlaneSrc n active src block keep 0).onRoom n (fun r => { r with load := some l }) ∧
      l.active = active ∧ l.image = srcBase src block ∧ l.pos = 0 ∧ l.full = false := by
  rw [Dev.beginLoad_eq]
  dsimp only
  rw [Dev.roomHeaderRefusal_congr (d.cfg_clearedPlane active) (d.idcode_clearedPlane active hn), h,
    if_neg (by decide)]
  exact ⟨_, _, rfl, rfl, rfl, rfl, rfl⟩

end

section
variable {n : Fin 64} {s : State} (hu : s.dev.roomOpsUp n = true) (hb : s.dev.roomOpBusy n = false)
  (hs : s.dev.sourceOk n) {base : Nat}
  (hbase : base = srcBase (s.dev.gf F.ROOM_LOAD_SRC_SRC n) (s.dev.gf F.ROOM_LOAD_SRC_BLOCK n))
  (hh : s.dev.roomHeaderRefusal n (s.dev.gf F.ROOM_LOAD_SRC_SRC n) base = 0)
include hu hb hs hbase hh

theorem loadShadow_begins : Yields (.loadShadow n) s (fun t => t.dev.sh n = shLoading ∧
    (t.dev.room n).gsr = (s.dev.room n).gsr ∧ (t.dev.room n).act = (s.dev.room n).act ∧
    ∃ l, (t.dev.room n).load = some l ∧ l.active = false ∧ l.image = base ∧ l.pos = 0 ∧ l.full = false) := by
  subst hbase
  obtain ⟨keep, l, hload, hl⟩ := s.dev.beginLoad_of_header false (n := n) (by omega) hh
  refine yields_act rfl ((Dev.loadPlane_of_source false hu hb hs).trans hload) ⟨?_, ?_⟩
  · rw [Dev.sh, State.gf_act _ _ rfl (by omega) (by decide), Dev.gf_onRoom]
    exact (Dev.state_setPlaneSrc _ false _ _ keep 0).2.trans (s.dev.state_clearedPlane false)
  · rw [State.room_act, Dev.room_onRoom, Dev.room_setPlaneSrc, Dev.room_onPlane, Dev.shadow_clearedPlane]
    exact ⟨rfl, rfl, l, rfl, hl⟩

theorem loadActive_begins : Yields (.loadActive n) s (fun t => t.dev.act n = actLoading ∧ (t.dev.room n).gsr = true ∧
    (t.dev.room n).act.drivers = [] ∧
    ∃ l, (t.dev.room n).load = some l ∧ l.active = true ∧ l.image = base ∧ l.pos = 0 ∧ l.full = false) := by
  subst hbase
  obtain ⟨keep, l, hload, hl⟩ := s.dev.beginLoad_of_header true (n := n) (by omega) hh
  obtain ⟨hgsr, hdrivers⟩ := s.dev.active_clearedPlane (n := n)
  refine yields_act rfl ((Dev.loadPlane_of_source true hu hb hs).trans hload) ⟨?_, ?_⟩
  · rw [Dev.act, State.gf_act _ _ rfl (by omega) (by decide), Dev.gf_onRoom]
    exact (Dev.state_setPlaneSrc _ true _ _ keep 0).1.trans (s.dev.state_clearedPlane true)
  · rw [State.room_act, Dev.room_onRoom, Dev.room_setPlaneSrc, Dev.room_onPlane, if_pos rfl]
    dsimp only
    exact ⟨hgsr, hdrivers, l, rfl, hl⟩

end

/-! ### ABORT_LOAD and DISCARD_SHADOW (R152) -/

section
variable {d : Dev} {n : Nat}

/-- A room load ended before its checks. -/
def Dev.loadDropped (d : Dev) (n : Nat) (active : Bool) : Dev :=
  (d.onRoom n (fun r => { r with load := none })).setPlaneState n active shInvalid actDown

theorem Dev.abortLoad_of_load {l : Load} (hl : (d.room n).load = some l) (hf : l.full = false) :
    d.abortLoad n = (d.loadDropped n l.active).roomResult n rAbandoned 0 := by
  unfold Dev.abortLoad Dev.dropLoad
  rw [if_pos (by simp [hl, hf]), hl]
  dsimp only
  rw [if_neg (by simp [hf])]
  rfl

theorem Dev.abortLoad_of_none (h : ∀ l, (d.room n).load = some l → l.full = true) :
    d.abortLoad n = d.roomResult n rOk 0 := by
  refine if_neg ?_
  cases hl : (d.room n).load with
  | none => simp
  | some l => simp [h l hl]

theorem Dev.discardShadow_of_held (h : d.sh n = shReady ∨ d.sh n = shInvalid) :
    d.discardShadow n = (d.emptyShadow n).roomResult n rOk 0 :=
  if_pos (by simpa using h)

theorem Dev.discardShadow_of_other (h : d.sh n ≠ shReady) (h' : d.sh n ≠ shInvalid) :
    d.discardShadow n = d.roomResult n (if d.sh n == shEmpty then rOk else rBusy) 0 :=
  if_neg (by simp [h, h'])

theorem Dev.sh_emptyShadow (d : Dev) (n : Nat) : (d.emptyShadow n).sh n = shEmpty := by
  unfold Dev.emptyShadow Dev.sh
  simp (disch := decide) only [Dev.gf_sf_bits, Dev.gf_sf]
  rfl

theorem Dev.room_emptyShadow (d : Dev) (n : Nat) : (d.emptyShadow n).room n =
    { d.room n with shd := {}, arm := none } := by
  unfold Dev.emptyShadow
  simp only [Dev.room_sf, Dev.room_onRoom]

end

section
variable {n : Fin 64} {s : State}

theorem does_abortLoad {l : Load} (hl : (s.dev.room n).load = some l) (hf : l.full = false) :
    Does (.abortLoad n) s ((s.dev.loadDropped n l.active).roomResult n rAbandoned 0) := by
  have hn : n.val < 65536 := by omega
  refine does_act_of_room rfl (Dev.abortLoad_of_load hl hf) (fun m => ?_) ?_
  · rw [Dev.room_roomResult, Dev.loadDropped, Dev.room, Dev.rooms_setPlaneState]
    exact s.dev.gsr_onRoom rfl m
  · refine Dev.keepsKinds.roomResult ?_ (by decide) hn
    exact Dev.keepsKinds.ite ((s.dev.keepsKinds_refl _).onRoom.sf (by decide) hn (by decide))
      ((s.dev.keepsKinds_refl _).onRoom.sf (by decide) hn (by decide))

theorem discardShadow_empties (h : s.dev.sh n = shReady ∨ s.dev.sh n = shInvalid) :
    Yields (.discardShadow n) s (fun t => t.dev.sh n = shEmpty ∧ (t.dev.room n).shd = {} ∧
      (t.dev.room n).act = (s.dev.room n).act ∧ t.dev.gf F.ROOM_LOAD_STAT_RESULT n = rOk ∧
      t.dev.gf F.ROOM_LOAD_STAT_DONE n = 1) := by
  have hgf {f : Fld} (hf : f.reg.isNch = false) (d : Dev) : (s.act fun _ => d).dev.gf f n = d.gf f n :=
    State.gf_act _ _ hf (by omega) (by decide)
  obtain ⟨hdone, hresult, -⟩ := (s.dev.emptyShadow n).gf_roomResult (n := n) rOk 0
  refine yields_act rfl (Dev.discardShadow_of_held h) ⟨?_, ?_, ?_, ?_, ?_⟩
  · rw [Dev.sh, hgf rfl, Dev.gf_roomResult_ne _ (by omega) _ _ (by decide)]
    exact s.dev.sh_emptyShadow n
  · rw [State.room_act, Dev.room_roomResult, Dev.room_emptyShadow]
  · rw [State.room_act, Dev.room_roomResult, Dev.room_emptyShadow]
  · exact (hgf rfl _).trans hresult
  · exact (hgf rfl _).trans hdone

end

end Sys2Proof.Machine
end

section
/-! PROOFS. The checks that end a room load (R130, R132 to R134), and `Obligations.RoomLoadsAndChecks`. -/

namespace Sys2Proof.Machine

/-! ### The judgement of failures (R112, R132) -/

section
variable (d : Dev) (fails : List (Nat × Nat))

theorem Dev.judge_nil : d.judge [] = (d, false) := if_pos (by simp)

theorem Dev.errOnly_judge : d.errOnly (d.judge fails).1 := by
  unfold Dev.judge
  split_ifs
  · exact d.errOnly_refl
  · exact d.errOnly_raiseAll _

/-- Outside Production failures are reported only. -/
theorem Dev.judge_passes (h : d.lcState ≠ 4) : (d.judge fails).2 = false := by
  unfold Dev.judge
  split_ifs
  · rfl
  · exact beq_eq_false_iff_ne.2 h

theorem Dev.judge_refuses (h : d.lcState = 4) {fails : List (Nat × Nat)} (hf : fails ≠ []) :
    (d.judge fails).2 = true := by
  unfold Dev.judge
  rw [if_neg (by simp [h, hf])]
  exact beq_iff_eq.2 h

end

/-! ### The checks in order (R132) -/

section
variable {d : Dev} {n : Nat} {l : Load}

/-- What the digest check of a load finds. -/
def Dev.digestFails (d : Dev) (n : Nat) (l : Load) : List (Nat × Nat) :=
  if d.roomDigest (d.header l.image) l.image n == d.digestEntry l.image n then [] else [(7, n)]

/-- The checks of a load for any finding of the digest check, so that a branch is taken without evaluating a digest. -/
def Dev.endChecks (d : Dev) (n : Nat) (l : Load) (digest : List (Nat × Nat)) : Dev :=
  let r := d.judge digest
  if r.2 then r.1.refuseChecked n l digest
  else if l.image < 0x04000000 then
    let fails := r.1.poolFails l.image
    let q := ({ r.1 with free := r.1.free + 1 }).judge fails
    if q.2 then q.1.refuseChecked n l fails
    else q.1.planeReady n l (digest.isEmpty && fails.isEmpty && d.lcState != 8)
  else r.1.planeReady n l (digest.isEmpty && d.gb F.CFG_STATUS_VERIFIED)

theorem Dev.digestFails_of_right (h : d.roomDigest (d.header l.image) l.image n = d.digestEntry l.image n) :
    d.digestFails n l = [] := if_pos (by simpa using h)

theorem Dev.digestFails_of_wrong (h : d.roomDigest (d.header l.image) l.image n ≠ d.digestEntry l.image n) :
    d.digestFails n l = [(7, n)] := if_neg (by simpa using h)

theorem Dev.roomCheckDone_of_end (hl : (d.room n).load = some l) (hf : l.full = false) (hp : l.total ≤ l.pos) :
    d.roomCheckDone n = d.endChecks n l (d.digestFails n l) := by
  unfold Dev.roomCheckDone
  rw [hl]
  dsimp only
  rw [if_neg (by simp [hf, hp])]
  rfl

theorem Dev.roomCheckDone_of_idle (h : (d.room n).load = none ∨ ∃ l, (d.room n).load = some l ∧ l.pos < l.total) :
    d.roomCheckDone n = d := by
  unfold Dev.roomCheckDone
  rcases h with h | ⟨l, hl, hp⟩
  · rw [h]
  · rw [hl]
    exact if_pos (by simp [hp])

theorem Dev.endChecks_of_slot (hi : 0x04000000 ≤ l.image) :
    d.endChecks n l [] = d.planeReady n l (d.gb F.CFG_STATUS_VERIFIED) := by
  unfold Dev.endChecks
  rw [Dev.judge_nil]
  exact (if_neg (by simp)).trans (if_neg (by omega))

/-- In Production a wrong digest refuses the load. -/
theorem Dev.endChecks_of_digest (h : d.lcState = 4) (x : Nat × Nat) (xs : List (Nat × Nat)) :
    ∃ e : Dev, d.endChecks n l (x :: xs) = e.refuseLoad n l.active x.1 :=
  ⟨_, if_pos (d.judge_refuses h (List.cons_ne_nil _ _))⟩

/-- In Production the first failure of a pool image refuses the load. -/
theorem Dev.endChecks_of_pool (h : d.lcState = 4) (hi : l.image < 0x04000000) {x : Nat × Nat} {xs : List (Nat × Nat)}
    (hfails : d.poolFails l.image = x :: xs) : ∃ e : Dev, d.endChecks n l [] = e.refuseLoad n l.active x.1 := by
  have hfree : ({ d with free := d.free + 1 } : Dev).lcState = 4 := h
  unfold Dev.endChecks
  rw [Dev.judge_nil]
  dsimp only
  rw [if_neg (by simp), if_pos hi, hfails, if_pos (Dev.judge_refuses _ hfree (List.cons_ne_nil _ _))]
  exact ⟨_, rfl⟩

/-- A load passes where every check is right, or where failures are only reported: the plane is complete, and nothing
but error records has changed before. -/
theorem Dev.endChecks_passes {digest : List (Nat × Nat)} (h : d.lcState ≠ 4 ∨
    digest = [] ∧ (0x04000000 ≤ l.image ∨ d.poolFails l.image = [])) :
    ∃ (e : Dev) (v : Bool), d.endChecks n l digest = e.planeReady n l v ∧ d.keepsKinds e errKinds := by
  have hjudged : d.keepsKinds (d.judge digest).1 errKinds := (d.errOnly_judge digest).keepsKinds (List.Subset.refl _)
  have hfree : d.keepsKinds { (d.judge digest).1 with free := (d.judge digest).1.free + 1 } errKinds :=
    hjudged.of_regs rfl
  have hdigest : (d.judge digest).2 = false := by
    rcases h with h | ⟨rfl, -⟩
    · exact d.judge_passes _ h
    · rw [Dev.judge_nil]
  have hpool (hi : l.image < 0x04000000) : (({ (d.judge digest).1 with
      free := (d.judge digest).1.free + 1 } : Dev).judge ((d.judge digest).1.poolFails l.image)).2 = false := by
    rcases h with h | ⟨rfl, h⟩
    · refine Dev.judge_passes _ _ ?_
      rwa [Dev.lcState, hfree.gf (by decide) (by decide) (by decide)]
    · rw [Dev.judge_nil, h.resolve_left (by omega), Dev.judge_nil]
  unfold Dev.endChecks
  dsimp only
  rw [if_neg (by simp [hdigest])]
  by_cases hi : l.image < 0x04000000
  · rw [if_pos hi, if_neg (by simp [hpool hi])]
    exact ⟨_, _, rfl, hfree.trans ((Dev.errOnly_judge _ _).keepsKinds (List.Subset.refl _))⟩
  · rw [if_neg hi]
    exact ⟨_, _, rfl, hjudged⟩

/-- The sources by which a pool image fails. -/
theorem Dev.source_of_poolFails {x : Nat × Nat} {base : Nat} (h : x ∈ d.poolFails base) : x.1 = 7 ∨ x.1 = 8 := by
  simp only [Dev.poolFails, List.mem_append] at h
  rcases h with ((hroot | hsignature) | hindex) | htag
  · split_ifs at hroot <;> simp_all
  · split_ifs at hsignature <;> simp_all
  · split_ifs at hindex <;> simp_all
  · split_ifs at htag <;> simp_all

end

/-! ### How a load ends (R133, R134, R152) -/

/-- Room `n`'s load has ended: the state of its plane, and what ROOM_LOAD_STAT shows. -/
def Dev.loadEnds (d : Dev) (n : Nat) (active : Bool) (sh act result source : Nat) : Prop :=
  (d.room n).load = none ∧ (if active then d.act n = act else d.sh n = sh) ∧ d.gf F.ROOM_LOAD_STAT_DONE n = 1 ∧
    d.gf F.ROOM_LOAD_STAT_RESULT n = result ∧ d.gf F.ROOM_LOAD_STAT_SOURCE n = source

section
variable {d : Dev} {n : Nat} (hn : n < 65536)

theorem State.loadEnds_act {s : State} {n : Fin 64} {active : Bool} {sh act result source : Nat}
    (h : d.loadEnds n active sh act result source) : (s.act fun _ => d).dev.loadEnds n active sh act result source := by
  have hgf {f : Fld} (hf : f.reg.isNch = false) : (s.act fun _ => d).dev.gf f n = d.gf f n :=
    State.gf_act _ _ hf (by omega) (by decide)
  rw [Dev.loadEnds, Dev.act, Dev.sh, hgf rfl, hgf rfl, hgf rfl, hgf rfl, hgf rfl, State.room_act]
  exact h

include hn

/-- The result of a load beside what it leaves of the room and its plane. -/
theorem Dev.loadEnds_roomResult {active : Bool} {sh act result source : Nat} (hload : (d.room n).load = none)
    (hstate : if active then d.act n = act else d.sh n = sh) (hr : result < 8) (hs : source < 128) :
    (d.roomResult n result source).loadEnds n active sh act result source := by
  obtain ⟨hdone, hresult, hsource⟩ := d.gf_roomResult (n := n) result source
  refine ⟨hload, ?_, hdone, hresult.trans (Nat.mod_eq_of_lt hr), hsource.trans (Nat.mod_eq_of_lt hs)⟩
  rwa [Dev.act, Dev.sh, Dev.gf_roomResult_ne _ hn _ _ (by decide), Dev.gf_roomResult_ne _ hn _ _ (by decide)]

theorem Dev.refuseLoad_ends (active : Bool) {src : Nat} (hs : src < 128) :
    (d.refuseLoad n active src).loadEnds n active shInvalid actDown rRefused src := by
  refine Dev.loadEnds_roomResult hn ?_ ?_ (by decide) hs
  · rw [Dev.room, Dev.rooms_setPlaneState, ← Dev.room, Dev.room_onPlane, Dev.room_onRoom]
    cases active <;> rfl
  · cases active <;> exact Dev.gf_sf _ _ _ _ _ (by decide)

/-- The active plane of a load whose checks are over: VALID (R134). -/
def Dev.actValidated (d : Dev) (n : Nat) (verified : Bool) : Dev :=
  ((d.onRoom n (fun r => { r with load := none })).sf F.ROOM_PLANE_STAT_ACT_STATE n 0 actValid).sf
    F.ROOM_PLANE_STAT_ACT_VERIFIED n 0 (b2n verified)

/-- The same with the source of the room's block RAM recorded, before its settings (R145). -/
def Dev.planeValid (d : Dev) (n : Nat) (l : Load) (verified : Bool) : Dev :=
  let d := d.actValidated n verified
  if l.keepBram then d else d.setBramSrc n (d.gf F.ROOM_PLANE_STAT_ACT_SRC n) (d.gf F.ROOM_PLANE_STAT_ACT_BLOCK n)

omit hn in
theorem Dev.planeReady_of_active {l : Load} (ha : l.active = true) (verified : Bool) : d.planeReady n l verified =
    (if ((d.planeValid n l verified).applyPlane n).pstate n == 0 then
      ((d.planeValid n l verified).applyPlane n).roomRelease n
    else (d.planeValid n l verified).applyPlane n).roomResult n rOk 0 := if_pos ha

omit hn in
theorem Dev.planeReady_of_shadow {l : Load} (ha : l.active = false) (verified : Bool) : d.planeReady n l verified =
    (((d.onRoom n (fun r => { r with load := none })).sf F.ROOM_PLANE_STAT_SH_STATE n 0 shReady).sf
      F.ROOM_PLANE_STAT_SH_VERIFIED n 0 (b2n verified)).roomResult n rOk 0 := if_neg (by simp [ha])

theorem Dev.keepsKinds_setBramSrc (src block : Nat) : d.keepsKinds (d.setBramSrc n src block) [.ROOM_BRAM_SRC] :=
  (((d.keepsKinds_refl _).sf (by decide) hn (by decide)).sf (by decide) hn (by decide)).sf (by decide) hn (by decide)

/-- The source of the block RAM is all that follows VALID before the settings. -/
theorem Dev.keepsKinds_planeValid (l : Load) (verified : Bool) :
    (d.actValidated n verified).keepsKinds (d.planeValid n l verified) [.ROOM_BRAM_SRC] :=
  Dev.keepsKinds.ite (Dev.keepsKinds_refl _ _) (Dev.keepsKinds_setBramSrc hn _ _)

omit hn in
theorem Dev.rooms_planeValid (l : Load) (verified : Bool) :
    (d.planeValid n l verified).rooms = (d.actValidated n verified).rooms := by
  unfold Dev.planeValid
  dsimp only
  split_ifs
  · rfl
  · rw [Dev.setBramSrc, Dev.rooms_sf, Dev.rooms_sf, Dev.rooms_sf]

theorem Dev.act_planeValid (l : Load) (verified : Bool) : (d.planeValid n l verified).act n = actValid := by
  rw [Dev.act, (Dev.keepsKinds_planeValid hn l verified).gf (by decide) hn (by decide), Dev.actValidated]
  simp (disch := decide) only [Dev.gf_sf_bits, Dev.gf_sf]
  rfl

omit hn in
theorem Dev.load_planeValid (l : Load) (verified : Bool) : ((d.planeValid n l verified).room n).load = none := by
  rw [Dev.room, Dev.rooms_planeValid, ← Dev.room, Dev.actValidated, Dev.room_sf, Dev.room_sf, Dev.room_onRoom]

/-- A complete plane is READY, or VALID. -/
theorem Dev.planeReady_ends (l : Load) (verified : Bool) :
    (d.planeReady n l verified).loadEnds n l.active shReady actValid rOk 0 := by
  cases ha : l.active
  · rw [Dev.planeReady_of_shadow ha]
    refine Dev.loadEnds_roomResult hn ?_ ?_ (by decide) (by decide)
    · rw [Dev.room_sf, Dev.room_sf, Dev.room_onRoom]
    · rw [if_neg Bool.false_ne_true, Dev.sh]
      simp (disch := decide) only [Dev.gf_sf_bits, Dev.gf_sf]
      rfl
  · obtain ⟨hkinds, hrooms⟩ := (d.planeValid n l verified).setsBorder_applyPlane n
    have hload : (((d.planeValid n l verified).applyPlane n).room n).load = none := by
      rw [Dev.room, hrooms]
      exact Dev.load_planeValid l verified
    have hact : ((d.planeValid n l verified).applyPlane n).act n = actValid :=
      (hkinds.gf (by decide) hn (by decide)).trans (Dev.act_planeValid hn l verified)
    rw [Dev.planeReady_of_active ha]
    refine Dev.loadEnds_roomResult hn ?_ ?_ (by decide) (by decide)
    · split_ifs
      · rw [Dev.load_roomRelease, hload]
      · exact hload
    · rw [if_pos rfl]
      split_ifs
      · exact ((Dev.keepsKinds_roomRelease _ hn).gf (by decide) hn (by decide)).trans hact
      · exact hact

/-- A complete active plane releases its room where that is powered and its clock runs. -/
theorem Dev.planeReady_releases {l : Load} (ha : l.active = true) (verified : Bool)
    (hp : d.gf F.GOV_ROOM_PSTATE n = 0) (hrun : d.gb F.CLK_ISL_STAT_RUN n = true) :
    ((d.planeReady n l verified).room n).gsr = false := by
  have hvalid : d.keepsKinds (d.actValidated n verified) (.ROOM_PLANE_STAT :: .ROOM_BRAM_SRC :: settingsKinds) :=
    ((d.keepsKinds_refl _).onRoom.sf (by decide) hn (by decide)).sf (by decide) hn (by decide)
  have hkinds := (hvalid.trans ((Dev.keepsKinds_planeValid hn l verified).mono (by decide))).trans
    (((d.planeValid n l verified).setsBorder_applyPlane n).1.mono (by decide))
  have hp' : ((d.planeValid n l verified).applyPlane n).pstate n = 0 :=
    (hkinds.gf (by decide) hn (by decide)).trans hp
  have hrun' : ((d.planeValid n l verified).applyPlane n).gb F.CLK_ISL_STAT_RUN n = true := by
    rwa [Dev.gb, hkinds.gf (by decide) hn (by decide)]
  rw [Dev.planeReady_of_active ha, hp', if_pos (by decide), Dev.room_roomResult]
  exact Dev.gsr_roomRelease _ hrun'

end

/-! ### The statement -/

section
variable {n : Fin 64} {l : Load} {s : State} (hl : (s.dev.room n).load = some l) (hf : l.full = false)
  (hp : l.total ≤ l.pos)
include hl hf hp

theorem does_roomLoadCheckDone_of_slot (ha : l.active = false) (hi : 0x04000000 ≤ l.image)
    (hd : s.dev.roomDigest (s.dev.header l.image) l.image n = s.dev.digestEntry l.image n) :
    Does (.roomLoadCheckDone n) s ((((s.dev.onRoom n (fun r => { r with load := none })).sf F.ROOM_PLANE_STAT_SH_STATE n
      0 shReady).sf F.ROOM_PLANE_STAT_SH_VERIFIED n 0 (b2n (s.dev.gb F.CFG_STATUS_VERIFIED))).roomResult n rOk 0) := by
  have hn : n.val < 65536 := by omega
  refine does_act_of_room rfl (((Dev.roomCheckDone_of_end hl hf hp).trans ?_).trans (Dev.planeReady_of_shadow ha _))
    (fun m => (s.dev.gsr_onRoom (f := fun r => { r with load := none }) rfl m)) ?_
  · rw [Dev.digestFails_of_right hd, Dev.endChecks_of_slot hi]
  · exact (((s.dev.keepsKinds_refl _).onRoom.sf (by decide) hn (by decide)).sf (by decide) hn (by decide)).roomResult
      (by decide) hn

/-- A load that passes its checks, or whose failures are only reported, ends OK. -/
theorem roomLoadCheckDone_passes (h : s.dev.lcState ≠ 4 ∨ s.dev.digestFails n l = [] ∧
      (0x04000000 ≤ l.image ∨ s.dev.poolFails l.image = [])) :
    Yields (.roomLoadCheckDone n) s (fun t => t.dev.loadEnds n l.active shReady actValid rOk 0 ∧
      (l.active = true → s.dev.gf F.GOV_ROOM_PSTATE n = 0 → s.dev.gb F.CLK_ISL_STAT_RUN n = true →
        (t.dev.room n).gsr = false)) := by
  have hn : n.val < 65536 := by omega
  obtain ⟨e, v, he, hk⟩ := Dev.endChecks_passes (n := n) h
  refine yields_act rfl ((Dev.roomCheckDone_of_end hl hf hp).trans he)
    ⟨State.loadEnds_act (Dev.planeReady_ends hn l v), fun ha hpstate hrun => ?_⟩
  rw [State.room_act]
  refine Dev.planeReady_releases hn ha v ?_ ?_
  · rwa [hk.gf (by decide) hn (by decide)]
  · rwa [Dev.gb, hk.gf (by decide) hn (by decide)]

theorem roomLoadCheckDone_refuses {src : Nat} (hs : src < 128)
    (h : ∃ e : Dev, s.dev.endChecks n l (s.dev.digestFails n l) = e.refuseLoad n l.active src) :
    Yields (.roomLoadCheckDone n) s (fun t => t.dev.loadEnds n l.active shInvalid actDown rRefused src) := by
  obtain ⟨e, he⟩ := h
  exact yields_act rfl ((Dev.roomCheckDone_of_end hl hf hp).trans he)
    (State.loadEnds_act (Dev.refuseLoad_ends (by omega) _ hs))

end

/-- Settles O20: a load starts in the branch of `Dev.loadPlane` that its room and source call for, and ends by the
first check that refuses it, or with its plane complete. -/
theorem roomLoadsAndChecks : Obligations.RoomLoadsAndChecks := by
  unfold Obligations.RoomLoadsAndChecks
  refine ⟨⟨fun n c s hc hu => ?_, fun n c s hc hu hb => ?_, fun n c s hc hu hb hs => ?_, fun n s hu hb => ?_,
      fun n l s hl hf => ?_, fun n s h => does_roomResult rfl (Dev.abortLoad_of_none h),
      fun n s h => discardShadow_empties h, fun n s h => ?_, fun n s h => ?_⟩,
    fun n l s hl hf ha hp hi hd => does_roomLoadCheckDone_of_slot hl hf hp ha hi hd, fun n l s hl hf hp => ?_,
    fun n s h => does_act_of_room rfl (Dev.roomCheckDone_of_idle h) (fun _ => rfl) (s.dev.keepsKinds_refl _)⟩
  · obtain ⟨active, hx⟩ := exec_loadPlane hc s
    exact does_roomResult hx (Dev.loadPlane_of_down active hu)
  · obtain ⟨active, hx⟩ := exec_loadPlane hc s
    exact does_roomResult hx (Dev.loadPlane_of_busy active hu hb)
  · obtain ⟨active, hx⟩ := exec_loadPlane hc s
    exact does_roomResult hx (Dev.loadPlane_of_badSource active hu hb hs)
  · intro src hs base hh
    exact ⟨loadShadow_begins hu hb hs rfl hh, loadActive_begins hu hb hs rfl hh⟩
  · exact does_abortLoad hl hf
  · obtain ⟨hready, hinvalid, hempty⟩ : s.dev.sh n ≠ shReady ∧ s.dev.sh n ≠ shInvalid ∧
        (s.dev.sh n == shEmpty) = false := by
      rcases h with h | h | h <;> rw [h] <;> decide
    exact does_roomResult rfl ((Dev.discardShadow_of_other hready hinvalid).trans (by rw [hempty]; rfl))
  · have hempty : s.dev.discardShadow n = s.dev.roomResult n rOk 0 := by
      rw [Dev.discardShadow_of_other (by rw [h]; decide) (by rw [h]; decide), h]
      rfl
    exact does_roomResult rfl hempty
  · intro digest ends
    have hright (h : digest = true) : s.dev.digestFails n l = [] := Dev.digestFails_of_right (of_decide_eq_true h)
    refine ⟨fun hd hpool => roomLoadCheckDone_passes hl hf hp (.inr ⟨hright hd, hpool⟩), fun hd hlc => ?_,
      fun x r hd hi hfails hlc => ?_, fun hlc => ?_⟩
    · refine roomLoadCheckDone_refuses hl hf hp (by decide) ?_
      rw [Dev.digestFails_of_wrong (of_decide_eq_false hd)]
      exact Dev.endChecks_of_digest hlc _ _
    · have hsrc : x.1 = 7 ∨ x.1 = 8 := Dev.source_of_poolFails (hfails ▸ List.mem_cons_self)
      refine roomLoadCheckDone_refuses hl hf hp (by omega) ?_
      rw [hright hd]
      exact Dev.endChecks_of_pool hlc hi hfails
    · obtain ⟨t, hx, hends, -⟩ := roomLoadCheckDone_passes hl hf hp (.inl hlc)
      exact ⟨t, hx, hends⟩

end Sys2Proof.Machine
end

section
/-! PROOFS. Registers of listed kinds in two devices, and what two devices that agree on the Larder share: the cells of
its words, and what an access to them does (R153, R160, Table 7.6). -/

namespace Sys2Proof.Machine

/-! ### Registers of listed kinds

`Dev.keepsKinds` names the kinds that may change; an arbiter counts the waits of whatever IDs its state lists, so that
what its work leaves alone is said by the kinds that do not change. -/

/-- The registers of the listed kinds are the same in two devices. -/
def Dev.sameOn (d d' : Dev) (l : List RK) : Prop :=
  ∀ k ∈ l, ∀ i j, i < 65536 → j < 256 → d'.reg k i j = d.reg k i j

section
variable {a b c : Dev} {l l' : List RK}

theorem Dev.sameOn_refl (d : Dev) (l : List RK) : d.sameOn d l := fun _ _ _ _ _ _ => rfl

theorem Dev.sameOn.symm (h : a.sameOn b l) : b.sameOn a l := fun k hk i j hi hj => (h k hk i j hi hj).symm

theorem Dev.sameOn.trans (h : a.sameOn b l) (h' : b.sameOn c l) : a.sameOn c l :=
  fun k hk i j hi hj => (h' k hk i j hi hj).trans (h k hk i j hi hj)

theorem Dev.sameOn.mono (h : a.sameOn b l) (hs : l' ⊆ l) : a.sameOn b l' := fun k hk => h k (hs hk)

theorem Dev.sameOn_of_regs (h : b.regs = a.regs) : a.sameOn b l := fun _ _ _ _ _ _ => by simp [Dev.reg, h]

theorem Dev.sameOn.gf (h : a.sameOn b l) {f : Fld} {i j : Nat} (hf : f.reg ∈ l) (hi : i < 65536) (hj : j < 256) :
    b.gf f i j = a.gf f i j := by
  rw [Dev.gf, Dev.gf, h _ hf i j hi hj]

theorem Dev.sameOn.gb (h : a.sameOn b l) {f : Fld} {i j : Nat} (hf : f.reg ∈ l) (hi : i < 65536) (hj : j < 256) :
    b.gb f i j = a.gb f i j := by
  rw [Dev.gb, Dev.gb, h.gf hf hi hj]

theorem Dev.sameOn_sf (d : Dev) {f : Fld} {i j : Nat} (v : Nat) (hf : f.reg ∉ l) (hi : i < 65536) (hj : j < 256) :
    d.sameOn (d.sf f i j v) l :=
  fun _ hk _ _ hi' hj' => d.reg_sf_ne v (fun he => hf (he ▸ hk)) hi hj hi' hj'

theorem Dev.sameOn_cnt (d : Dev) {f : Fld} {i j n : Nat} (hf : f.reg ∉ l) (hi : i < 65536) (hj : j < 256) :
    d.sameOn (d.cnt f i j n) l := d.sameOn_sf _ hf hi hj

theorem Dev.sameOn_errOnly (h : a.errOnly b) (hl : ∀ k ∈ l, k.isErr = false) : a.sameOn b l :=
  fun k hk i j hi hj => h.1 k i j (hl k hk) hi hj

/-- The same write of a listed field leaves the listed registers the same. -/
theorem Dev.sameOn.sf (h : a.sameOn b l) {f : Fld} {i j : Nat} (hf : f.reg ∈ l) (hi : i < 65536) (hj : j < 256)
    (v : Nat) : (a.sf f i j v).sameOn (b.sf f i j v) l := by
  intro k hk i' j' hi' hj'
  by_cases hkey : f.reg = k ∧ i = i' ∧ j = j'
  · obtain ⟨rfl, rfl, rfl⟩ := hkey
    rw [Dev.sf, Dev.sf, Dev.reg_setReg, Dev.reg_setReg, h _ hf _ _ hi hj]
  · have hne : f.reg.key i j ≠ k.key i' j' := RK.key_ne (by tauto) hi hj hi' hj'
    rw [Dev.sf, Dev.sf, Dev.reg_setReg_of_key_ne _ _ hne, Dev.reg_setReg_of_key_ne _ _ hne, h k hk _ _ hi' hj']

theorem Dev.sameOn.cnt (h : a.sameOn b l) {f : Fld} {i j n : Nat} (hf : f.reg ∈ l) (hi : i < 65536) (hj : j < 256) :
    (a.cnt f i j n).sameOn (b.cnt f i j n) l := by
  rw [Dev.cnt, Dev.cnt, h.gf hf hi hj]
  exact h.sf hf hi hj _

end

/-! ### The cells of a word (R153, R165, Table 7.6) -/

/-- The registers of the repair map in force: they decide where a word stands outside a test. -/
def rowRegs : List RK := [.LAR_SPARE_ROW, .LAR_SPARE_FLG]

/-- The registers that decide where a word stands. -/
def mapRegs : List RK := .LAR_TEST_STAT :: rowRegs

theorem rowRegs_subset_mapRegs : rowRegs ⊆ mapRegs := List.subset_cons_self _ _

theorem larBank_lt (wa : Nat) : larBank wa < 64 := by
  unfold larBank larQuad
  omega

theorem larCol_lt (wa : Nat) : larCol wa < 128 := Nat.mod_lt _ (by decide)

/-- A word is known by its bank, row and column. -/
theorem eq_of_bank_row_col {x y : Nat} (hx : x < larWords) (hy : y < larWords) (hb : larBank x = larBank y)
    (hr : larRow x = larRow y) (hc : larCol x = larCol y) : x = y := by
  unfold larBank larQuad at hb
  unfold larRow at hr
  unfold larCol at hc
  unfold larWords quadWords at *
  omega

theorem spareCell_ge (b k c : Nat) : larWords ≤ spareCell b k c := by
  unfold spareCell
  omega

theorem spareCell_lt {b k c : Nat} (hb : b < 64) (hk : k < 4) (hc : c < 128) : spareCell b k c < larWords + 0x8000 := by
  unfold spareCell
  omega

theorem bufferCell_ge (b c : Nat) : larWords + 0x8000 ≤ bufferCell b c := by
  unfold bufferCell
  omega

theorem spareCell_inj {b k c b' k' c' : Nat} (hk : k < 4) (hk' : k' < 4) (hc : c < 128) (hc' : c' < 128)
    (h : spareCell b k c = spareCell b' k' c') : b = b' ∧ k = k' ∧ c = c' := by
  unfold spareCell at h
  omega

theorem bufferCell_inj {b c b' c' : Nat} (hc : c < 128) (hc' : c' < 128) (h : bufferCell b c = bufferCell b' c') :
    b = b' ∧ c = c' := by
  unfold bufferCell at h
  omega

section
variable {d : Dev} {x y k : Nat}

theorem Dev.spareOf_some {b r : Nat} (h : d.spareOf b r = some k) :
    k < 4 ∧ bitOf (d.gf F.LAR_SPARE_FLG_USED b) k = true ∧ d.gf (spareRowFld k) b = r := by
  have hk : k < 4 := List.mem_range.1 (List.mem_of_find?_eq_some h)
  have hp := List.find?_some h
  simp only [Bool.and_eq_true, beq_iff_eq] at hp
  exact ⟨hk, hp⟩

theorem Dev.goodSpare_some {b : Nat} (h : d.goodSpare b = some k) :
    k < 4 ∧ bitOf (d.gf F.LAR_SPARE_FLG_USED b) k = false := by
  have hk : k < 4 := List.mem_range.1 (List.mem_of_find?_eq_some h)
  have hp := List.find?_some h
  simp only [Bool.and_eq_true, Bool.not_eq_true'] at hp
  exact ⟨hk, hp.1⟩

theorem Dev.rowCell_of_spare (h : d.spareOf (larBank x) (Machine.larRow x) = some k) :
    d.rowCell x = spareCell (larBank x) k (larCol x) := by
  rw [Dev.rowCell, h]

theorem Dev.rowCell_of_none (h : d.spareOf (larBank x) (Machine.larRow x) = none) : d.rowCell x = x := by
  rw [Dev.rowCell, h]

/-- Rows and spare rows lie below the spare buffers. -/
theorem Dev.rowCell_lt (hx : x < larWords) : d.rowCell x < larWords + 0x8000 := by
  cases hs : d.spareOf (larBank x) (Machine.larRow x) with
  | none => rw [Dev.rowCell_of_none hs]; omega
  | some k =>
    rw [Dev.rowCell_of_spare hs]
    exact spareCell_lt (larBank_lt x) (Dev.spareOf_some hs).1 (larCol_lt x)

/-- Outside a test different words stand in different cells: a spare row serves one row. -/
theorem Dev.rowCell_inj (hx : x < larWords) (hy : y < larWords) (h : d.rowCell x = d.rowCell y) : x = y := by
  cases hsx : d.spareOf (larBank x) (Machine.larRow x) with
  | none =>
    rw [Dev.rowCell_of_none hsx] at h
    cases hsy : d.spareOf (larBank y) (Machine.larRow y) with
    | none => rwa [Dev.rowCell_of_none hsy] at h
    | some k =>
      rw [Dev.rowCell_of_spare hsy] at h
      have := spareCell_ge (larBank y) k (larCol y)
      omega
  | some k =>
    rw [Dev.rowCell_of_spare hsx] at h
    obtain ⟨hk, -, hrow⟩ := Dev.spareOf_some hsx
    cases hsy : d.spareOf (larBank y) (Machine.larRow y) with
    | none =>
      rw [Dev.rowCell_of_none hsy] at h
      have := spareCell_ge (larBank x) k (larCol x)
      omega
    | some k' =>
      rw [Dev.rowCell_of_spare hsy] at h
      obtain ⟨hk', -, hrow'⟩ := Dev.spareOf_some hsy
      obtain ⟨hb, rfl, hc⟩ := spareCell_inj hk hk' (larCol_lt x) (larCol_lt y) h
      exact eq_of_bank_row_col hx hy hb (by rw [← hrow, ← hrow', hb]) hc

/-- The buffer of a test stands in for the words of its region. -/
def Dev.buffered (d : Dev) (x : Nat) : Prop := d.phaseFor x = phMarch ∨ d.phaseFor x = phRestore

theorem Dev.readCell_of_buffered (h : d.buffered x) : d.readCell x = bufferCell (larBank x) (larCol x) := by
  simpa [Dev.readCell, Dev.buffered] using fun h1 h2 => absurd h (by simp [Dev.buffered, h1, h2])

theorem Dev.readCell_of_not_buffered (h : ¬ d.buffered x) : d.readCell x = d.rowCell x := by
  simp only [Dev.buffered, not_or] at h
  simp [Dev.readCell, h.1, h.2]

/-- A phase other than idle is that of the region under test. -/
theorem Dev.phaseFor_ne_idle (h : d.phaseFor x ≠ phIdle) : d.gf F.LAR_TEST_STAT_REGION = larRegion x ∧
    d.phaseFor x = d.gf F.LAR_TEST_STAT_PHASE := by
  unfold Dev.phaseFor at h ⊢
  split_ifs at h ⊢ with hc
  · simp only [Bool.and_eq_true, beq_iff_eq] at hc
    exact ⟨hc.2, rfl⟩
  · exact absurd rfl h

theorem Dev.region_of_buffered (h : d.buffered x) : d.gf F.LAR_TEST_STAT_REGION = larRegion x ∧
    d.phaseFor x = d.gf F.LAR_TEST_STAT_PHASE :=
  Dev.phaseFor_ne_idle (by rcases h with h | h <;> rw [h] <;> decide)

/-- Words of one region in one column are one word. -/
theorem eq_of_region_col (hx : x < larWords) (hy : y < larWords) (hr : larRegion x = larRegion y)
    (hb : larBank x = larBank y) (hc : larCol x = larCol y) : x = y := by
  refine eq_of_bank_row_col hx hy hb ?_ hc
  unfold larRegion at hr
  omega

theorem Dev.rowCell_ne_buffer (hx : x < larWords) (b c : Nat) : d.rowCell x ≠ bufferCell b c := by
  have := d.rowCell_lt hx
  have := bufferCell_ge b c
  omega

/-- Different words are read from different cells. -/
theorem Dev.readCell_inj (hx : x < larWords) (hy : y < larWords) (h : d.readCell x = d.readCell y) : x = y := by
  by_cases hbx : d.buffered x <;> by_cases hby : d.buffered y
  · rw [Dev.readCell_of_buffered hbx, Dev.readCell_of_buffered hby] at h
    obtain ⟨hb, hc⟩ := bufferCell_inj (larCol_lt x) (larCol_lt y) h
    exact eq_of_region_col hx hy ((Dev.region_of_buffered hbx).1.symm.trans (Dev.region_of_buffered hby).1) hb hc
  · rw [Dev.readCell_of_buffered hbx, Dev.readCell_of_not_buffered hby] at h
    exact absurd h.symm (Dev.rowCell_ne_buffer hy _ _)
  · rw [Dev.readCell_of_not_buffered hbx, Dev.readCell_of_buffered hby] at h
    exact absurd h (Dev.rowCell_ne_buffer hx _ _)
  · rw [Dev.readCell_of_not_buffered hbx, Dev.readCell_of_not_buffered hby] at h
    exact Dev.rowCell_inj hx hy h

/-- A cell in which RESTORE puts a word is read for no other: a good spare row serves none. -/
theorem Dev.restoreCell_ne_rowCell (hx : x < larWords) (hy : y < larWords) (hxy : x ≠ y) :
    d.restoreCell x ≠ d.rowCell y := by
  intro h
  unfold Dev.restoreCell at h
  split_ifs at h
  · exact hxy (Dev.rowCell_inj hx hy h)
  · cases hg : d.goodSpare (larBank x) with
    | none =>
      rw [hg] at h
      exact hxy (Dev.rowCell_inj hx hy h)
    | some k =>
      rw [hg] at h
      obtain ⟨hk, hfree⟩ := Dev.goodSpare_some hg
      cases hs : d.spareOf (larBank y) (Machine.larRow y) with
      | none =>
        rw [Dev.rowCell_of_none hs] at h
        exact absurd (h ▸ spareCell_ge (larBank x) k (larCol x)) (Nat.not_le.2 hy)
      | some k' =>
        rw [Dev.rowCell_of_spare hs] at h
        obtain ⟨hk', hused, -⟩ := Dev.spareOf_some hs
        obtain ⟨hb, rfl, -⟩ := spareCell_inj hk hk' (larCol_lt x) (larCol_lt y) h
        rw [hb, hused] at hfree
        exact Bool.noConfusion hfree

theorem Dev.restoreCell_lt (hx : x < larWords) : d.restoreCell x < larWords + 0x8000 := by
  unfold Dev.restoreCell
  split_ifs
  · exact d.rowCell_lt hx
  · cases hg : d.goodSpare (larBank x) with
    | none => exact d.rowCell_lt hx
    | some k => exact spareCell_lt (larBank_lt x) (Dev.goodSpare_some hg).1 (larCol_lt x)

/-- A write changes the cell a read takes. -/
theorem Dev.readCell_mem_writeCells (d : Dev) (x : Nat) : d.readCell x ∈ d.writeCells x := by
  by_cases hb : d.buffered x
  · rw [Dev.readCell_of_buffered hb]
    rcases hb with h | h <;> simp [Dev.writeCells, h]
  · rw [Dev.readCell_of_not_buffered hb]
    simp only [Dev.buffered, not_or] at hb
    unfold Dev.writeCells
    dsimp only
    split_ifs with hcopy
    · exact List.mem_cons_self
    · exact absurd ‹_› hb.1
    · exact absurd ‹_› hb.2
    · exact List.mem_cons_self

/-- A write changes the cell of no other word. -/
theorem Dev.readCell_not_mem_writeCells (hx : x < larWords) (hy : y < larWords) (hxy : x ≠ y) :
    d.readCell y ∉ d.writeCells x := by
  have hbuf (hp : d.phaseFor x ≠ phIdle) : d.readCell y ≠ bufferCell (larBank x) (larCol x) := by
    by_cases hby : d.buffered y
    · rw [Dev.readCell_of_buffered hby]
      intro he
      obtain ⟨hb, hc⟩ := bufferCell_inj (larCol_lt y) (larCol_lt x) he
      exact hxy (eq_of_region_col hy hx
        ((Dev.region_of_buffered hby).1.symm.trans (Dev.phaseFor_ne_idle hp).1) hb hc).symm
    · rw [Dev.readCell_of_not_buffered hby]
      exact Dev.rowCell_ne_buffer hy _ _
  have hrow (hp : ¬ d.buffered x) : d.readCell y ≠ d.rowCell x := by
    rw [← Dev.readCell_of_not_buffered hp]
    exact fun he => hxy (Dev.readCell_inj hy hx he).symm
  unfold Dev.writeCells
  dsimp only
  split_ifs with hcopy hmarch hrestore
  · simp only [List.mem_cons, List.not_mem_nil, or_false, not_or]
    exact ⟨hrow (by simp [Dev.buffered, hcopy]), hbuf (by simp [hcopy])⟩
  · simpa using hbuf (by simp [hmarch])
  · simp only [List.mem_cons, List.not_mem_nil, or_false, not_or]
    refine ⟨hbuf (by simp [hrestore]), ?_⟩
    by_cases hby : d.buffered y
    · rw [Dev.readCell_of_buffered hby]
      have := d.restoreCell_lt hx
      have := bufferCell_ge (larBank y) (larCol y)
      omega
    · rw [Dev.readCell_of_not_buffered hby]
      exact (Dev.restoreCell_ne_rowCell hx hy hxy).symm
  · simpa using hrow (by simp [Dev.buffered, hmarch, hrestore])

end

/-! ### Words after a write -/

section
variable {d d' : Dev} {l : List RK} (h : d.sameOn d' l) (hl : rowRegs ⊆ l)
include h hl

/-- Where a row stands depends on the repair map alone. -/
theorem Dev.spareOf_congr {b : Nat} (hb : b < 64)
    (r : Nat) : d'.spareOf b r = d.spareOf b r := by
  have hgf (f : Fld) (hf : f.reg ∈ rowRegs) : d'.gf f b = d.gf f b := h.gf (hl hf) (by omega) (by decide)
  have hrow (k : Nat) : d'.gf (spareRowFld k) b = d.gf (spareRowFld k) b := hgf _ (by simp [spareRowFld, rowRegs])
  simp only [Dev.spareOf, hrow, hgf F.LAR_SPARE_FLG_USED (by decide)]

theorem Dev.goodSpare_congr {b : Nat} (hb : b < 64) :
    d'.goodSpare b = d.goodSpare b := by
  have hgf (f : Fld) (hf : f.reg ∈ rowRegs) : d'.gf f b = d.gf f b := h.gf (hl hf) (by omega) (by decide)
  simp only [Dev.goodSpare, hgf F.LAR_SPARE_FLG_USED (by decide), hgf F.LAR_SPARE_FLG_BAD (by decide)]

theorem Dev.rowCell_congr (x : Nat) :
    d'.rowCell x = d.rowCell x := by
  rw [Dev.rowCell, Dev.rowCell, Dev.spareOf_congr h hl (larBank_lt x)]

end

section
variable {d d' : Dev} {l : List RK} (h : d.sameOn d' l) (hl : mapRegs ⊆ l)
include h hl

theorem Dev.phaseFor_congr (x : Nat) :
    d'.phaseFor x = d.phaseFor x := by
  have hgf (f : Fld) (hf : f.reg ∈ mapRegs) : d'.gf f = d.gf f := h.gf (hl hf) (by decide) (by decide)
  rw [Dev.phaseFor, Dev.phaseFor, Dev.gb, Dev.gb, Dev.gb, Dev.gb, hgf F.LAR_TEST_STAT_BUSY (by decide),
    hgf F.LAR_TEST_STAT_SPARE (by decide), hgf F.LAR_TEST_STAT_REGION (by decide),
    hgf F.LAR_TEST_STAT_PHASE (by decide)]

theorem Dev.readCell_congr (x : Nat) :
    d'.readCell x = d.readCell x := by
  rw [Dev.readCell, Dev.readCell, Dev.phaseFor_congr h hl,
    Dev.rowCell_congr h (List.Subset.trans rowRegs_subset_mapRegs hl)]

theorem Dev.writeCells_congr (hf : d'.lar.rowFailed = d.lar.rowFailed) (x : Nat) : d'.writeCells x = d.writeCells x := by
  have hr : d'.restoreCell x = d.restoreCell x := by
    rw [Dev.restoreCell, Dev.restoreCell,
      Dev.goodSpare_congr h (List.Subset.trans rowRegs_subset_mapRegs hl) (larBank_lt x),
      Dev.rowCell_congr h (List.Subset.trans rowRegs_subset_mapRegs hl), hf]
  rw [Dev.writeCells, Dev.writeCells, Dev.phaseFor_congr h hl,
    Dev.rowCell_congr h (List.Subset.trans rowRegs_subset_mapRegs hl), hr]

/-- A word read depends on the cells and on the registers that decide where it stands. -/
theorem Dev.larWord_congr (hw : d'.lar.words = d.lar.words) (x : Nat) : d'.larWord x = d.larWord x := by
  rw [Dev.larWord, Dev.larWord, Dev.readCell_congr h hl, Dev.larCell, Dev.larCell, hw]

end

section
variable (d : Dev) (v : LarWord)

theorem Dev.larCell_setLarCells (l : List Nat) (x : Nat) :
    (d.setLarCells l v).larCell x = if x ∈ l then v else d.larCell x := by
  induction l generalizing d with
  | nil => rfl
  | cons y l ih =>
    rw [show d.setLarCells (y :: l) v = (d.setLarCell y v).setLarCells l v from rfl, ih]
    by_cases hl : x ∈ l
    · simp [hl]
    · by_cases hy : y = x
      · subst hy; simp [hl]
      · simp [hl, Ne.symm hy, Dev.larCell_setLarCell_ne _ _ hy]

/-- Cells are set in `lar.words` and nowhere else. -/
theorem Dev.setLarCells_eq (l : List Nat) :
    ∃ w, d.setLarCells l v = { d with lar := { d.lar with words := w } } := by
  induction l generalizing d with
  | nil => exact ⟨_, rfl⟩
  | cons y l ih =>
    obtain ⟨w, hw⟩ := ih (d.setLarCell y v)
    exact ⟨w, hw⟩

end

end Sys2Proof.Machine
end

section
/-! PROOFS. One word of a Larder request accessed (R156, R160): what it does to the words, what it leaves alone, and
that it depends on the Larder and its registers alone. -/

namespace Sys2Proof.Machine

/-! ### What the bookkeeping of an access leaves alone -/

/-- The registers that accesses and the arbiters' cycles read. -/
def touchRegs : List RK :=
  [.LAR_CTRL, .LAR_TEST_STAT, .LAR_QSTAT, .LAR_SPARE_ROW, .LAR_SPARE_FLG, .ARB_CTRL, .ARB_REQ_CFG, .ARB_REQ_STAT]

/-- A touch of the Larder: the waiting packets, the arbiters and `touchRegs` stay. -/
structure Dev.touched (d d' : Dev) : Prop where
  held : d'.held = d.held
  arbs : d'.arbs = d.arbs
  regs : d.sameOn d' touchRegs

section
variable {a b c : Dev}

theorem Dev.touched_refl (d : Dev) : d.touched d := ⟨rfl, rfl, d.sameOn_refl _⟩

theorem Dev.touched.trans (h : a.touched b) (h' : b.touched c) : a.touched c :=
  ⟨h'.held.trans h.held, h'.arbs.trans h.arbs, h.regs.trans h'.regs⟩

theorem Dev.touched.lar (h : a.touched b) (x : Larder) : a.touched { b with lar := x } := ⟨h.held, h.arbs, h.regs⟩

theorem Dev.touched.sf (h : a.touched b) {f : Fld} {i j v : Nat} (hf : f.reg ∉ touchRegs) (hi : i < 65536)
    (hj : j < 256) : a.touched (b.sf f i j v) := h.trans ⟨rfl, rfl, b.sameOn_sf v hf hi hj⟩

theorem Dev.touched.cnt (h : a.touched b) {f : Fld} {i j n : Nat} (hf : f.reg ∉ touchRegs) (hi : i < 65536)
    (hj : j < 256) : a.touched (b.cnt f i j n) := h.sf hf hi hj

theorem Dev.touched.raise (h : a.touched b) {src detail : Nat} {sev : Severity} :
    a.touched (b.raise src sev detail) :=
  h.trans ⟨Dev.held_raise _ _ _ _, Dev.arbs_raise _ _ _ _, Dev.sameOn_errOnly (b.errOnly_raise _ _ _) (by decide)⟩

theorem Dev.touched.ite {p : Prop} [Decidable p] (h : a.touched b) (h' : a.touched c) :
    a.touched (if p then b else c) := by
  split_ifs
  · exact h
  · exact h'

theorem Dev.touched.mapRegs (h : a.touched b) : a.sameOn b mapRegs := h.regs.mono (by decide)

end

theorem larQuad_lt (x : Nat) : larQuad x < 4 := Nat.mod_lt _ (by decide)

section
variable (d : Dev) (x req : Nat)

theorem Dev.touched_larUpset (u : BitVec 72) : d.touched (d.larUpset x u) := d.touched_refl.lar _

theorem Dev.touched_larSingle (v : BitVec 64) : d.touched (d.larSingle x v) := by
  have hq := larQuad_lt x
  have h : d.touched ((d.cnt F.LAR_ECC_CORR (larQuad x) 0).notice 0x30 x) :=
    (d.touched_refl.cnt (by decide) (by omega) (by decide)).raise
  unfold Dev.larSingle
  exact (h.lar _).ite h

theorem Dev.touched_larRecord : d.touched (d.larRecord x req) :=
  ((((d.touched_refl.sf (by decide) (by decide) (by decide)).sf (by decide) (by decide) (by decide)).sf (by decide)
    (by decide) (by decide)).sf (by decide) (by decide) (by decide)).lar _

theorem Dev.touched_larDouble (same : Bool) : d.touched (d.larDouble x req same) := by
  have hq := larQuad_lt x
  have h : d.touched ((d.cnt F.LAR_ECC_UNCORR (larQuad x) 0).fault 0x31 x) :=
    (d.touched_refl.cnt (by decide) (by omega) (by decide)).raise
  unfold Dev.larDouble
  exact (h.trans (Dev.touched_larRecord _ _ _)).ite h

/-- What a finding is answered with at the Larder, after the cells of the word have been read. -/
def Dev.larFound (d : Dev) (x req : Nat) (same : Bool) (r : Ecc × BitVec 64) : Dev :=
  match r.1 with
  | .good => d
  | .single => d.larSingle x r.2
  | .double => d.larDouble x req same

theorem Dev.touched_larFound (same : Bool) (r : Ecc × BitVec 64) : d.touched (d.larFound x req same r) := by
  unfold Dev.larFound
  split
  · exact d.touched_refl
  · exact d.touched_larSingle x _
  · exact d.touched_larDouble x req same

theorem Dev.words_larSingle (v : BitVec 64) : (d.larSingle x v).lar.words = d.lar.words := by
  unfold Dev.larSingle
  dsimp only
  split_ifs <;> simp

theorem Dev.words_larDouble (same : Bool) : (d.larDouble x req same).lar.words = d.lar.words := by
  unfold Dev.larDouble Dev.larRecord
  dsimp only
  split_ifs <;> simp

theorem Dev.words_larFound (same : Bool) (r : Ecc × BitVec 64) : (d.larFound x req same r).lar.words = d.lar.words := by
  unfold Dev.larFound
  split
  · rfl
  · exact d.words_larSingle x _
  · exact d.words_larDouble x req same

/-- The cells of a word as a read finds them; an access in a cycle of its own forgets what port G recorded (R168). -/
def Dev.larSee (d : Dev) (x : Nat) (u : BitVec 72) (same : Bool) : Dev :=
  let d := d.larUpset x u
  if same then d else { d with lar := { d.lar with eG := false } }

theorem Dev.touched_larSee (u : BitVec 72) (same : Bool) : d.touched (d.larSee x u same) :=
  (d.touched_larUpset x u).ite ((d.touched_larUpset x u).lar _)

theorem Dev.words_larSee (u : BitVec 72) (same : Bool) :
    (d.larSee x u same).lar.words = (d.larUpset x u).lar.words := by
  unfold Dev.larSee
  dsimp only
  split_ifs <;> rfl

/-- Cells found flipped change that word alone. -/
theorem Dev.larWord_larUpset (u : BitVec 72) {y : Nat} (hx : x < larWords) (hy : y < larWords) :
    (d.larUpset x u).larWord y = if y = x then d.larSeen x u else d.larWord y := by
  have hread : (d.larUpset x u).readCell y = d.readCell y :=
    Dev.readCell_congr (d.touched_larUpset x u).mapRegs (List.Subset.refl _) y
  rw [Dev.larWord, hread]
  split_ifs with he
  · subst he; exact d.larCell_setLarCell _ _
  · exact d.larCell_setLarCell_ne _ fun h => he (Dev.readCell_inj hx hy h).symm

theorem Dev.larWord_larSee (u : BitVec 72) (same : Bool) {y : Nat} (hx : x < larWords) (hy : y < larWords) :
    (d.larSee x u same).larWord y = if y = x then d.larSeen x u else d.larWord y := by
  rw [← d.larWord_larUpset x u hx hy]
  exact Dev.larWord_congr ((d.touched_larUpset x u).mapRegs.symm.trans (d.touched_larSee x u same).mapRegs)
    (List.Subset.refl _) (d.words_larSee x u same) y

theorem Dev.larWord_larSee_self (u : BitVec 72) (same : Bool) : (d.larSee x u same).larWord x = d.larSeen x u := by
  have hread : (d.larSee x u same).readCell x = d.readCell x :=
    Dev.readCell_congr (d.touched_larSee x u same).mapRegs (List.Subset.refl _) x
  rw [Dev.larWord, hread, Dev.larCell, Dev.words_larSee]
  exact d.larCell_setLarCell _ _

/-- A checked read: the cells are seen, the finding is answered (R160). -/
theorem Dev.larFetch_eq (u : BitVec 72) (same : Bool) : d.larFetch x req u same =
    ((d.larSee x u same).larFound x req same (d.larSeen x u).check, (d.larSeen x u).check) := by
  rw [← d.larWord_larSee_self x u same]
  simp only [Dev.larFetch, Dev.larFound, Dev.larSee]
  generalize (if same = true then _ else _ : Dev) = seen
  generalize (seen.larWord x).check = r
  obtain ⟨e, v⟩ := r
  cases e <;> rfl

theorem Dev.touched_larFetch (u : BitVec 72) (same : Bool) : d.touched (d.larFetch x req u same).1 := by
  rw [Dev.larFetch_eq]
  exact (d.touched_larSee x u same).trans (Dev.touched_larFound _ _ _ _ _)

theorem Dev.larWord_larFetch (u : BitVec 72) (same : Bool) {y : Nat} (hx : x < larWords) (hy : y < larWords) :
    (d.larFetch x req u same).1.larWord y = if y = x then d.larSeen x u else d.larWord y := by
  rw [Dev.larFetch_eq, ← d.larWord_larSee x u same hx hy]
  exact Dev.larWord_congr (Dev.touched_larFound _ _ _ _ _).mapRegs (List.Subset.refl _) (Dev.words_larFound _ _ _ _ _) y

/-! ### Stores -/

theorem Dev.touched_larStore (v : BitVec 64) : d.touched (d.larStore x v) := by
  obtain ⟨w, hw⟩ := d.setLarCells_eq ⟨v, 0⟩ (d.writeCells x)
  unfold Dev.larStore
  rw [hw]
  exact (d.touched_refl.lar _).lar _

theorem Dev.regs_larStore (v : BitVec 64) : (d.larStore x v).regs = d.regs := by
  obtain ⟨w, hw⟩ := d.setLarCells_eq ⟨v, 0⟩ (d.writeCells x)
  unfold Dev.larStore
  rw [hw]

/-- A store changes that word alone. -/
theorem Dev.larWord_larStore (v : BitVec 64) {y : Nat} (hx : x < larWords) (hy : y < larWords) :
    (d.larStore x v).larWord y = if y = x then ⟨v, 0⟩ else d.larWord y := by
  have hread : (d.larStore x v).readCell y = d.readCell y :=
    Dev.readCell_congr (d.touched_larStore x v).mapRegs (List.Subset.refl _) y
  have hcell : (d.larStore x v).larCell (d.readCell y) = (d.setLarCells (d.writeCells x) ⟨v, 0⟩).larCell (d.readCell y) :=
    rfl
  rw [Dev.larWord, hread, hcell, Dev.larCell_setLarCells]
  split_ifs with hin he he
  · rfl
  · exact absurd hin (Dev.readCell_not_mem_writeCells hx hy (Ne.symm he))
  · exact absurd (he ▸ d.readCell_mem_writeCells x) hin
  · rfl

theorem Dev.larModify_eq (u : BitVec 72) (f : BitVec 64 → BitVec 64) : d.larModify x req u f =
    if (d.larSeen x u).check.1 = .double then ((d.larFetch x req u).1, false)
    else ((d.larFetch x req u).1.larStore x (f (d.larSeen x u).check.2), true) := by
  rw [Dev.larModify, Dev.larFetch_eq]

theorem Dev.touched_larModify (u : BitVec 72) (f : BitVec 64 → BitVec 64) : d.touched (d.larModify x req u f).1 := by
  have h := d.touched_larFetch x req u false
  rw [Dev.larModify_eq]
  split_ifs
  · exact h
  · exact h.trans (Dev.touched_larStore _ _ _)

/-- A read-modify-write changes that word alone, and stores nothing in an uncorrectable one. -/
theorem Dev.larWord_larModify (u : BitVec 72) (f : BitVec 64 → BitVec 64) {y : Nat} (hx : x < larWords)
    (hy : y < larWords) : (d.larModify x req u f).1.larWord y = if y ≠ x then d.larWord y
      else if (d.larSeen x u).check.1 = .double then d.larSeen x u else ⟨f (d.larSeen x u).check.2, 0⟩ := by
  rw [Dev.larModify_eq]
  by_cases hd : (d.larSeen x u).check.1 = .double
  · rw [if_pos hd, if_pos hd, d.larWord_larFetch x req u false hx hy, ite_not]
  · rw [if_neg hd, if_neg hd, Dev.larWord_larStore _ _ _ hx hy, d.larWord_larFetch x req u false hx hy, ite_not]
    split_ifs <;> rfl

/-! ### One word of a request -/

variable (o : LarOp) (w : Work) (u : BitVec 72) (lost same : Bool)

theorem Dev.larTouch_of_read (h : o.op = opRead) : d.larTouch req o w u lost same =
    ((d.larFetch (o.addr + w.done) req u same).1, { w with
      done := w.done + 1
      got := w.got ++ [(d.larSeen (o.addr + w.done) u).check.2]
      bad := w.bad || (d.larSeen (o.addr + w.done) u).check.1 == .double }) := by
  simp only [Dev.larTouch, if_pos h, Dev.larFetch_eq]

theorem Dev.larTouch_of_write (h : o.op = opWrite) : d.larTouch req o w u lost same =
    (if lost && !timedId req then (d.larStore (o.addr + w.done) (o.data.getD w.done 0)).cnt F.LAR_QCNT_OVERWRITTEN
        (larQuad (o.addr + w.done)) 0
      else d.larStore (o.addr + w.done) (o.data.getD w.done 0), { w with done := w.done + 1 }) := by
  have hr : ¬ o.op = opRead := by rw [h]; decide
  simp only [Dev.larTouch, if_neg hr, if_pos h, Nat.add_sub_cancel]

theorem Dev.larTouch_of_bit (hr : o.op ≠ opRead) (hw : o.op ≠ opWrite) : d.larTouch req o w u lost same =
    ((d.larModify (o.addr + w.done) req u o.apply).1, { w with
      done := w.done + 1
      bad := !(d.larModify (o.addr + w.done) req u o.apply).2 }) := by
  simp only [Dev.larTouch, if_neg hr, if_neg hw]

theorem Dev.touched_larTouch : d.touched (d.larTouch req o w u lost same).1 := by
  by_cases hr : o.op = opRead
  · rw [Dev.larTouch_of_read _ _ _ _ _ _ _ hr]
    exact d.touched_larFetch _ _ _ _
  · by_cases hw : o.op = opWrite
    · have hq := larQuad_lt (o.addr + w.done)
      have h := d.touched_larStore (o.addr + w.done) (o.data.getD w.done 0)
      rw [Dev.larTouch_of_write _ _ _ _ _ _ _ hw]
      exact (h.cnt (by decide) (by omega) (by decide)).ite h
    · rw [Dev.larTouch_of_bit _ _ _ _ _ _ _ hr hw]
      exact d.touched_larModify _ _ _ _

/-- A word accessed is one more word done of the same request. -/
theorem Dev.work_larTouch : (d.larTouch req o w u lost same).2.done = w.done + 1 ∧
    (d.larTouch req o w u lost same).2.op = w.op ∧ (d.larTouch req o w u lost same).2.addr = w.addr ∧
    (d.larTouch req o w u lost same).2.len = w.len := by
  unfold Dev.larTouch
  dsimp only
  split_ifs <;> exact ⟨rfl, rfl, rfl, rfl⟩

end

/-! ### Devices that agree on the Larder -/

/-- The registers that accesses to the Larder read, count or record in. -/
def larRegs : List RK := .LAR_EADDR :: .LAR_ECC :: .LAR_QCNT :: touchRegs

/-- Two devices hold the same Larder, with the same registers. -/
structure Dev.agrees (d d' : Dev) : Prop where
  lar : d'.lar = d.lar
  regs : d.sameOn d' larRegs

section
variable {a b c : Dev}

theorem Dev.agrees_refl (d : Dev) : d.agrees d := ⟨rfl, d.sameOn_refl _⟩

theorem Dev.agrees.symm (h : a.agrees b) : b.agrees a := ⟨h.lar.symm, h.regs.symm⟩

theorem Dev.agrees.trans (h : a.agrees b) (h' : b.agrees c) : a.agrees c :=
  ⟨h'.lar.trans h.lar, h.regs.trans h'.regs⟩

theorem Dev.agrees_errOnly (h : a.errOnly b) : a.agrees b :=
  ⟨by rw [h.2], Dev.sameOn_errOnly h (by decide)⟩

theorem Dev.agrees.raise (h : a.agrees b) (src : Nat) (sev : Severity) (detail : Nat) :
    (a.raise src sev detail).agrees (b.raise src sev detail) :=
  ((Dev.agrees_errOnly (a.errOnly_raise _ _ _)).symm.trans h).trans (Dev.agrees_errOnly (b.errOnly_raise _ _ _))

theorem Dev.agrees.sf (h : a.agrees b) {f : Fld} {i j : Nat} (v : Nat) (hf : f.reg ∈ larRegs) (hi : i < 65536)
    (hj : j < 256) : (a.sf f i j v).agrees (b.sf f i j v) := ⟨h.lar, h.regs.sf hf hi hj v⟩

theorem Dev.agrees.cnt (h : a.agrees b) {f : Fld} {i j : Nat} (n : Nat) (hf : f.reg ∈ larRegs) (hi : i < 65536)
    (hj : j < 256) : (a.cnt f i j n).agrees (b.cnt f i j n) := ⟨h.lar, h.regs.cnt hf hi hj⟩

/-- The same change of the Larder. -/
theorem Dev.agrees.onLar (h : a.agrees b) (f : Larder → Larder) :
    ({ a with lar := f a.lar } : Dev).agrees { b with lar := f b.lar } := ⟨congrArg f h.lar, h.regs⟩

theorem Dev.agrees.ite {a' b' : Dev} {p q : Prop} [Decidable p] [Decidable q] (hpq : p ↔ q) (h : a.agrees b)
    (h' : a'.agrees b') : (if p then a else a').agrees (if q then b else b') := by
  by_cases hp : p
  · rw [if_pos hp, if_pos (hpq.1 hp)]; exact h
  · rw [if_neg hp, if_neg (fun hq => hp (hpq.2 hq))]; exact h'

theorem Dev.agrees.gb (h : a.agrees b) {f : Fld} {i j : Nat} (hf : f.reg ∈ larRegs) (hi : i < 65536)
    (hj : j < 256) : b.gb f i j = a.gb f i j := h.regs.gb hf hi hj

theorem Dev.agrees.readCell (h : a.agrees b) (x : Nat) : b.readCell x = a.readCell x :=
  Dev.readCell_congr h.regs (by decide) x

theorem Dev.agrees.larWord (h : a.agrees b) (x : Nat) : b.larWord x = a.larWord x :=
  Dev.larWord_congr h.regs (by decide) (by rw [h.lar]) x

theorem Dev.agrees.larSeen (h : a.agrees b) (x : Nat) (u : BitVec 72) : b.larSeen x u = a.larSeen x u := by
  rw [Dev.larSeen, Dev.larSeen, h.larWord]

theorem Dev.agrees.larSee (h : a.agrees b) (x : Nat) (u : BitVec 72) (same : Bool) :
    (a.larSee x u same).agrees (b.larSee x u same) := by
  have hu : (a.larUpset x u).agrees (b.larUpset x u) := by
    have he : b.larUpset x u = b.setLarCell (a.readCell x) (a.larSeen x u) := by
      rw [← h.readCell, ← h.larSeen]; rfl
    rw [he]
    exact h.onLar fun l => { l with words := Map.put (fun _ => {}) l.words (a.readCell x) (a.larSeen x u) }
  exact Dev.agrees.ite Iff.rfl hu (hu.onLar fun l => { l with eG := false })

theorem Dev.agrees.larSingle (h : a.agrees b) (x : Nat) (v : BitVec 64) :
    (a.larSingle x v).agrees (b.larSingle x v) := by
  have hq := larQuad_lt x
  have hn : ((a.cnt F.LAR_ECC_CORR (larQuad x) 0).notice 0x30 x).agrees
      ((b.cnt F.LAR_ECC_CORR (larQuad x) 0).notice 0x30 x) :=
    (h.cnt 1 (by decide) (by omega) (by decide)).raise _ _ _
  unfold Dev.larSingle
  dsimp only
  rw [hn.gb (f := F.LAR_CTRL_WB_EN) (by decide) (by decide) (by decide)]
  split_ifs
  · exact hn.onLar fun l => { l with writeback := l.writeback ++ [(x, v)] }
  · exact hn

theorem Dev.agrees.larRecord (h : a.agrees b) (x req : Nat) : (a.larRecord x req).agrees (b.larRecord x req) :=
  ((((h.sf 1 (by decide) (by decide) (by decide)).sf _ (by decide) (by decide) (by decide)).sf req (by decide)
    (by decide) (by decide)).sf x (by decide) (by decide) (by decide)).onLar fun l => { l with eG := !timedId req }

theorem Dev.agrees.larDouble (h : a.agrees b) (x req : Nat) (same : Bool) :
    (a.larDouble x req same).agrees (b.larDouble x req same) := by
  have hq := larQuad_lt x
  have hn := (h.cnt (f := F.LAR_ECC_UNCORR) (i := larQuad x) (j := 0) 1 (by decide) (by omega) (by decide)).raise
    0x31 .fault x
  have hfree : (!a.gb F.LAR_EADDR_VALID || (same && timedId req && a.lar.eG)) =
      (!b.gb F.LAR_EADDR_VALID || (same && timedId req && b.lar.eG)) := by
    rw [h.gb (f := F.LAR_EADDR_VALID) (by decide) (by decide) (by decide), h.lar]
  unfold Dev.larDouble
  dsimp only
  rw [hfree]
  split_ifs
  · exact hn.larRecord x req
  · exact hn

theorem Dev.agrees.larFetch (h : a.agrees b) (x req : Nat) (u : BitVec 72) (same : Bool) :
    (a.larFetch x req u same).1.agrees (b.larFetch x req u same).1 := by
  have hs := h.larSee x u same
  rw [Dev.larFetch_eq, Dev.larFetch_eq, h.larSeen]
  unfold Dev.larFound
  dsimp only
  split
  · exact hs
  · exact hs.larSingle x _
  · exact hs.larDouble x req same

theorem Dev.agrees.larStore (h : a.agrees b) (x : Nat) (v : BitVec 64) : (a.larStore x v).agrees (b.larStore x v) := by
  have hcells (l : List Nat) : ∀ a b : Dev, a.agrees b → (a.setLarCells l ⟨v, 0⟩).agrees (b.setLarCells l ⟨v, 0⟩) := by
    induction l with
    | nil => exact fun _ _ h => h
    | cons y l ih =>
      exact fun _ _ h => ih _ _ (h.onLar fun l => { l with words := Map.put (fun _ => {}) l.words y ⟨v, 0⟩ })
  have hw : b.writeCells x = a.writeCells x := Dev.writeCells_congr h.regs (by decide) (by rw [h.lar]) x
  rw [Dev.larStore, Dev.larStore, hw]
  exact (hcells _ _ _ h).onLar fun l => { l with writeback := l.writeback.filter (fun e => e.1 != x) }

theorem Dev.agrees.larModify (h : a.agrees b) (x req : Nat) (u : BitVec 72) (f : BitVec 64 → BitVec 64) :
    (a.larModify x req u f).1.agrees (b.larModify x req u f).1 ∧
      (b.larModify x req u f).2 = (a.larModify x req u f).2 := by
  rw [Dev.larModify_eq, Dev.larModify_eq, h.larSeen]
  split_ifs
  · exact ⟨h.larFetch x req u false, rfl⟩
  · exact ⟨(h.larFetch x req u false).larStore x _, rfl⟩

/-- An access does the same to devices that agree. -/
theorem Dev.agrees.larTouch (h : a.agrees b) (req : Nat) (o : LarOp) (w : Work) (u : BitVec 72) (lost same : Bool) :
    (a.larTouch req o w u lost same).1.agrees (b.larTouch req o w u lost same).1 ∧
      (b.larTouch req o w u lost same).2 = (a.larTouch req o w u lost same).2 := by
  by_cases hr : o.op = opRead
  · rw [Dev.larTouch_of_read _ _ _ _ _ _ _ hr, Dev.larTouch_of_read _ _ _ _ _ _ _ hr, h.larSeen]
    exact ⟨h.larFetch _ _ _ _, rfl⟩
  · by_cases hw : o.op = opWrite
    · have hq := larQuad_lt (o.addr + w.done)
      have hs := h.larStore (o.addr + w.done) (o.data.getD w.done 0)
      rw [Dev.larTouch_of_write _ _ _ _ _ _ _ hw, Dev.larTouch_of_write _ _ _ _ _ _ _ hw]
      exact ⟨Dev.agrees.ite Iff.rfl (hs.cnt 1 (by decide) (by omega) (by decide)) hs, rfl⟩
    · have hm := h.larModify (o.addr + w.done) req u o.apply
      rw [Dev.larTouch_of_bit _ _ _ _ _ _ _ hr hw, Dev.larTouch_of_bit _ _ _ _ _ _ _ hr hw, hm.2]
      exact ⟨hm.1, rfl⟩

end

end Sys2Proof.Machine
end

section
/-! PROOFS. Cycles of an arbiter (R169 to R181): what they leave alone, how a requester gets to its turn, and a beat of
the owner. -/

namespace Sys2Proof.Machine

/-! ### What an arbiter's cycles leave alone -/

/-- Work of the arbiters: the Larder with its registers, and the packets that wait, stay. -/
structure Dev.arbWorked (d d' : Dev) : Prop where
  same : d.agrees d'
  held : d'.held = d.held

section
variable {a b c : Dev}

theorem Dev.arbWorked_refl (d : Dev) : d.arbWorked d := ⟨d.agrees_refl, rfl⟩

theorem Dev.arbWorked.trans (h : a.arbWorked b) (h' : b.arbWorked c) : a.arbWorked c :=
  ⟨h.same.trans h'.same, h'.held.trans h.held⟩

theorem Dev.arbWorked.onArb (h : a.arbWorked b) {n : Nat} {f : Arbiter → Arbiter} : a.arbWorked (b.onArb n f) :=
  h.trans ⟨⟨rfl, Dev.sameOn_refl _ _⟩, rfl⟩

theorem Dev.arbWorked.sf (h : a.arbWorked b) {f : Fld} {i j v : Nat} (hf : f.reg ∉ larRegs) (hi : i < 65536)
    (hj : j < 256) : a.arbWorked (b.sf f i j v) := h.trans ⟨⟨rfl, b.sameOn_sf v hf hi hj⟩, rfl⟩

theorem Dev.arbWorked.noticeFree (h : a.arbWorked b) {src : Nat} : a.arbWorked (b.noticeFree src) :=
  h.trans ⟨⟨Dev.lar_noticeFree _ _, fun k hk i j hi hj =>
    Dev.reg_noticeFree b src (by revert k; decide) hi hj⟩, Dev.held_noticeFree _ _⟩

theorem Dev.arbWorked.each {α : Type} {l : List α} {f : Dev → α → Dev} (h : a.arbWorked b)
    (hf : ∀ (d : Dev), ∀ x ∈ l, d.arbWorked (f d x)) : a.arbWorked (b.each l f) :=
  h.trans (List.foldlRecOn l f (motive := fun t => b.arbWorked t) b.arbWorked_refl fun t ht x hx => ht.trans (hf t x hx))

/-- The kinds of `larRegs` stand before the counters of requesters. -/
theorem key_lt_of_larRegs {k : RK} (hk : k ∈ larRegs) {i j : Nat} (hi : i < 65536) (hj : j < 256) :
    k.key i j < RK.ARB_REQ_WAIT.key 0 0 := by
  have hc : k.ctorIdx < RK.ARB_REQ_WAIT.ctorIdx := by revert k; decide
  unfold RK.key
  omega

/-- A requester's waits are counted, whatever its ID. -/
theorem Dev.arbWorked.cntWait (h : a.arbWorked b) {n i : Nat} : a.arbWorked (b.cnt F.ARB_REQ_WAIT_COUNT n i) :=
  h.trans ⟨⟨rfl, fun k hk i' j' hi hj => b.reg_setReg_of_key_ne _ (by
    have := key_lt_of_larRegs hk hi hj
    unfold RK.key at *
    dsimp only
    omega)⟩, rfl⟩

theorem Dev.arbWorked.quadState (h : a.arbWorked b) {q : Nat} (hq : q < 65536) : b.quadState q = a.quadState q :=
  h.same.regs.gf (f := F.LAR_QSTAT_STATE) (by decide) hq (by decide)

end

/-! ### The steps of a cycle -/

section
variable (d : Dev) {n : Nat}

/-- A waiting request whose age has reached its end is noted (R174). -/
def ArbReq.note (r : ArbReq) : ArbReq := if timedId r.id && r.age == 65535 then { r with noted := true } else r

theorem ArbReq.id_note (r : ArbReq) : r.note.id = r.id := by
  unfold ArbReq.note
  split_ifs <;> rfl

/-- The NOTICEs for ages change nothing of an arbiter but that requests are noted. -/
theorem Dev.arbNoteAges_spec : d.arbWorked (d.arbNoteAges n) ∧
    (d.arbNoteAges n).arb n = { d.arb n with reqs := (d.arb n).reqs.map ArbReq.note } := by
  refine ⟨d.arbWorked_refl.onArb.each fun e _ _ => e.arbWorked_refl.noticeFree, ?_⟩
  unfold Dev.arbNoteAges
  dsimp only
  rw [Dev.each, foldl_keeps (fun e : Dev => e.arb n) _ _ (fun e _ _ => Dev.arb_noticeFree e _ _), Dev.arb_onArb]
  rfl

/-- A cycle's wait changes nothing of an arbiter but what its waiting requests count. -/
theorem Dev.arbWait_spec : d.arbWorked (d.arbWait n) ∧
    (d.arbWait n).arb n = { d.arb n with reqs := (d.arb n).reqs.map fun r => r.older.note } := by
  have hcount : (d.each (d.arb n).reqs fun d r => d.cnt F.ARB_REQ_WAIT_COUNT n r.id).arb n = d.arb n :=
    foldl_keeps (fun e : Dev => e.arb n) _ _ (fun e r _ => e.arb_cnt _ _ _ _ _) d
  obtain ⟨hw, ha⟩ := Dev.arbNoteAges_spec ((d.each (d.arb n).reqs fun d r =>
    d.cnt F.ARB_REQ_WAIT_COUNT n r.id).onArb n (fun x => { x with reqs := (d.arb n).reqs.map ArbReq.older })) (n := n)
  refine ⟨((d.arbWorked_refl.each fun e _ _ => e.arbWorked_refl.cntWait).onArb).trans hw, ?_⟩
  rw [Dev.arb_onArb, hcount, List.map_map] at ha
  exact ha

theorem Dev.arbDecide_of_owner {frozen : Bool} (h : (d.arb n).owner.isSome = true) : d.arbDecide n frozen = d := by
  simp [Dev.arbDecide, h]

theorem Dev.arbDecide_of_pick {r : ArbReq} (h : (d.arb n).owner = none)
    (hp : d.arbPick n (d.arb n).last (d.arb n).reqs = some r) :
    d.arbDecide n false =
      d.onArb n (fun x => { x with chosen := some r.id, chosenClass := d.gf F.ARB_REQ_CFG_CLASS n r.id }) := by
  simp [Dev.arbDecide, h, hp]

theorem Dev.arbWorked_arbDecide (frozen : Bool) : d.arbWorked (d.arbDecide n frozen) := by
  unfold Dev.arbDecide
  dsimp only
  split_ifs
  · exact d.arbWorked_refl
  · split
    · exact d.arbWorked_refl
    · exact d.arbWorked_refl.onArb

theorem Dev.arbBegin_of_none {low : List Nat} (h : (d.arb n).chosen = none) : d.arbBegin n low = d := by
  simp only [Dev.arbBegin, h]

/-- The grant begins (R173). -/
theorem Dev.arbBegin_of_chosen {i : Nat} {r : ArbReq} (h : (d.arb n).chosen = some i)
    (hr : (d.arb n).find i = some r) (hi : i < 256) (hn : n < 12) :
    d.arbWorked (d.arbBegin n []) ∧ ∃ l last, (d.arbBegin n []).arb n = { d.arb n with
      chosen := none, owner := some i, beats := 0, burst := d.gf F.ARB_REQ_CFG_BURST n i + 1, stuck := 0
      reqs := l, last := last } := by
  simp only [Dev.arbBegin, h, hr, List.contains_nil, Bool.false_eq_true, if_false, Dev.gf_onArb]
  refine ⟨(d.arbWorked_refl.onArb.onArb.sf (by decide) (by omega) hi).sf (by decide) (by omega) hi,
    (d.arb n).reqs.filter (fun q => q.id != i), moveLast (d.arb n).last (d.arb n).chosenClass i, ?_⟩
  rw [Dev.arb_sf, Dev.arb_cnt, Dev.arb_onArb, Dev.arb_onArb]

theorem Dev.arbWorked_arbOwner {c : ArbCycle} (hc : c.beat = true) (ht : (d.arb n).owner ≠ some testId) :
    d.arbWorked (d.arbOwner n c).1 := by
  unfold Dev.arbOwner
  dsimp only
  split
  · exact d.arbWorked_refl
  · rename_i i ho
    have hi : i ≠ testId := fun he => ht (he ▸ ho)
    simp only [hc, hi, decide_false, Bool.and_false, Bool.false_eq_true, if_false, Bool.true_and, Bool.not_true,
      Bool.false_and, if_true, apply_ite Prod.fst]
    split_ifs
    · exact d.arbWorked_refl.onArb.onArb
    · exact d.arbWorked_refl.onArb.onArb
    · exact d.arbWorked_refl.onArb.onArb
    · exact d.arbWorked_refl.onArb

theorem Dev.arbOwner_of_free {c : ArbCycle} (h : (d.arb n).owner = none) : d.arbOwner n c = (d, none) := by
  simp only [Dev.arbOwner, h]

/-- The owner moves a beat that is not the last of its request or of its burst (R172). -/
theorem Dev.arbOwner_goesOn {c : ArbCycle} {i : Nat} (hc : c = { beat := true }) (ho : (d.arb n).owner = some i)
    (hi : i ≠ testId) (hl : d.lineWork n i = true) (hb : (d.arb n).beats + 1 < (d.arb n).burst) :
    d.arbOwner n c = (d.onArb n (fun x => { x with beats := (d.arb n).beats + 1, stuck := 0 }), none) := by
  subst hc
  simp [Dev.arbOwner, ho, hi, hl, Nat.not_le.2 hb]

end

/-! ### Whole cycles -/

section
variable (d : Dev) {n i : Nat} (busy : Option Nat)

/-- Who has no work lowers its request. -/
def Dev.arbLower (d : Dev) (n : Nat) : Dev :=
  d.onArb n fun x => x.lower (((d.arb n).reqs.map (·.id)).filter fun i => !d.lineWork n i)

/-- What follows the owner's beat in a cycle: the decision and the wait. -/
def Dev.arbRest (d : Dev) (n : Nat) (frozen : Bool) : Dev := (d.arbDecide n frozen).arbWait n

/-- Who is named requests again. -/
def Dev.arbAgain (d : Dev) (n : Nat) : Option Nat → Dev
  | none => d
  | some i => d.onArb n (fun x => x.raise i)

/-- A cycle in which no winner stands and none is told to lower its request. -/
theorem Dev.arbCycle_eq {c : ArbCycle} (hup : d.arbUp n = true) (hch : (d.arb n).chosen = none) (hlow : c.lowered = []) :
    d.arbCycle n c busy = ((((d.arbLower n).arbOwner n c).1.arbRest n (d.gb F.ARB_CTRL_FREEZE n)).arbAgain n
      ((d.arbLower n).arbOwner n c).2).onArb n (fun x => { x with now := x.now + 1, port := busy }) := by
  simp only [Dev.arbCycle, hup, hlow, Bool.not_true, Bool.false_eq_true, if_false, List.map_nil, List.nil_append,
    d.arbBegin_of_none hch, Dev.arbLower, Dev.arbRest, Dev.gb_onArb]
  generalize Dev.arbOwner _ n c = r
  obtain ⟨e, k⟩ := r
  cases k <;> rfl

theorem Dev.arb_arbLower : (d.arbLower n).arb n =
    (d.arb n).lower (((d.arb n).reqs.map (·.id)).filter fun i => !d.lineWork n i) := Dev.arb_onArb _ _ _

theorem Dev.arbWorked_arbAgain (k : Option Nat) : d.arbWorked (d.arbAgain n k) := by
  cases k with
  | none => exact d.arbWorked_refl
  | some i => exact d.arbWorked_refl.onArb (n := n) (f := fun x => x.raise i)

theorem Dev.arbWorked_arbRest (frozen : Bool) : d.arbWorked (d.arbRest n frozen) :=
  (d.arbWorked_arbDecide _).trans (Dev.arbWait_spec _).1

variable {d} (hup : d.arbUp n = true) (hch : (d.arb n).chosen = none)
include hup hch

/-- A beat of an owner other than the test leaves the Larder and the waiting packets alone. -/
theorem Dev.arbWorked_beat {last : Bool} (ht : (d.arb n).owner ≠ some testId) :
    d.arbWorked (d.arbCycle n { beat := true, last := last } busy) := by
  have ht' : ((d.arbLower n).arb n).owner ≠ some testId := by rw [d.arb_arbLower]; exact ht
  have ho : d.arbWorked ((d.arbLower n).arbOwner n { beat := true, last := last }).1 :=
    d.arbWorked_refl.onArb.trans (Dev.arbWorked_arbOwner _ rfl ht')
  rw [d.arbCycle_eq busy hup hch rfl]
  exact ((ho.trans (Dev.arbWorked_arbRest _ _)).trans (Dev.arbWorked_arbAgain _ _)).onArb

/-- The owner's turn goes on after a beat that ends neither its request nor its burst. -/
theorem Dev.arb_beat (ho : (d.arb n).owner = some i) (hi : i ≠ testId)
    (hl : (d.arbLower n).lineWork n i = true) (hb : (d.arb n).beats + 1 < (d.arb n).burst) :
    ∃ l, (d.arbCycle n { beat := true } busy).arb n = { (d.arbLower n).arb n with
      beats := (d.arb n).beats + 1, stuck := 0, port := busy, now := (d.arb n).now + 1, reqs := l } := by
  have ho' : ((d.arbLower n).arb n).owner = some i := by rw [d.arb_arbLower]; exact ho
  have hb' : ((d.arbLower n).arb n).beats + 1 < ((d.arbLower n).arb n).burst := by rw [d.arb_arbLower]; exact hb
  rw [d.arbCycle_eq busy hup hch rfl, Dev.arbOwner_goesOn _ rfl ho' hi hl hb', Dev.arb_onArb, Dev.arbAgain, Dev.arbRest,
    (Dev.arbWait_spec _).2, Dev.arbDecide_of_owner _ (by rw [Dev.arb_onArb]; exact ho' ▸ rfl), Dev.arb_onArb,
    d.arb_arbLower]
  exact ⟨_, rfl⟩

end

/-! ### Getting to a turn -/

theorem Arbiter.work_lower {x : Arbiter} {i : Nat} (h : x.owner = some i) (dflt : Nat → Work) (low : List Nat) :
    Map.get dflt (x.lower low).work i = Map.get dflt x.work i := by
  refine (Map.get_filter dflt x.work (fun k => x.owner == some k || !low.contains k) i).trans (if_pos ?_)
  simp [h]

section
variable {d : Dev} {n i : Nat} (hn : n < 8)

theorem arbDram_of_lt (hn : n < 8) : arbDram n = false := decide_eq_false (Nat.not_le.2 hn)

/-- What waits in front of a quadrant's arbiter depends on the waiting packets alone. -/
theorem Dev.roomQueue_congr {d' : Dev} (h : d'.held = d.held) (hn : n < 8) (i : Nat) :
    d'.roomQueue n i = d.roomQueue n i := by
  simp only [Dev.roomQueue, Dev.waitList, arbTarget, if_pos hn, Dev.arbTargets, arbDram_of_lt hn, Bool.false_and, h]

theorem Dev.lineWork_congr {d' : Dev} (h : d'.held = d.held) (hn : n < 8) (hi : i ≠ testId) :
    d'.lineWork n i = d.lineWork n i := by
  have hi' : (i != testId) = true := by simpa using hi
  rw [Dev.lineWork, Dev.lineWork, Dev.roomQueue_congr h hn, hi', Bool.true_or, Bool.true_or]

theorem Dev.larBehind_congr {d' : Dev} (h : d'.held = d.held) (hn : n < 8) (i : Nat) (o : LarOp) :
    d'.larBehind n i o = d.larBehind n i o := by
  rw [Dev.larBehind, Dev.larBehind, Dev.roomQueue_congr h hn, h]

theorem Dev.arbUp_of_quad (hn : n < 8) (h : d.quadState (n / 2) = 2) : d.arbUp n = true := by
  rw [Dev.arbUp, if_pos hn, h]
  rfl

/-- An arbiter with one request grants it. -/
theorem Dev.arbPick_single (d : Dev) (n : Nat) (last : Map Nat) (r : ArbReq) : d.arbPick n last [r] = some r := by
  cases hb : d.boosted n r <;> cases ht : timedId r.id <;>
    simp [Dev.arbPick, Dev.classPick, firstBy, hb, ht]

/-- A requester raises its line at an idle arbiter and is chosen in the next cycle (R171, R172). -/
theorem Dev.turn_of_free (hn : n < 8) (hup : d.arbUp n = true) (hch : (d.arb n).chosen = none)
    (ho : (d.arb n).owner = none) (hr : (d.arb n).reqs = []) (hz : d.gb F.ARB_CTRL_FREEZE n = false)
    (hreach : arbReaches n i = true) (hf : d.fenced n i = false) (hl : d.lineWork n i = true) (hi : i ≠ testId) :
    d.arbWorked (d.turn n i) ∧ ∃ now cls, (d.turn n i).arb n = { d.arb n with
      now := now, chosen := some i, chosenClass := cls, reqs := [({ id := i } : ArbReq).older.note], port := none } := by
  have hraise : d.arbRequest n i = d.onArb n (fun x => x.raise i) := by
    simp [Dev.arbRequest, hreach, arbDram_of_lt hn, hup, hf, hl]
  have harb : (d.onArb n (fun x => x.raise i)).arb n = { d.arb n with reqs := [{ id := i }] } := by
    simp [Arbiter.raise, ho, hr]
  have hmay : d.mayMove n i = false := by simp [Dev.mayMove, ho, hch]
  have hnext : (d.onArb n (fun x => x.raise i)).nextIs n i = true := by
    simp [Dev.nextIs, harb, ho, hch, hz, Dev.arbPick_single]
  have hturn : d.turn n i = (d.onArb n (fun x => x.raise i)).arbCycle n {} := by
    simp [Dev.turn, hmay, hraise, hnext]
  have hl' : (d.onArb n (fun x => x.raise i)).lineWork n i = true := (Dev.lineWork_congr rfl hn hi).trans hl
  have hlow : ((d.onArb n (fun x => x.raise i)).arbLower n).arb n = { d.arb n with reqs := [{ id := i }] } := by
    rw [Dev.arb_arbLower, harb]
    simp [hl', Arbiter.lower]
  have hdecide : ((d.onArb n (fun x => x.raise i)).arbLower n).arbDecide n false = _ :=
    Dev.arbDecide_of_pick _ (by rw [hlow]; exact ho) (by rw [hlow]; exact Dev.arbPick_single _ _ _ _)
  have hcycle := (d.onArb n (fun x => x.raise i)).arbCycle_eq (c := {}) none hup (by rw [harb]; exact hch) rfl
  rw [hturn, hcycle, Dev.arbOwner_of_free _ (by rw [hlow]; exact ho), Dev.gb_onArb, hz]
  refine ⟨(d.arbWorked_refl.onArb.onArb.trans (Dev.arbWorked_arbRest _ _)).onArb, ?_⟩
  rw [Dev.arb_onArb, Dev.arbAgain, Dev.arbRest, (Dev.arbWait_spec _).2, hdecide, Dev.arb_onArb, hlow]
  exact ⟨_, _, rfl⟩

end

end Sys2Proof.Machine
end

section
/-! PROOFS. A Larder request served whole (R156, R171, R172): the row of a requester whose turn has come is one access
after another to the words, and its answer. -/

namespace Sys2Proof.Machine

/-! ### Words accessed one after another -/

/-- The words of a request, one for each entry, without arbiter or port. -/
def Dev.larTouches (d : Dev) (req : Nat) (o : LarOp) (same : Bool) : Work → List (BitVec 72 × Bool) → Dev × Work
  | w, [] => (d, w)
  | w, e :: l => Dev.larTouches (d.larTouch req o w e.1 e.2 same).1 req o same (d.larTouch req o w e.1 e.2 same).2 l

theorem Dev.agrees.larTouches {req : Nat} {o : LarOp} {same : Bool} {l : List (BitVec 72 × Bool)} :
    ∀ {a b : Dev} {w : Work}, a.agrees b → (a.larTouches req o same w l).1.agrees (b.larTouches req o same w l).1 ∧
      (b.larTouches req o same w l).2 = (a.larTouches req o same w l).2 := by
  induction l with
  | nil => exact fun h => ⟨h, rfl⟩
  | cons e l ih =>
    intro a b w h
    obtain ⟨h1, h2⟩ := h.larTouch req o w e.1 e.2 same
    rw [Dev.larTouches, Dev.larTouches, h2]
    exact ih h1

/-! ### The answer (R78, R160) -/

/-- The answer of a request wholly served. -/
def Work.answer (w : Work) : Answer := if w.bad then ⟨stEccUncorr, []⟩ else ⟨stOk, w.got⟩

/-- The device with an answer at the port. -/
def Dev.answering (d : Dev) (x : Answer) : Dev := { d with lar := { d.lar with answer := x } }

@[simp] theorem Dev.answer_answering (d : Dev) (x : Answer) : (d.answering x).lar.answer = x := rfl
@[simp] theorem Dev.writeback_answering (d : Dev) (x : Answer) :
    (d.answering x).lar.writeback = d.lar.writeback := rfl
@[simp] theorem Dev.larWord_answering (d : Dev) (x : Answer) (y : Nat) : (d.answering x).larWord y = d.larWord y := rfl
@[simp] theorem Dev.gf_answering (d : Dev) (x : Answer) (f : Fld) (i j : Nat) :
    (d.answering x).gf f i j = d.gf f i j := rfl

theorem Dev.agrees.answering {a b : Dev} (h : a.agrees b) (x : Answer) : (a.answering x).agrees (b.answering x) :=
  h.onLar fun l => { l with answer := x }

/-- The answer to a waiting packet changes neither Larder nor arbiter. -/
theorem Dev.answerNo_keeps (d : Dev) (no st : Nat) (data : List (BitVec 64)) :
    (d.answerNo no st data).lar = d.lar ∧ (d.answerNo no st data).arbs = d.arbs ∧
      (d.answerNo no st data).regs = d.regs := by
  unfold Dev.answerNo Dev.answerAt
  split
  · exact ⟨rfl, rfl, rfl⟩
  · split
    · exact ⟨rfl, rfl, rfl⟩
    · exact ⟨rfl, rfl, rfl⟩

theorem Dev.larAnswer_keeps (d : Dev) (no : Option Nat) (st : Nat) (data : List (BitVec 64)) :
    (d.answering ⟨st, data⟩).agrees (d.larAnswer no st data) ∧ (d.larAnswer no st data).arbs = d.arbs := by
  cases no with
  | none => exact ⟨Dev.agrees_refl _, rfl⟩
  | some no =>
    obtain ⟨hl, ha, hr⟩ := (d.answering ⟨st, data⟩).answerNo_keeps no st data
    exact ⟨⟨hl, Dev.sameOn_of_regs hr⟩, ha⟩

theorem Dev.larEnd_keeps (d : Dev) (no : Option Nat) (w : Work) :
    (d.answering w.answer).agrees (d.larEnd no w) ∧ (d.larEnd no w).arbs = d.arbs := by
  unfold Dev.larEnd Work.answer
  cases w.bad
  · exact d.larAnswer_keeps no stOk w.got
  · exact d.larAnswer_keeps no stEccUncorr []

/-! ### A requester in its turn -/

/-- Requester `i` holds the grant with room for `m` more beats, of which the request has moved those of `w`. -/
structure Dev.inTurn (d : Dev) (n i m : Nat) (o : LarOp) (w : Work) : Prop where
  up : d.quadState (n / 2) = 2
  owner : (d.arb n).owner = some i
  chosen : (d.arb n).chosen = none
  port : (d.arb n).port = none
  room : (d.arb n).beats + m ≤ (d.arb n).burst
  work : Map.get (fun _ => { op := o.op, addr := o.addr, len := o.len }) (d.arb n).work i = w
  line : d.lineWork n i = true

/-- At `d` requester `i` gets to its turn, and its grant has begun at `d'`. -/
structure Dev.reaches (d d' : Dev) (n i : Nat) : Prop where
  may : (d.turn n i).mayMove n i = true
  begun : ∀ bank, (d.turn n i).portFree n bank = d'
  work : ((d.turn n i).arb n).work = (d'.arb n).work

section
variable {d d' : Dev} {n i m : Nat} {o : LarOp} {w : Work}

theorem Dev.portFree_of_free (hp : (d.arb n).port = none) (bank : Nat) : d.portFree n bank = d.arbBegin n [] := by
  simp [Dev.portFree, hp]

theorem Dev.inTurn.reaches (h : d.inTurn n i m o w) : d.reaches d n i := by
  have hmay : d.mayMove n i = true := by simp [Dev.mayMove, h.owner]
  have hturn : d.turn n i = d := by simp [Dev.turn, hmay]
  refine ⟨by rw [hturn, hmay], fun bank => ?_, by rw [hturn]⟩
  rw [hturn, Dev.portFree_of_free h.port, d.arbBegin_of_none h.chosen]

theorem Map.get_of_no_key {α : Type} (dflt : Nat → α) {t : Map α} {k : Nat} (h : ∀ e ∈ t, e.1 ≠ k) :
    Map.get dflt t k = dflt k := by
  induction t with
  | nil => rfl
  | cons e t ih =>
    simp only [Map.get, if_neg (h e List.mem_cons_self)]
    exact ih fun e he => h e (List.mem_cons_of_mem _ he)

/-- A requester whose turn has come reaches it, and nothing of its request is served yet. -/
theorem Dev.holdsTurn_reaches (h : d.holdsTurn n i m) (hn : n < 8) (hi : i < 83) (ht : i ≠ testId)
    (hup : d.quadState (n / 2) = 2) : ∃ d', d.reaches d' n i ∧ d.arbWorked d' ∧
      d'.inTurn n i m o { op := o.op, addr := o.addr, len := o.len } := by
  obtain ⟨hch, hport, hwork, hline, hreach, hf, ⟨ho, hroom⟩ | ⟨ho, hr, hz, hroom⟩⟩ := h
  · have hturn : d.inTurn n i m o { op := o.op, addr := o.addr, len := o.len } :=
      ⟨hup, ho, hch, hport, hroom, Map.get_of_no_key _ hwork, hline⟩
    exact ⟨d, hturn.reaches, d.arbWorked_refl, hturn⟩
  · obtain ⟨hw, now, cls, harb⟩ := Dev.turn_of_free hn (Dev.arbUp_of_quad hn hup) hch ho hr hz hreach hf hline ht
    have hfind : ((d.turn n i).arb n).find i = some (({ id := i } : ArbReq).older.note) := by
      rw [harb]
      simp [Arbiter.find, ArbReq.id_note, ArbReq.older]
    obtain ⟨hw', l, last, harb'⟩ := Dev.arbBegin_of_chosen (d.turn n i) (by rw [harb]) hfind (by omega) (by omega)
    have hburst : (d.turn n i).gf F.ARB_REQ_CFG_BURST n i = d.gf F.ARB_REQ_CFG_BURST n i :=
      hw.same.regs.gf (by decide) (by omega) (by omega)
    rw [harb] at harb'
    refine ⟨(d.turn n i).arbBegin n [], ⟨?_, Dev.portFree_of_free (by rw [harb]), by rw [harb', harb]⟩, hw.trans hw',
      ⟨?_, by rw [harb'], by rw [harb'], by rw [harb'], ?_, ?_, ?_⟩⟩
    · rw [Dev.mayMove, hfind, harb]
      simp [ho]
    · rw [(hw.trans hw').quadState (by omega), hup]
    · rw [harb', hburst]
      simpa using hroom
    · rw [harb']
      exact Map.get_of_no_key _ hwork
    · exact (Dev.lineWork_congr (hw.trans hw').held hn ht).trans hline

/-! ### One beat of a request -/

/-- The request is answered, and no more of it is known. -/
def Dev.larLast (d : Dev) (n i : Nat) (no : Option Nat) (w : Work) : Dev :=
  (d.onArb n (fun x => x.forget i)).larEnd no w

/-- So much of the request has been served. -/
def Dev.larNext (d : Dev) (n i : Nat) (w : Work) : Dev := d.onArb n (fun x => { x with work := x.work.insert i w })

section
variable {no : Option Nat} {here real : Nat} (hb : d.larBehind (larArb m i) i o = some (no, here, real))
  (hr : d.reaches d' (larArb m i) i)
  (hw : Map.get (fun _ => { op := o.op, addr := o.addr, len := o.len }) (d'.arb (larArb m i)).work i = w)
  (hsame : w.op = o.op ∧ w.addr = o.addr ∧ w.len = o.len) (hhere : w.done < here) (hreal : w.done < real)
include hb hr hw hsame hhere hreal

/-- The last beat of a request. -/
theorem Dev.larBeat_last (hl : w.done + 1 = o.beats) (u : BitVec 72) (lost same : Bool) :
    d.larBeat m i o u lost same =
      (((d'.larTouch i o w u lost same).1.larLast (larArb m i) i no
        (d'.larTouch i o w u lost same).2).beat (larArb m i) (larBank (o.addr + w.done)) true
          (o.op != opRead && o.op != opWrite), true) := by
  obtain ⟨hop, haddr, hlen⟩ := hsame
  simp only [Dev.larBeat, hb, hr.work, hw, hr.may, hr.begun, hop, haddr, hlen]
  simp [hhere, hreal, hl, Nat.not_le.2, Dev.larLast]

/-- A beat that is not the last of its request. -/
theorem Dev.larBeat_goesOn (hl : w.done + 1 ≠ o.beats) (u : BitVec 72) (lost same : Bool) :
    d.larBeat m i o u lost same =
      (((d'.larTouch i o w u lost same).1.larNext (larArb m i) i (d'.larTouch i o w u lost same).2).beat (larArb m i)
        (larBank (o.addr + w.done)) false (o.op != opRead && o.op != opWrite), false) := by
  obtain ⟨hop, haddr, hlen⟩ := hsame
  have hl' : (w.done + 1 == o.beats) = false := beq_eq_false_iff_ne.2 hl
  simp only [Dev.larBeat, hb, hr.work, hw, hr.may, hr.begun, hop, haddr, hlen]
  simp [hhere, hreal, hl', Nat.not_le.2, Dev.larNext]

end

theorem larArb_lt (q i : Nat) (hq : q < 4) : larArb q i < 8 := by
  unfold larArb
  split_ifs <;> omega

theorem larArb_div (q i : Nat) : larArb q i / 2 = q := by
  unfold larArb
  split_ifs <;> omega

theorem Dev.touched.quadState {a b : Dev} (h : a.touched b) {q : Nat} (hq : q < 65536) :
    b.quadState q = a.quadState q := h.regs.gf (f := F.LAR_QSTAT_STATE) (by decide) hq (by decide)

theorem Dev.touched.arb {a b : Dev} (h : a.touched b) (n : Nat) : b.arb n = a.arb n := by
  rw [Dev.arb, Dev.arb, h.arbs]

theorem Dev.agrees.quadState {a b : Dev} (h : a.agrees b) {q : Nat} (hq : q < 65536) :
    b.quadState q = a.quadState q := h.regs.gf (f := F.LAR_QSTAT_STATE) (by decide) hq (by decide)

/-- A touch of the Larder leaves the turn as it is. -/
theorem Dev.inTurn.touched {a b : Dev} (h : a.inTurn n i m o w) (ht : a.touched b) (hn : n < 8) (hi : i ≠ testId) :
    b.inTurn n i m o w := by
  obtain ⟨hup, ho, hch, hp, hroom, hw, hl⟩ := h
  have harb := ht.arb n
  refine ⟨(ht.quadState (by omega)).trans hup, ?_, ?_, ?_, ?_, ?_, (Dev.lineWork_congr ht.held hn hi).trans hl⟩
  all_goals rwa [harb]

section
variable (hn : n < 8) (ht : i ≠ testId) (h : d.inTurn n i (m + 1) o w) (bank : Nat)
include hn ht h

/-- After the last beat the request is answered. -/
theorem Dev.inTurn.last (no : Option Nat) (w' : Work) (bit : Bool) :
    (d.answering w'.answer).agrees ((d.larLast n i no w').beat n bank true bit) := by
  obtain ⟨hend, harbs⟩ := (d.onArb n (fun x => x.forget i)).larEnd_keeps no w'
  have harb : (d.larLast n i no w').arb n = (d.arb n).forget i := by
    rw [Dev.larLast, Dev.arb, harbs, ← Dev.arb, Dev.arb_onArb]
  have hup : (d.larLast n i no w').quadState (n / 2) = 2 := (hend.quadState (by omega)).trans h.up
  have hsame : (d.answering w'.answer).agrees (d.larLast n i no w') :=
    Dev.agrees.trans (b := (d.onArb n (fun x => x.forget i)).answering w'.answer) ⟨rfl, fun _ _ _ _ _ _ => rfl⟩ hend
  refine hsame.trans (Dev.arbWorked_beat _ (Dev.arbUp_of_quad hn hup) ?_ ?_).same
  · rw [harb]; exact h.chosen
  · rw [harb]
    exact fun ho => ht (Option.some.inj (h.owner.symm.trans ho))

/-- After any other beat the requester's turn goes on. -/
theorem Dev.inTurn.next (hm : 0 < m) (w' : Work) : d.arbWorked ((d.larNext n i w').beat n bank false false) ∧
    ((d.larNext n i w').beat n bank false false).inTurn n i m o w' := by
  have hroom := h.room
  have harb : (d.larNext n i w').arb n = { d.arb n with work := (d.arb n).work.insert i w' } := Dev.arb_onArb _ _ _
  have hsame : d.arbWorked (d.larNext n i w') := d.arbWorked_refl.onArb
  have hup : (d.larNext n i w').arbUp n = true := Dev.arbUp_of_quad hn ((hsame.quadState (by omega)).trans h.up)
  have hch : ((d.larNext n i w').arb n).chosen = none := by rw [harb]; exact h.chosen
  have ho : ((d.larNext n i w').arb n).owner = some i := by rw [harb]; exact h.owner
  have hbeat := Dev.arb_beat none hup hch ho ht ((Dev.lineWork_congr rfl hn ht).trans h.line)
    (by rw [harb]; dsimp only; omega)
  have hw := hsame.trans (Dev.arbWorked_beat (last := false) none hup hch
    (by rw [ho]; exact fun he => ht (Option.some.inj he)))
  generalize d.larNext n i w' = e at *
  obtain ⟨l, hbeat⟩ := hbeat
  have hafter : (e.beat n bank false false).arb n = _ := hbeat
  rw [Dev.arb_arbLower, harb] at hafter
  refine ⟨hw, ⟨(hw.quadState (by omega)).trans h.up, ?_, ?_, ?_, ?_, ?_, (Dev.lineWork_congr hw.held hn ht).trans h.line⟩⟩
  · rw [hafter]; exact h.owner
  · rw [hafter]; exact h.chosen
  · rw [hafter]
  · rw [hafter]
    change (d.arb n).beats + 1 + m ≤ (d.arb n).burst
    omega
  · rw [hafter]
    exact (Arbiter.work_lower (x := { d.arb n with work := (d.arb n).work.insert i w' }) h.owner _ _).trans
      (Map.get_insert_same _ _ _ _)

end

/-! ### All beats of a request -/

theorem LarOp.beats_of_bit {o : LarOp} (hr : o.op ≠ opRead) (hw : o.op ≠ opWrite) : o.beats = 1 :=
  if_neg (not_or.2 ⟨hr, hw⟩)

theorem LarOp.beats_pos (o : LarOp) : 0 < o.beats := by
  unfold LarOp.beats
  split_ifs <;> omega

/-- The rest of a request is served, each beat in its turn. -/
theorem Dev.larBeats_agrees {q : Nat} {no : Option Nat} {here real : Nat} {same : Bool} {l : List (BitVec 72 × Bool)}
    (hq : q < 4) (ht : i ≠ testId) (hhere : o.beats ≤ here) (hreal : o.beats ≤ real) (hl : l ≠ []) :
    ∀ {d d' : Dev} {w : Work}, d.larBehind (larArb q i) i o = some (no, here, real) → d'.held = d.held →
      d.reaches d' (larArb q i) i → d'.inTurn (larArb q i) i l.length o w →
      (w.op = o.op ∧ w.addr = o.addr ∧ w.len = o.len) → w.done + l.length = o.beats →
      ((d'.larTouches i o same w l).1.answering (d'.larTouches i o same w l).2.answer).agrees
        (l.foldl (fun (x : Dev × Bool) e => if x.2 then x else x.1.larBeat q i o e.1 e.2 same) (d, false)).1 := by
  induction l with
  | nil => exact absurd rfl hl
  | cons e l ih =>
    intro d d' w hb hheld hr h hsame hdone
    rw [List.length_cons] at h hdone
    rw [List.foldl_cons, Dev.larTouches, if_neg Bool.false_ne_true]
    by_cases hlast : w.done + 1 = o.beats
    · obtain rfl : l = [] := List.eq_nil_of_length_eq_zero (by omega)
      rw [Dev.larBeat_last hb hr h.work hsame (by omega) (by omega) hlast]
      exact (h.touched (d'.touched_larTouch i o w e.1 e.2 same) (larArb_lt q i hq) ht).last (larArb_lt q i hq) ht _ _ _ _
    · have hl' : l ≠ [] := by rintro rfl; exact hlast hdone
      have hm : 0 < l.length := List.length_pos_iff.2 hl'
      have hbit : (o.op != opRead && o.op != opWrite) = false := by
        by_contra hc
        simp only [Bool.not_eq_false, Bool.and_eq_true, bne_iff_ne] at hc
        have := LarOp.beats_of_bit hc.1 hc.2
        omega
      obtain ⟨hdone', hop', haddr', hlen'⟩ := d'.work_larTouch i o w e.1 e.2 same
      obtain ⟨hop, haddr, hlen⟩ := hsame
      have htouch := d'.touched_larTouch i o w e.1 e.2 same
      rw [Dev.larBeat_goesOn hb hr h.work ⟨hop, haddr, hlen⟩ (by omega) (by omega) hlast, hbit]
      obtain ⟨hw, hturn⟩ := (h.touched htouch (larArb_lt q i hq) ht).next (larArb_lt q i hq) ht
        (larBank (o.addr + w.done)) hm (d'.larTouch i o w e.1 e.2 same).2
      obtain ⟨hag, hres⟩ := hw.same.larTouches (req := i) (o := o) (same := same) (l := l)
        (w := (d'.larTouch i o w e.1 e.2 same).2)
      rw [← hres]
      refine (hag.answering _).trans (ih hl' ?_ rfl hturn.reaches hturn ⟨hop'.trans hop, haddr'.trans haddr,
        hlen'.trans hlen⟩ (by omega))
      rw [Dev.larBehind_congr ((hw.held.trans htouch.held).trans hheld) (larArb_lt q i hq), hb]

/-- A request whose turn has come is served whole: its words one after another, and its answer. -/
theorem Dev.larRow_served {q : Nat} (hq : q < 4) (hi : i < 83) (h : d.larTurn q i o) {l : List (BitVec 72 × Bool)}
    (hl : l.length = o.beats) (same : Bool) :
    let r := d.larTouches i o same { op := o.op, addr := o.addr, len := o.len } l
    (r.1.answering r.2.answer).agrees (d.larRow q i o l same) := by
  obtain ⟨ht, haddr, hup, hturn, hbehind⟩ := h
  intro r
  have hb : ∃ no here real, d.larBehind (larArb q i) i o = some (no, here, real) ∧ o.beats ≤ here ∧ o.beats ≤ real := by
    cases hb : d.larBehind (larArb q i) i o with
    | none => rw [hb] at hbehind; exact absurd hbehind (by simp)
    | some b =>
      rw [hb] at hbehind
      exact ⟨b.1, b.2.1, b.2.2, rfl, by simpa using hbehind⟩
  obtain ⟨no, here, real, hb, hhere, hreal⟩ := hb
  have hrefuse : (if 64 ≤ i then d.larRefusal q i o.addr o.len else none) = none := by
    simp [Dev.larRefusal, haddr, hup, hturn.2.2.2.2.2.1]
  have hne : l ≠ [] := List.ne_nil_of_length_pos (hl ▸ o.beats_pos)
  obtain ⟨d', hr, hw, hin⟩ := Dev.holdsTurn_reaches (o := o) hturn (larArb_lt q i hq) hi ht
    (by rw [larArb_div]; exact hup)
  have hrow := Dev.larBeats_agrees (same := same) hq ht hhere hreal hne hb hw.held hr (by rwa [hl]) ⟨rfl, rfl, rfl⟩
    ((Nat.zero_add _).trans hl)
  obtain ⟨hag, hres⟩ := hw.same.larTouches (req := i) (o := o) (same := same) (l := l)
    (w := { op := o.op, addr := o.addr, len := o.len })
  rw [Dev.larRow, hrefuse]
  rw [hres] at hrow
  exact (hag.answering _).trans hrow

end

end Sys2Proof.Machine
end

section
/-! PROOFS. The words a Larder request reads, writes or changes (R156, R160). -/

namespace Sys2Proof.Machine

/-! ### The words of a request -/

theorem larWord_of_addrOk {q addr len i : Nat} (h : larAddrOk q addr len = true) (hi : i ≤ len) :
    addr + i < larWords ∧ larQuad (addr + i) = q := by
  simp only [larAddrOk, Bool.and_eq_true, decide_eq_true_eq, beq_iff_eq] at h
  obtain ⟨⟨ha, hq⟩, hl⟩ := h
  unfold larQuad larWords quadWords at *
  omega

theorem larAddrOk_mono {q addr len len' : Nat} (h : larAddrOk q addr len = true) (hl : len' ≤ len) :
    larAddrOk q addr len' = true := by
  simp only [larAddrOk, Bool.and_eq_true, decide_eq_true_eq, beq_iff_eq] at h ⊢
  omega

/-! ### Reads -/

/-- Word `i` of a request as a read finds it. -/
def Dev.seenAt (d : Dev) (base : Nat) (us : List (BitVec 72)) (i : Nat) : LarWord := d.larSeen (base + i) (us.getD i 0)

section
variable {req : Nat} {o : LarOp} {same : Bool} (ho : o.op = opRead)
include ho

/-- The words after the first are found as if it had not been read. -/
theorem Dev.seenAt_larTouch {d : Dev} {w : Work} {u : BitVec 72} {us : List (BitVec 72)} {i : Nat}
    (hfit : o.addr + w.done + (us.length + 1) ≤ larWords) (hi : i < us.length) :
    (d.larTouch req o w u false same).1.seenAt (o.addr + (w.done + 1)) us i =
      d.seenAt (o.addr + w.done) (u :: us) (i + 1) := by
  have hword := d.larWord_larFetch (o.addr + w.done) req u same (y := o.addr + (w.done + 1) + i) (by omega) (by omega)
  rw [Dev.seenAt, Dev.larTouch_of_read _ _ _ _ _ _ _ ho, Dev.larSeen, hword, if_neg (by omega),
    show o.addr + (w.done + 1) + i = o.addr + w.done + (i + 1) by omega]
  rfl

/-- A READ gives its words in turn. -/
theorem Dev.got_larTouches {us : List (BitVec 72)} : ∀ {d : Dev} {w : Work}, o.addr + w.done + us.length ≤ larWords →
    (d.larTouches req o same w (us.map fun u => (u, false))).2.got =
      w.got ++ (List.range us.length).map (fun i => (d.seenAt (o.addr + w.done) us i).check.2) := by
  induction us with
  | nil => exact fun _ => (List.append_nil _).symm
  | cons u us ih =>
    intro d w hfit
    have htouch := d.larTouch_of_read req o w u false same ho
    have hseen (i : Nat) (hi : i ∈ List.range us.length) :=
      congrArg (fun v => v.check.2) (Dev.seenAt_larTouch (req := req) (same := same) (d := d) (u := u) ho hfit
        (List.mem_range.1 hi))
    rw [List.map_cons, Dev.larTouches, ih (by rw [htouch]; exact (by dsimp only [List.length_cons] at *; omega)),
      show (d.larTouch req o w u false same).2.done = w.done + 1 by rw [htouch], List.map_congr_left hseen, htouch,
      List.length_cons, List.range_succ_eq_map, List.map_cons, List.map_map, List.append_assoc]
    rfl

/-- A READ has found an error that cannot be corrected where one of its words is such. -/
theorem Dev.bad_larTouches {us : List (BitVec 72)} : ∀ {d : Dev} {w : Work}, o.addr + w.done + us.length ≤ larWords →
    (d.larTouches req o same w (us.map fun u => (u, false))).2.bad =
      (w.bad || (List.range us.length).any (fun i => (d.seenAt (o.addr + w.done) us i).check.1 == .double)) := by
  induction us with
  | nil => exact fun _ => (Bool.or_false _).symm
  | cons u us ih =>
    intro d w hfit
    have htouch := d.larTouch_of_read req o w u false same ho
    have hany : ((List.range us.length).any fun i =>
        ((d.larTouch req o w u false same).1.seenAt (o.addr + (w.done + 1)) us i).check.1 == .double) =
        (List.range us.length).any fun i => (d.seenAt (o.addr + w.done) (u :: us) (i + 1)).check.1 == .double := by
      rw [Bool.eq_iff_iff, List.any_eq_true, List.any_eq_true]
      exact exists_congr fun i => and_congr_right fun hi => by rw [Dev.seenAt_larTouch ho hfit (List.mem_range.1 hi)]
    rw [List.map_cons, Dev.larTouches, ih (by rw [htouch]; exact (by dsimp only [List.length_cons] at *; omega)),
      show (d.larTouch req o w u false same).2.done = w.done + 1 by rw [htouch], hany, htouch, List.length_cons,
      List.range_succ_eq_map, List.any_cons, List.any_map, Bool.or_assoc]
    rfl

/-- A READ changes no word but for the cells found flipped. -/
theorem Dev.larWord_larTouches_read {us : List (BitVec 72)} {x : Nat} (hx : x < larWords) :
    ∀ {d : Dev} {w : Work}, o.addr + w.done + us.length ≤ larWords →
    (d.larTouches req o same w (us.map fun u => (u, false))).1.larWord x =
      if o.addr + w.done ≤ x ∧ x < o.addr + w.done + us.length then
        d.seenAt (o.addr + w.done) us (x - (o.addr + w.done)) else d.larWord x := by
  induction us with
  | nil => exact fun _ => (if_neg (by dsimp only [List.length_nil]; omega)).symm
  | cons u us ih =>
    intro d w hfit
    rw [List.length_cons] at hfit ⊢
    have htouch := d.larTouch_of_read req o w u false same ho
    have hword : (d.larTouch req o w u false same).1.larWord x = if x = o.addr + w.done then
        d.larSeen (o.addr + w.done) u else d.larWord x := by
      rw [htouch]; exact d.larWord_larFetch _ req u same (by omega) hx
    rw [List.map_cons, Dev.larTouches, ih (by rw [htouch]; dsimp only; omega),
      show (d.larTouch req o w u false same).2.done = w.done + 1 by rw [htouch], hword]
    by_cases he : x = o.addr + w.done
    · subst he
      rw [if_neg (by omega), if_pos rfl, if_pos (by omega), Nat.sub_self]
      rfl
    · rw [if_neg he]
      by_cases hin : o.addr + w.done ≤ x ∧ x < o.addr + w.done + (us.length + 1)
      · rw [if_pos (by omega), if_pos hin, Dev.seenAt_larTouch ho hfit (by omega)]
        exact congrArg _ (by omega)
      · rw [if_neg (by omega), if_neg hin]

end

/-! ### Writes -/

section
variable {req : Nat} {o : LarOp} {same : Bool} (ho : o.op = opWrite)
include ho

theorem Dev.work_larTouches_write {l : List Bool} : ∀ {d : Dev} {w : Work},
    (d.larTouches req o same w (l.map fun b => (0, b))).2.answer = w.answer := by
  induction l with
  | nil => exact rfl
  | cons b l ih =>
    intro d w
    rw [List.map_cons, Dev.larTouches, ih, Dev.larTouch_of_write _ _ _ _ _ _ _ ho]
    rfl

/-- A plain write changes that word alone. -/
theorem Dev.larWord_larTouch_write {d : Dev} {w : Work} {u : BitVec 72} {lost : Bool} {x : Nat} (hx : x < larWords)
    (hfit : o.addr + w.done < larWords) : (d.larTouch req o w u lost same).1.larWord x =
      if x = o.addr + w.done then ⟨o.data.getD w.done 0, 0⟩ else d.larWord x := by
  have hq := larQuad_lt (o.addr + w.done)
  rw [Dev.larTouch_of_write _ _ _ _ _ _ _ ho, ← d.larWord_larStore _ _ hfit hx]
  dsimp only
  split_ifs
  · exact Dev.larWord_congr (Dev.sameOn_cnt _ (by decide) (by omega) (by decide)) (List.Subset.refl _) rfl x
  · rfl

/-- A WRITE stores its words and changes no other. -/
theorem Dev.larWord_larTouches_write {l : List Bool} {x : Nat} (hx : x < larWords) :
    ∀ {d : Dev} {w : Work}, o.addr + w.done + l.length ≤ larWords →
    (d.larTouches req o same w (l.map fun b => (0, b))).1.larWord x =
      if o.addr + w.done ≤ x ∧ x < o.addr + w.done + l.length then ⟨o.data.getD (x - o.addr) 0, 0⟩
      else d.larWord x := by
  induction l with
  | nil => exact fun _ => (if_neg (by dsimp only [List.length_nil]; omega)).symm
  | cons b l ih =>
    intro d w hfit
    rw [List.length_cons] at hfit ⊢
    have hdone := (d.work_larTouch req o w 0 b same).1
    rw [List.map_cons, Dev.larTouches, ih (by rw [hdone]; omega), hdone,
      Dev.larWord_larTouch_write ho hx (by omega)]
    by_cases he : x = o.addr + w.done
    · subst he
      rw [if_neg (by omega), if_pos rfl, if_pos (by omega), Nat.add_sub_cancel_left]
    · rw [if_neg he]
      exact if_congr (by omega) rfl rfl

/-- Words of port G that port T overwrites are counted (R159). -/
theorem Dev.overwritten_larTouches {q : Nat} {l : List Bool} : ∀ {d : Dev} {w : Work},
    (∀ k, k < l.length → larQuad (o.addr + w.done + k) = q) →
    (d.larTouches req o same w (l.map fun b => (0, b))).1.gf F.LAR_QCNT_OVERWRITTEN q =
      if timedId req then d.gf F.LAR_QCNT_OVERWRITTEN q
      else min (d.gf F.LAR_QCNT_OVERWRITTEN q + l.count true) (2 ^ F.LAR_QCNT_OVERWRITTEN.width - 1) := by
  induction l with
  | nil =>
    intro d w _
    have hle : d.gf F.LAR_QCNT_OVERWRITTEN q ≤ 2 ^ F.LAR_QCNT_OVERWRITTEN.width - 1 :=
      Nat.le_sub_one_of_lt (d.gf_lt _ _ _)
    rw [List.count_nil, Nat.add_zero, Nat.min_eq_left hle, ite_self]
    rfl
  | cons b l ih =>
    intro d w hquad
    have hdone := (d.work_larTouch req o w 0 b same).1
    have hone : (d.larTouch req o w 0 b same).1.gf F.LAR_QCNT_OVERWRITTEN q = if b && !timedId req then
        min (d.gf F.LAR_QCNT_OVERWRITTEN q + 1) (2 ^ F.LAR_QCNT_OVERWRITTEN.width - 1)
        else d.gf F.LAR_QCNT_OVERWRITTEN q := by
      have hstore : (d.larStore (o.addr + w.done) (o.data.getD w.done 0)).gf F.LAR_QCNT_OVERWRITTEN q =
          d.gf F.LAR_QCNT_OVERWRITTEN q := by rw [Dev.gf, Dev.gf, Dev.reg, Dev.reg, Dev.regs_larStore]
      rw [Dev.larTouch_of_write _ _ _ _ _ _ _ ho, show larQuad (o.addr + w.done) = q from hquad 0 (by simp)]
      dsimp only
      rw [Dev.gf_ite, Dev.gf_cnt _ _ _ _ _ (by decide), hstore]
    rw [List.map_cons, Dev.larTouches, ih (fun k hk => by
      rw [hdone, show o.addr + (w.done + 1) + k = o.addr + w.done + (k + 1) by omega]
      exact hquad _ (by simpa using hk)), hone, List.count_cons]
    cases timedId req <;> cases b <;> simp
    omega

end

/-! ### One word alone -/

theorem Dev.larTouches_single (d : Dev) (req : Nat) (o : LarOp) (same : Bool) (w : Work) (e : BitVec 72 × Bool) :
    d.larTouches req o same w [e] = d.larTouch req o w e.1 e.2 same := rfl

end Sys2Proof.Machine
end

section
/-! PROOFS. `Obligations.LarderAccessesAndErrors` (R153, R156, R160, R168), clause by clause. -/

namespace Sys2Proof.Machine

/-! ### Requests served -/

section
variable {req : Fin 83} {q : Fin 4} {addr : Word} {s : State}

/-- A READ in its turn. -/
theorem larRead_served {len : Fin 16} {us : List (BitVec 72)} (same : Bool) (hus : us.length = len + 1)
    (h : s.dev.larTurn q req { op := opRead, addr := addr.toNat, len := len }) :
    Yields (.larRead req q addr len ⟨us, same⟩) s (fun t =>
      t.dev.lar.answer = (if (List.range (len + 1)).any (fun i =>
          (s.dev.seenAt addr.toNat us i).check.1 == .double) then ⟨stEccUncorr, []⟩
        else ⟨stOk, (List.range (len + 1)).map (fun i => (s.dev.seenAt addr.toNat us i).check.2)⟩) ∧
      ∀ wa, wa < larWords → t.dev.larWord wa = if addr.toNat ≤ wa ∧ wa ≤ addr.toNat + len then
        s.dev.seenAt addr.toNat us (wa - addr.toNat) else s.dev.larWord wa) := by
  have hfit := (larWord_of_addrOk h.2.1 (Nat.le_refl _)).1
  have hlen : addr.toNat + 0 + us.length ≤ larWords := by dsimp only at hfit; omega
  have hserved := Dev.larRow_served q.isLt req.isLt h (l := us.map fun u => (u, false)) ((List.length_map _).trans hus)
    same
  refine ⟨_, rfl, ?_, fun wa hwa => ?_⟩
  · rw [State.dev_onDev, hserved.lar, Dev.answer_answering, Work.answer, Dev.bad_larTouches rfl hlen,
      Dev.got_larTouches rfl hlen, hus]
    rfl
  · rw [State.dev_onDev, hserved.larWord, Dev.larWord_answering]
    refine (Dev.larWord_larTouches_read rfl hwa hlen).trans (if_congr ?_ rfl rfl)
    dsimp only
    omega

/-- A WRITE of 1 to 16 words is a row of its request. -/
theorem exec_larWrite {data : List (BitVec 64)} {overG : List Bool} (hpos : 0 < data.length) (hmax : data.length ≤ 16) :
    exec (.larWrite req q addr data overG) s = .next (s.onDev fun d => d.larRow q req
      { op := opWrite, addr := addr.toNat, len := data.length - 1, data := data } (overG.map fun b => (0, b)) false) := by
  have hguard : (data.isEmpty || decide (16 < data.length)) = false := by
    simp [List.ne_nil_of_length_pos hpos, hmax]
  change Host.Outcome.next (s.onDev _) = _
  simp only [hguard, Bool.false_eq_true, if_false]

/-- A WRITE in its turn. -/
theorem larWrite_served {data : List (BitVec 64)} {overG : List Bool} (hpos : 0 < data.length) (hmax : data.length ≤ 16)
    (hover : overG.length = data.length)
    (h : s.dev.larTurn q req { op := opWrite, addr := addr.toNat, len := data.length - 1, data := data }) :
    Yields (.larWrite req q addr data overG) s (fun t => t.dev.lar.answer = ⟨stOk, []⟩ ∧
      t.dev.gf F.LAR_QCNT_OVERWRITTEN q = (if timedId req then s.dev.gf F.LAR_QCNT_OVERWRITTEN q
        else min (s.dev.gf F.LAR_QCNT_OVERWRITTEN q + overG.count true) (2 ^ F.LAR_QCNT_OVERWRITTEN.width - 1)) ∧
      ∀ wa, wa < larWords → t.dev.larWord wa = if addr.toNat ≤ wa ∧ wa < addr.toNat + data.length
        then ⟨data.getD (wa - addr.toNat) 0, 0⟩ else s.dev.larWord wa) := by
  have hfit := (larWord_of_addrOk h.2.1 (Nat.le_refl _)).1
  have hlen : addr.toNat + 0 + overG.length ≤ larWords := by dsimp only at hfit; omega
  have hserved := Dev.larRow_served q.isLt req.isLt h (l := overG.map fun b => (0, b))
    (by rw [List.length_map, hover]; change _ = data.length - 1 + 1; omega) false
  refine ⟨_, exec_larWrite hpos hmax, ?_, ?_, fun wa hwa => ?_⟩
  · rw [State.dev_onDev, hserved.lar, Dev.answer_answering]
    exact Dev.work_larTouches_write rfl
  · rw [State.dev_onDev, hserved.regs.gf (f := F.LAR_QCNT_OVERWRITTEN) (by decide) (by omega) (by decide),
      Dev.gf_answering]
    refine Dev.overwritten_larTouches rfl fun k hk => (larWord_of_addrOk h.2.1 ?_).2
    dsimp only
    omega
  · rw [State.dev_onDev, hserved.larWord, Dev.larWord_answering, ← hover]
    exact Dev.larWord_larTouches_write rfl hwa hlen

/-- A bit operation in its turn. -/
theorem larBit_served {mask : BitVec 64} {u : BitVec 72} {set : Bool}
    (h : s.dev.larTurn q req
      { op := if set then opBitSet else opBitClear, addr := addr.toNat, len := 0, data := [mask] }) :
    Yields (if set then .larBitSet req q addr mask u else .larBitClear req q addr mask u) s (fun t =>
      t.dev.lar.answer = ⟨if (s.dev.larSeen addr.toNat u).check.1 = .double then stEccUncorr else stOk, []⟩ ∧
      ∀ wa, wa < larWords → t.dev.larWord wa = if wa ≠ addr.toNat then s.dev.larWord wa
        else if (s.dev.larSeen addr.toNat u).check.1 = .double then s.dev.larSeen addr.toNat u
        else ⟨if set then (s.dev.larSeen addr.toNat u).check.2 ||| mask
          else (s.dev.larSeen addr.toNat u).check.2 &&& ~~~mask, 0⟩) := by
  have hfit : addr.toNat < larWords := (larWord_of_addrOk h.2.1 (Nat.le_refl _)).1
  have hserved := Dev.larRow_served q.isLt req.isLt h (l := [(u, false)]) (by cases set <;> rfl) false
  have hbit : (if set then opBitSet else opBitClear) ≠ opRead ∧ (if set then opBitSet else opBitClear) ≠ opWrite := by
    cases set <;> decide
  rw [Dev.larTouches_single, Dev.larTouch_of_bit _ _ _ _ _ _ _ hbit.1 hbit.2] at hserved
  have hexec : exec (if set then .larBitSet req q addr mask u else .larBitClear req q addr mask u) s =
      .next (s.onDev fun d => d.larRow q req
        { op := if set then opBitSet else opBitClear, addr := addr.toNat, len := 0, data := [mask] }
        [(u, false)] false) := by
    cases set <;> rfl
  refine ⟨_, hexec, ?_, fun wa hwa => ?_⟩
  · rw [State.dev_onDev, hserved.lar, Dev.answer_answering]
    simp only [Work.answer, Dev.larModify_eq, Nat.add_zero]
    by_cases hd : (s.dev.larSeen addr.toNat u).check.1 = .double
    · simp [hd]
    · simp [hd]
  · rw [State.dev_onDev, hserved.larWord, Dev.larWord_answering]
    refine (s.dev.larWord_larModify addr.toNat req u _ hfit hwa).trans ?_
    cases set <;> rfl

end

/-! ### Requests that are not served -/

section
variable {req : Fin 83} {q : Fin 4} {addr : Word} {len : Fin 16} {us : List (BitVec 72)} {same : Bool}
  {data : List (BitVec 64)} {overG : List Bool} {mask : BitVec 64} {u : BitVec 72} {c : Instr} {s : State}
  (hc : c ∈ [.larRead req q addr len ⟨us, same⟩, .larWrite req q addr data overG, .larBitSet req q addr mask u,
    .larBitClear req q addr mask u]) (hdata : data.length ≤ len + 1)
include hc hdata

/-- Each command of a Larder request is a row of one, except a WRITE without data. -/
theorem exec_larCommand : (∃ o l same, o.addr = addr.toNat ∧ o.len ≤ len.val ∧
      exec c s = .next (s.onDev fun d => d.larRow q req o l same)) ∨ (data = [] ∧ exec c s = .next s) := by
  simp only [List.mem_cons, List.not_mem_nil, or_false] at hc
  obtain rfl | rfl | rfl | rfl := hc
  · exact .inl ⟨_, _, _, rfl, Nat.le_refl _, rfl⟩
  · by_cases hnil : data = []
    · subst hnil
      exact .inr ⟨rfl, rfl⟩
    · have hpos := List.length_pos_iff.2 hnil
      exact .inl ⟨_, _, _, rfl, by dsimp only; omega, exec_larWrite hpos (by omega)⟩
  · exact .inl ⟨_, _, _, rfl, Nat.zero_le _, rfl⟩
  · exact .inl ⟨_, _, _, rfl, Nat.zero_le _, rfl⟩

omit hc hdata in
theorem Dev.larRow_of_refusal {d : Dev} {q i st : Nat} {o : LarOp} {l : List (BitVec 72 × Bool)} {same : Bool}
    (hi : 64 ≤ i) (h : d.larRefusal q i o.addr o.len = some st) : d.larRow q i o l same = d.larRefuse q i st := by
  rw [Dev.larRow, if_pos hi, h]

omit hc hdata in
theorem Dev.larRow_of_taken {d : Dev} {q i : Nat} {o : LarOp} {l : List (BitVec 72 × Bool)} {same : Bool}
    (h : d.larRefusal q i o.addr o.len = none) : d.larRow q i o l same =
      (l.foldl (fun (x : Dev × Bool) e => if x.2 then x else x.1.larBeat q i o e.1 e.2 same) (d, false)).1 := by
  rw [Dev.larRow, h, ite_self]

omit hc hdata in
/-- A row that has no more beats to move changes nothing more. -/
theorem foldl_ended {α : Type} (f : Dev → α → Dev × Bool) (l : List α) (d : Dev) :
    l.foldl (fun (x : Dev × Bool) e => if x.2 then x else f x.1 e) (d, true) = (d, true) := by
  induction l with
  | nil => rfl
  | cons e l ih => rw [List.foldl_cons, if_pos rfl, ih]

omit hc hdata in
/-- While another holds the grant a requester at most raises its line. -/
theorem Dev.larBeat_of_owner {d : Dev} {q i j : Nat} {o : LarOp} {u : BitVec 72} {lost same : Bool}
    (ho : (d.arb (larArb q i)).owner = some j) (hj : j ≠ i) :
    ∃ d', d.larBeat q i o u lost same = (d', true) ∧ d'.lar = d.lar ∧ (d'.arb (larArb q i)).owner = some j := by
  have hraised (x : Arbiter) : (x.raise i).owner = x.owner := by
    unfold Arbiter.raise
    split_ifs <;> rfl
  have hmay (e : Dev) (he : (e.arb (larArb q i)).owner = some j) : e.mayMove (larArb q i) i = false := by
    simp [Dev.mayMove, he, hj]
  have hreq : (d.arbRequest (larArb q i) i).lar = d.lar ∧
      ((d.arbRequest (larArb q i) i).arb (larArb q i)).owner = some j := by
    unfold Dev.arbRequest
    split_ifs
    · exact ⟨rfl, ho⟩
    · exact ⟨rfl, by rw [Dev.arb_onArb, hraised, ho]⟩
  have hturn : d.turn (larArb q i) i = d.arbRequest (larArb q i) i := by
    have hnext : (d.arbRequest (larArb q i) i).nextIs (larArb q i) i = false := by simp [Dev.nextIs, hreq.2]
    simp [Dev.turn, hmay d ho, hnext]
  cases hb : d.larBehind (larArb q i) i o with
  | none => exact ⟨d, by simp only [Dev.larBeat, hb], rfl, ho⟩
  | some b =>
    exact ⟨_, by simp only [Dev.larBeat, hb, hturn, hmay _ hreq.2, Bool.not_false, Bool.true_or, if_true], hreq⟩

/-- While another requester holds the grant nothing is served. -/
theorem larRequest_waits {j : Nat} (haddr : larAddrOk q addr.toNat len = true) (hup : s.dev.quadState q = 2)
    (hf : s.dev.fenced (larArb q req) req = false) (ho : (s.dev.arb (larArb q req)).owner = some j) (hj : j ≠ req) :
    Yields c s (fun t => t.dev.lar = s.dev.lar ∧ (t.dev.arb (larArb q req)).owner = some j) := by
  obtain ⟨o, l, same, hoa, hol, hexec⟩ | ⟨-, hexec⟩ := exec_larCommand (s := s) hc hdata
  · have hrefuse : s.dev.larRefusal q req o.addr o.len = none := by
      simp [Dev.larRefusal, hoa, larAddrOk_mono haddr hol, hup, hf]
    refine ⟨_, hexec, ?_⟩
    beta_reduce
    rw [State.dev_onDev, Dev.larRow_of_taken hrefuse]
    cases l with
    | nil => exact ⟨rfl, ho⟩
    | cons e l =>
      obtain ⟨d', hbeat, hd'⟩ := Dev.larBeat_of_owner (o := o) (u := e.1) (lost := e.2) (same := same) ho hj
      rw [List.foldl_cons, if_neg Bool.false_ne_true, hbeat,
        foldl_ended (fun d (e : BitVec 72 × Bool) => d.larBeat q req o e.1 e.2 same)]
      exact hd'
  · exact ⟨_, hexec, rfl, ho⟩

/-- A hardened requester's request that the quadrant cannot take is answered at once (R161). -/
theorem larRequest_refused (hreq : 64 ≤ req.val) (hpos : 0 < data.length) (haddr : larAddrOk q addr.toNat len = true)
    (hup : s.dev.quadState q ≠ 2) :
    Yields c s (fun t => t.dev.lar.answer = ⟨stQuadDown, []⟩ ∧ t.dev.lar.words = s.dev.lar.words ∧
      t.dev.gf F.LAR_QCNT_DOWN q = (if req.val = 64 ∨ req.val = 67 then s.dev.gf F.LAR_QCNT_DOWN q
        else min (s.dev.gf F.LAR_QCNT_DOWN q + 1) (2 ^ F.LAR_QCNT_DOWN.width - 1))) := by
  obtain ⟨o, l, same, hoa, hol, hexec⟩ | ⟨hnil, -⟩ := exec_larCommand (s := s) hc hdata
  · have hrefuse : s.dev.larRefusal q req o.addr o.len = some stQuadDown := by
      simp [Dev.larRefusal, hoa, larAddrOk_mono haddr hol, hup]
    refine ⟨_, hexec, ?_⟩
    beta_reduce
    rw [State.dev_onDev, Dev.larRow_of_refusal hreq hrefuse, Dev.larRefuse, if_pos rfl]
    by_cases hno : req.val = 64 ∨ req.val = 67
    · have hno' : (decide (req.val = 64) || decide (req.val = testId)) = true := by simpa using hno
      rw [hno', if_pos rfl, if_pos hno]
      exact ⟨rfl, rfl, rfl⟩
    · have hno' : (decide (req.val = 64) || decide (req.val = testId)) = false := by simpa using hno
      rw [hno', if_neg Bool.false_ne_true, if_neg hno]
      exact ⟨rfl, rfl, Dev.gf_cnt _ _ _ _ _ (by decide)⟩
  · rw [hnil] at hpos
    exact absurd hpos (Nat.lt_irrefl 0)

end

end Sys2Proof.Machine
end

section
/-! PROOFS. Single and double errors of a Larder word, its write-back (R160, R168), and
`Obligations.LarderAccessesAndErrors`. -/

namespace Sys2Proof.Machine

/-! ### Findings -/

theorem LarWord.check_of_single {w : LarWord} (h : popCount w.flips = 1) : w.check = (.single, w.data) := by
  simp [LarWord.check, h]

theorem LarWord.check_of_double {w : LarWord} (h : popCount w.flips = 2) :
    w.check = (.double, w.data ^^^ w.flips.setWidth 64) := by
  simp [LarWord.check, h]

section
variable (d : Dev) (x : Nat)

theorem Dev.larFound_single (req : Nat) (same : Bool) (v : BitVec 64) :
    d.larFound x req same (.single, v) = d.larSingle x v := rfl

theorem Dev.larFound_double (req : Nat) (same : Bool) (v : BitVec 64) :
    d.larFound x req same (.double, v) = d.larDouble x req same := rfl

theorem Dev.gf_larSee (u : BitVec 72) (same : Bool) (f : Fld) (i j : Nat) :
    (d.larSee x u same).gf f i j = d.gf f i j := by
  unfold Dev.larSee
  dsimp only
  split_ifs <;> rfl

theorem Dev.writeback_larSee (u : BitVec 72) (same : Bool) : (d.larSee x u same).lar.writeback = d.lar.writeback := by
  unfold Dev.larSee
  dsimp only
  split_ifs <;> rfl

/-- A single error is counted, and its correction awaits a write-back where WB_EN is set (R160). -/
theorem Dev.larSingle_spec {q : Nat} (v : BitVec 64) (hq : larQuad x = q) :
    (d.larSingle x v).gf F.LAR_ECC_CORR q = min (d.gf F.LAR_ECC_CORR q + 1) (2 ^ F.LAR_ECC_CORR.width - 1) ∧
      (d.larSingle x v).lar.writeback =
        if d.gb F.LAR_CTRL_WB_EN then d.lar.writeback ++ [(x, v)] else d.lar.writeback := by
  subst hq
  have hq := larQuad_lt x
  have hcnt : ((d.cnt F.LAR_ECC_CORR (larQuad x) 0).notice 0x30 x).gf F.LAR_ECC_CORR (larQuad x) =
      min (d.gf F.LAR_ECC_CORR (larQuad x) + 1) (2 ^ F.LAR_ECC_CORR.width - 1) :=
    (Dev.gf_notice _ _ _ rfl (by omega) (by decide)).trans (Dev.gf_cnt _ _ _ _ _ (by decide))
  have hwb : ((d.cnt F.LAR_ECC_CORR (larQuad x) 0).notice 0x30 x).gb F.LAR_CTRL_WB_EN = d.gb F.LAR_CTRL_WB_EN := by
    rw [Dev.gb, Dev.gb, Dev.gf_notice _ _ _ rfl (by decide) (by decide)]
    exact congrArg (· == 1) (Dev.gf_sf_reg _ _ (by decide) (by omega) (by decide) (by decide) (by decide))
  have hlar : ((d.cnt F.LAR_ECC_CORR (larQuad x) 0).notice 0x30 x).lar = d.lar := Dev.lar_notice _ _ _
  unfold Dev.larSingle
  generalize (d.cnt F.LAR_ECC_CORR (larQuad x) 0).notice 0x30 x = e at *
  dsimp only
  rw [hwb]
  split_ifs
  · exact ⟨hcnt, by rw [hlar]⟩
  · exact ⟨hcnt, by rw [hlar]⟩

/-- LAR_EADDR takes the word address, the requester and its port (R168). -/
theorem Dev.larRecord_spec {req : Nat} (hx : x < larWords) (hr : req < 128) :
    (d.larRecord x req).gf F.LAR_EADDR_VALID = 1 ∧ (d.larRecord x req).gf F.LAR_EADDR_WADDR = x ∧
      (d.larRecord x req).gf F.LAR_EADDR_REQ = req ∧ (d.larRecord x req).gb F.LAR_EADDR_PORT = !timedId req := by
  have hlar (e : Dev) (l : Larder) (f : Fld) : ({ e with lar := l } : Dev).gf f = e.gf f := rfl
  have hport : b2n (!timedId req) < 2 := by cases timedId req <;> decide
  unfold Dev.larRecord
  dsimp only
  simp (disch := decide) only [Dev.gb, hlar, Dev.gf_sf, Dev.gf_sf_bits]
  have hx' : x < 2 ^ 21 := hx.trans_eq (by decide)
  refine ⟨rfl, Nat.mod_eq_of_lt hx', Nat.mod_eq_of_lt hr, ?_⟩
  cases timedId req <;> rfl

/-- A double error is counted, and held in LAR_EADDR where that is free (R160, R168). -/
theorem Dev.larDouble_spec {q req : Nat} (same : Bool) (hq : larQuad x = q) (hx : x < larWords) (hr : req < 128)
    (hfree : d.gb F.LAR_EADDR_VALID = false) :
    let d' := d.larDouble x req same
    d'.gf F.LAR_ECC_UNCORR q = min (d.gf F.LAR_ECC_UNCORR q + 1) (2 ^ F.LAR_ECC_UNCORR.width - 1) ∧
      d'.gf F.LAR_EADDR_VALID = 1 ∧ d'.gf F.LAR_EADDR_WADDR = x ∧ d'.gf F.LAR_EADDR_REQ = req ∧
      d'.gb F.LAR_EADDR_PORT = !timedId req := by
  subst hq
  have hq := larQuad_lt x
  have hd : d.larDouble x req same = ((d.cnt F.LAR_ECC_UNCORR (larQuad x) 0).fault 0x31 x).larRecord x req := by
    simp only [Dev.larDouble, hfree, Bool.not_false, Bool.true_or, if_true]
  rw [hd]
  refine ⟨?_, Dev.larRecord_spec _ x hx hr⟩
  have hcnt : ((d.cnt F.LAR_ECC_UNCORR (larQuad x) 0).fault 0x31 x).gf F.LAR_ECC_UNCORR (larQuad x) =
      min (d.gf F.LAR_ECC_UNCORR (larQuad x) + 1) (2 ^ F.LAR_ECC_UNCORR.width - 1) :=
    (Dev.gf_fault _ _ _ rfl (by omega) (by decide)).trans (Dev.gf_cnt _ _ _ _ _ (by decide))
  refine Eq.trans ?_ hcnt
  have hrec : ((d.cnt F.LAR_ECC_UNCORR (larQuad x) 0).fault 0x31 x).keepsKinds
      (((d.cnt F.LAR_ECC_UNCORR (larQuad x) 0).fault 0x31 x).larRecord x req) [.LAR_EADDR] :=
    (((((Dev.keepsKinds_refl _ _).sf (by decide) (by decide) (by decide)).sf (by decide) (by decide) (by decide)).sf
      (by decide) (by decide) (by decide)).sf (by decide) (by decide) (by decide)).of_regs rfl
  exact hrec.gf (by decide) (by omega) (by decide)

end

section
variable {req : Fin 83} {q : Fin 4} {addr : Word} {u : BitVec 72} {s : State} (same : Bool)
  (h : s.dev.larTurn q req { op := opRead, addr := addr.toNat, len := 0 })
include h

/-- A READ of one word answers and counts what it finds. -/
theorem larRead_one : ∃ d : Dev, exec (.larRead req q addr 0 ⟨[u], same⟩) s = .next (s.onDev fun _ => d) ∧
    (((s.dev.larSee addr.toNat u same).larFound addr.toNat req same (s.dev.larSeen addr.toNat u).check).answering
      (if (s.dev.larSeen addr.toNat u).check.1 == .double then ⟨stEccUncorr, []⟩
        else ⟨stOk, [(s.dev.larSeen addr.toNat u).check.2]⟩)).agrees d := by
  have hserved := Dev.larRow_served q.isLt req.isLt h (l := [(u, false)]) rfl same
  rw [Dev.larTouches_single, Dev.larTouch_of_read _ _ _ _ _ _ _ rfl, Dev.larFetch_eq] at hserved
  refine ⟨_, rfl, ?_⟩
  simpa [Work.answer] using hserved

/-- A word with one wrong bit is corrected and counted. -/
theorem larRead_corrects (hone : popCount ((s.dev.larWord addr.toNat).flips ^^^ u) = 1) :
    Yields (.larRead req q addr 0 ⟨[u], same⟩) s (fun t => t.dev.lar.answer = ⟨stOk,
        [(s.dev.larWord addr.toNat).data]⟩ ∧
      t.dev.gf F.LAR_ECC_CORR q = min (s.dev.gf F.LAR_ECC_CORR q + 1) (2 ^ F.LAR_ECC_CORR.width - 1) ∧
      t.dev.lar.writeback = (if s.dev.gb F.LAR_CTRL_WB_EN then
        s.dev.lar.writeback ++ [(addr.toNat, (s.dev.larWord addr.toNat).data)] else s.dev.lar.writeback)) := by
  have hcheck : (s.dev.larSeen addr.toNat u).check = (.single, (s.dev.larWord addr.toNat).data) :=
    LarWord.check_of_single hone
  have hquad : larQuad addr.toNat = q := (larWord_of_addrOk h.2.1 (Nat.le_refl _)).2
  obtain ⟨d, hexec, hd⟩ := larRead_one same (u := u) h
  rw [hcheck, Dev.larFound_single] at hd
  obtain ⟨hcnt, hwb⟩ := (s.dev.larSee addr.toNat u same).larSingle_spec addr.toNat (s.dev.larWord addr.toNat).data hquad
  rw [Dev.gf_larSee] at hcnt
  rw [Dev.writeback_larSee, Dev.gb, Dev.gf_larSee, ← Dev.gb] at hwb
  refine ⟨_, hexec, ?_, ?_, ?_⟩
  · rw [State.dev_onDev, hd.lar]
    rfl
  · exact (hd.regs.gf (f := F.LAR_ECC_CORR) (by decide) (by omega) (by decide)).trans
      ((Dev.gf_answering _ _ _ _ _).trans hcnt)
  · rw [State.dev_onDev, hd.lar, Dev.writeback_answering]
    exact hwb

/-- A word with two wrong bits is answered without data, counted, and held in LAR_EADDR. -/
theorem larRead_detects (htwo : popCount ((s.dev.larWord addr.toNat).flips ^^^ u) = 2)
    (hfree : s.dev.gb F.LAR_EADDR_VALID = false) :
    Yields (.larRead req q addr 0 ⟨[u], same⟩) s (fun t => t.dev.lar.answer = ⟨stEccUncorr, []⟩ ∧
      t.dev.gf F.LAR_ECC_UNCORR q = min (s.dev.gf F.LAR_ECC_UNCORR q + 1) (2 ^ F.LAR_ECC_UNCORR.width - 1) ∧
      t.dev.gf F.LAR_EADDR_VALID = 1 ∧ t.dev.gf F.LAR_EADDR_WADDR = addr.toNat ∧ t.dev.gf F.LAR_EADDR_REQ = req ∧
      t.dev.gb F.LAR_EADDR_PORT = !timedId req) := by
  have hcheck : (s.dev.larSeen addr.toNat u).check = (.double, _) := LarWord.check_of_double htwo
  obtain ⟨hx, hquad⟩ := larWord_of_addrOk h.2.1 (Nat.le_refl _)
  obtain ⟨d, hexec, hd⟩ := larRead_one same (u := u) h
  rw [hcheck, Dev.larFound_double] at hd
  obtain ⟨hcnt, hvalid, hwaddr, hreq, hport⟩ := (s.dev.larSee addr.toNat u same).larDouble_spec addr.toNat
    (req := req) same hquad hx (by omega) (by rw [Dev.gb, Dev.gf_larSee]; exact hfree)
  have hgf (f : Fld) (i : Nat) (hf : f.reg ∈ larRegs) (hi : i < 65536) :
      d.gf f i = ((s.dev.larSee addr.toNat u same).larDouble addr.toNat req same).gf f i :=
    hd.regs.gf hf hi (by decide)
  rw [Dev.gf_larSee] at hcnt
  refine ⟨_, hexec, ?_, ?_, ?_, ?_, ?_, ?_⟩
  · rw [State.dev_onDev, hd.lar]
    rfl
  · exact (hgf F.LAR_ECC_UNCORR q (by decide) (by omega)).trans hcnt
  · exact (hgf F.LAR_EADDR_VALID 0 (by decide) (by decide)).trans hvalid
  · exact (hgf F.LAR_EADDR_WADDR 0 (by decide) (by decide)).trans hwaddr
  · exact (hgf F.LAR_EADDR_REQ 0 (by decide) (by decide)).trans hreq
  · exact (congrArg (· == 1) (hgf F.LAR_EADDR_PORT 0 (by decide) (by decide))).trans hport

end

/-! ### Write-back -/

/-- A corrected word that no port has written since is written back (R160). -/
theorem larWriteback_stores {wa : BitVec 21} {v : BitVec 64} {s : State}
    (hfind : s.dev.lar.writeback.find? (fun e => e.1 == wa.toNat) = some (wa.toNat, v))
    (hup : s.dev.quadState (larQuad wa.toNat) = 2)
    (hport : (s.dev.arb (2 * larQuad wa.toNat + 1)).port ≠ some (larBank wa.toNat)) :
    Yields (.larWriteback wa) s (fun t => t.dev.regs = s.dev.regs ∧
      ∀ a, a < larWords → t.dev.larWord a = if a = wa.toNat then ⟨v, 0⟩ else s.dev.larWord a) := by
  have heq : s.dev.larWriteback wa.toNat = s.dev.larStore wa.toNat v := by
    simp [Dev.larWriteback, hfind, hup, hport]
  exact yields_onDev rfl heq ⟨Dev.regs_larStore _ _ _, fun a ha => s.dev.larWord_larStore _ _ wa.isLt ha⟩

theorem does_larWriteback_nothing {wa : BitVec 21} {s : State}
    (h : (∀ e ∈ s.dev.lar.writeback, e.1 ≠ wa.toNat) ∨ s.dev.quadState (larQuad wa.toNat) ≠ 2 ∨
      (s.dev.arb (2 * larQuad wa.toNat + 1)).port = some (larBank wa.toNat)) : Does (.larWriteback wa) s s.dev := by
  refine does_onDev rfl ?_
  unfold Dev.larWriteback
  obtain h | h := h
  · have hnone : s.dev.lar.writeback.find? (fun e => e.1 == wa.toNat) = none :=
      List.find?_eq_none.2 fun e he => by simpa using h e he
    rw [hnone]
  · cases s.dev.lar.writeback.find? (fun e => e.1 == wa.toNat) with
    | none => rfl
    | some e => exact if_neg (by simpa using fun hup => h.resolve_left (not_not.2 hup))

/-- Settles O26: a row of a requester in its turn is one access after another to its words (`Dev.larRow_served`), and
what each finds is answered and counted (`Dev.larFound`). -/
theorem larderAccessesAndErrors : Obligations.LarderAccessesAndErrors := by
  unfold Obligations.LarderAccessesAndErrors
  refine ⟨⟨?_, ?_, ?_, ?_, ?_⟩, ?_, ?_, ?_, ?_⟩
  · intro req q addr len us same s hus h w
    obtain ⟨t, hexec, hans, hwords⟩ := larRead_served same hus h
    refine ⟨t, hexec, hans, fun wa hwa => (hwords wa hwa).trans ?_⟩
    rfl
  · exact fun req q addr data overG s hpos hmax hover h => larWrite_served hpos hmax hover h
  · exact fun req q addr mask u set s h => larBit_served h
  · exact fun req j q addr len us same data overG mask u c s hc hdata haddr hup hf ho hj =>
      larRequest_waits hc hdata haddr hup hf ho hj
  · exact fun req q addr len us same data overG mask u c s hreq hc hpos hdata haddr hup =>
      larRequest_refused hc hdata hreq hpos haddr hup
  · exact fun req q addr u same s h hone => larRead_corrects same h hone
  · exact fun req q addr u same s h htwo hfree => larRead_detects same h htwo hfree
  · exact fun wa v s hfind hup hport => larWriteback_stores hfind hup hport
  · exact fun wa s h => does_larWriteback_nothing h

end Sys2Proof.Machine
end

section
/-! PROOFS. The bookkeeping of the transparent test and of the repair map (R163 to R166): what beginning, ending and
going on with a test do to its registers, and what they leave alone. -/

namespace Sys2Proof.Machine

/-! ### What the test's bookkeeping leaves alone -/

/-- The registers in which the test stands, beside TEST_HERE of LAR_QSTAT. -/
def testRegs : List RK := [.LAR_TEST_CTRL, .LAR_TEST_STAT, .LAR_TEST_CNT]

/-- A step of the test's bookkeeping: no cell, no repair map, no quadrant's state and no sleep attempt changes. -/
structure Dev.testMoved (d d' : Dev) : Prop where
  words : d'.lar.words = d.lar.words
  gov : d'.gov = d.gov
  rows : d.sameOn d' rowRegs
  states : ∀ q < 4, d'.quadState q = d.quadState q

section
variable {a b c : Dev}

theorem Dev.testMoved_refl (d : Dev) : d.testMoved d := ⟨rfl, rfl, d.sameOn_refl _, fun _ _ => rfl⟩

theorem Dev.testMoved.trans (h : a.testMoved b) (h' : b.testMoved c) : a.testMoved c :=
  ⟨h'.words.trans h.words, h'.gov.trans h.gov, h.rows.trans h'.rows,
    fun q hq => (h'.states q hq).trans (h.states q hq)⟩

theorem Dev.testMoved.lar (h : a.testMoved b) {x : Larder} (hx : x.words = b.lar.words) :
    a.testMoved { b with lar := x } := ⟨hx.trans h.words, h.gov, h.rows, h.states⟩

theorem Dev.testMoved.onArb (h : a.testMoved b) (n : Nat) (f : Arbiter → Arbiter) : a.testMoved (b.onArb n f) :=
  ⟨h.words, h.gov, h.rows, h.states⟩

theorem not_mem_rowRegs {k : RK} (h : k ∈ testRegs) : k ∉ rowRegs := by
  revert k
  decide

theorem ne_qstat_of_mem {k : RK} (h : k ∈ testRegs) : k ≠ .LAR_QSTAT := by
  rintro rfl
  exact absurd h (by decide)

theorem Dev.testMoved.sf (h : a.testMoved b) {f : Fld} (hf : f.reg ∈ testRegs) (v : Nat) :
    a.testMoved (b.sf f 0 0 v) :=
  h.trans ⟨rfl, rfl, b.sameOn_sf v (not_mem_rowRegs hf) (by decide) (by decide), fun q hq =>
    Dev.gf_sf_reg _ _ (ne_qstat_of_mem hf) (by decide) (by decide) (by omega) (by decide)⟩

/-- TEST_HERE stands beside STATE. -/
theorem Dev.quadState_testHere (d : Dev) {p q : Nat} (hp : p < 4) (hq : q < 4) (v : Nat) :
    (d.sf F.LAR_QSTAT_TEST_HERE p 0 v).quadState q = d.quadState q := by
  by_cases h : p = q
  · subst h
    exact d.gf_sf_bits v rfl (by decide)
  · exact d.gf_sf_idx v (.inl h) (by omega) (by decide) (by omega) (by decide)

theorem Dev.testMoved.here (h : a.testMoved b) {p : Nat} (hp : p < 4) (v : Nat) :
    a.testMoved (b.sf F.LAR_QSTAT_TEST_HERE p 0 v) :=
  h.trans ⟨rfl, rfl, b.sameOn_sf v (by decide) (by omega) (by decide), fun _ hq => b.quadState_testHere hp hq v⟩

end

/-! ### Phases -/

section
variable (d : Dev)

/-- A phase's request at the arbiter is no register. -/
theorem Dev.reg_phaseBegin (ph : Nat) (k : RK) (i j : Nat) :
    (d.phaseBegin ph).reg k i j = (d.sf F.LAR_TEST_STAT_PHASE 0 0 ph).reg k i j := by
  unfold Dev.phaseBegin Dev.when
  dsimp only
  split_ifs <;> rfl

theorem Dev.gf_phaseBegin (ph : Nat) (f : Fld) (i j : Nat) :
    (d.phaseBegin ph).gf f i j = (d.sf F.LAR_TEST_STAT_PHASE 0 0 ph).gf f i j := by
  rw [Dev.gf, Dev.gf, Dev.reg_phaseBegin]

theorem Dev.lar_phaseBegin (ph : Nat) : (d.phaseBegin ph).lar = { d.lar with ops := 0 } := by
  unfold Dev.phaseBegin Dev.when
  dsimp only
  split_ifs <;> rfl

/-- A phase begins in PHASE and leaves the rest of LAR_TEST_STAT. -/
theorem Dev.gf_phase_phaseBegin {ph : Nat} (hph : ph < 4) : (d.phaseBegin ph).gf F.LAR_TEST_STAT_PHASE = ph := by
  rw [Dev.gf_phaseBegin, Dev.gf_sf _ _ _ _ _ (by decide)]
  exact Nat.mod_eq_of_lt hph

theorem Dev.gf_phaseBegin_stat (ph : Nat) {f : Fld} (hf : F.LAR_TEST_STAT_PHASE.reg = f.reg)
    (h : F.LAR_TEST_STAT_PHASE.lo + F.LAR_TEST_STAT_PHASE.width ≤ f.lo ∨ f.lo + f.width ≤ F.LAR_TEST_STAT_PHASE.lo) :
    (d.phaseBegin ph).gf f = d.gf f := by
  rw [Dev.gf_phaseBegin, Dev.gf_sf_bits _ _ hf h]

theorem Dev.testMoved_phaseBegin (ph : Nat) : d.testMoved (d.phaseBegin ph) := by
  have hph := (d.testMoved_refl.lar (x := { d.lar with ops := 0 }) rfl).sf (f := F.LAR_TEST_STAT_PHASE) (by decide) ph
  unfold Dev.phaseBegin Dev.when
  dsimp only
  split_ifs
  · exact hph.onArb _ _
  · exact hph

/-- While a region is in MARCH its words are read from the spare buffer of its bank. -/
theorem Dev.larWord_march {wa : Nat} (hbusy : d.gb F.LAR_TEST_STAT_BUSY = true)
    (hspare : d.gb F.LAR_TEST_STAT_SPARE = false) (hwa : d.gf F.LAR_TEST_STAT_REGION = larRegion wa)
    (hph : d.gf F.LAR_TEST_STAT_PHASE = phMarch) : d.larWord wa = d.larCell (bufferCell (larBank wa) (larCol wa)) := by
  have hphase : d.phaseFor wa = phMarch := by simp [Dev.phaseFor, hbusy, hspare, hwa, hph]
  rw [Dev.larWord, Dev.readCell_of_buffered (.inl hphase)]

/-! ### The beginning of a test -/

theorem itemBank_lt {i : Nat} (hi : i < passItems) : itemBank i < 64 := by
  unfold itemBank
  unfold passItems at hi
  split_ifs <;> omega

/-- The registers of a test that begins. -/
def Dev.testMarked (d : Dev) (spare : Bool) (region q : Nat) : Dev :=
  (((d.sf F.LAR_TEST_STAT_BUSY 0 0 1).sf F.LAR_TEST_STAT_SPARE 0 0 (b2n spare)).sf F.LAR_TEST_STAT_REGION 0 0
    region).sf F.LAR_QSTAT_TEST_HERE q 0 1

/-- No finding yet, and no quadrant waited for. -/
def Dev.testReady (d : Dev) : Dev := { d with lar := { d.lar with rowFailed := false, waits := none } }

theorem Dev.testMoved_testReady : d.testMoved d.testReady := d.testMoved_refl.lar rfl

theorem Dev.testBegin_eq (i : Nat) : d.testBegin i =
    (d.testReady.testMarked (decide (16384 ≤ i))
      (if decide (16384 ≤ i) then 256 * itemBank i + i % 4 else i) (itemBank i / 16)).phaseBegin
      (if decide (16384 ≤ i) then phMarch else phCopy) := rfl

theorem Dev.gf_testMarked (spare : Bool) {region q : Nat} (hq : q < 4) (hr : region < 16384) :
    (d.testMarked spare region q).gf F.LAR_TEST_STAT_BUSY = 1 ∧
      (d.testMarked spare region q).gf F.LAR_TEST_STAT_SPARE = b2n spare ∧
      (d.testMarked spare region q).gf F.LAR_TEST_STAT_REGION = region ∧
      (d.testMarked spare region q).gf F.LAR_TEST_STAT_IN_PASS = d.gf F.LAR_TEST_STAT_IN_PASS := by
  have hhere (e : Dev) (f : Fld) (hf : F.LAR_QSTAT_TEST_HERE.reg ≠ f.reg) :
      (e.sf F.LAR_QSTAT_TEST_HERE q 0 1).gf f = e.gf f :=
    e.gf_sf_reg 1 hf (by omega) (by decide) (by decide) (by decide)
  have hspare : b2n spare % 2 ^ 1 = b2n spare := by cases spare <;> rfl
  unfold Dev.testMarked
  simp (disch := decide) only [hhere, Dev.gf_sf, Dev.gf_sf_bits, hspare, and_true, true_and]
  exact ⟨rfl, Nat.mod_eq_of_lt hr⟩

theorem Dev.testMoved_testMarked (spare : Bool) (region : Nat) {q : Nat} (hq : q < 4) :
    d.testMoved (d.testMarked spare region q) :=
  (((d.testMoved_refl.sf (by decide) _).sf (by decide) _).sf (by decide) _).here hq _

theorem Dev.testMoved_testBegin {i : Nat} (hi : i < passItems) : d.testMoved (d.testBegin i) := by
  have hq : itemBank i / 16 < 4 := by have := itemBank_lt hi; omega
  rw [Dev.testBegin_eq]
  exact (d.testMoved_testReady.trans (Dev.testMoved_testMarked _ _ _ hq)).trans (Dev.testMoved_phaseBegin _ _)

/-- A test that begins is BUSY, in COPY for a region and in MARCH for a spare row; a pass stays one. -/
theorem Dev.testBegin_stat {i : Nat} (hi : i < passItems) :
    (d.testBegin i).gf F.LAR_TEST_STAT_BUSY = 1 ∧
      (d.testBegin i).gf F.LAR_TEST_STAT_SPARE = b2n (decide (16384 ≤ i)) ∧
      (d.testBegin i).gf F.LAR_TEST_STAT_IN_PASS = d.gf F.LAR_TEST_STAT_IN_PASS ∧
      (i < 16384 → (d.testBegin i).gf F.LAR_TEST_STAT_REGION = i ∧
        (d.testBegin i).gf F.LAR_TEST_STAT_PHASE = phCopy) := by
  have hbank := itemBank_lt hi
  have hregion : (if decide (16384 ≤ i) then 256 * itemBank i + i % 4 else i) < 16384 := by
    split_ifs with h
    · omega
    · simpa using h
  obtain ⟨hbusy, hspare, hreg, hpass⟩ :=
    d.testReady.gf_testMarked (decide (16384 ≤ i))
      (q := itemBank i / 16) (by omega) hregion
  rw [Dev.testBegin_eq]
  have hphase (ph : Nat) {e : Dev} (f : Fld) (hf : f ∈ [F.LAR_TEST_STAT_BUSY, F.LAR_TEST_STAT_SPARE,
      F.LAR_TEST_STAT_REGION, F.LAR_TEST_STAT_IN_PASS]) : (e.phaseBegin ph).gf f = e.gf f := by
    simp only [List.mem_cons, List.not_mem_nil, or_false] at hf
    obtain rfl | rfl | rfl | rfl := hf <;> exact e.gf_phaseBegin_stat ph rfl (by decide)
  refine ⟨(hphase _ _ (by decide)).trans hbusy, (hphase _ _ (by decide)).trans hspare,
    (hphase _ _ (by decide)).trans hpass, fun h => ?_⟩
  have hcopy : decide (16384 ≤ i) = false := by simpa using h
  refine ⟨(hphase _ _ (by decide)).trans (hreg.trans (by rw [hcopy]; rfl)), ?_⟩
  rw [hcopy]
  exact Dev.gf_phase_phaseBegin _ (by decide)

/-- A test that begins reads no word from a buffer: a region begins in COPY, a spare row holds no word. -/
theorem Dev.not_buffered_testBegin {i : Nat} (hi : i < passItems) (wa : Nat) : ¬ (d.testBegin i).buffered wa := by
  obtain ⟨-, hspare, -, hcopy⟩ := d.testBegin_stat hi
  have hphase : (d.testBegin i).phaseFor wa = phIdle ∨ (d.testBegin i).phaseFor wa = phCopy := by
    by_cases hr : 16384 ≤ i
    · refine .inl (if_neg ?_)
      simp [Dev.gb, hspare, hr, b2n]
    · unfold Dev.phaseFor
      rw [(hcopy (Nat.not_le.1 hr)).2]
      split_ifs
      · exact .inr rfl
      · exact .inl rfl
  unfold Dev.buffered
  rcases hphase with h | h <;> rw [h] <;> decide

/-! ### The end of a test -/

/-- BUSY and PHASE of an idle test. -/
def Dev.testStopped (d : Dev) : Dev := (d.sf F.LAR_TEST_STAT_BUSY 0 0 0).sf F.LAR_TEST_STAT_PHASE 0 0 phIdle

/-- TEST_HERE of no quadrant. -/
def Dev.testNowhere (d : Dev) : Dev := (List.range 4).foldl (fun d q => d.sf F.LAR_QSTAT_TEST_HERE q 0 0) d

theorem Dev.testIdle_eq : d.testIdle = d.testStopped.testNowhere := rfl

theorem Dev.testMoved_testNowhere : d.testMoved d.testNowhere :=
  List.foldlRecOn (List.range 4) _ (motive := d.testMoved) d.testMoved_refl
    fun _ h _ hq => h.here (List.mem_range.1 hq) 0

theorem Dev.lar_testNowhere : d.testNowhere.lar = d.lar :=
  foldl_keeps Dev.lar (fun d q => d.sf F.LAR_QSTAT_TEST_HERE q 0 0) (List.range 4) (fun _ _ _ => rfl) d

theorem Dev.gf_testNowhere {f : Fld} (hf : F.LAR_QSTAT_TEST_HERE.reg ≠ f.reg) : d.testNowhere.gf f = d.gf f :=
  foldl_keeps (fun e : Dev => e.gf f) (fun d q => d.sf F.LAR_QSTAT_TEST_HERE q 0 0) (List.range 4)
    (fun e _ hq => e.gf_sf_reg 0 hf ((List.mem_range.1 hq).trans (by decide)) (by decide) (by decide) (by decide)) d

theorem Dev.testMoved_testIdle : d.testMoved d.testIdle := by
  rw [Dev.testIdle_eq]
  exact ((d.testMoved_refl.sf (by decide) _).sf (by decide) _).trans (Dev.testMoved_testNowhere _)

theorem Dev.lar_testIdle : d.testIdle.lar = d.lar := by
  rw [Dev.testIdle_eq, Dev.lar_testNowhere]
  rfl

theorem Dev.gf_testIdle {f : Fld} (hf : F.LAR_QSTAT_TEST_HERE.reg ≠ f.reg) : d.testIdle.gf f = d.testStopped.gf f := by
  rw [Dev.testIdle_eq, Dev.gf_testNowhere _ hf]

theorem Dev.gb_busy_testStopped : d.testStopped.gb F.LAR_TEST_STAT_BUSY = false := by
  unfold Dev.testStopped Dev.gb
  rw [Dev.gf_sf_bits (f := F.LAR_TEST_STAT_PHASE) (g := F.LAR_TEST_STAT_BUSY) _ _ rfl (by decide),
    Dev.gf_sf _ _ _ _ _ (by decide)]
  rfl

theorem Dev.gf_pass_testStopped : d.testStopped.gf F.LAR_TEST_STAT_IN_PASS = d.gf F.LAR_TEST_STAT_IN_PASS := by
  unfold Dev.testStopped
  rw [Dev.gf_sf_bits (f := F.LAR_TEST_STAT_PHASE) (g := F.LAR_TEST_STAT_IN_PASS) _ _ rfl (by decide),
    Dev.gf_sf_bits (f := F.LAR_TEST_STAT_BUSY) (g := F.LAR_TEST_STAT_IN_PASS) _ _ rfl (by decide)]

theorem Dev.gf_testStopped {f : Fld} (hf : .LAR_TEST_STAT ≠ f.reg) : d.testStopped.gf f = d.gf f := by
  unfold Dev.testStopped
  rw [Dev.gf_sf_reg (g := f) _ _ hf (by decide) (by decide) (by decide) (by decide),
    Dev.gf_sf_reg (g := f) _ _ hf (by decide) (by decide) (by decide) (by decide)]

theorem Dev.testMoved_passEnd (complete : Bool) : d.testMoved (d.passEnd complete) := by
  have h := ((d.testMoved_refl.sf (f := F.LAR_TEST_CTRL_PASS) (by decide) 0).sf (f := F.LAR_TEST_CTRL_STOP) (by decide)
    0).sf (f := F.LAR_TEST_STAT_IN_PASS) (by decide) 0
  unfold Dev.passEnd
  dsimp only
  split_ifs
  · exact h.sf (by decide) _
  · exact h

/-- Outside a pass the end of a test leaves the Larder idle, and does nothing more. -/
theorem Dev.testOver_single (h : d.gb F.LAR_TEST_STAT_IN_PASS = false) :
    d.testOver = d.testIdle.sf F.LAR_TEST_CTRL_ONE 0 0 0 := by
  have hpass : (d.testIdle.sf F.LAR_TEST_CTRL_ONE 0 0 0).gb F.LAR_TEST_STAT_IN_PASS = false := by
    rw [← h, Dev.gb, Dev.gb, Dev.gf_sf_reg _ _ (by decide) (by decide) (by decide) (by decide) (by decide),
      d.gf_testIdle (by decide), Dev.gf_pass_testStopped]
  unfold Dev.testOver
  dsimp only
  rw [hpass]
  rfl

/-- After a single test: not BUSY, ONE over, the Larder's cells and counters as they were. -/
theorem Dev.testOver_spec (h : d.gb F.LAR_TEST_STAT_IN_PASS = false) :
    d.testOver.gb F.LAR_TEST_STAT_BUSY = false ∧ d.testOver.gb F.LAR_TEST_CTRL_ONE = false ∧
      d.testOver.lar = d.lar ∧ d.sameOn d.testOver rowRegs ∧
      d.testOver.gf F.LAR_TEST_CNT_UNREPAIRED = d.gf F.LAR_TEST_CNT_UNREPAIRED := by
  have hone (f : Fld) (hf : F.LAR_TEST_CTRL_ONE.reg ≠ f.reg) :
      (d.testIdle.sf F.LAR_TEST_CTRL_ONE 0 0 0).gf f = d.testIdle.gf f :=
    Dev.gf_sf_reg _ _ hf (by decide) (by decide) (by decide) (by decide)
  rw [d.testOver_single h]
  refine ⟨?_, ?_, (Dev.lar_sf _ _ _ _ _).trans d.lar_testIdle, (d.testMoved_testIdle.sf (by decide) 0).rows, ?_⟩
  · rw [Dev.gb, hone _ (by decide), d.gf_testIdle (by decide), ← Dev.gb, Dev.gb_busy_testStopped]
  · rw [Dev.gb, Dev.gf_sf _ _ _ _ _ (by decide)]
    rfl
  · rw [hone _ (by decide), d.gf_testIdle (by decide), d.gf_testStopped (by decide)]

/-! ### Going on with a pass -/

/-- The next item of the pass to look at. -/
def Dev.passAt (d : Dev) (i : Nat) : Dev := { d with lar := { d.lar with item := i } }

/-- The pass waits for a quadrant. -/
def Dev.passWaits (d : Dev) (q : Nat) : Dev := { d with lar := { d.lar with waits := some q } }

theorem Dev.testMoved_passAt (i : Nat) : d.testMoved (d.passAt i) := d.testMoved_refl.lar rfl

theorem Dev.testMoved_passWaits (q : Nat) : d.testMoved (d.passWaits q) := d.testMoved_refl.lar rfl

theorem Dev.passGo_eq : d.passGo = if passItems ≤ d.nextItem d.lar.item then d.passEnd true
    else if d.quadState (itemBank (d.nextItem d.lar.item) / 16) == 2 then
      (d.passAt (d.nextItem d.lar.item + 1)).testBegin (d.nextItem d.lar.item)
    else d.passWaits (itemBank (d.nextItem d.lar.item) / 16) := rfl

/-- A pass that goes on is over, begins its next item where that item's quadrant is UP, or waits for the quadrant. -/
theorem Dev.passGo_cases : d.passGo = d.passEnd true ∨
    (∃ i < passItems, d.passGo = (d.passAt (i + 1)).testBegin i) ∨
    ∃ q, d.passGo = d.passWaits q := by
  rw [Dev.passGo_eq]
  generalize d.nextItem d.lar.item = i
  split_ifs with hend hup
  · exact .inl rfl
  · exact .inr (.inl ⟨_, Nat.not_le.1 hend, rfl⟩)
  · exact .inr (.inr ⟨_, rfl⟩)

theorem Dev.testMoved_passGo : d.testMoved d.passGo := by
  obtain h | ⟨i, hi, h⟩ | ⟨q, h⟩ := d.passGo_cases <;> rw [h]
  · exact d.testMoved_passEnd true
  · exact (d.testMoved_passAt _).trans (Dev.testMoved_testBegin _ hi)
  · exact d.testMoved_passWaits q

end

/-- Without a test no word is read from a buffer. -/
theorem Dev.not_buffered_of_idle {d : Dev} (h : d.gb F.LAR_TEST_STAT_BUSY = false) (wa : Nat) : ¬ d.buffered wa := by
  simp [Dev.buffered, Dev.phaseFor, h]

/-- A pass that goes on reads every word where it stood. -/
theorem Dev.readCell_passGo {d : Dev} (h : d.gb F.LAR_TEST_STAT_BUSY = false) (wa : Nat) :
    d.passGo.readCell wa = d.readCell wa := by
  have hnot : ¬ d.passGo.buffered wa := by
    obtain he | ⟨i, hi, he⟩ | ⟨q, he⟩ := d.passGo_cases <;> rw [he]
    · refine Dev.not_buffered_of_idle ?_ wa
      rw [← h]
      unfold Dev.passEnd Dev.cntWrap
      simp (disch := decide) only [if_true, Dev.gb, Dev.gf_sf_reg, Dev.gf_sf_bits]
    · exact Dev.not_buffered_testBegin _ hi wa
    · exact Dev.not_buffered_of_idle h wa
  rw [Dev.readCell_of_not_buffered hnot, Dev.readCell_of_not_buffered (Dev.not_buffered_of_idle h wa),
    Dev.rowCell_congr d.testMoved_passGo.rows (List.Subset.refl _)]

/-! ### The repair map -/

section
variable (d : Dev)

/-- A flag set is set, beside those that were. -/
theorem Dev.gf_setFlag {f : Fld} {b k : Nat} (hf : f.lo + f.width ≤ 32) (hk : k < f.width) :
    (d.setFlag f b k true).gf f b = d.gf f b ||| 2 ^ k := by
  have hlt : d.gf f b ||| 2 ^ k < 2 ^ f.width :=
    Nat.or_lt_two_pow (d.gf_lt f b 0) (Nat.pow_lt_pow_right (by decide) hk)
  unfold Dev.setFlag
  rw [Dev.gf_sf _ _ _ _ _ hf, if_pos rfl, Nat.mod_eq_of_lt hlt]

/-- The row that spare row `k` is given to is served by it, where `k` is the lowest good one and none served the row. -/
theorem Dev.spareOf_given {b k r : Nat} (hb : b < 64) (hr : r < 256) (hgood : d.goodSpare b = some k)
    (hnone : d.spareOf b r = none) :
    ((d.setFlag F.LAR_SPARE_FLG_USED b k true).sf (spareRowFld k) b 0 r).spareOf b r = some k := by
  obtain ⟨hk, -⟩ := Dev.goodSpare_some hgood
  have hused : ((d.setFlag F.LAR_SPARE_FLG_USED b k true).sf (spareRowFld k) b 0 r).gf F.LAR_SPARE_FLG_USED b =
      d.gf F.LAR_SPARE_FLG_USED b ||| 2 ^ k :=
    (Dev.gf_sf_reg _ _ (by simp [spareRowFld]) (by omega) (by decide) (by omega) (by decide)).trans
      (d.gf_setFlag (by decide) hk)
  have hrow : ((d.setFlag F.LAR_SPARE_FLG_USED b k true).sf (spareRowFld k) b 0 r).gf (spareRowFld k) b = r :=
    (Dev.gf_sf _ _ _ _ _ (by simp only [spareRowFld]; omega)).trans (Nat.mod_eq_of_lt hr)
  have hother (j : Nat) (hj : j < k) : ((d.setFlag F.LAR_SPARE_FLG_USED b k true).sf (spareRowFld k) b 0 r).gf
      (spareRowFld j) b = d.gf (spareRowFld j) b :=
    (Dev.gf_sf_bits (f := spareRowFld k) (g := spareRowFld j) _ _ rfl (by simp only [spareRowFld]; omega)).trans
      (Dev.gf_sf_reg (f := F.LAR_SPARE_FLG_USED) (g := spareRowFld j) _ _ (by simp [spareRowFld]) (by omega) (by decide)
        (by omega) (by decide))
  refine List.find?_range_eq_some.2 ⟨?_, List.mem_range.2 hk, fun j hj => ?_⟩
  · rw [hused, hrow]
    simp [bitOf]
  · rw [hused, hother j hj]
    have hold := List.find?_eq_none.1 hnone j (List.mem_range.2 (hj.trans hk))
    simpa [bitOf, Nat.testBit_two_pow, hj.ne', imp_iff_not_or] using hold

end

end Sys2Proof.Machine
end

section
/-! PROOFS. The stages of the transparent test (R163 to R166): what LAR_TEST_PASS, LAR_TEST_ONE and LAR_TEST_STOP begin
and end, where a phase leads when its operations are made, and the repair of a row that fails. -/

namespace Sys2Proof.Machine

/-! ### The row repair (R165) -/

/-- A repair is counted, reported, and the bank's map goes to the Attic. -/
def Dev.repairLogged (d : Dev) (b : Nat) : Dev := ((d.cnt F.LAR_TEST_CNT_REPAIRED 0 0).noticeFree 0x32).saveSpares b

/-- A region for which no good spare row is left is counted and reported. -/
def Dev.repairMissed (d : Dev) (region : Nat) : Dev := (d.cnt F.LAR_TEST_CNT_UNREPAIRED 0 0).fault 0x33 region

section
variable (d : Dev)

theorem Dev.sameOn_repairLogged (b : Nat) : d.sameOn (d.repairLogged b) mapRegs := by
  have hcnt : d.sameOn (d.cnt F.LAR_TEST_CNT_REPAIRED 0 0) mapRegs :=
    d.sameOn_cnt (by decide) (by decide) (by decide)
  have hnotice (e : Dev) : e.sameOn (e.noticeFree 0x32) mapRegs := fun k hk i j hi hj =>
    e.reg_noticeFree 0x32 ((by decide : ∀ k ∈ mapRegs, k.isErr = false) k hk) hi hj
  have hsave (e : Dev) : e.sameOn (e.saveSpares b) mapRegs := Dev.sameOn_of_regs rfl
  exact (hcnt.trans (hnotice _)).trans (hsave _)

theorem Dev.words_repairLogged (b : Nat) : (d.repairLogged b).lar.words = d.lar.words := by
  simp [Dev.repairLogged, Dev.saveSpares]

theorem Dev.sameOn_repairMissed (region : Nat) : d.sameOn (d.repairMissed region) mapRegs :=
  (d.sameOn_cnt (by decide) (by decide) (by decide)).trans
    (Dev.sameOn_errOnly (Dev.errOnly_raise _ _ _ _) (by decide))

theorem Dev.gf_repairMissed (region : Nat) : (d.repairMissed region).gf F.LAR_TEST_CNT_UNREPAIRED =
    min (d.gf F.LAR_TEST_CNT_UNREPAIRED + 1) (2 ^ F.LAR_TEST_CNT_UNREPAIRED.width - 1) :=
  (Dev.gf_fault _ _ _ rfl (by decide) (by decide)).trans (d.gf_cnt _ _ _ _ (by decide))

/-- A flag of the repair map is no register of the test. -/
theorem Dev.gf_setFlag_ne {f g : Fld} {b : Nat} (hb : b < 64) (k : Nat) (v : Bool) (hf : f.reg ∈ rowRegs)
    (hg : g.reg ∉ rowRegs) : (d.setFlag f b k v).gf g = d.gf g :=
  d.gf_sf_reg _ (fun he => hg (he ▸ hf)) (by omega) (by decide) (by decide) (by decide)

/-- BAD of a spare row in use leaves it in use. -/
theorem Dev.spareOf_setFlag_bad {b : Nat} (hb : b < 64) (k r : Nat) (v : Bool) :
    (d.setFlag F.LAR_SPARE_FLG_BAD b k v).spareOf b r = d.spareOf b r := by
  have hused : (d.setFlag F.LAR_SPARE_FLG_BAD b k v).gf F.LAR_SPARE_FLG_USED b = d.gf F.LAR_SPARE_FLG_USED b :=
    d.gf_sf_bits _ rfl (by decide)
  have hrow (j : Nat) : (d.setFlag F.LAR_SPARE_FLG_BAD b k v).gf (spareRowFld j) b = d.gf (spareRowFld j) b :=
    d.gf_sf_reg _ (by simp [spareRowFld]) (by omega) (by decide) (by omega) (by decide)
  simp only [Dev.spareOf, hused, hrow]

/-- A spare row that fails its march is bad, and no other of its bank for that. -/
theorem Dev.spareBad_spec {b k : Nat} (hb : b < 64) (hk : k < 4) :
    (d.spareBad b k).gb F.LAR_TEST_STAT_IN_PASS = d.gb F.LAR_TEST_STAT_IN_PASS ∧
      (d.spareBad b k).gf F.LAR_SPARE_FLG_BAD b = d.gf F.LAR_SPARE_FLG_BAD b ||| 2 ^ k := by
  have hlog := (d.setFlag F.LAR_SPARE_FLG_BAD b k true).sameOn_repairLogged b
  refine ⟨?_, ?_⟩
  · rw [Dev.gb, Dev.gb, ← d.gf_setFlag_ne (f := F.LAR_SPARE_FLG_BAD) hb k true (by decide) (by decide)]
    exact congrArg (· == 1) (hlog.gf (f := F.LAR_TEST_STAT_IN_PASS) (by decide) (by decide) (by decide))
  · exact (hlog.gf (f := F.LAR_SPARE_FLG_BAD) (by decide) (by omega) (by decide)).trans (d.gf_setFlag (by decide) hk)

variable {region : Nat}

/-- The lowest good spare row serves a region that failed, where none did before. -/
theorem Dev.rowRepair_given {k : Nat} (hregion : region < 16384) (hgood : d.goodSpare (region / 256) = some k)
    (hnone : d.spareOf (region / 256) (region % 256) = none) :
    (d.rowRepair region).gb F.LAR_TEST_STAT_IN_PASS = d.gb F.LAR_TEST_STAT_IN_PASS ∧
      (d.rowRepair region).spareOf (region / 256) (region % 256) = some k ∧
      (d.rowRepair region).lar.words = d.lar.words := by
  have hb : region / 256 < 64 := by omega
  have heq : d.rowRepair region = ((d.setFlag F.LAR_SPARE_FLG_USED (region / 256) k true).sf (spareRowFld k)
      (region / 256) 0 (region % 256)).repairLogged (region / 256) := by
    unfold Dev.rowRepair
    dsimp only
    rw [hgood, hnone]
    rfl
  have hserves := d.spareOf_given hb (Nat.mod_lt region (by decide)) hgood hnone
  have hpass : ((d.setFlag F.LAR_SPARE_FLG_USED (region / 256) k true).sf (spareRowFld k) (region / 256) 0
      (region % 256)).gf F.LAR_TEST_STAT_IN_PASS = d.gf F.LAR_TEST_STAT_IN_PASS :=
    (Dev.gf_sf_reg (f := spareRowFld k) _ _ (by simp [spareRowFld]) (by omega) (by decide) (by decide) (by decide)).trans
      (d.gf_setFlag_ne hb k true (by decide) (by decide))
  have hlar : ((d.setFlag F.LAR_SPARE_FLG_USED (region / 256) k true).sf (spareRowFld k) (region / 256) 0
      (region % 256)).lar = d.lar := rfl
  rw [heq]
  generalize (d.setFlag F.LAR_SPARE_FLG_USED (region / 256) k true).sf (spareRowFld k) (region / 256) 0
    (region % 256) = e at *
  have hlog := e.sameOn_repairLogged (region / 256)
  refine ⟨?_, (Dev.spareOf_congr hlog rowRegs_subset_mapRegs hb _).trans hserves, ?_⟩
  · rw [Dev.gb, Dev.gb, ← hpass]
    exact congrArg (· == 1) (hlog.gf (f := F.LAR_TEST_STAT_IN_PASS) (by decide) (by decide) (by decide))
  · rw [e.words_repairLogged, hlar]

/-- Without a good spare row a region stays where it is, and counts as not repaired. -/
theorem Dev.rowRepair_missed (hregion : region < 16384) (hgood : d.goodSpare (region / 256) = none) :
    (d.rowRepair region).gb F.LAR_TEST_STAT_IN_PASS = d.gb F.LAR_TEST_STAT_IN_PASS ∧
      (d.rowRepair region).spareOf (region / 256) (region % 256) = d.spareOf (region / 256) (region % 256) ∧
      (d.rowRepair region).gf F.LAR_TEST_CNT_UNREPAIRED =
        min (d.gf F.LAR_TEST_CNT_UNREPAIRED + 1) (2 ^ F.LAR_TEST_CNT_UNREPAIRED.width - 1) := by
  have hb : region / 256 < 64 := by omega
  obtain ⟨e, heq, hpass, hcnt, hspare⟩ : ∃ e : Dev, d.rowRepair region = e.repairMissed region ∧
      e.gf F.LAR_TEST_STAT_IN_PASS = d.gf F.LAR_TEST_STAT_IN_PASS ∧
      e.gf F.LAR_TEST_CNT_UNREPAIRED = d.gf F.LAR_TEST_CNT_UNREPAIRED ∧
      e.spareOf (region / 256) (region % 256) = d.spareOf (region / 256) (region % 256) := by
    cases hold : d.spareOf (region / 256) (region % 256) with
    | none =>
      refine ⟨d, ?_, rfl, rfl, hold⟩
      unfold Dev.rowRepair
      dsimp only
      rw [hgood, hold]
      rfl
    | some k0 =>
      refine ⟨(d.setFlag F.LAR_SPARE_FLG_BAD (region / 256) k0 true).saveSpares (region / 256), ?_,
        d.gf_setFlag_ne hb k0 true (by decide) (by decide), d.gf_setFlag_ne hb k0 true (by decide) (by decide),
        (d.spareOf_setFlag_bad hb k0 _ true).trans hold⟩
      unfold Dev.rowRepair
      dsimp only
      rw [hgood, hold]
      rfl
  have hlog := e.sameOn_repairMissed region
  rw [heq]
  refine ⟨?_, (Dev.spareOf_congr hlog rowRegs_subset_mapRegs hb _).trans hspare, ?_⟩
  · rw [Dev.gb, Dev.gb, ← hpass]
    exact congrArg (· == 1) (hlog.gf (f := F.LAR_TEST_STAT_IN_PASS) (by decide) (by decide) (by decide))
  · rw [e.gf_repairMissed, hcnt]

end

/-! ### A phase's end -/

/-- The march's finding, kept until RESTORE is over. -/
def Dev.rowFound (d : Dev) (fail : Bool) : Dev := { d with lar := { d.lar with rowFailed := fail } }

section
variable {d : Dev} (fail : Bool)

/-- A phase whose operations are not made does not end. -/
theorem Dev.testPhaseDone_early (h : d.gb F.LAR_TEST_STAT_BUSY = false ∨ d.lar.ops < d.phaseOps) :
    d.testPhaseDone fail = d := by
  unfold Dev.testPhaseDone
  dsimp only
  rw [if_pos]
  simpa using h

variable (hbusy : d.gb F.LAR_TEST_STAT_BUSY = true) (hops : d.phaseOps ≤ d.lar.ops)
include hbusy hops

theorem Dev.testPhaseDone_eq : d.testPhaseDone fail =
    if d.gf F.LAR_TEST_STAT_PHASE = phCopy then d.phaseBegin phMarch
    else if d.gf F.LAR_TEST_STAT_PHASE = phMarch then
      if d.gb F.LAR_TEST_STAT_SPARE then (if fail then d.spareBad (d.gf F.LAR_TEST_STAT_REGION / 256)
        (d.gf F.LAR_TEST_STAT_REGION % 4) else d).testOver
      else (d.rowFound fail).phaseBegin phRestore
    else (if d.lar.rowFailed then d.rowRepair (d.gf F.LAR_TEST_STAT_REGION) else d).testOver := by
  have hnot : ¬ ((!d.gb F.LAR_TEST_STAT_BUSY || decide (d.lar.ops < d.phaseOps)) = true) := by
    simpa [hbusy] using hops
  unfold Dev.testPhaseDone
  dsimp only
  rw [if_neg hnot]
  rfl

theorem Dev.testPhaseDone_copy (hph : d.gf F.LAR_TEST_STAT_PHASE = phCopy) :
    d.testPhaseDone fail = d.phaseBegin phMarch := by
  rw [Dev.testPhaseDone_eq fail hbusy hops, if_pos hph]

theorem Dev.testPhaseDone_march (hph : d.gf F.LAR_TEST_STAT_PHASE = phMarch)
    (hspare : d.gb F.LAR_TEST_STAT_SPARE = false) : d.testPhaseDone fail = (d.rowFound fail).phaseBegin phRestore := by
  rw [Dev.testPhaseDone_eq fail hbusy hops, hph, hspare]
  rfl

theorem Dev.testPhaseDone_spare (hph : d.gf F.LAR_TEST_STAT_PHASE = phMarch)
    (hspare : d.gb F.LAR_TEST_STAT_SPARE = true) : d.testPhaseDone fail = (if fail then
      d.spareBad (d.gf F.LAR_TEST_STAT_REGION / 256) (d.gf F.LAR_TEST_STAT_REGION % 4) else d).testOver := by
  rw [Dev.testPhaseDone_eq fail hbusy hops, hph, hspare]
  rfl

theorem Dev.testPhaseDone_restore (hph : d.gf F.LAR_TEST_STAT_PHASE = phRestore) : d.testPhaseDone fail =
    (if d.lar.rowFailed then d.rowRepair (d.gf F.LAR_TEST_STAT_REGION) else d).testOver := by
  rw [Dev.testPhaseDone_eq fail hbusy hops, hph]
  rfl

end

section
variable (fail : Bool) {s : State} (hbusy : s.dev.gb F.LAR_TEST_STAT_BUSY = true)
  (hops : s.dev.phaseOps ≤ s.dev.lar.ops)
include hbusy hops

/-- COPY leads to MARCH, and the region's words are read from the buffer from then on. -/
theorem testPhaseDone_yields_march (hph : s.dev.gf F.LAR_TEST_STAT_PHASE = phCopy)
    (hspare : s.dev.gb F.LAR_TEST_STAT_SPARE = false) :
    Yields (.testPhaseDone fail) s (fun t => t.dev.gf F.LAR_TEST_STAT_PHASE = phMarch ∧
      t.dev.lar = { s.dev.lar with ops := 0 } ∧ ∀ wa, larRegion wa = s.dev.gf F.LAR_TEST_STAT_REGION →
        t.dev.larWord wa = s.dev.larCell (bufferCell (larBank wa) (larCol wa))) := by
  have hstat (f : Fld) (hf : f ∈ [F.LAR_TEST_STAT_BUSY, F.LAR_TEST_STAT_SPARE, F.LAR_TEST_STAT_REGION]) :
      (s.dev.phaseBegin phMarch).gf f = s.dev.gf f := by
    simp only [List.mem_cons, List.not_mem_nil, or_false] at hf
    obtain rfl | rfl | rfl := hf <;> exact s.dev.gf_phaseBegin_stat _ rfl (by decide)
  have hmarch := s.dev.gf_phase_phaseBegin (ph := phMarch) (by decide)
  refine yields_onDev rfl (Dev.testPhaseDone_copy fail hbusy hops hph) ⟨hmarch, s.dev.lar_phaseBegin _, ?_⟩
  intro wa hwa
  rw [State.dev_onDev, Dev.larWord_march _ ?_ ?_ ?_ hmarch, Dev.larCell, Dev.lar_phaseBegin, Dev.larCell]
  · rw [Dev.gb, hstat _ (by decide), ← Dev.gb, hbusy]
  · rw [Dev.gb, hstat _ (by decide), ← Dev.gb, hspare]
  · rw [hstat _ (by decide), hwa]

/-- MARCH leads to RESTORE with its finding. -/
theorem testPhaseDone_yields_restore (hph : s.dev.gf F.LAR_TEST_STAT_PHASE = phMarch)
    (hspare : s.dev.gb F.LAR_TEST_STAT_SPARE = false) :
    Yields (.testPhaseDone fail) s (fun t => t.dev.gf F.LAR_TEST_STAT_PHASE = phRestore ∧
      t.dev.lar = { s.dev.lar with rowFailed := fail, ops := 0 }) :=
  yields_onDev rfl (Dev.testPhaseDone_march fail hbusy hops hph hspare)
    ⟨Dev.gf_phase_phaseBegin _ (by decide), (Dev.lar_phaseBegin _ _).trans rfl⟩

variable (hpass : s.dev.gb F.LAR_TEST_STAT_IN_PASS = false)
include hpass

/-- A spare row that fails its march is bad. -/
theorem testPhaseDone_yields_bad (hph : s.dev.gf F.LAR_TEST_STAT_PHASE = phMarch)
    (hspare : s.dev.gb F.LAR_TEST_STAT_SPARE = true) :
    let region := s.dev.gf F.LAR_TEST_STAT_REGION
    Yields (.testPhaseDone fail) s (fun t => t.dev.gb F.LAR_TEST_STAT_BUSY = false ∧
      (t.dev.gf F.LAR_SPARE_FLG_BAD (region / 256)).testBit (region % 4) =
        (fail || (s.dev.gf F.LAR_SPARE_FLG_BAD (region / 256)).testBit (region % 4))) := by
  have hregion := s.dev.gf_lt F.LAR_TEST_STAT_REGION 0 0
  intro region
  have hb : region / 256 < 64 := Nat.div_lt_of_lt_mul hregion
  have hk : region % 4 < 4 := Nat.mod_lt _ (by decide)
  have hend (e : Dev) (he : e.gb F.LAR_TEST_STAT_IN_PASS = false) :
      e.testOver.gb F.LAR_TEST_STAT_BUSY = false ∧
        e.testOver.gf F.LAR_SPARE_FLG_BAD (region / 256) = e.gf F.LAR_SPARE_FLG_BAD (region / 256) := by
    obtain ⟨hidle, -, -, hrows, -⟩ := e.testOver_spec he
    exact ⟨hidle, hrows.gf (f := F.LAR_SPARE_FLG_BAD) (by decide) (by omega) (by decide)⟩
  have heq := Dev.testPhaseDone_spare fail hbusy hops hph hspare
  cases fail with
  | false =>
    obtain ⟨hidle, hbad⟩ := hend s.dev hpass
    exact yields_onDev rfl heq ⟨hidle, congrArg (Nat.testBit · (region % 4)) hbad⟩
  | true =>
    obtain ⟨hin, hset⟩ := s.dev.spareBad_spec hb hk
    obtain ⟨hidle, hbad⟩ := hend (s.dev.spareBad (region / 256) (region % 4)) (hin.trans hpass)
    rw [if_pos rfl] at heq
    refine yields_onDev rfl heq ⟨hidle, ?_⟩
    rw [State.dev_onDev, hbad, hset]
    simp

variable (hph : s.dev.gf F.LAR_TEST_STAT_PHASE = phRestore)
include hph

/-- A region that passes ends its single test. -/
theorem testPhaseDone_yields_passed (hfound : s.dev.lar.rowFailed = false) :
    Yields (.testPhaseDone fail) s (fun t => t.dev.gb F.LAR_TEST_STAT_BUSY = false ∧
      t.dev.gb F.LAR_TEST_CTRL_ONE = false ∧ t.dev.lar = s.dev.lar) := by
  obtain ⟨hidle, hone, hlar, -, -⟩ := s.dev.testOver_spec hpass
  have heq := Dev.testPhaseDone_restore fail hbusy hops hph
  rw [hfound] at heq
  exact yields_onDev rfl heq ⟨hidle, hone, hlar⟩

/-- A region that fails is served by the lowest good spare row of its bank. -/
theorem testPhaseDone_yields_given {k : Nat} (hfound : s.dev.lar.rowFailed = true)
    (hgood : s.dev.goodSpare (s.dev.gf F.LAR_TEST_STAT_REGION / 256) = some k)
    (hnone : s.dev.spareOf (s.dev.gf F.LAR_TEST_STAT_REGION / 256) (s.dev.gf F.LAR_TEST_STAT_REGION % 256) = none) :
    Yields (.testPhaseDone fail) s (fun t => t.dev.spareOf (s.dev.gf F.LAR_TEST_STAT_REGION / 256)
      (s.dev.gf F.LAR_TEST_STAT_REGION % 256) = some k ∧ t.dev.lar.words = s.dev.lar.words) := by
  have hregion := s.dev.gf_lt F.LAR_TEST_STAT_REGION 0 0
  obtain ⟨hin, hserves, hwords⟩ := s.dev.rowRepair_given hregion hgood hnone
  obtain ⟨-, -, hlar, hrows, -⟩ := Dev.testOver_spec _ (hin.trans hpass)
  have heq := Dev.testPhaseDone_restore fail hbusy hops hph
  rw [hfound] at heq
  refine yields_onDev rfl heq ⟨?_, (congrArg Larder.words hlar).trans hwords⟩
  exact (Dev.spareOf_congr hrows (List.Subset.refl _) (Nat.div_lt_of_lt_mul hregion) _).trans hserves

/-- A region that fails without a good spare row left is counted as not repaired. -/
theorem testPhaseDone_yields_missed (hfound : s.dev.lar.rowFailed = true)
    (hgood : s.dev.goodSpare (s.dev.gf F.LAR_TEST_STAT_REGION / 256) = none) :
    let region := s.dev.gf F.LAR_TEST_STAT_REGION
    Yields (.testPhaseDone fail) s (fun t =>
      t.dev.spareOf (region / 256) (region % 256) = s.dev.spareOf (region / 256) (region % 256) ∧
      t.dev.gf F.LAR_TEST_CNT_UNREPAIRED =
        min (s.dev.gf F.LAR_TEST_CNT_UNREPAIRED + 1) (2 ^ F.LAR_TEST_CNT_UNREPAIRED.width - 1)) := by
  have hregion := s.dev.gf_lt F.LAR_TEST_STAT_REGION 0 0
  obtain ⟨hin, hstays, hcount⟩ := s.dev.rowRepair_missed hregion hgood
  obtain ⟨-, -, -, hrows, hcnt⟩ := Dev.testOver_spec _ (hin.trans hpass)
  have heq := Dev.testPhaseDone_restore fail hbusy hops hph
  rw [hfound] at heq
  refine yields_onDev rfl heq ⟨?_, hcnt.trans hcount⟩
  exact (Dev.spareOf_congr hrows (List.Subset.refl _) (Nat.div_lt_of_lt_mul hregion) _).trans hstays

end

end Sys2Proof.Machine
end

section
/-! PROOFS. What LAR_TEST_PASS, LAR_TEST_ONE and LAR_TEST_STOP begin and end (R163, R166), a quadrant's start and
clearing (R162, R322), and `Obligations.QuadrantPowerAndTest`. -/

namespace Sys2Proof.Machine

/-! ### Passes and single tests begin and end -/

section
variable {s : State}

/-- PASS and IN_PASS as a pass begins. -/
def Dev.passMarked (d : Dev) : Dev := (d.sf F.LAR_TEST_CTRL_PASS 0 0 1).sf F.LAR_TEST_STAT_IN_PASS 0 0 1

theorem Dev.testMoved_passMarked (d : Dev) : d.testMoved d.passMarked :=
  (d.testMoved_refl.sf (by decide) _).sf (by decide) _

theorem Dev.gf_passMarked (d : Dev) : d.passMarked.gf F.LAR_TEST_STAT_IN_PASS = 1 :=
  Dev.gf_sf _ _ _ _ _ (by decide)

/-- A pass begins with region 0 in COPY. -/
theorem larTestPass_yields (hbusy : s.dev.gb F.LAR_TEST_STAT_BUSY = false) (hup : s.dev.quadState 0 = 2) :
    Yields .larTestPass s (fun t => t.dev.gb F.LAR_TEST_STAT_BUSY = true ∧ t.dev.gf F.LAR_TEST_STAT_PHASE = phCopy ∧
      t.dev.gf F.LAR_TEST_STAT_REGION = 0 ∧ t.dev.gb F.LAR_TEST_STAT_IN_PASS = true ∧
        t.dev.lar.words = s.dev.lar.words) := by
  have hgo : s.dev.larTestPass = (s.dev.passMarked.passAt 0).passGo := by
    unfold Dev.larTestPass
    rw [hbusy]
    rfl
  have hstate : (s.dev.passMarked.passAt 0).quadState 0 = 2 := (s.dev.testMoved_passMarked.states 0 (by decide)).trans hup
  have hfirst : (s.dev.passMarked.passAt 0).nextItem 0 = 0 := by simp [Dev.nextItem]
  have hbegin : (s.dev.passMarked.passAt 0).passGo = ((s.dev.passMarked.passAt 0).passAt 1).testBegin 0 := by
    have hitem : (s.dev.passMarked.passAt 0).lar.item = 0 := rfl
    have hbank : itemBank 0 / 16 = 0 := rfl
    rw [Dev.passGo_eq, hitem, hfirst, if_neg (by decide), hbank, hstate]
    rfl
  have hmoved := (s.dev.testMoved_passMarked.trans (Dev.testMoved_passAt _ 0)).trans (Dev.testMoved_passAt _ 1)
  have hin : ((s.dev.passMarked.passAt 0).passAt 1).gf F.LAR_TEST_STAT_IN_PASS = 1 := s.dev.gf_passMarked
  generalize (s.dev.passMarked.passAt 0).passAt 1 = e at *
  obtain ⟨hb, -, hpass, hcopy⟩ := e.testBegin_stat (i := 0) (by decide)
  obtain ⟨hregion, hphase⟩ := hcopy (by decide)
  refine yields_onDev rfl (hgo.trans hbegin) ⟨?_, hphase, hregion, ?_, ?_⟩
  · exact congrArg (· == 1) hb
  · exact congrArg (· == 1) (hpass.trans hin)
  · exact ((e.testMoved_testBegin (by decide)).words).trans hmoved.words

variable {region : BitVec 14}

theorem Dev.gf_regionWritten (d : Dev) (v : Nat) {f : Fld} (hf : .LAR_TEST_CTRL ≠ f.reg) (i : Fin 4) :
    (d.sf F.LAR_TEST_CTRL_REGION 0 0 v).gf f i = d.gf f i :=
  d.gf_sf_reg v hf (by decide) (by decide) (by omega) (by decide)

/-- A single test begins with its region in COPY. -/
theorem larTestOne_yields (hbusy : s.dev.gb F.LAR_TEST_STAT_BUSY = false)
    (hup : s.dev.quadState (region.toNat / 4096) = 2) :
    Yields (.larTestOne region) s (fun t => t.dev.gb F.LAR_TEST_STAT_BUSY = true ∧
      t.dev.gf F.LAR_TEST_STAT_PHASE = phCopy ∧ t.dev.gf F.LAR_TEST_STAT_REGION = region.toNat ∧
        t.dev.lar.words = s.dev.lar.words) := by
  have hlt := region.isLt
  have hidle : (s.dev.sf F.LAR_TEST_CTRL_REGION 0 0 region.toNat).gb F.LAR_TEST_STAT_BUSY = false :=
    (congrArg (· == 1) (s.dev.gf_regionWritten _ (by decide) 0)).trans hbusy
  have hstate : (s.dev.sf F.LAR_TEST_CTRL_REGION 0 0 region.toNat).quadState (region.toNat / 4096) = 2 :=
    (s.dev.gf_regionWritten region.toNat (f := F.LAR_QSTAT_STATE) (by decide) ⟨region.toNat / 4096, by omega⟩).trans hup
  have hbegin : s.dev.larTestOne region.toNat =
      ((s.dev.sf F.LAR_TEST_CTRL_REGION 0 0 region.toNat).sf F.LAR_TEST_CTRL_ONE 0 0 1).testBegin region.toNat := by
    unfold Dev.larTestOne
    dsimp only
    rw [hidle, hstate]
    rfl
  have hmoved := (s.dev.testMoved_refl.sf (f := F.LAR_TEST_CTRL_REGION) (by decide) region.toNat).sf
    (f := F.LAR_TEST_CTRL_ONE) (by decide) 1
  generalize (s.dev.sf F.LAR_TEST_CTRL_REGION 0 0 region.toNat).sf F.LAR_TEST_CTRL_ONE 0 0 1 = e at *
  have hitem : region.toNat < passItems := Nat.lt_of_lt_of_le hlt (by decide)
  obtain ⟨hb, -, -, hcopy⟩ := e.testBegin_stat hitem
  obtain ⟨hregion, hphase⟩ := hcopy hlt
  exact yields_onDev rfl hbegin ⟨congrArg (· == 1) hb, hphase, hregion,
    (e.testMoved_testBegin hitem).words.trans hmoved.words⟩

/-- A region whose quadrant is not UP is not tested. -/
theorem larTestOne_does_nothing (hbusy : s.dev.gb F.LAR_TEST_STAT_BUSY = false)
    (hup : s.dev.quadState (region.toNat / 4096) ≠ 2) :
    Does (.larTestOne region) s (s.dev.sf F.LAR_TEST_CTRL_REGION 0 0 region.toNat) := by
  have hlt := region.isLt
  have hidle : (s.dev.sf F.LAR_TEST_CTRL_REGION 0 0 region.toNat).gb F.LAR_TEST_STAT_BUSY = false :=
    (congrArg (· == 1) (s.dev.gf_regionWritten _ (by decide) 0)).trans hbusy
  have hstate : (s.dev.sf F.LAR_TEST_CTRL_REGION 0 0 region.toNat).quadState (region.toNat / 4096) ≠ 2 :=
    (s.dev.gf_regionWritten region.toNat (f := F.LAR_QSTAT_STATE) (by decide) ⟨region.toNat / 4096, by omega⟩).trans_ne
      hup
  refine does_onDev rfl ?_
  unfold Dev.larTestOne
  dsimp only
  rw [hidle, if_neg (by decide), if_neg (by simpa using hstate)]

/-- A test under way is left alone: the command only raises a NOTICE. -/
theorem larTest_does_notice (hbusy : s.dev.gb F.LAR_TEST_STAT_BUSY = true) :
    Does .larTestPass s (s.dev.notice 0x75 0x70010) ∧
      Does (.larTestOne region) s ((s.dev.sf F.LAR_TEST_CTRL_REGION 0 0 region.toNat).notice 0x75 0x70010) := by
  have hbusy' : (s.dev.sf F.LAR_TEST_CTRL_REGION 0 0 region.toNat).gb F.LAR_TEST_STAT_BUSY = true :=
    (congrArg (· == 1) (s.dev.gf_regionWritten _ (by decide) 0)).trans hbusy
  exact ⟨does_onDev rfl (if_pos hbusy), does_onDev rfl (if_pos hbusy')⟩

/-- A stop waits for the region's test. -/
theorem larTestStop_does_later (hpass : s.dev.gb F.LAR_TEST_STAT_IN_PASS = true)
    (hbusy : s.dev.gb F.LAR_TEST_STAT_BUSY = true) : Does .larTestStop s (s.dev.sf F.LAR_TEST_CTRL_STOP 0 0 1) := by
  refine does_onDev rfl ?_
  unfold Dev.larTestStop
  rw [hpass, hbusy]
  rfl

/-- A stop between two regions ends the pass. -/
theorem larTestStop_yields_end (hpass : s.dev.gb F.LAR_TEST_STAT_IN_PASS = true)
    (hbusy : s.dev.gb F.LAR_TEST_STAT_BUSY = false) :
    Yields .larTestStop s (fun t => t.dev.gb F.LAR_TEST_STAT_IN_PASS = false ∧ t.dev.lar = s.dev.lar) := by
  have hend : s.dev.larTestStop = ((s.dev.sf F.LAR_TEST_CTRL_PASS 0 0 0).sf F.LAR_TEST_CTRL_STOP 0 0 0).sf
      F.LAR_TEST_STAT_IN_PASS 0 0 0 := by
    unfold Dev.larTestStop
    rw [hpass, hbusy]
    rfl
  exact yields_onDev rfl hend ⟨congrArg (· == 1) (Dev.gf_sf _ F.LAR_TEST_STAT_IN_PASS _ _ _ (by decide)), rfl⟩

/-- Without a pass a stop does nothing. -/
theorem larTestStop_does_nothing (hpass : s.dev.gb F.LAR_TEST_STAT_IN_PASS = false) : Does .larTestStop s s.dev := by
  refine does_onDev rfl ?_
  unfold Dev.larTestStop
  rw [hpass]
  rfl

end

/-! ### A quadrant starts (R162, R322) -/

/-- The banks of a quadrant. -/
def quadBanks (q : Nat) : List Nat := (List.range 16).map (16 * q + ·)

theorem lt_of_mem_quadBanks {q b : Nat} (hq : q < 4) (hb : b ∈ quadBanks q) : b < 64 := by
  simp only [quadBanks, List.mem_map, List.mem_range] at hb
  obtain ⟨i, hi, rfl⟩ := hb
  omega

theorem mem_quadBanks {q i : Nat} (hi : i < 16) : 16 * q + i ∈ quadBanks q :=
  List.mem_map.2 ⟨i, List.mem_range.2 hi, rfl⟩

/-- The map of bank `b` that the Attic holds. -/
def Dev.atticMap (d : Dev) (b : Nat) : BitVec 32 × BitVec 8 := Map.get (fun _ => (0, 0)) d.lar.spares b

/-- The Attic's map of a bank is lost. -/
def Dev.loseMap (d : Dev) (b : Nat) : Dev :=
  { d with lar := { d.lar with spares := Map.put (fun _ => (0, 0)) d.lar.spares b (0, 0) } }

/-- A bank takes its map from the Attic. -/
def Dev.loadMap (d : Dev) (b : Nat) : Dev :=
  (d.setReg .LAR_SPARE_ROW b 0 (d.atticMap b).1).setReg .LAR_SPARE_FLG b 0 ((d.atticMap b).2.setWidth 32)

/-- The maps of quadrant `q` as it starts: those of the Attic, empty ones where that fails its check. -/
def Dev.mapsChecked (d : Dev) (q : Nat) (mapOk : Bool) : Dev :=
  if mapOk || !(quadBanks q).any (fun b => d.atticMap b != (0, 0)) then d
  else ((quadBanks q).foldl Dev.loseMap d).fault 0x29 4

section
variable (d : Dev)

theorem Dev.quadStart_eq (q : Nat) (mapOk : Bool) : d.quadStart q mapOk =
    ((quadBanks q).foldl Dev.loadMap (d.mapsChecked q mapOk)).sf F.LAR_QSTAT_STATE q 0 1 := rfl

theorem Dev.atticMap_loseMap (b b' : Nat) : (d.loseMap b).atticMap b' = if b' = b then (0, 0) else d.atticMap b' := by
  split_ifs with h
  · subst h
    exact Map.get_put_same (fun _ => (0, 0)) d.lar.spares b' (0, 0)
  · exact Map.get_put_ne (fun _ => (0, 0)) _ d.lar.spares (0, 0) (Ne.symm h)

/-- Maps lost read empty. -/
theorem Dev.atticMap_foldl_loseMap (l : List Nat) {b : Nat} (hb : b ∈ l ∨ d.atticMap b = (0, 0)) :
    (l.foldl Dev.loseMap d).atticMap b = (0, 0) := by
  induction l generalizing d with
  | nil => simpa using hb
  | cons x l ih =>
    refine ih (d.loseMap x) ?_
    rw [Dev.atticMap_loseMap]
    by_cases hx : b = x
    · exact .inr (if_pos hx)
    · rw [if_neg hx]
      simpa [hx] using hb

theorem Dev.words_foldl_loseMap (l : List Nat) : (l.foldl Dev.loseMap d).lar.words = d.lar.words :=
  foldl_keeps (fun e : Dev => e.lar.words) Dev.loseMap l (fun _ _ _ => rfl) d

theorem Dev.regs_foldl_loseMap (l : List Nat) : (l.foldl Dev.loseMap d).regs = d.regs :=
  foldl_keeps Dev.regs Dev.loseMap l (fun _ _ _ => rfl) d

/-- The check of the maps changes the Attic's maps of that quadrant and reports; nothing else of the Larder. -/
theorem Dev.mapsChecked_spec {q i : Nat} (mapOk : Bool) (hi : i < 16) :
    (d.mapsChecked q mapOk).atticMap (16 * q + i) = (if mapOk then d.atticMap (16 * q + i) else (0, 0)) ∧
      (d.mapsChecked q mapOk).lar.words = d.lar.words ∧
      d.sameOn (d.mapsChecked q mapOk) [.LAR_QSTAT] := by
  unfold Dev.mapsChecked
  split_ifs with hkeep hok hok
  · exact ⟨rfl, rfl, d.sameOn_refl _⟩
  · have hnone : ∀ b ∈ quadBanks q, d.atticMap b = (0, 0) := by
      simpa [hok] using hkeep
    exact ⟨hnone _ (mem_quadBanks hi), rfl, d.sameOn_refl _⟩
  · exact absurd hok (by simp only [Bool.or_eq_true, not_or] at hkeep; exact hkeep.1)
  · have hlost := d.atticMap_foldl_loseMap (quadBanks q) (.inl (mem_quadBanks hi))
    have hwords := d.words_foldl_loseMap (quadBanks q)
    have hregs : d.sameOn ((quadBanks q).foldl Dev.loseMap d) [.LAR_QSTAT] :=
      Dev.sameOn_of_regs (d.regs_foldl_loseMap _)
    generalize (quadBanks q).foldl Dev.loseMap d = e at *
    refine ⟨?_, ?_, hregs.trans (Dev.sameOn_errOnly (e.errOnly_raise _ _ _) (by decide))⟩
    · rw [Dev.atticMap, Dev.lar_fault]
      exact hlost
    · rw [Dev.lar_fault, hwords]

theorem Dev.lar_foldl_loadMap (l : List Nat) : (l.foldl Dev.loadMap d).lar = d.lar :=
  foldl_keeps Dev.lar Dev.loadMap l (fun _ _ _ => rfl) d

theorem Dev.reg_loadMap_ne {b : Nat} (hb : b < 64) {k : RK} {i j : Nat} (hi : i < 65536) (hj : j < 256)
    (h : b ≠ i ∨ k ∉ rowRegs) : (d.loadMap b).reg k i j = d.reg k i j := by
  have hkey (k' : RK) (hk' : k' ∈ rowRegs) : k'.key b 0 ≠ k.key i j :=
    RK.key_ne (h.elim (fun h => .inr (.inl h)) fun h => .inl fun he => h (he ▸ hk')) (by omega) (by decide) hi hj
  unfold Dev.loadMap
  rw [Dev.reg_setReg_of_key_ne _ _ (hkey _ (by decide)), Dev.reg_setReg_of_key_ne _ _ (hkey _ (by decide))]

theorem Dev.reg_loadMap_self {b : Nat} (hb : b < 64) : (d.loadMap b).reg .LAR_SPARE_ROW b = (d.atticMap b).1 ∧
    (d.loadMap b).reg .LAR_SPARE_FLG b = (d.atticMap b).2.setWidth 32 := by
  unfold Dev.loadMap
  rw [Dev.reg_setReg_ne _ _ (by decide) (by omega) (by decide) (by omega) (by decide), Dev.reg_setReg, Dev.reg_setReg]
  exact ⟨rfl, rfl⟩

/-- Banks loaded hold the Attic's map. -/
theorem Dev.reg_foldl_loadMap (l : List Nat) (hl : ∀ b ∈ l, b < 64) {b : Nat} (hb : b ∈ l ∨
      (b < 64 ∧ d.reg .LAR_SPARE_ROW b = (d.atticMap b).1 ∧ d.reg .LAR_SPARE_FLG b = (d.atticMap b).2.setWidth 32)) :
    (l.foldl Dev.loadMap d).reg .LAR_SPARE_ROW b = (d.atticMap b).1 ∧
      (l.foldl Dev.loadMap d).reg .LAR_SPARE_FLG b = (d.atticMap b).2.setWidth 32 := by
  induction l generalizing d with
  | nil => exact (hb.resolve_left List.not_mem_nil).2
  | cons x l ih =>
    have hx := hl x List.mem_cons_self
    refine ih (d.loadMap x) (fun y hy => hl y (List.mem_cons_of_mem _ hy)) ?_
    by_cases hxb : x = b
    · subst hxb
      exact .inr ⟨hx, d.reg_loadMap_self hx⟩
    · obtain hmem | ⟨hlt, hrow, hflg⟩ := hb
      · exact .inl ((List.mem_cons.1 hmem).resolve_left (Ne.symm hxb))
      · exact .inr ⟨hlt, (d.reg_loadMap_ne hx (by omega) (by decide) (.inl hxb)).trans hrow,
          (d.reg_loadMap_ne hx (by omega) (by decide) (.inl hxb)).trans hflg⟩

theorem Dev.sameOn_foldl_loadMap (l : List Nat) (hl : ∀ b ∈ l, b < 64) :
    d.sameOn (l.foldl Dev.loadMap d) [.LAR_QSTAT] :=
  List.foldlRecOn l _ (motive := fun e => d.sameOn e [.LAR_QSTAT]) (d.sameOn_refl _) fun e h b hb =>
    h.trans fun k hk _ _ hi hj => e.reg_loadMap_ne (hl b hb) hi hj
      (.inr (by rw [List.mem_singleton.1 hk]; decide))

theorem Dev.quadStart_spec (mapOk : Bool) {q : Nat} (hq : q < 4) :
    (d.quadStart q mapOk).quadState q = 1 ∧ (d.quadStart q mapOk).lar.words = d.lar.words ∧
      (∀ i < 16, (d.quadStart q mapOk).reg .LAR_SPARE_ROW (16 * q + i) =
        if mapOk then (d.atticMap (16 * q + i)).1 else 0) ∧
      (∀ i < 16, (d.quadStart q mapOk).reg .LAR_SPARE_FLG (16 * q + i) =
        if mapOk then (d.atticMap (16 * q + i)).2.setWidth 32 else 0) ∧
      ∀ q' < 4, q' ≠ q → (d.quadStart q mapOk).quadState q' = d.quadState q' := by
  obtain ⟨-, hwords, hchecked⟩ := d.mapsChecked_spec (q := q) mapOk (i := 0) (by decide)
  have hmap (i : Nat) (hi : i < 16) := (d.mapsChecked_spec (q := q) mapOk hi).1
  rw [d.quadStart_eq]
  generalize d.mapsChecked q mapOk = e at *
  have hload (i : Nat) (hi : i < 16) := e.reg_foldl_loadMap (quadBanks q) (fun _ => lt_of_mem_quadBanks hq)
    (.inl (mem_quadBanks hi))
  have hsame := hchecked.trans (e.sameOn_foldl_loadMap (quadBanks q) fun _ => lt_of_mem_quadBanks hq)
  have hlar := e.lar_foldl_loadMap (quadBanks q)
  generalize (quadBanks q).foldl Dev.loadMap e = e' at *
  have hrow (i : Nat) (hi : i < 16) (k : RK) (hk : k ∈ rowRegs) :
      (e'.sf F.LAR_QSTAT_STATE q 0 1).reg k (16 * q + i) = e'.reg k (16 * q + i) :=
    e'.reg_sf_ne 1 (fun he => absurd (he ▸ hk) (by decide)) (by omega) (by decide) (by omega) (by decide)
  refine ⟨?_, ?_, fun i hi => ?_, fun i hi => ?_, fun q' hq' hne => ?_⟩
  · exact e'.gf_sf F.LAR_QSTAT_STATE q 0 1 (by decide)
  · rw [Dev.lar_sf, hlar, hwords]
  · rw [hrow i hi _ (by decide), (hload i hi).1, hmap i hi]
    cases mapOk <;> rfl
  · rw [hrow i hi _ (by decide), (hload i hi).2, hmap i hi]
    cases mapOk <;> rfl
  · exact (e'.gf_sf_idx (g := F.LAR_QSTAT_STATE) 1 (.inl hne.symm) (by omega) (by decide) (by omega) (by decide)).trans
      (hsame.gf (f := F.LAR_QSTAT_STATE) (by decide) (by omega) (by decide))

end

theorem exec_quadStart (q : Fin 4) (mapOk : Bool) (s : State) : exec (.quadStart ⟨q, mapOk⟩) s = .next (s.onDev fun d =>
    if d.quadState q == 0 && d.gb F.CLK_ISL_STAT_RUN (94 + q) then d.quadStart q mapOk else d) := rfl

/-- A quadrant that starts loads its repair map, or an empty one, and is CLEARING. -/
theorem quadStart_yields (q : Fin 4) (mapOk : Bool) {s : State} (hoff : s.dev.quadState q = 0)
    (hrun : s.dev.gb F.CLK_ISL_STAT_RUN (94 + q) = true) :
    Yields (.quadStart ⟨q, mapOk⟩) s (fun t => t.dev.quadState q = 1 ∧ t.dev.lar.words = s.dev.lar.words ∧
      (∀ i : Fin 16, t.dev.reg .LAR_SPARE_ROW (16 * q + i) = if mapOk then (s.dev.atticMap (16 * q + i)).1 else 0) ∧
      (∀ i : Fin 16, t.dev.reg .LAR_SPARE_FLG (16 * q + i) =
        if mapOk then (s.dev.atticMap (16 * q + i)).2.setWidth 32 else 0) ∧
      ∀ q' : Fin 4, q' ≠ q → t.dev.quadState q' = s.dev.quadState q') := by
  obtain ⟨hstate, hwords, hrow, hflg, hother⟩ := s.dev.quadStart_spec mapOk q.isLt
  exact yields_onDev (exec_quadStart q mapOk s) (if_pos (by simp [hoff, hrun]))
    ⟨hstate, hwords, fun i => hrow i i.isLt, fun i => hflg i i.isLt,
      fun q' hne => hother q' q'.isLt fun he => hne (Fin.ext he)⟩

theorem quadStart_does_nothing (q : Fin 4) (mapOk : Bool) {s : State}
    (h : s.dev.quadState q ≠ 0 ∨ s.dev.gb F.CLK_ISL_STAT_RUN (94 + q) = false) :
    Does (.quadStart ⟨q, mapOk⟩) s s.dev := by
  refine does_onDev (exec_quadStart q mapOk s) (if_neg ?_)
  rcases h with h | h <;> simp [h]

/-! ### The clearing (R162) -/

theorem larBank_div (wa : Nat) : larBank wa / 16 = larQuad wa := by
  unfold larBank
  omega

/-- A word is read from a cell of its own quadrant. -/
theorem Dev.cellQuad_readCell (d : Dev) {wa : Nat} (hwa : wa < larWords) : cellQuad (d.readCell wa) = larQuad wa := by
  have hbank := larBank_lt wa
  have hcol := larCol_lt wa
  have hquad : larBank wa / 16 = larQuad wa := larBank_div wa
  by_cases hbuf : d.buffered wa
  · rw [Dev.readCell_of_buffered hbuf, ← hquad]
    have hge := bufferCell_ge (larBank wa) (larCol wa)
    rw [cellQuad, if_neg (by omega), if_neg (by omega)]
    unfold bufferCell
    omega
  · rw [Dev.readCell_of_not_buffered hbuf]
    cases hs : d.spareOf (larBank wa) (Machine.larRow wa) with
    | none => rw [Dev.rowCell_of_none hs, cellQuad, if_pos hwa]
    | some k =>
      have hk := (Dev.spareOf_some hs).1
      have hge := spareCell_ge (larBank wa) k (larCol wa)
      have hlt := spareCell_lt hbank hk hcol
      rw [Dev.rowCell_of_spare hs, cellQuad, if_neg (by omega), if_pos hlt, ← hquad]
      unfold spareCell
      omega

/-- The cells of a quadrant that is forgotten are empty, those of the others as they were. -/
theorem Dev.larCell_quadForget (d : Dev) (q x : Nat) :
    (d.quadForget q).larCell x = if cellQuad x = q then {} else d.larCell x := by
  have hget := Map.get_filter (fun _ => ({} : LarWord)) d.lar.words (fun x => cellQuad x != q) x
  refine (show (d.quadForget q).larCell x = _ from hget).trans ?_
  by_cases hx : cellQuad x = q <;> simp [hx, Dev.larCell]

/-- The quadrant's words are gone and it is UP. -/
def Dev.quadCleared (d : Dev) (q : Nat) : Dev := (d.quadForget q).sf F.LAR_QSTAT_STATE q 0 2

section
variable (d : Dev) {q : Nat}

theorem Dev.sameOn_quadCleared (hq : q < 4) : d.sameOn (d.quadCleared q) mapRegs :=
  (Dev.sameOn_of_regs rfl).trans ((d.quadForget q).sameOn_sf _ (by decide) (by omega) (by decide))

theorem Dev.larCell_quadCleared (x : Nat) :
    (d.quadCleared q).larCell x = if cellQuad x = q then {} else d.larCell x := d.larCell_quadForget q x

/-- The end of the clearing changes no more of a word's place than a pass that goes on does. -/
theorem Dev.quadClearDone_spec : (d.quadCleared q).testMoved (d.quadClearDone q) ∧
    ∀ wa, (d.quadClearDone q).readCell wa = (d.quadCleared q).readCell wa := by
  have heq : d.quadClearDone q = if (d.quadCleared q).lar.waits = some q &&
      (d.quadCleared q).gb F.LAR_TEST_STAT_IN_PASS && !(d.quadCleared q).gb F.LAR_TEST_STAT_BUSY then
      (d.quadCleared q).passGo else d.quadCleared q := rfl
  rw [heq]
  generalize d.quadCleared q = e
  split_ifs with hgo
  · have hidle : e.gb F.LAR_TEST_STAT_BUSY = false := by
      simp only [Bool.and_eq_true, Bool.not_eq_true'] at hgo
      exact hgo.2
    exact ⟨e.testMoved_passGo, fun wa => Dev.readCell_passGo hidle wa⟩
  · exact ⟨e.testMoved_refl, fun _ => rfl⟩

end

/-- When the clearing is done every word of the quadrant reads 0 with a good code, and the quadrant is UP. -/
theorem quadClearDone_yields (q : Fin 4) {s : State} (hclear : s.dev.quadState q = 1) (hsleep : s.dev.gov.sleep = none) :
    Yields (.quadClearDone q) s (fun t => t.dev.quadState q = 2 ∧
      ∀ wa, wa < larWords → t.dev.larWord wa = if larQuad wa = q then ⟨0, 0⟩ else s.dev.larWord wa) := by
  have hq := q.isLt
  obtain ⟨hmoved, hread⟩ := s.dev.quadClearDone_spec (q := q)
  have hgov : (s.dev.quadClearDone q).gov.sleep = none := by
    rw [hmoved.gov]
    exact hsleep
  have heq : (if s.dev.quadState q == 1 then (s.dev.quadClearDone q).restartGo else s.dev) =
      s.dev.quadClearDone q := by
    rw [if_pos (by simp [hclear]), Dev.restartGo, hgov]
  refine yields_onDev rfl heq ⟨?_, fun wa hwa => ?_⟩
  · exact (hmoved.states q hq).trans ((s.dev.quadForget q).gf_sf F.LAR_QSTAT_STATE q 0 2 (by decide))
  · have hplace := Dev.readCell_congr (s.dev.sameOn_quadCleared hq) (List.Subset.refl _) wa
    rw [State.dev_onDev, Dev.larWord, hread, hplace, Dev.larCell, hmoved.words]
    refine (s.dev.larCell_quadCleared (q := q) (s.dev.readCell wa)).trans ?_
    rw [s.dev.cellQuad_readCell hwa, Dev.larWord]

theorem quadClearDone_does_nothing (q : Fin 4) {s : State} (h : s.dev.quadState q ≠ 1) :
    Does (.quadClearDone q) s s.dev := does_onDev rfl (if_neg (by simpa using h))

/-- Settles O27: a quadrant's start and clearing through the banks' maps (`Dev.reg_foldl_loadMap`) and the cells' quadrants
(`Dev.cellQuad_readCell`), the test through what each step of its bookkeeping moves (`Dev.testMoved`). -/
theorem quadrantPowerAndTest : Obligations.QuadrantPowerAndTest := by
  unfold Obligations.QuadrantPowerAndTest
  refine ⟨⟨?_, ?_, ?_, ?_⟩, ?_, ?_, ?_, ?_, ?_, ?_⟩
  · exact fun q mapOk s hoff hrun => quadStart_yields q mapOk hoff hrun
  · exact fun q mapOk s h => quadStart_does_nothing q mapOk h
  · exact fun q s hclear hsleep => quadClearDone_yields q hclear hsleep
  · exact fun q s h => quadClearDone_does_nothing q h
  · exact fun s hbusy hup => larTestPass_yields hbusy hup
  · exact fun region s hbusy => ⟨fun hup => larTestOne_yields hbusy hup, fun hup => larTestOne_does_nothing hbusy hup⟩
  · exact fun region s hbusy => larTest_does_notice hbusy
  · exact fun s => ⟨fun hpass hbusy => larTestStop_does_later hpass hbusy,
      fun hpass hbusy => larTestStop_yields_end hpass hbusy, fun hpass => larTestStop_does_nothing hpass⟩
  · intro fail s hbusy hops
    refine ⟨?_, ?_, ?_, ?_, ?_, ?_⟩
    · exact fun hph hspare => testPhaseDone_yields_march fail hbusy hops hph hspare
    · exact fun hph hspare => testPhaseDone_yields_restore fail hbusy hops hph hspare
    · exact fun hph hspare hpass => testPhaseDone_yields_bad fail hbusy hops hpass hph hspare
    · exact fun hph hfound hpass => testPhaseDone_yields_passed fail hbusy hops hpass hph hfound
    · exact fun k hph hfound hpass hgood hnone =>
        testPhaseDone_yields_given fail hbusy hops hpass hph hfound hgood hnone
    · exact fun hph hfound hgood hpass => testPhaseDone_yields_missed fail hbusy hops hpass hph hfound hgood
  · exact fun fail s h => does_onDev rfl (Dev.testPhaseDone_early fail h)

end Sys2Proof.Machine
end

section
/-! PROOFS. `Obligations.ArbiterRequestsAndWaiting`, refuted: a request that is raised already writes back the arbiter's
entry as it stands (R171). That changes nothing in a table in canonical form (log entry 1), and puts any other in order. -/

namespace Sys2Proof.Machine

/-- In a table in canonical form, writing back what stands at a key changes nothing. -/
theorem Map.put_get {α : Type} [DecidableEq α] {dflt : Nat → α} {m : Map α} (h : Map.wf dflt m = true) (k : Nat) :
    Map.put dflt m k (Map.get dflt m k) = m := by
  simp only [Map.wf, Bool.and_eq_true, decide_eq_true_eq, List.all_eq_true, bne_iff_ne] at h
  obtain ⟨hkeys, hvals⟩ := h
  induction m with
  | nil => simp [Map.put, Map.get, Map.erase]
  | cons e m ih =>
    obtain ⟨k', v⟩ := e
    obtain ⟨hfirst, hkeys⟩ := List.pairwise_cons.1 hkeys
    have hm := ih hkeys fun x hx => hvals x (List.mem_cons_of_mem _ hx)
    by_cases he : k' = k
    · subst he
      have hv : v ≠ dflt k' := hvals (k', v) List.mem_cons_self
      simp [Map.get, Map.put, Map.insert, hv]
    · have hget : Map.get dflt ((k', v) :: m) k = Map.get dflt m k := if_neg he
      rw [hget, Map.put]
      rw [Map.put] at hm
      split_ifs at hm ⊢ with hd
      · rw [Map.erase, List.filter_cons_of_pos (by simpa using he), ← Map.erase, hm]
      · have hlt : ¬ k < k' := fun hlt => hd (Map.get_of_no_key dflt fun x hx hxk =>
          Nat.lt_asymm hlt (hxk ▸ hfirst x.1 (List.mem_map_of_mem hx)))
        rw [Map.insert, if_neg hlt, if_neg (Ne.symm he), hm]

theorem Arbiter.raise_of_raised {x : Arbiter} {i : Nat} (h : x.raised i = true) : x.raise i = x :=
  if_pos (by simpa [Arbiter.raised, Arbiter.find] using h)

/-- A raised request changes nothing where the table of arbiters is in canonical form. -/
theorem does_arbRequest_of_raised {a : Fin 12} {i : Fin 83} {s : State} (hwf : Map.wf (fun _ => {}) s.dev.arbs = true)
    (hr : (s.dev.arb a).raised i = true) : Does (.arbRequest a i) s s.dev := by
  have hsame : s.dev.onArb a (fun x => x.raise i) = s.dev := by
    rw [Dev.onArb, Arbiter.raise_of_raised hr, Dev.arb, Map.put_get hwf]
  refine does_onDev rfl ?_
  rw [Dev.arbRequest, hsame, ite_self]

/-- A raised request at a quadrant's arbiter that takes it up writes back the arbiter's entry. -/
theorem arbs_of_arbRequest_raised {a : Fin 12} {i : Fin 83} {s t : State} (hx : exec (.arbRequest a i) s = .next t)
    (hn : a.val < 8) (hreach : arbReaches a i = true) (hup : s.dev.arbUp a = true) (hf : s.dev.fenced a i = false)
    (hl : s.dev.lineWork a i = true) (hr : (s.dev.arb a).raised i = true) :
    t.dev.arbs = Map.put (fun _ => {}) s.dev.arbs a (s.dev.arb a) := by
  have htaken : s.dev.arbRequest a i = s.dev.onArb a (fun x => x.raise i) :=
    if_neg (by simp [hreach, arbDram_of_lt hn, hup, hf, hl])
  cases hx
  rw [State.dev_onDev, htaken, Dev.onArb, Arbiter.raise_of_raised hr]

/-- Quadrant 0 up, and the Hatch holds the grants of the arbiters 1 and 3, which stand in falling order. -/
def State.arbsFalling : State :=
  State.reset.onDev fun d => ({ d with arbs := [(3, { owner := some hatchId }), (1, { owner := some hatchId })] } : Dev).sf
    F.LAR_QSTAT_STATE 0 0 2

/-- There arbiter 1 takes up the Hatch's request. -/
theorem State.taken_arbsFalling : State.arbsFalling.dev.arbUp 1 = true ∧
    State.arbsFalling.dev.fenced 1 hatchId = false := by
  decide +kernel

/-- Refutes O28: in `State.arbsFalling` the raised request of the Hatch at arbiter 1 writes its entry in front of arbiter
3's, where the first clause leaves the table as it was. With a table in canonical form the clause holds
(`does_arbRequest_of_raised`). -/
theorem not_arbiterRequestsAndWaiting : ¬ Obligations.ArbiterRequestsAndWaiting := by
  unfold Obligations.ArbiterRequestsAndWaiting
  rintro ⟨⟨hrequest, -⟩, -⟩
  obtain ⟨hup, hf⟩ := State.taken_arbsFalling
  obtain ⟨-, hraised⟩ := hrequest 1 64 State.arbsFalling rfl (.inl (by decide)) hup hf rfl
  obtain ⟨t, hx, hd, -⟩ := hraised rfl
  have harbs := arbs_of_arbRequest_raised hx (by decide) rfl hup hf rfl rfl
  rw [hd] at harbs
  exact absurd harbs (by decide)

end Sys2Proof.Machine
end

section
/-! PROOFS. A row of a Larder requester and the other arbiters (R171, R172), and `Obligations.ArbiterCycles`, refuted: the
burst limit of a room at a timed arbiter, which no room reaches (R170, Table 8.2), expires without an end of the grant. -/

namespace Sys2Proof.Machine

/-! ### A cycle of one arbiter leaves the others alone -/

section
variable (d : Dev) {n m : Nat}

theorem Dev.arb_ite (p : Prop) [Decidable p] (a b : Dev) (m : Nat) :
    (if p then a else b).arb m = if p then a.arb m else b.arb m := apply_ite (fun d => d.arb m) p a b

theorem Dev.arb_testOp (m : Nat) : d.testOp.arb m = d.arb m := by
  unfold Dev.testOp
  dsimp only
  split_ifs <;> rfl

theorem Dev.arb_arbConflict (n i m : Nat) : (d.arbConflict n i).arb m = d.arb m := by
  unfold Dev.arbConflict
  split_ifs <;> rfl

theorem Dev.arb_fencePort (n i m : Nat) : (d.fencePort n i).arb m = d.arb m := by
  unfold Dev.fencePort
  split_ifs <;> rfl

theorem Dev.arb_fenceRoom (n i m : Nat) : (d.fenceRoom n i).arb m = d.arb m := by
  refine foldl_keeps (fun e : Dev => e.arb m) _ _ (fun e no _ => ?_) d
  rw [Dev.arb, (Dev.answerNo_keeps _ no stFenced []).2.1, ← Dev.arb, Dev.arb_ite, Dev.fenceHit, Dev.arb_cnt, ite_self]

variable (h : n ≠ m)
include h

theorem Dev.arb_arbFence_ne (i : Nat) : (d.arbFence n i).arb m = d.arb m := by
  simp only [Dev.arbFence, Dev.arb_ite, Dev.arb_fenceRoom, Dev.arb_fencePort, Dev.arb_fault, Dev.arb_sf,
    Dev.arb_onArb_ne _ _ h, ite_self]

theorem Dev.arb_arbBegin_ne (low : List Nat) : (d.arbBegin n low).arb m = d.arb m := by
  unfold Dev.arbBegin
  dsimp only
  split
  · rfl
  · split
    · simp only [Dev.arb_cnt, Dev.arb_onArb_ne _ _ h]
    · simp only [Dev.arb_ite, Dev.arb_cnt, Dev.arb_sf, Dev.arb_onArb_ne _ _ h, ite_self]

theorem Dev.arb_arbOwner_ne (c : ArbCycle) : (d.arbOwner n c).1.arb m = d.arb m := by
  unfold Dev.arbOwner
  dsimp only
  split
  · rfl
  · simp only [apply_ite Prod.fst, Dev.arb_ite, Dev.arb_onArb_ne _ _ h, Dev.arb_arbFence_ne _ h, Dev.arb_arbConflict,
      Dev.arb_testOp, ite_self]

theorem Dev.arb_arbDecide_ne (frozen : Bool) : (d.arbDecide n frozen).arb m = d.arb m := by
  unfold Dev.arbDecide
  dsimp only
  split_ifs
  · rfl
  · split
    · rfl
    · exact d.arb_onArb_ne _ h

theorem Dev.arb_arbNoteAges_ne : (d.arbNoteAges n).arb m = d.arb m :=
  (foldl_keeps (fun e : Dev => e.arb m) _ _ (fun e _ _ => e.arb_noticeFree _ _) _).trans (d.arb_onArb_ne _ h)

theorem Dev.arb_arbWait_ne : (d.arbWait n).arb m = d.arb m :=
  ((Dev.arb_arbNoteAges_ne _ h).trans (Dev.arb_onArb_ne _ _ h)).trans
    (foldl_keeps (fun e : Dev => e.arb m) _ _ (fun e _ _ => e.arb_cnt _ _ _ _ _) d)

theorem Dev.arb_arbCycle_ne (c : ArbCycle) (busy : Option Nat) : (d.arbCycle n c busy).arb m = d.arb m := by
  unfold Dev.arbCycle
  dsimp only
  split_ifs
  · rfl
  · rw [Dev.arb_onArb_ne _ _ h]
    split <;> simp only [Dev.arb_onArb_ne _ _ h, Dev.arb_arbWait_ne _ h, Dev.arb_arbDecide_ne _ h,
      Dev.arb_arbOwner_ne _ h, Dev.arb_arbBegin_ne _ h]

theorem Dev.arb_turn_ne (i : Nat) : (d.turn n i).arb m = d.arb m := by
  have hraise : (d.arbRequest n i).arb m = d.arb m := by
    simp only [Dev.arbRequest, Dev.arb_ite, Dev.arb_onArb_ne _ _ h, ite_self]
  simp only [Dev.turn, Dev.arb_ite, Dev.arb_arbCycle_ne _ h, hraise, ite_self]

theorem Dev.arb_portFree_ne (bank : Nat) : (d.portFree n bank).arb m = d.arb m := by
  simp only [Dev.portFree, Dev.arb_arbBegin_ne _ h, Dev.arb_ite, Dev.arb_arbCycle_ne _ h, ite_self]

end

/-- A beat to the Larder leaves the arbiters other than the one in front of its port alone. -/
theorem Dev.arb_larBeat_ne (d : Dev) {q i m : Nat} (h : larArb q i ≠ m) (o : LarOp) (u : BitVec 72) (lost same : Bool) :
    (d.larBeat q i o u lost same).1.arb m = d.arb m := by
  have hend (e : Dev) (no : Option Nat) (w : Work) : (e.larEnd no w).arb m = e.arb m := by
    rw [Dev.arb, (e.larEnd_keeps no w).2, ← Dev.arb]
  unfold Dev.larBeat
  dsimp only
  split
  · rfl
  · simp only [apply_ite Prod.fst, Dev.arb_ite, Dev.beat, Dev.arb_arbCycle_ne _ h, hend, Dev.arb_onArb_ne _ _ h,
      (Dev.touched_larTouch _ _ _ _ _ _ _).arb, Dev.arb_portFree_ne _ h, Dev.arb_turn_ne _ h, ite_self]

/-! ### A room that holds the grant of a timed arbiter -/

/-- A room moves its words at port G (R157): the expiry of its burst limit leaves it the grant of a timed arbiter. -/
theorem Dev.owner_arbBurstExpire_timed {d : Dev} {n i : Nat} (hn : n % 2 = 0) (hi : i < 64)
    (ho : (d.arb n).owner = some i) : ((d.arbBurstExpire n).arb n).owner = some i := by
  have hlimit : ((d.onArb n fun x => { x with beats := x.burst - 1 }).arb n).owner = some i := by
    rw [Dev.arb_onArb]
    exact ho
  have hport : larArb (n / 2) i = 2 * (n / 2) + 1 := if_neg (by simp [timedId]; omega)
  simp only [Dev.arbBurstExpire, ho, Dev.expireBeat, if_neg (Nat.not_le.2 hi)]
  split_ifs
  · exact hlimit
  · split
    · exact hlimit
    · rw [Dev.arb_larBeat_ne _ (by omega)]
      exact hlimit

theorem owner_of_arbBurstExpire {a : Fin 12} {i : Nat} {s t : State} (hx : exec (.arbBurstExpire a) s = .next t)
    (ha : a.val % 2 = 0) (hi : i < 64) (ho : (s.dev.arb a).owner = some i) : (t.dev.arb a).owner = some i := by
  cases hx
  exact Dev.owner_arbBurstExpire_timed ha hi ho

/-- Quadrant 0 up, room 6 waiting there with a READ of four words, and holding the grant of the timed arbiter 0. -/
def State.roomAtTimed : State :=
  State.reset.onDev fun d => ({ d with
    arbs := [(0, { owner := some 6, burst := 4 })]
    held := [{ op := opRead, len := 3, dstRtr := 1, dstPort := 6, srcRtr := 6, srcPort := 0, gen := false, slot := 0,
               addr := 0, flits := [], need := 0 }] } : Dev).sf F.LAR_QSTAT_STATE 0 0 2

/-- There room 6 has work at arbiter 0, whose resource is up: packet 0, its READ, of which nothing is served. -/
theorem State.work_roomAtTimed : State.roomAtTimed.dev.arbUp 0 = true ∧ State.roomAtTimed.dev.lineWork 0 6 = true ∧
    (State.roomAtTimed.dev.roomQueue 0 6).head? = some 0 := by
  decide +kernel

/-- Refutes O29: in `State.roomAtTimed` the burst limit of room 6 expires, and it keeps the grant of arbiter 0, where the
clause ends it: the clause does not ask that the room reaches the arbiter. -/
theorem not_arbiterCycles : ¬ Obligations.ArbiterCycles := by
  unfold Obligations.ArbiterCycles
  rintro ⟨-, -, -, -, hexpire, -⟩
  obtain ⟨hup, hline, hhead⟩ := State.work_roomAtTimed
  obtain ⟨-, hroom, -⟩ := hexpire 0 6 State.roomAtTimed hup rfl rfl rfl hline
  obtain ⟨t, hx, hfree, -⟩ := hroom 0 _ (by decide) (by decide) hhead rfl rfl rfl rfl rfl (.inl rfl) (.inl rfl) (by decide)
  have howner := owner_of_arbBurstExpire (i := 6) hx rfl (by decide) rfl
  exact Option.some_ne_none 6 (howner.symm.trans hfree)

end Sys2Proof.Machine
end

section
/-! PROOFS. DRAM channels and their pairs (R191, R201): the arbiter in front of a channel, and what a request does there;
`Obligations.DramRequests`, clause by clause. -/

namespace Sys2Proof.Machine

/-! ### A channel and its pair -/

section
variable (d : Dev) {n : Nat}

/-- A channel leads itself, or belongs to a mirrored pair that its even channel leads (R201). -/
theorem Dev.dramLead_cases (n : Nat) : d.mirrorOf n = none ∧ d.dramLead n = n ∨
    d.mirrorOf n = some (n / 2 * 2) ∧ d.dramLead n = n / 2 * 2 := by
  unfold Dev.dramLead Dev.mirrorOf
  dsimp only
  split_ifs
  · exact .inr ⟨rfl, rfl⟩
  · exact .inl ⟨rfl, rfl⟩

theorem Dev.mirrorOf_pair (n : Nat) : d.mirrorOf (n / 2 * 2) = d.mirrorOf n := by
  unfold Dev.mirrorOf
  rw [Nat.mul_div_cancel _ (by decide)]

theorem Dev.mirrorOf_dramLead (n : Nat) : d.mirrorOf (d.dramLead n) = d.mirrorOf n := by
  rcases d.dramLead_cases n with ⟨-, h⟩ | ⟨-, h⟩ <;> rw [h]
  exact d.mirrorOf_pair n

theorem Dev.dramLead_lt (h : n < 4) : d.dramLead n < 4 := by
  rcases d.dramLead_cases n with ⟨-, h'⟩ | ⟨-, h'⟩ <;> omega

/-- The channel that leads a pair serves where the pair does. -/
theorem Dev.pairServes_dramLead (n : Nat) : d.pairServes (d.dramLead n) = d.pairServes n := by
  have hm := d.mirrorOf_dramLead n
  rcases d.dramLead_cases n with ⟨h, hl⟩ | ⟨h, -⟩
  · rw [hl]
  · rw [Dev.pairServes, Dev.pairServes, hm, h]

/-- No odd channel's arbiter stands in front of a mirrored pair. -/
theorem Dev.lead_not_odd (n : Nat) :
    ((8 + d.dramLead n) % 2 == 1 && (d.mirrorOf (8 + d.dramLead n - 8)).isSome) = false := by
  rw [Nat.add_sub_cancel_left, d.mirrorOf_dramLead]
  rcases d.dramLead_cases n with ⟨h, -⟩ | ⟨-, hl⟩
  · simp [h]
  · have heven : (8 + d.dramLead n) % 2 = 0 := by omega
    simp [heven]

theorem Dev.arbUp_dramLead (n : Nat) : d.arbUp (8 + d.dramLead n) = d.pairServes n := by
  rw [Dev.arbUp, if_neg (by omega), Nat.add_sub_cancel_left, d.pairServes_dramLead]

/-- A request line rises at the arbiter of a channel that serves (R171). -/
theorem Dev.arbRequest_dram {i : Nat} (hreach : arbReaches (8 + d.dramLead n) i = true) (hs : d.pairServes n = true)
    (hf : d.fenced (8 + d.dramLead n) i = false) (hl : d.lineWork (8 + d.dramLead n) i = true) :
    d.arbRequest (8 + d.dramLead n) i = d.onArb (8 + d.dramLead n) (fun x => x.raise i) := by
  simp only [Dev.arbRequest, hreach, d.arbUp_dramLead, hs, hf, hl, Bool.and_assoc, d.lead_not_odd]
  simp

end

/-! ### Hardened requesters (R192, R205) -/

/-- The Larder test reaches no channel: a hardened requester that does has work behind its line. -/
theorem Dev.lineWork_hard (d : Dev) {e i : Nat} (h : 64 ≤ i) (hr : arbReaches (8 + e) i = true) :
    d.lineWork (8 + e) i = true := by
  have hi : i ≠ testId := by
    rintro rfl
    simp [arbReaches, testId] at hr
  simp [Dev.lineWork, Nat.not_lt.2 h, hi]

section
variable {d : Dev} {n req : Nat} (write : Bool) (hreach : arbReaches (8 + d.dramLead n) req = true) (hreq : 64 ≤ req)
include hreach hreq

theorem Dev.dramRequest_hard (addr len : Nat) (data : List (BitVec 64)) :
    d.dramRequest n req addr write len data = d.dramHard n (d.dramLead n) req addr len write data := by
  simp [Dev.dramRequest, hreach, hreq]

/-- A request for other words is answered NO_TARGET (R192). -/
theorem Dev.dramRequest_noTarget {addr len : Nat} (data : List (BitVec 64))
    (ha : dramAddrOk (if write then opWrite else opRead) addr len = false) :
    d.dramRequest n req addr write len data =
      d.onDram (d.dramLead n) (fun x => { x with answer := ⟨stNoTarget, []⟩ }) := by
  rw [Dev.dramRequest_hard write hreach hreq]
  simp only [Dev.dramHard, ha, Bool.not_false, if_true]
  rfl

section
variable {addr len : Nat} (data : List (BitVec 64))
  (ha : dramAddrOk (if write then opWrite else opRead) addr len = true)
include ha

theorem Dev.dramRequest_offline (hs : d.pairServes n = false) : d.dramRequest n req addr write len data =
    d.onDram (d.dramLead n) (fun x => { x with answer := ⟨stChanOffline, []⟩ }) := by
  rw [Dev.dramRequest_hard write hreach hreq]
  simp only [Dev.dramHard, ha, hs, Bool.not_true, Bool.not_false, Bool.false_eq_true, if_false, if_true]
  rfl

theorem Dev.dramRequest_fenced (hs : d.pairServes n = true) (hf : d.fenced (8 + d.dramLead n) req = true) :
    d.dramRequest n req addr write len data =
      (d.cnt F.ARB_REQ_STAT_FENCE_HITS (8 + d.dramLead n) req).onDram (d.dramLead n)
        (fun x => { x with answer := ⟨stFenced, []⟩ }) := by
  rw [Dev.dramRequest_hard write hreach hreq]
  simp only [Dev.dramHard, ha, hs, hf, Bool.not_true, Bool.false_eq_true, if_false, if_true]
  rfl

/-- A request that is not refused joins the others and raises its line. -/
theorem Dev.dramRequest_joins (hs : d.pairServes n = true) (hf : d.fenced (8 + d.dramLead n) req = false) :
    d.dramRequest n req addr write len data =
      (d.dramEnter (d.dramLead n) req (addr / 2) ((len + 1) / 2) write (burstsOf data) none).onArb (8 + d.dramLead n)
        (fun x => x.raise req) := by
  rw [Dev.dramRequest_hard write hreach hreq]
  simp only [Dev.dramHard, ha, hs, hf, Bool.not_true, Bool.false_eq_true, if_false]
  exact Dev.arbRequest_dram (d.dramEnter (d.dramLead n) req (addr / 2) ((len + 1) / 2) write (burstsOf data) none)
    hreach hs hf (Dev.lineWork_hard _ hreq hreach)

end

end

/-! ### Rooms (R171, R191) -/

section
variable {d : Dev} {n req : Nat} (addr len : Nat) (write : Bool) (data : List (BitVec 64))

theorem Dev.dramRequest_unreached (h : arbReaches (8 + d.dramLead n) req = false) :
    d.dramRequest n req addr write len data = d := by
  simp [Dev.dramRequest, h]

theorem arbReaches_room {req : Nat} (e : Nat) (h : req < 64) : arbReaches (8 + e) req = true := by
  simp [arbReaches]
  omega

/-- A room whose packets have all joined has nothing to ask. -/
theorem Dev.dramRequest_idle (hreq : req < 64) (h : d.dramNext n (d.dramLead n) req = none) :
    d.dramRequest n req addr write len data = d := by
  simp [Dev.dramRequest, arbReaches_room _ hreq, Nat.not_le.2 hreq, h]

/-- The oldest packet of a room that has not joined yet joins. -/
theorem Dev.dramRequest_packet {p : Packet} (hreq : req < 64) (h : d.dramNext n (d.dramLead n) req = some p)
    (hop : p.op = if write then opWrite else opRead) (haddr : p.addr.toNat = addr) (hlen : p.len.toNat = len)
    (hdata : p.flits <+: data) : d.dramRequest n req addr write len data =
      d.dramEnter (d.dramLead n) req (addr / 2) ((len + 1) / 2) write [] (some p.no) := by
  simp [Dev.dramRequest, arbReaches_room _ hreq, Nat.not_le.2 hreq, h, LarOp.isOf, hop, haddr, hlen,
    List.isPrefixOf_iff_prefix.2 hdata]

end

/-! ### The obligation -/

theorem exec_dramRead (n : Fin 4) (req : Fin 83) (addr : Word) (len : Fin 16) (s : State) :
    exec (.dramRead n req addr len) s = .next (s.onDev fun d => d.dramRequest n req addr.toNat false len []) := rfl

theorem exec_dramWrite (n : Fin 4) (req : Fin 83) (addr : Word) {data : List (BitVec 64)} (s : State)
    (h : 0 < data.length) (h' : data.length ≤ 16) : exec (.dramWrite n req addr data) s =
      .next (s.onDev fun d => d.dramRequest n req addr.toNat true (data.length - 1) data) := by
  have hdata : (data.isEmpty || decide (16 < data.length)) = false := by
    simp [List.ne_nil_of_length_pos h, h']
  change Host.Outcome.next (s.onDev fun d => if data.isEmpty || decide (16 < data.length) then d else _) = _
  simp only [hdata, Bool.false_eq_true, if_false]

/-- A write for which nothing is to be done does nothing, whatever its data. -/
theorem does_dramWrite_nothing {n : Fin 4} {req : Fin 83} {addr : Word} {data : List (BitVec 64)} {s : State}
    (h : s.dev.dramRequest n req addr.toNat true (data.length - 1) data = s.dev) :
    Does (.dramWrite n req addr data) s s.dev :=
  does_onDev rfl (by rw [h, ite_self])

/-- A refused request, read or write. -/
theorem exec_dramRow {n : Fin 4} {req : Fin 83} {addr : Word} {len : Fin 16} {data : List (BitVec 64)} {c : Instr}
    {write : Bool} {k : Nat} (hc : c = .dramRead n req addr len ∧ write = false ∧ k = len ∨
      c = .dramWrite n req addr data ∧ write = true ∧ data.length = k + 1 ∧ k < 16) (s : State) :
    ∃ l, exec c s = .next (s.onDev fun d => d.dramRequest n req addr.toNat write k l) := by
  rcases hc with ⟨rfl, rfl, rfl⟩ | ⟨rfl, rfl, hk, hk'⟩
  · exact ⟨[], exec_dramRead n req addr len s⟩
  · refine ⟨data, (exec_dramWrite n req addr s (by omega) (by omega)).trans ?_⟩
    rw [hk, Nat.add_sub_cancel]

/-- Settles O30. -/
theorem dramRequests : Obligations.DramRequests := by
  unfold Obligations.DramRequests
  refine ⟨?_, ?_, ?_, ?_, ?_⟩
  · exact fun n req addr len s hreach hreq ha hs hf => does_onDev (exec_dramRead n req addr len s)
      (Dev.dramRequest_joins false hreach hreq [] ha hs hf)
  · intro n req addr data s e hreach hreq hpos hmax ha hs hf
    refine does_onDev (exec_dramWrite n req addr s hpos hmax) ((Dev.dramRequest_joins true hreach hreq data ha hs hf).trans ?_)
    rw [Nat.sub_add_cancel hpos]
    rfl
  · intro n req addr len data c write k s e hc hreach hreq ok
    obtain ⟨l, hx⟩ := exec_dramRow hc s
    exact ⟨fun ha => does_onDev hx (Dev.dramRequest_noTarget write hreach hreq l ha),
      fun ha hs => does_onDev hx (Dev.dramRequest_offline write hreach hreq l ha hs),
      fun ha hs hf => does_onDev hx (Dev.dramRequest_fenced write hreach hreq l ha hs hf)⟩
  · intro n req addr len data p s hreq e enters hnext haddr
    refine ⟨fun hop hlen hflits => does_onDev (exec_dramRead n req addr len s)
      (Dev.dramRequest_packet _ _ false [] hreq hnext hop (by rw [haddr]) hlen (by rw [hflits])),
      fun hop hflits hlen => ?_⟩
    have hmax := p.len.isLt
    refine does_onDev (exec_dramWrite n req addr s (by omega) (by omega))
      ((Dev.dramRequest_packet _ _ true data hreq hnext hop (by rw [haddr]) (by omega) hflits).trans ?_)
    rw [Nat.sub_add_cancel (by omega)]
    rfl
  · rintro n req addr len data s e (hreach | ⟨hreq, hnone⟩)
    · exact ⟨does_onDev (exec_dramRead n req addr len s) (Dev.dramRequest_unreached _ _ false [] hreach),
        does_dramWrite_nothing (Dev.dramRequest_unreached _ _ true data hreach)⟩
    · exact ⟨does_onDev (exec_dramRead n req addr len s) (Dev.dramRequest_idle _ _ false [] hreq hnone),
        does_dramWrite_nothing (Dev.dramRequest_idle _ _ true data hreq hnone)⟩

end Sys2Proof.Machine
end

section
/-! PROOFS. The states of a DRAM channel (Table 9.4): what a change of one channel's state leaves of the other's, how a
channel leaves and returns to service (R198, R200, R202), and `Obligations.DramSelfRefreshAndTraining`, clause by
clause. -/

namespace Sys2Proof.Machine

/-! ### A channel and its partner -/

theorem partner_ne (n : Nat) : n ≠ partner n := by
  unfold partner
  split_ifs <;> omega

theorem partner_lt {n : Nat} (h : n < 4) : partner n < 4 := by
  unfold partner
  split_ifs <;> omega

section
variable {a b : Dev} {n : Nat}

theorem Dev.sameOn_noticeFree (d : Dev) (src : Nat) {l : List RK} (hl : ∀ k ∈ l, k.isErr = false) :
    d.sameOn (d.noticeFree src) l := fun k hk _ _ hi hj => d.reg_noticeFree src (hl k hk) hi hj

theorem Dev.sameOn.mirrorOf {l : List RK} (h : a.sameOn b l) (hl : .DRC_CFG ∈ l) (hn : n < 4) :
    b.mirrorOf n = a.mirrorOf n := by
  rw [Dev.mirrorOf, Dev.mirrorOf, h.gb (f := F.DRC_CFG_MIRROR) hl (by omega) (by decide)]

/-- The registers that decide which channels serve. -/
def drcRegs : List RK := [.DRC_CFG, .DRC_STAT]

theorem Dev.sameOn.partnerServes (h : a.sameOn b drcRegs) (hn : n < 4) : b.partnerServes n = a.partnerServes n := by
  have hp := partner_lt hn
  have hs : b.dramState (partner n) = a.dramState (partner n) :=
    h.gf (f := F.DRC_STAT_STATE) (by decide) (by omega) (by decide)
  rw [Dev.partnerServes, Dev.partnerServes, h.mirrorOf (by decide) hn, Dev.serves, Dev.serves, hs]

theorem Dev.burst_congr (h : b.dram n = a.dram n) (x : Nat) : b.burst n x = a.burst n x := by
  rw [Dev.burst, Dev.burst, h]

end

/-! ### Fields of DRC_n_STAT -/

section
variable (d : Dev) (n : Nat)

@[simp] theorem Dev.dramState_setDramState {st : Nat} (h : st < 8) : (d.setDramState n st).dramState n = st :=
  (d.gf_sf F.DRC_STAT_STATE n 0 st (by decide)).trans (Nat.mod_eq_of_lt h)

theorem Dev.gf_setDramState_ne (st : Nat) {m : Nat} (h : n ≠ m) (hn : n < 4) (hm : m < 4) (f : Fld) :
    (d.setDramState n st).gf f m = d.gf f m :=
  Dev.gf_sf_idx _ _ (.inl h) (by omega) (by decide) (by omega) (by decide)

@[simp] theorem Dev.dram_setDramState (st m : Nat) : (d.setDramState n st).dram m = d.dram m := rfl

/-- The end of an operation leaves the channel's state and shows DONE and RESULT. -/
theorem Dev.dramResult_spec {r : Nat} (h : r < 4) : (d.dramResult n r).dramState n = d.dramState n ∧
    (d.dramResult n r).gf F.DRC_STAT_DONE n = 1 ∧ (d.dramResult n r).gf F.DRC_STAT_RESULT n = r := by
  unfold Dev.dramResult Dev.dramState
  refine ⟨?_, ?_, (Dev.gf_sf _ _ _ _ _ (by decide)).trans (Nat.mod_eq_of_lt h)⟩
  · rw [Dev.gf_sf_bits _ _ (by rfl) (by decide), Dev.gf_sf_bits _ _ (by rfl) (by decide)]
  · rw [Dev.gf_sf_bits _ _ (by rfl) (by decide), Dev.gf_sf _ _ _ _ _ (by decide)]
    rfl

theorem Dev.keepsRegs_dramResult (hn : n < 4) (r : Nat) : d.keepsRegs (d.dramResult n r) [(.DRC_STAT, n, 0)] :=
  (d.keepsRegs_sf (f := F.DRC_STAT_DONE) _ (by simp) (by omega) (by decide)).sf (by simp) (by omega) (by decide)

end

/-! ### Leaving and returning to service (R198, R202) -/

section
variable (d : Dev) {n : Nat}

/-- A channel in RESYNC whose partner leaves goes back to OFFLINE with RESULT FAILED. -/
theorem Dev.resyncLost_spec (h : d.dramState n = drResync) (hn : n < 4) :
    (d.resyncLost n).dramState n = drOffline ∧ (d.resyncLost n).gf F.DRC_STAT_RESULT n = 2 := by
  rw [Dev.resyncLost, h]
  obtain ⟨hs, -, hr⟩ :=
    Dev.dramResult_spec ((d.setDramState n drOffline).sf F.DRC_RESYNC_PROGRESS n 0 0) n (r := 2) (by decide)
  refine ⟨hs.trans ((Dev.gf_sf_reg _ _ (by decide) (by omega) (by decide) (by omega) (by decide)).trans ?_), hr⟩
  exact d.dramState_setDramState n (by decide)

theorem Dev.keepsRegs_resyncLost (hn : n < 4) :
    d.keepsRegs (d.resyncLost n) [(.DRC_STAT, n, 0), (.DRC_RESYNC, n, 0)] := by
  unfold Dev.resyncLost
  split_ifs
  · exact ((d.keepsRegs_sf (f := F.DRC_STAT_STATE) _ (by simp) (by omega) (by decide)).sf
      (by simp) (by omega) (by decide)).trans ((Dev.keepsRegs_dramResult _ n hn 2).mono (by simp))
  · exact d.keepsRegs_refl _

theorem Dev.dram_dramReturn (m : Nat) : (d.dramReturn n).dram m = d.dram m := by
  unfold Dev.dramReturn
  dsimp only
  split_ifs <;> rfl

/-- Beside a partner that serves a channel returns through RESYNC, with the partner awake. -/
theorem Dev.dramReturn_resync (hn : n < 4) (h : d.partnerServes n = true) : (d.dramReturn n).dramState n = drResync ∧
    (d.dramReturn n).dramState (partner n) = drOnline ∧ (d.dramReturn n).gf F.DRC_RESYNC_PROGRESS n = 0 := by
  have hp := partner_lt hn
  have hserves : d.dramState (partner n) = drOnline ∨ d.dramState (partner n) = drSelfRef := by
    simpa [Dev.partnerServes, Dev.serves] using (Bool.and_eq_true_iff.1 h).2
  have hawake : (if d.dramState (partner n) == drSelfRef then d.setDramState (partner n) drOnline
      else d).dramState (partner n) = drOnline := by
    split_ifs with hs
    · exact d.dramState_setDramState _ (by decide)
    · exact hserves.resolve_right (by simpa using hs)
  rw [Dev.dramReturn, if_pos h]
  generalize (if d.dramState (partner n) == drSelfRef then d.setDramState (partner n) drOnline else d) = e at hawake
  have hreg (m : Nat) (hm : m < 4) : ((e.setDramState n drResync).sf F.DRC_RESYNC_PROGRESS n 0 0).dramState m =
      (e.setDramState n drResync).dramState m :=
    Dev.gf_sf_reg _ _ (by decide) (by omega) (by decide) (by omega) (by decide)
  refine ⟨(hreg n hn).trans (e.dramState_setDramState n (by decide)), (hreg _ hp).trans ?_,
    Dev.gf_sf _ _ _ _ _ (by decide)⟩
  exact (e.gf_setDramState_ne n drResync (partner_ne n) hn hp F.DRC_STAT_STATE).trans hawake

theorem Dev.dramReturn_alone (h : d.partnerServes n = false) :
    d.dramReturn n = (d.setDramState n drOnline).dramResult n 0 := by
  simp [Dev.dramReturn, h]

theorem Dev.dramReturn_online (h : d.partnerServes n = false) : (d.dramReturn n).dramState n = drOnline ∧
    (d.dramReturn n).gf F.DRC_STAT_DONE n = 1 ∧ (d.dramReturn n).gf F.DRC_STAT_RESULT n = 0 := by
  rw [d.dramReturn_alone h]
  obtain ⟨hs, hrest⟩ := (d.setDramState n drOnline).dramResult_spec n (r := 0) (by decide)
  exact ⟨hs.trans (d.dramState_setDramState n (by decide)), hrest⟩

/-- A channel that has failed its wake changes only its partner. -/
theorem Dev.dramAlone_keeps (hn : n < 4) : d.keepsRegs (d.dramAlone n) [(.DRC_STAT, partner n, 0)] := by
  have hp := partner_lt hn
  unfold Dev.dramAlone Dev.when
  dsimp only
  split_ifs
  · exact Dev.keepsRegs_sf (d.onDram _ _) (f := F.DRC_STAT_STATE) _ (by simp) (by omega) (by decide)
  · exact d.keepsRegs_refl _

theorem Dev.gf_dramAlone (hn : n < 4) (f : Fld) : (d.dramAlone n).gf f n = d.gf f n :=
  (d.dramAlone_keeps hn).gf (by simp [partner_ne n]) (by omega) (by decide)

end

/-! ### Self-refresh (R198) -/

/-- A channel enters self-refresh, and a partner in RESYNC has lost its source. -/
def Dev.selfRefreshed (d : Dev) (n : Nat) : Dev :=
  (d.sf F.DRC_STAT_STATE n 0 drSelfRef).cnt F.DRC_CNT_SR_ENTRIES n 0

theorem Dev.mirrorOf_selfRefreshed (d : Dev) {n : Nat} (hn : n < 4) : (d.selfRefreshed n).mirrorOf n = d.mirrorOf n := by
  have h : d.sameOn (d.selfRefreshed n) [.DRC_CFG] :=
    (d.sameOn_sf (f := F.DRC_STAT_STATE) _ (by decide) (by omega) (by decide)).trans
      (Dev.sameOn_cnt _ (by decide) (by omega) (by decide))
  exact h.mirrorOf (by simp) hn

section
variable {n : Fin 4} {s : State}

theorem exec_dramSelfRefreshEnter (hmode : s.dev.gf F.DRC_REF_REF_MODE n = 1) (htype : s.dev.gf F.DRC_CFG_DEVTYPE n = 1)
    (hs : s.dev.dramState n = drOnline) (hidle : s.dev.dramIdle n = true) :
    exec (.dramSelfRefreshEnter n) s = .next (s.onDev fun _ =>
      (s.dev.selfRefreshed n).when (s.dev.mirrorOf n).isSome (fun d => d.resyncLost (partner n))) := by
  refine congrArg Host.Outcome.next (congrArg (State.mk · _ _ _) ?_)
  simp only [hmode, htype, hs, hidle, beq_self_eq_true, Bool.and_self, if_true]
  exact congrArg (fun m : Option Nat => (s.dev.selfRefreshed n).when m.isSome _) (s.dev.mirrorOf_selfRefreshed n.isLt)

theorem dramSelfRefreshEnter_yields (hmode : s.dev.gf F.DRC_REF_REF_MODE n = 1)
    (htype : s.dev.gf F.DRC_CFG_DEVTYPE n = 1) (hs : s.dev.dramState n = drOnline) (hidle : s.dev.dramIdle n = true)
    (hm : s.dev.mirrorOf n ≠ none) :
    Yields (.dramSelfRefreshEnter n) s (fun t => t.dev.dramState n = drSelfRef ∧
      t.dev.gf F.DRC_CNT_SR_ENTRIES n = min (s.dev.gf F.DRC_CNT_SR_ENTRIES n + 1) (2 ^ F.DRC_CNT_SR_ENTRIES.width - 1) ∧
      (s.dev.dramState (partner n) = drResync → t.dev.dramState (partner n) = drOffline ∧
        t.dev.gf F.DRC_STAT_RESULT (partner n) = 2)) := by
  have hn := n.isLt
  have hp := partner_lt hn
  have hne := partner_ne n.val
  have hstate (m : Nat) (h : m < 4) :
      (s.dev.selfRefreshed n).dramState m = (s.dev.setDramState n drSelfRef).dramState m :=
    Dev.gf_sf_reg _ _ (by decide) (by omega) (by decide) (by omega) (by decide)
  have hkeeps := (s.dev.selfRefreshed n).keepsRegs_resyncLost hp
  refine ⟨_, exec_dramSelfRefreshEnter hmode htype hs hidle, ?_⟩
  beta_reduce
  rw [State.dev_onDev, Dev.when, if_pos (Option.isSome_iff_ne_none.2 hm)]
  refine ⟨?_, ?_, fun hresync => Dev.resyncLost_spec _ ?_ hp⟩
  · rw [Dev.dramState, hkeeps.gf (by simp [hne]) (by omega) (by decide)]
    exact (hstate n hn).trans (s.dev.dramState_setDramState n (by decide))
  · rw [hkeeps.gf (by simp) (by omega) (by decide), Dev.selfRefreshed, Dev.gf_cnt _ _ _ _ _ (by decide),
      Dev.gf_sf_reg _ _ (by decide) (by omega) (by decide) (by omega) (by decide)]
  · rw [hstate _ hp]
    exact (s.dev.gf_setDramState_ne n _ hne hn hp _).trans hresync

theorem does_dramSelfRefreshEnter_nothing (h : s.dev.gf F.DRC_REF_REF_MODE n ≠ 1 ∨ s.dev.gf F.DRC_CFG_DEVTYPE n ≠ 1 ∨
    s.dev.dramState n ≠ drOnline ∨ s.dev.dramIdle n = false) : Does (.dramSelfRefreshEnter n) s s.dev := by
  refine does_onDev rfl (if_neg ?_)
  simp only [Bool.and_eq_true, beq_iff_eq]
  rintro ⟨⟨⟨hmode, htype⟩, hs⟩, hidle⟩
  rcases h with h | h | h | h
  · exact h hmode
  · exact h htype
  · exact h hs
  · exact Bool.false_ne_true (h.symm.trans hidle)

theorem does_dramSelfRefreshExit (h : s.dev.dramState n = drSelfRef) (hidle : s.dev.dramIdle n = false) :
    Does (.dramSelfRefreshExit n) s (s.dev.sf F.DRC_STAT_STATE n 0 drOnline) :=
  does_onDev rfl (if_pos (by simp [h, hidle]))

theorem does_dramSelfRefreshExit_nothing (h : s.dev.dramState n ≠ drSelfRef ∨ s.dev.dramIdle n = true) :
    Does (.dramSelfRefreshExit n) s s.dev :=
  does_onDev rfl (if_neg (by rcases h with h | h <;> simp [h]))

end

/-! ### Training (R199, R200, Table 9.6) -/

/-- Where no rollback or wake is under way nothing restarts. -/
theorem Dev.restartGo_of_awake {d : Dev} (h : d.gov.sleep = none) : d.restartGo = d := by
  rw [Dev.restartGo, h]

section
variable (d : Dev) (n : Nat)

theorem Dev.gov_dramReturn : (d.dramReturn n).gov = d.gov := by
  unfold Dev.dramReturn
  dsimp only
  split_ifs <;> rfl

theorem Dev.gov_dramAlone : (d.dramAlone n).gov = d.gov := by
  unfold Dev.dramAlone Dev.when
  dsimp only
  split_ifs <;> rfl

theorem Dev.gov_dramUp : (d.dramUp n).gov = d.gov := by
  unfold Dev.dramUp Dev.when
  dsimp only
  split_ifs <;> rfl

theorem Dev.gov_dramTrainStep (ok : Bool) (pin : Nat) : (d.dramTrainStep n ok pin).gov = d.gov := by
  have hend : (d.dramTrainEnd n).gov = d.gov := by
    unfold Dev.dramTrainEnd
    dsimp only
    split_ifs <;> simp [Dev.gov_dramReturn, Dev.gov_dramAlone, Dev.gov_dramUp, Dev.setDramState]
  have hfail : (d.dramTrainFail n pin).gov = d.gov := by
    simp [Dev.dramTrainFail, Dev.gov_dramAlone, Dev.dramResult, Dev.setDramState]
  unfold Dev.dramTrainStep
  dsimp only
  split_ifs
  · rfl
  · exact hfail
  · split <;> rfl
  · split
    · rfl
    · exact hend

end

/-- What the end of a training step does while no restart is under way. -/
theorem exec_dramTrainStepDone (n : Fin 4) (ok : Bool) (pin : BitVec 8) {s : State} (h : s.dev.gov.sleep = none) :
    exec (.dramTrainStepDone n ok pin) s = .next (s.onDev fun _ => s.dev.dramTrainStep n ok pin.toNat) := by
  have hgo : (s.dev.dramTrainStep n ok pin.toNat).restartGo = s.dev.dramTrainStep n ok pin.toNat :=
    Dev.restartGo_of_awake (by rw [Dev.gov_dramTrainStep, h])
  exact congrArg (fun d => Host.Outcome.next (s.onDev fun _ => d)) hgo

section
variable {d : Dev} {n : Nat} (ok : Bool) (pin : Nat)

theorem Dev.dramTrainStep_idle
    (h : d.dramState n ≠ drTraining ∨ (d.dram n).step = 0 ∨ (d.dram n).queue ≠ []) : d.dramTrainStep n ok pin = d := by
  refine if_pos ?_
  rcases h with h | h | h <;> simp [h]

section
variable (hs : d.dramState n = drTraining) (hstep : 0 < (d.dram n).step) (hq : (d.dram n).queue = [])
include hs hstep hq

theorem Dev.dramTrainStep_fails (hok : ok = false) (hkind : (d.dram n).kind ≠ .clear) :
    d.dramTrainStep n ok pin = d.dramTrainFail n pin := by
  simp [Dev.dramTrainStep, hs, Nat.ne_of_gt hstep, hq, hok, hkind]

/-- A step that ends well, or the clearing, which cannot fail, leads to the next. -/
theorem Dev.dramTrainStep_next {k : Nat} (h : ok = true ∨ (d.dram n).kind = .clear)
    (hnext : (d.dram n).nextStep = some k) : d.dramTrainStep n ok pin = d.onDram n (fun x => { x with step := k }) := by
  have hgood : (!ok && (d.dram n).kind != .clear) = false := by
    rcases h with h | h <;> simp [h]
  simp [Dev.dramTrainStep, hs, hq, hgood, Nat.ne_of_gt hstep, hnext]

/-- The last of them is followed by the clearing, after OFF, or by the end of the training. -/
theorem Dev.dramTrainStep_last (h : ok = true ∨ (d.dram n).kind = .clear) (hnext : (d.dram n).nextStep = none) :
    d.dramTrainStep n ok pin = if (d.dram n).kind = .fromOff then
      d.onDram n (fun x => { x with kind := .clear, step := 9 }) else d.dramTrainEnd n := by
  have hgood : (!ok && (d.dram n).kind != .clear) = false := by
    rcases h with h | h <;> simp [h]
  simp [Dev.dramTrainStep, hs, hq, hgood, Nat.ne_of_gt hstep, hnext]

end

end

section
variable {x : Dram}

/-- A restore takes steps 1, 3 and 7; another training all of them, but step 2 only the first time and after OFF. -/
theorem Dram.nextStep_some {k : Nat} (h : (x.kind, x.step, k) ∈ [(Training.restore, 1, 3), (.restore, 3, 7)] ∨
    ((x.kind = .full ∨ x.kind = .fromOff) ∧ x.step < 8 ∧
      k = if x.step = 1 ∧ x.firstTrain = false ∧ x.kind = .full then 3 else x.step + 1)) : x.nextStep = some k := by
  rcases h with h | ⟨hkind, hstep, rfl⟩
  · simp only [List.mem_cons, Prod.mk.injEq, List.not_mem_nil, or_false] at h
    rcases h with ⟨hkind, hstep, rfl⟩ | ⟨hkind, hstep, rfl⟩ <;> simp [Dram.nextStep, hkind, hstep]
  · rcases hkind with hkind | hkind <;> simp [Dram.nextStep, hkind, Nat.not_le.2 hstep]

theorem Dram.nextStep_of_last (hkind : x.kind = .full ∨ x.kind = .fromOff) (hstep : x.step = 8) : x.nextStep = none := by
  rcases hkind with hkind | hkind <;> simp [Dram.nextStep, hkind, hstep]

theorem Dram.nextStep_of_clear (hkind : x.kind = .clear) : x.nextStep = none := by
  simp [Dram.nextStep, hkind]

theorem Dram.nextStep_of_restored (hkind : x.kind = .restore) (hstep : x.step = 7) : x.nextStep = none := by
  simp [Dram.nextStep, hkind, hstep]

end

/-- A channel after its training: trained, with no step under way; the clearing leaves nothing but zeros. -/
def Dram.afterTraining (x : Dram) : Dram :=
  { x with
    step := 0, trained := true, firstTrain := false, needTrain := false
    mem := if x.kind = .clear then [] else x.mem, zeroed := x.kind == .clear || x.zeroed }

section
variable (d : Dev) {n : Nat}

/-- The device once a training is complete, before the channel returns. -/
def Dev.trainedAt (d : Dev) (n : Nat) : Dev := (d.onDram n Dram.afterTraining).noticeFree 0x43

theorem Dev.dram_trainedAt : (d.trainedAt n).dram n = (d.dram n).afterTraining := by
  rw [Dev.trainedAt, Dev.dram_noticeFree, Dev.dram_onDram]

theorem Dev.sameOn_trainedAt : d.sameOn (d.trainedAt n) drcRegs :=
  Dev.sameOn_noticeFree (d.onDram n Dram.afterTraining) 0x43 (by decide)

theorem Dev.burst_trainedAt (b : Nat) :
    (d.trainedAt n).burst n b = if (d.dram n).kind = .clear then {} else d.burst n b := by
  rw [Dev.burst, Dev.dram_trainedAt]
  split_ifs with h
  · simp [Dram.afterTraining, Dram.unlisted, h, Map.get]
  · simp only [Dram.afterTraining, h, if_false, beq_false_of_ne h, Bool.false_or]
    rfl

theorem Dev.dramTrainEnd_full (h : (d.dram n).kind = .full) : d.dramTrainEnd n = (d.trainedAt n).dramReturn n := by
  rw [Dev.dramTrainEnd, if_pos h]
  rfl

/-- An unmirrored channel serves again once it is cleared or restored. -/
theorem Dev.dramTrainEnd_up (hn : n < 4) (h : (d.dram n).kind ≠ .full) (hback : (d.dram n).back = false)
    (hm : d.mirrorOf n = none) : d.dramTrainEnd n = (d.trainedAt n).setDramState n drOnline := by
  have hm' : (d.trainedAt n).mirrorOf n = none := (d.sameOn_trainedAt.mirrorOf (by decide) hn).trans hm
  rw [Dev.dramTrainEnd, if_neg h, hback]
  change (d.trainedAt n).dramUp n = _
  simp [Dev.dramUp, Dev.when, hm']

/-- A bad step: RESULT FAILED with its number and pin, and the channel as it was before the training. -/
theorem Dev.dramTrainFail_spec (hn : n < 4) {pin : Nat} (hpin : pin < 256) (hstep : (d.dram n).step < 8) :
    (d.dramTrainFail n pin).dramState n = (if (d.dram n).back then drOffline else drUntrained) ∧
    (d.dramTrainFail n pin).gf F.DRC_STAT_RESULT n = 2 ∧
    (d.dramTrainFail n pin).gf F.DRC_STAT_FAIL_STEP n = (d.dram n).step ∧
    (d.dramTrainFail n pin).gf F.DRC_STAT_FAIL_PIN n = pin := by
  have hst : (if (d.dram n).back then drOffline else drUntrained) < 8 := by split_ifs <;> decide
  obtain ⟨hs, -, hr⟩ := Dev.dramResult_spec ((d.onDram n (fun x => { x with step := 0 })).setDramState n
    (if (d.dram n).back then drOffline else drUntrained)) n (r := 2) (by decide)
  unfold Dev.dramTrainFail Dev.dramState
  dsimp only
  simp only [Dev.gf_dramAlone _ hn]
  iterate 4 rw [Dev.gf_fault _ _ _ rfl (by omega) (by decide)]
  refine ⟨?_, ?_, ?_, (Dev.gf_sf _ _ _ _ _ (by decide)).trans (Nat.mod_eq_of_lt hpin)⟩
  · rw [Dev.gf_sf_bits _ _ (by rfl) (by decide), Dev.gf_sf_bits _ _ (by rfl) (by decide)]
    exact hs.trans (Dev.dramState_setDramState _ n hst)
  · rw [Dev.gf_sf_bits _ _ (by rfl) (by decide), Dev.gf_sf_bits _ _ (by rfl) (by decide)]
    exact hr
  · rw [Dev.gf_sf_bits _ _ (by rfl) (by decide), Dev.gf_sf _ _ _ _ _ (by decide)]
    exact Nat.mod_eq_of_lt hstep

end

section
variable {n : Fin 4} {ok : Bool} (pin : BitVec 8) {s : State} (hs : s.dev.dramState n = drTraining)
  (hstep : 0 < (s.dev.dram n).step) (hq : (s.dev.dram n).queue = []) (hsleep : s.dev.gov.sleep = none)
include hs hstep hq hsleep

theorem does_dramTrainStepDone_next {k : Nat} (hok : ok = true ∨ (s.dev.dram n).kind = .clear)
    (hnext : (s.dev.dram n).nextStep = some k) :
    Does (.dramTrainStepDone n ok pin) s (s.dev.onDram n (fun x => { x with step := k })) :=
  does_onDev (exec_dramTrainStepDone n ok pin hsleep) (Dev.dramTrainStep_next ok _ hs hstep hq hok hnext)

/-- The last good step of a training that TRAIN has started: the channel is trained and returns. -/
theorem dramTrainStepDone_returns (hok : ok = true) (hlast : (s.dev.dram n).step = 8) (hkind : (s.dev.dram n).kind = .full) :
    Yields (.dramTrainStepDone n ok pin) s (fun t => (t.dev.dram n).trained = true ∧ (t.dev.dram n).step = 0 ∧
      if s.dev.partnerServes n then t.dev.dramState n = drResync
      else t.dev.dramState n = drOnline ∧ t.dev.gf F.DRC_STAT_DONE n = 1 ∧ t.dev.gf F.DRC_STAT_RESULT n = 0) := by
  have hstate : s.dev.dramTrainStep n ok pin.toNat = (s.dev.trainedAt n).dramReturn n := by
    rw [Dev.dramTrainStep_last ok _ hs hstep hq (.inl hok) (Dram.nextStep_of_last (.inl hkind) hlast),
      ← s.dev.dramTrainEnd_full hkind]
    exact if_neg (by rw [hkind]; decide)
  have hserves := s.dev.sameOn_trainedAt (n := n).partnerServes n.isLt
  refine ⟨_, exec_dramTrainStepDone n ok pin hsleep, ?_⟩
  beta_reduce
  rw [State.dev_onDev, hstate, Dev.dram_dramReturn, Dev.dram_trainedAt]
  refine ⟨rfl, rfl, ?_⟩
  split_ifs with h
  · exact (Dev.dramReturn_resync _ n.isLt (hserves.trans h)).1
  · exact Dev.dramReturn_online _ (hserves.trans (by simpa using h))

theorem does_dramTrainStepDone_clears (hok : ok = true) (hlast : (s.dev.dram n).step = 8)
    (hkind : (s.dev.dram n).kind = .fromOff) :
    Does (.dramTrainStepDone n ok pin) s (s.dev.onDram n (fun x => { x with kind := .clear, step := 9 })) :=
  does_onDev (exec_dramTrainStepDone n ok pin hsleep)
    ((Dev.dramTrainStep_last ok _ hs hstep hq (.inl hok) (Dram.nextStep_of_last (.inr hkind) hlast)).trans (if_pos hkind))

/-- The end of the clearing or of a restore. -/
theorem dramTrainStepDone_up (h : (s.dev.dram n).kind = .clear ∨
      (ok = true ∧ (s.dev.dram n).kind = .restore ∧ (s.dev.dram n).step = 7))
    (hm : s.dev.mirrorOf n = none) (hback : (s.dev.dram n).back = false) :
    Yields (.dramTrainStepDone n ok pin) s (fun t => t.dev.dramState n = drOnline ∧
      ∀ b, t.dev.burst n b = if (s.dev.dram n).kind = .clear then {} else s.dev.burst n b) := by
  obtain ⟨hok, hnext, hoff, hfull⟩ : (ok = true ∨ (s.dev.dram n).kind = .clear) ∧ (s.dev.dram n).nextStep = none ∧
      (s.dev.dram n).kind ≠ .fromOff ∧ (s.dev.dram n).kind ≠ .full := by
    rcases h with hkind | ⟨hok, hkind, hlast⟩
    · exact ⟨.inr hkind, Dram.nextStep_of_clear hkind, by rw [hkind]; decide, by rw [hkind]; decide⟩
    · exact ⟨.inl hok, Dram.nextStep_of_restored hkind hlast, by rw [hkind]; decide, by rw [hkind]; decide⟩
  have hstate : s.dev.dramTrainStep n ok pin.toNat = (s.dev.trainedAt n).setDramState n drOnline := by
    rw [Dev.dramTrainStep_last ok _ hs hstep hq hok hnext, ← s.dev.dramTrainEnd_up n.isLt hfull hback hm]
    exact if_neg hoff
  refine ⟨_, exec_dramTrainStepDone n ok pin hsleep, ?_⟩
  beta_reduce
  rw [State.dev_onDev, hstate]
  exact ⟨Dev.dramState_setDramState _ n (by decide), fun b =>
    (Dev.burst_congr (Dev.dram_setDramState _ _ _ _) b).trans (s.dev.burst_trainedAt b)⟩

theorem dramTrainStepDone_fails (hok : ok = false) (hkind : (s.dev.dram n).kind ≠ .clear)
    (hlast : (s.dev.dram n).step < 8) : Yields (.dramTrainStepDone n ok pin) s (fun t =>
      t.dev.dramState n = (if (s.dev.dram n).back then drOffline else drUntrained) ∧
      t.dev.gf F.DRC_STAT_RESULT n = 2 ∧ t.dev.gf F.DRC_STAT_FAIL_STEP n = (s.dev.dram n).step ∧
      t.dev.gf F.DRC_STAT_FAIL_PIN n = pin.toNat) := by
  refine ⟨_, exec_dramTrainStepDone n ok pin hsleep, ?_⟩
  beta_reduce
  rw [State.dev_onDev, Dev.dramTrainStep_fails ok _ hs hstep hq hok hkind]
  exact s.dev.dramTrainFail_spec n.isLt pin.isLt hlast

end

/-! ### The obligation -/

theorem does_dramTrain {n : Fin 4} {s : State} (h : s.dev.dramState n = drUntrained ∨ s.dev.dramState n = drOffline) :
    Does (.dramTrain n) s (s.dev.dramTrainStart n .full (s.dev.dramState n == drOffline)) :=
  does_onDev rfl (if_pos (by simpa using h))

theorem does_dramTrain_refused {n : Fin 4} {s : State} (h : s.dev.dramState n ≠ drUntrained)
    (h' : s.dev.dramState n ≠ drOffline) : Does (.dramTrain n) s (s.dev.dramResult n 1) :=
  does_onDev rfl (if_neg (by simp [h, h']))

/-- Settles O33. -/
theorem dramSelfRefreshAndTraining : Obligations.DramSelfRefreshAndTraining := by
  unfold Obligations.DramSelfRefreshAndTraining
  refine ⟨⟨fun n s hmode htype hs hidle => ⟨fun hm => ?_, fun hm => ?_⟩, ?_, ?_, ?_⟩, ?_, ?_, ?_, ?_⟩
  · refine does_onDev (exec_dramSelfRefreshEnter hmode htype hs hidle) ?_
    rw [hm]
    rfl
  · exact dramSelfRefreshEnter_yields hmode htype hs hidle hm
  · exact fun n s h => does_dramSelfRefreshEnter_nothing h
  · exact fun n s hs hidle => does_dramSelfRefreshExit hs hidle
  · exact fun n s h => does_dramSelfRefreshExit_nothing h
  · exact fun n s h => does_dramTrain h
  · exact fun n s h h' => does_dramTrain_refused h h'
  · intro n ok pin s hs hstep hq hsleep x
    refine ⟨fun k hok hnext => ?_, ?_, ?_, ?_, ?_⟩
    · exact does_dramTrainStepDone_next pin hs hstep hq hsleep hok (Dram.nextStep_some hnext)
    · exact fun hok hlast hkind => dramTrainStepDone_returns pin hs hstep hq hsleep hok hlast hkind
    · exact fun hok hlast hkind => does_dramTrainStepDone_clears pin hs hstep hq hsleep hok hlast hkind
    · exact fun h hm hback => dramTrainStepDone_up pin hs hstep hq hsleep h hm hback
    · exact fun hok hkind hlast => dramTrainStepDone_fails pin hs hstep hq hsleep hok hkind hlast
  · exact fun n ok pin s h hsleep =>
      does_onDev (exec_dramTrainStepDone n ok pin hsleep) (Dev.dramTrainStep_idle ok _ h)

end Sys2Proof.Machine
end

section
/-! PROOFS. `Obligations.DramOfflineOnline` (R202, R203), clause by clause: a channel taken offline, brought back online,
and copied from its partner. -/

namespace Sys2Proof.Machine

/-! ### OFFLINE -/

section
variable (d : Dev)

/-- The answer to a waiting packet changes no channel. -/
theorem Dev.drams_answerNo (no st : Nat) (data : List (BitVec 64)) : (d.answerNo no st data).drams = d.drams := by
  unfold Dev.answerNo Dev.answerAt
  split
  · rfl
  · split <;> rfl

theorem Dev.dram_congr {a b : Dev} (h : b.drams = a.drams) (n : Nat) : b.dram n = a.dram n := by
  rw [Dev.dram, Dev.dram, h]

/-- A channel without the requests that have bursts left. -/
def Dram.turnedAway (x : Dram) : Dram := { x with reqs := x.reqs.filter (fun r => r.next == r.count) }

/-- Requests turned away leave the registers and, of their channel, all but the requests and the answer at its port. -/
theorem Dev.dramTurnAway_spec (e : Nat) : (d.dramTurnAway e).regs = d.regs ∧
    ∃ x, (d.dramTurnAway e).dram e = { (d.dram e).turnedAway with answer := x } := by
  let hard := (d.dram e).reqs.filter (fun r => r.next != r.count && r.pkt.isNone)
  let answered := (d.onDram e Dram.turnedAway).each hard (fun d _ => d.dramAnswer e none stChanOffline [])
  obtain ⟨hregs, hdram⟩ : answered.regs = d.regs ∧ ∃ x, answered.dram e = { (d.dram e).turnedAway with answer := x } := by
    refine List.foldlRecOn hard _ (motive := fun b : Dev => b.regs = d.regs ∧
      ∃ x, b.dram e = { (d.dram e).turnedAway with answer := x }) ⟨rfl, (d.dram e).answer, d.dram_onDram e _⟩ ?_
    rintro b ⟨hregs, x, hb⟩ r -
    refine ⟨hregs, ⟨stChanOffline, []⟩, (b.dram_onDram e _).trans ?_⟩
    rw [hb]
  have hrooms : ((d.waitList (8 + e)).foldl (fun d p => d.answerNo p.no stChanOffline []) answered).regs = answered.regs ∧
      ((d.waitList (8 + e)).foldl (fun d p => d.answerNo p.no stChanOffline []) answered).drams = answered.drams :=
    ⟨foldl_keeps Dev.regs _ _ (fun b p _ => (b.answerNo_keeps p.no stChanOffline []).2.2) answered,
      foldl_keeps Dev.drams _ _ (fun b p _ => b.drams_answerNo p.no stChanOffline []) answered⟩
  refine ⟨hrooms.1.trans hregs, ?_⟩
  obtain ⟨x, hx⟩ := hdram
  exact ⟨x, (Dev.dram_congr hrooms.2 e).trans hx⟩

/-- The end of OFFLINE changes of its channel only that it is no longer pending. -/
theorem Dev.dram_offlineDone (n : Nat) : ∃ b, (d.offlineDone n).dram n = { d.dram n with offPending := b } := by
  unfold Dev.offlineDone
  split_ifs
  · exact ⟨false, by simp⟩
  · exact ⟨_, rfl⟩

theorem Dev.dramState_offlineDone (n : Nat) : (d.offlineDone n).dramState n = d.dramState n := by
  unfold Dev.offlineDone
  split_ifs
  · exact ((d.onDram n _).dramResult_spec n (r := 0) (by decide)).1
  · rfl

/-- With the queue empty OFFLINE ends OK, else it is still pending. -/
theorem Dev.offlineDone_spec {n : Nat} (h : (d.dram n).offPending = true) : if (d.dram n).queue = []
    then (d.offlineDone n).gf F.DRC_STAT_DONE n = 1 ∧ (d.offlineDone n).gf F.DRC_STAT_RESULT n = 0
    else ((d.offlineDone n).dram n).offPending = true := by
  split_ifs with hq
  · rw [Dev.offlineDone, if_pos (by simp [h, hq])]
    exact ((d.onDram n _).dramResult_spec n (r := 0) (by decide)).2
  · rw [Dev.offlineDone, if_neg (by simp [hq])]
    exact h

/-- A channel on its way to OFFLINE. -/
def Dev.leaving (d : Dev) (n : Nat) : Dev := (d.onDram n (fun x => { x with offPending := true })).setDramState n drOffline

theorem Dev.dram_leaving (n : Nat) : (d.leaving n).dram n = { d.dram n with offPending := true } := by
  simp [Dev.leaving]

theorem Dev.dramOffline_of_online {n : Nat} (h : d.dramState n = drOnline)
    (hp : d.mirrorOf n ≠ none → d.dramState (partner n) = drOnline) : d.dramOffline n =
      (if (d.mirrorOf n).isSome then d.leaving n else (d.leaving n).dramTurnAway n).offlineDone n := by
  refine if_neg ?_
  simp only [h, bne_self_eq_false, Bool.false_or, Bool.and_eq_true, bne_iff_ne, not_and, not_not]
  exact fun hm => hp (Option.isSome_iff_ne_none.1 hm)

/-- What stands before the end of OFFLINE: the channel is OFFLINE with its contents and its queue, and of an unmirrored
one the requests with bursts left are gone. -/
theorem Dev.leaving_spec (n : Nat) :
    let b := if (d.mirrorOf n).isSome then d.leaving n else (d.leaving n).dramTurnAway n
    b.dramState n = drOffline ∧ (b.dram n).mem = (d.dram n).mem ∧ (b.dram n).queue = (d.dram n).queue ∧
      (b.dram n).offPending = true ∧ (d.mirrorOf n = none → ∀ r ∈ (b.dram n).reqs, r.next = r.count) := by
  have hstate : (d.leaving n).dramState n = drOffline := Dev.dramState_setDramState _ n (by decide)
  obtain ⟨hregs, x, hx⟩ := (d.leaving n).dramTurnAway_spec n
  rw [d.dram_leaving n] at hx
  intro b
  by_cases hm : (d.mirrorOf n).isSome = true
  · have hb : b = d.leaving n := if_pos hm
    rw [hb, d.dram_leaving n]
    exact ⟨hstate, rfl, rfl, rfl, fun h => absurd h (Option.isSome_iff_ne_none.1 hm)⟩
  · have hb : b = (d.leaving n).dramTurnAway n := if_neg hm
    rw [hb, hx]
    refine ⟨?_, rfl, rfl, rfl, fun _ r hr => by simpa using (List.mem_filter.1 hr).2⟩
    rw [← hstate, Dev.dramState, Dev.dramState, Dev.gf, Dev.gf, Dev.reg, Dev.reg, hregs]

end

theorem dramOffline_yields {n : Fin 4} {s : State} (h : s.dev.dramState n = drOnline)
    (hp : s.dev.mirrorOf n ≠ none → s.dev.dramState (partner n) = drOnline) :
    Yields (.dramOffline n) s (fun t => t.dev.dramState n = drOffline ∧ (t.dev.dram n).mem = (s.dev.dram n).mem ∧
      (s.dev.mirrorOf n = none → ∀ r ∈ (t.dev.dram n).reqs, r.next = r.count) ∧
      if (s.dev.dram n).queue = [] then t.dev.gf F.DRC_STAT_DONE n = 1 ∧ t.dev.gf F.DRC_STAT_RESULT n = 0
      else (t.dev.dram n).offPending = true) := by
  obtain ⟨hstate, hmem, hqueue, hpending, hreqs⟩ := s.dev.leaving_spec n
  have hgone := s.dev.dramOffline_of_online h hp
  generalize (if (s.dev.mirrorOf n).isSome then s.dev.leaving n else (s.dev.leaving n).dramTurnAway n) = b at *
  obtain ⟨x, hx⟩ := b.dram_offlineDone n
  have hend := b.offlineDone_spec hpending
  rw [hqueue] at hend
  refine ⟨s.onDev fun _ => b.offlineDone n, congrArg (fun d => Host.Outcome.next (s.onDev fun _ => d)) hgone, ?_⟩
  refine ⟨(b.dramState_offlineDone n).trans hstate, ?_, fun hm => ?_, hend⟩
  · rw [State.dev_onDev, hx]
    exact hmem
  · rw [State.dev_onDev, hx]
    exact hreqs hm

theorem does_dramOffline_refused {n : Fin 4} {s : State} (h : s.dev.dramState n ≠ drOnline ∨
    (s.dev.mirrorOf n ≠ none ∧ s.dev.dramState (partner n) ≠ drOnline)) :
    Does (.dramOffline n) s (s.dev.dramResult n 1) := by
  refine does_onDev rfl (if_pos ?_)
  rcases h with h | ⟨hm, h⟩
  · simp [h]
  · simp [Option.isSome_iff_ne_none.2 hm, h]

/-! ### ONLINE -/

section
variable {n : Fin 4} {s : State}

/-- A channel that comes back from OFFLINE has no OFFLINE pending. -/
def Dev.returning (d : Dev) (n : Nat) : Dev := d.onDram n (fun x => { x with offPending := false })

theorem exec_dramOnline (h : s.dev.dramState n = drOffline) (ht : (s.dev.dram n).needTrain = false) :
    exec (.dramOnline n) s = .next (s.onDev fun _ => (s.dev.returning n).dramReturn n) := by
  have hback : s.dev.dramOnline n = (s.dev.returning n).dramReturn n := if_neg (by simp [h, ht])
  exact congrArg (fun d => Host.Outcome.next (s.onDev fun _ => d)) hback

theorem does_dramOnline_refused (h : s.dev.dramState n ≠ drOffline ∨ (s.dev.dram n).needTrain = true) :
    Does (.dramOnline n) s (s.dev.dramResult n 1) :=
  does_onDev rfl (if_pos (by rcases h with h | h <;> simp [h]))

end

/-! ### RESYNC -/

theorem popCount_zero {w : Nat} : popCount (0 : BitVec w) = 0 := by simp [popCount]

/-- A burst whose cells stand as they were written is good. -/
theorem Burst.check_of_good {x : Burst} (h : x.flips = 0) : x.check = (.good, x.data) := by
  simp only [Burst.check, h, popCount_zero, if_true]

theorem Dev.dram_setBurst_ne (d : Dev) {n m : Nat} (h : n ≠ m) (b : Nat) (v : Burst) :
    (d.setBurst n b v).dram m = d.dram m := d.dram_onDram_ne _ h

section
variable {d : Dev} {m n : Nat}

/-- A good burst of a partner without queued writes is copied as it is. -/
theorem Dev.copyBurst_of_good {b : Nat} (hq : (d.dram m).queue = []) (hb : (d.burst m b).flips = 0) :
    d.copyBurst m n b = d.setBurst n b (d.burst m b) := by
  have hview : d.burstView m b = (d.burst m b, false) := by simp [Dev.burstView, hq]
  have hcopy : d.copyBurst m n b = d.setBurst n b { data := (d.burst m b).data, flips := 0 } := by
    simp [Dev.copyBurst, hview, Burst.check_of_good hb]
  rw [hcopy, ← hb]

/-- Channel `n` reads as channel `m`, whose state is `x`. -/
structure Dev.copies (d : Dev) (m n : Nat) (x : Dram) : Prop where
  source : d.dram m = x
  reads : ∀ b, d.burst n b = d.burst m b

/-- A copy of a partner's good contents stays one, whatever bursts are copied. -/
theorem Dev.copies.each {x : Dram} (h : d.copies m n x) (hne : n ≠ m) (hq : x.queue = [])
    (hgood : ∀ b, (d.burst m b).flips = 0) (l : List Nat) : (d.each l fun d b => d.copyBurst m n b).copies m n x := by
  refine List.foldlRecOn l _ (motive := fun e : Dev => e.copies m n x) h fun e he b _ => ?_
  have hsource (y : Nat) : e.burst m y = d.burst m y := Dev.burst_congr (he.source.trans h.source.symm) y
  rw [Dev.copyBurst_of_good (by rw [he.source, hq]) (by rw [hsource, hgood])]
  have hm := e.dram_setBurst_ne hne b (e.burst m b)
  refine ⟨hm.trans he.source, fun y => ?_⟩
  rw [Dev.burst_congr hm]
  by_cases hy : b = y
  · subst hy
    exact e.burst_setBurst n b _
  · rw [e.burst_setBurst_ne n _ hy, he.reads]

/-- The copy engine's start: channel `n` takes the partner's listed bursts, and what lies under them. -/
def Dev.copyStart (d : Dev) (m n : Nat) : Dev :=
  d.onDram n (fun x => { x with
    mem := (d.dram m).mem, epoch := (d.dram m).epoch, zeroed := (d.dram m).zeroed
    copyOf := some ((d.dram m).copyOf.getD m) })

theorem Dev.copyStart_copies (d : Dev) (hne : n ≠ m) : (d.copyStart m n).copies m n (d.dram m) := by
  have hm : (d.copyStart m n).dram m = d.dram m := d.dram_onDram_ne _ hne
  refine ⟨hm, fun b => ?_⟩
  rw [Dev.burst_congr hm, Dev.burst, Dev.copyStart, Dev.dram_onDram]
  rfl

/-- The copying is over: the channel is ONLINE, its contents as the copy engine leaves them. -/
theorem Dev.dramResyncDone_spec (h : d.dramState n = drResync) (hn : n < 4) : ∃ l,
    (d.dramResyncDone n).dramState n = drOnline ∧ (d.dramResyncDone n).gf F.DRC_STAT_RESULT n = 0 ∧
      (d.dramResyncDone n).dram n =
        ((d.copyStart (partner n) n).each l (fun d b => d.copyBurst (partner n) n b)).dram n := by
  have hdone : d.dramResyncDone n = _ := if_neg (by simp [h])
  refine ⟨(d.copyStart (partner n) n).copyBursts (partner n), ?_⟩
  rw [hdone]
  obtain ⟨hs, -, hr⟩ := Dev.dramResult_spec ((((d.copyStart (partner n) n).each
    ((d.copyStart (partner n) n).copyBursts (partner n)) (fun d b => d.copyBurst (partner n) n b)).setDramState n
      drOnline).sf F.DRC_RESYNC_PROGRESS n 0 0) n (r := 0) (by decide)
  refine ⟨?_, ?_, Dev.dram_noticeFree _ _ _⟩
  · refine (Dev.gf_noticeFree _ _ rfl (by omega) (by decide)).trans (hs.trans ?_)
    exact (Dev.gf_sf_reg _ _ (by decide) (by omega) (by decide) (by omega) (by decide)).trans
      (Dev.dramState_setDramState _ n (by decide))
  · exact (Dev.gf_noticeFree _ _ rfl (by omega) (by decide)).trans hr

end

theorem dramResyncDone_yields {n : Fin 4} {s : State} (h : s.dev.dramState n = drResync)
    (hq : (s.dev.dram (partner n)).queue = []) (hgood : ∀ b, (s.dev.burst (partner n) b).flips = 0) :
    Yields (.dramResyncDone n) s (fun t => t.dev.dramState n = drOnline ∧ t.dev.gf F.DRC_STAT_RESULT n = 0 ∧
      ∀ b, t.dev.burst n b = s.dev.burst (partner n) b) := by
  obtain ⟨l, hs, hr, hdram⟩ := Dev.dramResyncDone_spec h n.isLt
  refine ⟨_, rfl, hs, hr, fun b => (Dev.burst_congr hdram b).trans ?_⟩
  have hstart := s.dev.copyStart_copies (partner_ne n.val)
  have hsource (y : Nat) := Dev.burst_congr hstart.source y
  have hcopy := hstart.each (partner_ne n.val) hq (fun y => by rw [hsource, hgood]) l
  rw [hcopy.reads, Dev.burst_congr hcopy.source]

/-! ### The obligation -/

/-- Settles O34. -/
theorem dramOfflineOnline : Obligations.DramOfflineOnline := by
  unfold Obligations.DramOfflineOnline
  refine ⟨fun n s h hp => dramOffline_yields h hp, fun n s h => does_dramOffline_refused h,
    fun n s h ht => ⟨fun hp => ?_, fun hp => ?_⟩, fun n s h => does_dramOnline_refused h,
    fun n s h _ hq hgood => dramResyncDone_yields h hq hgood, fun n s h => does_onDev rfl (if_pos (by simp [h]))⟩
  · exact does_onDev (exec_dramOnline h ht) ((s.dev.returning n).dramReturn_alone hp)
  · exact ⟨_, exec_dramOnline h ht, (s.dev.returning n).dramReturn_resync n.isLt hp⟩

end Sys2Proof.Machine
end

section
/-! PROOFS. `Obligations.DramBursts`, refuted: the register table keeps the waits of a requester under its ID (R187, log
entry 1), and an ID that no requester has can stand for another register. A state that lists such an ID at a channel's
arbiter counts its waits in DRC_n_STAT. -/

namespace Sys2Proof.Machine

/-- An ID that no requester has: at arbiter 9 its waits are counted where DRC_1_STAT stands. -/
def strayId : Nat := RK.DRC_STAT.key 1 0 - RK.ARB_REQ_WAIT.key 9 0

theorem key_strayId : RK.ARB_REQ_WAIT.key 9 strayId = RK.DRC_STAT.key 1 0 := by decide

/-- The Hatch holds the grant of arbiter 9 while the requests of `l` wait there; channel 1 is `x`, with `w` in
DRC_1_STAT. -/
def State.besides (l : List ArbReq) (x : Dram) (w : Word) : State :=
  State.reset.onDev fun d => ({ d with
    arbs := [(9, { owner := some hatchId, burst := 3, reqs := l })]
    drams := [(1, x)] } : Dev).setReg .DRC_STAT 1 0 w

/-! ### A burst that enters the queue -/

/-- The Hatch's read of burst 0. -/
def hatchBurst : DramReq := { req := hatchId, tag := 0, write := false, first := 0, count := 1, left := 1 }

/-- Channel 1 ONLINE with that read, and the stray ID at its arbiter. -/
def State.strayWaits : State := State.besides [{ id := strayId }] { reqs := [hatchBurst] } 0x6000FFFF

/-- There the Hatch's turn has come, and the read's channel is 1. -/
theorem State.turn_strayWaits : State.strayWaits.dev.holdsTurn 9 hatchId 1 ∧
    State.strayWaits.dev.pairServes 1 = true ∧ State.strayWaits.dev.readChan 1 = some 1 := by
  decide +kernel

/-- The stray ID's wait is counted on top of the one burst queued. -/
theorem State.queue_strayWaits :
    (State.strayWaits.dev.dramEnqueue 1 hatchId).gf F.DRC_STAT_QUEUE 1 = 2 := by decide +kernel

theorem dev_of_dramBurstEnqueue {n : Fin 4} {req : Fin 83} {s t : State}
    (hx : exec (.dramBurstEnqueue n req) s = .next t) : t.dev = s.dev.dramEnqueue n req := by
  cases hx
  rfl

/-- Refutes O31: in `State.strayWaits` the first burst enters an empty queue, and QUEUE reads 2: the clause does not ask
that the IDs at the arbiter are those of requesters. -/
theorem not_dramBursts : ¬ Obligations.DramBursts := by
  unfold Obligations.DramBursts
  rintro ⟨henqueue, -⟩
  obtain ⟨hturn, hserves, hread⟩ := State.turn_strayWaits
  have hchans : (State.strayWaits.dev.readChan 1).toList = [1] := by rw [hread]; rfl
  obtain ⟨hroom, -⟩ := henqueue 1 64 hatchBurst State.strayWaits rfl hserves hturn (fun h => absurd h (by decide))
    (by exact hchans ▸ List.cons_ne_nil _ _)
  obtain ⟨hyields, -⟩ := hroom (fun m hm => by
    obtain rfl : m = 1 := List.mem_singleton.1 (hchans ▸ hm)
    decide)
  obtain ⟨t, hx, hall⟩ := hyields rfl
  obtain ⟨-, hqueue, -⟩ := hall 1 (by exact hchans ▸ List.mem_singleton_self 1)
  rw [dev_of_dramBurstEnqueue hx] at hqueue
  exact absurd (State.queue_strayWaits.symm.trans hqueue) (by decide)

end Sys2Proof.Machine
end

section
/-! PROOFS. `Obligations.HatchWindows`, refuted: between the read and the write-back of a half written through a DRAM
window (R193) the arbiter counts the waits of the listed IDs. Those of the ID that stands for DRC_1_STAT, listed often
enough, take the channel out of ONLINE, and nothing is queued. -/

namespace Sys2Proof.Machine

/-! ### One register word under two names -/

/-- An entry that stands in the map does not depend on the default it is read with. -/
theorem Map.get_of_ne_dflt {α : Type} {dflt : Nat → α} (dflt' : Nat → α) {m : Map α} {k : Nat}
    (h : Map.get dflt m k ≠ dflt k) : Map.get dflt' m k = Map.get dflt m k := by
  induction m with
  | nil => exact absurd rfl h
  | cons e m ih =>
    obtain ⟨k', v⟩ := e
    by_cases hk : k' = k
    · simp only [Map.get, hk, if_true]
    · simp only [Map.get, hk, if_false] at h ⊢
      exact ih h

theorem Dev.reg_of_key_eq (d : Dev) {k k' : RK} {i j i' j' : Nat} (hk : k.key i j = k'.key i' j')
    (h : d.reg k i j ≠ k.rst i j) : d.reg k' i' j' = d.reg k i j := by
  unfold Dev.reg at h ⊢
  rw [← hk]
  exact Map.get_of_ne_dflt _ h

/-- A field that is the whole word. -/
theorem Dev.toNat_reg (d : Dev) (k : RK) (i j : Nat) : (d.reg k i j).toNat = d.gf ⟨k, 0, 32⟩ i j :=
  (Nat.mod_eq_of_lt (d.reg k i j).isLt).symm

theorem Dev.gf_of_regs {a b : Dev} (h : b.regs = a.regs) (f : Fld) (i j : Nat) : b.gf f i j = a.gf f i j := by
  rw [Dev.gf, Dev.gf, Dev.reg, Dev.reg, h]

/-- The waits of an ID listed `k` times (R187). -/
theorem Dev.gf_each_wait (d : Dev) (n k : Nat) (r : ArbReq) :
    (d.each (List.replicate k r) fun d r => d.cnt F.ARB_REQ_WAIT_COUNT n r.id).gf F.ARB_REQ_WAIT_COUNT n r.id =
      min (d.gf F.ARB_REQ_WAIT_COUNT n r.id + k) (2 ^ 32 - 1) := by
  induction k generalizing d with
  | zero =>
    have := (d.reg .ARB_REQ_WAIT n r.id).isLt
    rw [Dev.toNat_reg] at this
    exact (Nat.min_eq_left (Nat.le_sub_one_of_lt this)).symm
  | succ k ih =>
    rw [List.replicate_succ, Dev.each, List.foldl_cons]
    refine (ih _).trans ?_
    rw [Dev.gf_cnt _ _ _ _ _ (by decide), show F.ARB_REQ_WAIT_COUNT.width = 32 from rfl]
    omega

/-- How often the ID must be listed to carry through QUEUE, which reads 0, into STATE. -/
def carryWaits : Nat := 2 ^ 16 * 63 + 1

theorem Dev.dramState_of_reg {d : Dev} {v : Word} (h : d.reg .DRC_STAT 1 = v) (hv : bits v 29 3 = 4) :
    d.dramState 1 = 4 := by
  rw [Dev.dramState, Dev.gf, h]
  exact hv

/-- A cycle's wait of the ID that stands for DRC_1_STAT takes channel 1 from ONLINE to TRAINING. -/
theorem Dev.dramState_arbWait_stray (d : Dev) {k : Nat} (hk : k = carryWaits)
    (hl : (d.arb 9).reqs = List.replicate k { id := strayId })
    (hw : d.reg .DRC_STAT 1 = 0x7FC0FFFF) : (d.arbWait 9).dramState 1 = 4 := by
  let e := d.each (d.arb 9).reqs fun d r => d.cnt F.ARB_REQ_WAIT_COUNT 9 r.id
  have hstart : d.reg .ARB_REQ_WAIT 9 strayId = 0x7FC0FFFF :=
    (d.reg_of_key_eq key_strayId.symm (by rw [hw]; decide)).trans hw
  have hend : e.reg .ARB_REQ_WAIT 9 strayId = 0x80000000 := by
    apply BitVec.eq_of_toNat_eq
    have hcount := d.gf_each_wait 9 k { id := strayId }
    rw [← hl, ← Dev.toNat_reg, ← Dev.toNat_reg, hstart, hk] at hcount
    exact hcount.trans (by decide)
  have hreg : e.reg .DRC_STAT 1 = 0x80000000 :=
    (e.reg_of_key_eq key_strayId (by rw [hend]; decide)).trans hend
  have hages : (d.arbWait 9).dramState 1 = e.dramState 1 := by
    unfold Dev.arbWait Dev.arbNoteAges
    exact foldl_keeps (fun d : Dev => d.dramState 1) _ _
      (fun d _ _ => d.gf_noticeFree _ (by rfl) (by decide) (by decide)) _
  rw [hages]
  exact Dev.dramState_of_reg hreg (by decide)

/-! ### A burst read through an empty queue (R195) -/

section
variable (d : Dev) {n : Nat}

theorem Dev.issues_of_online (h : d.dramState n = drOnline) : d.issues n = true := by simp [Dev.issues, h]

/-- A read enters an empty queue. -/
theorem Dev.enqueueBurst_read {c : DramCmd} (hw : c.write = false) (hq : (d.dram n).queue = []) :
    (d.enqueueBurst n c).regs = (d.sf F.DRC_STAT_QUEUE n 0 1).regs ∧ (d.enqueueBurst n c).arbs = d.arbs ∧
      (d.enqueueBurst n c).dram n = { d.dram n with
        nextId := (d.dram n).nextId + 1, queue := [{ c with id := (d.dram n).nextId }] } := by
  simp [Dev.enqueueBurst, Dev.setQueueLen, matching, hw, hq]
  rfl

/-- The one burst queued, a read, issues. -/
theorem Dev.dramIssue_read {c : DramCmd} (hs : d.dramState n = drOnline) (hw : c.write = false)
    (hq : (d.dram n).queue = [c]) (ho : (d.dram n).inOrderFor = none) (hp : (d.dram n).offPending = false) :
    (d.dramIssue n 0).regs = (d.sf F.DRC_STAT_QUEUE n 0 0).regs ∧ (d.dramIssue n 0).arbs = d.arbs ∧
      (d.dramIssue n 0).dram n = { d.dram n with
        queue := [], reading := (d.dram n).reading ++ [{ c with cells := d.burst n c.burst }] } := by
  have hissue : d.dramIssue n 0 = d.issueBurst n 0 c := by
    simp [Dev.dramIssue, hq, d.issues_of_online hs, mayIssueBurst, ho, hw]
  rw [hissue]
  simp [Dev.issueBurst, Dev.setQueueLen, Dev.offlineDone, hq, ho, hp, hw]
  rfl

/-- The data of a good read are taken. -/
theorem Dev.dramTake_good {c : DramCmd} (h : c.cells.flips = 0) : d.dramTake n c 0 =
    (d.onDram n (fun x => { x with reading := x.reading.drop 1 }), .good, c.cells.data) := by
  have hcheck : ({ c.cells with flips := c.cells.flips ^^^ 0 } : Burst).check = (.good, c.cells.data) :=
    Burst.check_of_good (by simp [h])
  simp only [Dev.dramTake, Dev.dramChecked, hcheck, bne_self_eq_false, Bool.and_false, Bool.false_eq_true, if_false,
    reduceCtorEq]

/-- The oldest burst that the channel reads comes back. -/
theorem Dev.dramFetch_of_reading {e m b req : Nat} {u : BitVec 144} {c : DramCmd} {l : List DramCmd} {f : Dev}
    (hread : d.readChan e = some m)
    (hf : (((d.dramMakeRoom m).onDram e (fun x => { x with nextTag := x.nextTag + 1 })).enqueueBurst m
      { id := 0, write := false, burst := b, tag := (d.dram e).nextTag, req := req }).dramDrain m = f)
    (hc : (f.dram m).reading = c :: l) : d.dramFetch e b req u = f.dramTake m c u := by
  simp only [Dev.dramFetch, hread, hf, hc]

theorem Dev.regs_sf_of_regs {a b : Dev} (h : b.regs = a.regs) (f : Fld) (i j v : Nat) :
    (b.sf f i j v).regs = (a.sf f i j v).regs := by
  simp only [Dev.sf, Dev.setReg, Dev.reg, h]

/-- Draining a queue of one read is to issue it. -/
theorem Dev.dramDrain_read {c : DramCmd} (hs : d.dramState n = drOnline) (hw : c.write = false)
    (hq : (d.dram n).queue = [c]) (ho : (d.dram n).inOrderFor = none) (hp : (d.dram n).offPending = false)
    (hr : (d.dram n).reading = []) : d.dramDrain n = d.dramIssue n 0 := by
  obtain ⟨-, -, hissue⟩ := d.dramIssue_read hs hw hq ho hp
  simp only [Dev.dramDrain, hq, Dev.each, List.foldl_cons, List.foldl_nil, hissue, hr, List.nil_append, List.drop_one,
    List.tail_cons]

/-- A good burst read at a channel with nothing under way: what stands in the registers is that the queue was used. -/
theorem Dev.dramFetch_alone {b : Nat} (req : Nat) (hs : d.dramState n = drOnline) (hread : d.readChan n = some n)
    (hx : d.dram n = { zeroed := true }) : ∃ e, d.dramFetch n b req 0 = (e, .good, 0) ∧ e.arbs = d.arbs ∧
      (e.dram n).queue = [] ∧ e.regs = ((d.sf F.DRC_STAT_QUEUE n 0 1).sf F.DRC_STAT_QUEUE n 0 0).regs := by
  let cmd : DramCmd := { id := 0, write := false, burst := b, tag := 0, req := req }
  have htagged : (d.onDram n (fun x => { x with nextTag := x.nextTag + 1 })).dram n =
      { zeroed := true, nextTag := 1 } := (d.dram_onDram n _).trans (by rw [hx])
  have hroom : d.dramMakeRoom n = d := if_pos (by simp [Dev.queueRoom, hx])
  have hfetch {f : Dev} := d.dramFetch_of_reading (b := b) (req := req) (u := 0) (c := { cmd with id := 1 }) (l := [])
    (f := f) hread
  rw [hroom, hx] at hfetch
  obtain ⟨hregs, harbs, hdram⟩ := Dev.enqueueBurst_read _ (c := cmd) rfl (by rw [htagged])
  have hstate := (Dev.gf_of_regs hregs F.DRC_STAT_STATE n 0).trans ((Dev.gf_sf_bits _ _ (by rfl) (by decide)).trans hs)
  generalize Dev.enqueueBurst _ n cmd = queued at hfetch hregs harbs hdram hstate
  rw [htagged] at hdram
  have hzero : queued.burst n b = {} := by rw [Dev.burst, hdram]; rfl
  obtain ⟨hregs', harbs', hdram'⟩ := queued.dramIssue_read hstate rfl
    (by rw [hdram]) (by rw [hdram]) (by rw [hdram])
  have hdrain := queued.dramDrain_read hstate rfl (by rw [hdram]) (by rw [hdram]) (by rw [hdram]) (by rw [hdram])
  rw [hdram, hzero] at hdram'
  rw [hfetch hdrain (by rw [hdram']; rfl), Dev.dramTake_good _ rfl]
  refine ⟨_, rfl, harbs'.trans harbs, ?_, hregs'.trans (Dev.regs_sf_of_regs hregs _ _ _ _)⟩
  rw [Dev.dram_onDram, hdram']

end

/-! ### A cycle of an arbiter leaves the channels alone -/

section
variable (d : Dev) (n : Nat)

theorem Dev.drams_ite (p : Prop) [Decidable p] (a b : Dev) :
    (if p then a else b).drams = if p then a.drams else b.drams :=
  apply_ite Dev.drams p a b

theorem Dev.drams_testOp : d.testOp.drams = d.drams := by
  unfold Dev.testOp
  dsimp only
  split_ifs <;> rfl

theorem Dev.drams_arbOwner {c : ArbCycle} (hc : c.beat = true) : (d.arbOwner n c).1.drams = d.drams := by
  unfold Dev.arbOwner
  dsimp only
  split
  · rfl
  · simp only [hc, Bool.not_true, Bool.false_and, Bool.and_false, Bool.false_eq_true, if_false, apply_ite Prod.fst,
      Dev.drams_ite, Dev.drams_onArb, Dev.drams_testOp, ite_self]

theorem Dev.drams_arbBegin (low : List Nat) : (d.arbBegin n low).drams = d.drams := by
  unfold Dev.arbBegin
  dsimp only
  split
  · rfl
  · split <;> simp only [Dev.drams_ite, Dev.drams_cnt, Dev.drams_sf, Dev.drams_onArb, ite_self]

theorem Dev.drams_arbDecide (frozen : Bool) : (d.arbDecide n frozen).drams = d.drams := by
  unfold Dev.arbDecide
  dsimp only
  split_ifs
  · rfl
  · split <;> rfl

theorem Dev.drams_arbWait : (d.arbWait n).drams = d.drams :=
  (foldl_keeps Dev.drams _ _ (fun e _ _ => e.drams_noticeFree _) _).trans
    (foldl_keeps Dev.drams _ _ (fun e _ _ => e.drams_cnt _ _ _ _) d)

theorem Dev.drams_arbCycle {c : ArbCycle} (hc : c.beat = true) (busy : Option Nat) :
    (d.arbCycle n c busy).drams = d.drams := by
  unfold Dev.arbCycle
  dsimp only
  split_ifs
  · rfl
  · rw [Dev.drams_onArb]
    split <;> simp only [Dev.drams_onArb, Dev.drams_arbWait, Dev.drams_arbDecide, Dev.drams_arbOwner _ _ hc,
      Dev.drams_arbBegin]

theorem Dev.dram_arbCycle {c : ArbCycle} (hc : c.beat = true) (busy : Option Nat) (m : Nat) :
    (d.arbCycle n c busy).dram m = d.dram m :=
  congrArg (Map.get _ · m) (d.drams_arbCycle n hc busy)

end

/-! ### A half written while the stray ID waits -/

section
variable {d : Dev} {k : Nat}

theorem Dev.turn_of_mayMove {n i : Nat} (h : d.mayMove n i = true) : d.turn n i = d := if_pos h

theorem Dev.mayMove_of_owner {n i : Nat} (h : (d.arb n).owner = some i) : d.mayMove n i = true := by
  simp [Dev.mayMove, h]

/-- The Hatch has the grant of arbiter 9 for a beat that is not its last, while the stray ID waits `k` times. -/
structure Dev.strayTurn (d : Dev) (k : Nat) : Prop where
  up : d.arbUp 9 = true
  owner : (d.arb 9).owner = some hatchId
  chosen : (d.arb 9).chosen = none
  beats : (d.arb 9).beats + 1 < (d.arb 9).burst
  reqs : (d.arb 9).reqs = List.replicate k { id := strayId }

theorem Dev.strayTurn.reqs_arbLower (h : d.strayTurn k) :
    ((d.arbLower 9).arb 9).reqs = List.replicate k { id := strayId } := by
  rw [d.arb_arbLower, Arbiter.lower, h.reqs, List.filter_eq_self]
  intro r hr
  obtain rfl := List.eq_of_mem_replicate hr
  have hline : d.lineWork 9 strayId = true := rfl
  simp [hline]

/-- The beat of such a turn takes an ONLINE channel out of that state. -/
theorem Dev.strayTurn.dramState_beat (h : d.strayTurn k) (hk : k = carryWaits) (hw : d.reg .DRC_STAT 1 = 0x7FC0FFFF) :
    (d.arbCycle 9 { beat := true, last := false }).dramState 1 = 4 := by
  have ho : ((d.arbLower 9).arb 9).owner = some hatchId := by rw [d.arb_arbLower]; exact h.owner
  have hb : ((d.arbLower 9).arb 9).beats + 1 < ((d.arbLower 9).arb 9).burst := by rw [d.arb_arbLower]; exact h.beats
  have hreqs := h.reqs_arbLower
  have hline : (d.arbLower 9).lineWork 9 hatchId = true := rfl
  rw [d.arbCycle_eq none h.up h.chosen rfl, Dev.arbOwner_goesOn _ rfl ho (by decide) hline hb, Dev.arbRest,
    Dev.arbDecide_of_owner _ (by rw [Dev.arb_onArb]; exact ho ▸ rfl), Dev.dramState, Dev.gf_onArb, Dev.arbAgain]
  exact Dev.dramState_arbWait_stray _ hk (by rw [Dev.arb_onArb]; exact hreqs) hw

/-- And the Hatch keeps its turn. -/
theorem Dev.strayTurn.turn_beat (h : d.strayTurn k) : (d.arbCycle 9 { beat := true, last := false }).turn 9 hatchId =
    d.arbCycle 9 { beat := true, last := false } := by
  obtain ⟨l, hl⟩ := Dev.arb_beat none h.up h.chosen h.owner (by decide) (by rfl) h.beats
  refine Dev.turn_of_mayMove (Dev.mayMove_of_owner ?_)
  rw [hl, d.arb_arbLower]
  exact h.owner

end

/-- Channel 1 under training takes no write. -/
theorem Dev.writeChans_training {d : Dev} (h : d.dramState 1 = 4) : d.writeChans 1 = [] := by
  simp [Dev.writeChans, Dev.dramGroup, h]

theorem Dev.dram_hatDone (d : Dev) (st : Nat) (w : Word) (n : Nat) : (d.hatDone st w).dram n = d.dram n := by
  unfold Dev.hatDone Dev.when
  dsimp only
  split_ifs <;> rfl

/-- A half written through a DRAM window of channel 1, where a burst reads good and the beat takes the channel out of
ONLINE: nothing is queued. -/
theorem Dev.dramHatchWriteOp_lost {d e : Dev} {a : Nat} {v : Word} {y : BitVec 128} (ha : dramWindow a = some 1)
    (hlead : d.dramLead 1 = 1) (hoff : d.dramHatchOff a 1 = none) (hturn : d.turn 9 hatchId = d)
    (hawake : d.dramAwake 1 = d) (hfetch : d.dramFetch 1 (dramWord a / 2) hatchId 0 = (e, .good, y))
    (hbeat : (e.arbCycle 9 { beat := true, last := false }).turn 9 hatchId =
      e.arbCycle 9 { beat := true, last := false })
    (hstate : (e.arbCycle 9 { beat := true, last := false }).dramState 1 = 4) :
    ((d.dramHatchWriteOp a v 0).1.dram 1).queue = (e.dram 1).queue := by
  have hchans : ((e.arbCycle 9 { beat := true, last := false }).onDram 1
      (fun x => { x with nextTag := x.nextTag + 1 })).writeChans 1 = [] :=
    Dev.writeChans_training (by rw [Dev.dramState, Dev.gf_onDram]; exact hstate)
  have hgood : (Ecc.good == Ecc.double) = false := rfl
  simp only [Dev.dramHatchWriteOp, ha, Option.getD_some, hlead, hoff, hturn, hawake, hfetch, hgood, hbeat, hchans,
    Bool.false_eq_true, if_false, Nat.reduceAdd]
  rw [Dev.dram_arbCycle _ _ rfl, Dev.each, List.foldl_nil, Dev.dram_onDram, Dev.dram_arbCycle _ _ rfl]

/-- The stray ID waits `k` times at the arbiter of channel 1, whose DRC_1_STAT reads ONLINE with all the bits below STATE
set but those of QUEUE. -/
def State.strayCarry (k : Nat) : State :=
  State.besides (List.replicate k { id := strayId }) { zeroed := true } 0x7FC0FFFF

/-- There the Hatch holds the turn, and channel 1 serves alone. -/
theorem State.turn_strayCarry (k : Nat) : (State.strayCarry k).dev.holdsTurn 9 hatchId 1 ∧
    (State.strayCarry k).dev.mirrorOf 1 = none ∧ (State.strayCarry k).dev.dramState 1 = drOnline ∧
    (State.strayCarry k).dev.pairServes 1 = true ∧ (State.strayCarry k).dev.readChan 1 = some 1 := by
  have hfenced : (State.strayCarry k).dev.fenced 9 hatchId = false :=
    (show (State.strayCarry 0).dev.fenced 9 hatchId = false by decide +kernel)
  have hmirror : (State.strayCarry k).dev.mirrorOf 1 = none :=
    (show (State.strayCarry 0).dev.mirrorOf 1 = none by decide +kernel)
  have hstate : (State.strayCarry k).dev.dramState 1 = drOnline :=
    (show (State.strayCarry 0).dev.dramState 1 = drOnline by decide +kernel)
  refine ⟨⟨rfl, rfl, fun _ h => absurd h List.not_mem_nil, rfl, by decide, hfenced,
    .inl ⟨rfl, show 0 + 1 ≤ 3 by decide⟩⟩, hmirror, hstate, ?_, ?_⟩
  · simp [Dev.pairServes, hmirror, Dev.serves, hstate]
  · simp [Dev.readChan, Dev.dramGroup, hstate]

/-- The registers of that state once a burst has been read. -/
def regsRead : Map Word := (((State.strayCarry 0).dev.sf F.DRC_STAT_QUEUE 1 0 1).sf F.DRC_STAT_QUEUE 1 0 0).regs

theorem Dev.pairServes_of_regs {a b : Dev} (h : b.regs = a.regs) (n : Nat) : b.pairServes n = a.pairServes n := by
  unfold Dev.pairServes Dev.mirrorOf Dev.serves Dev.dramState Dev.gb Dev.gf Dev.reg
  rw [h]

/-- The turn goes on in a device with the arbiters of that state and those registers. -/
theorem strayTurn_of_read {k : Nat} {e : Dev} (harbs : e.arbs = (State.strayCarry k).dev.arbs)
    (hregs : e.regs = regsRead) : e.strayTurn k := by
  have harb : e.arb 9 = { owner := some hatchId, burst := 3, reqs := List.replicate k { id := strayId } } :=
    congrArg (Map.get _ · 9) harbs
  have hup : e.arbUp 9 = e.pairServes 1 := rfl
  exact {
    up := hup.trans ((Dev.pairServes_of_regs
      (a := ((State.strayCarry 0).dev.sf F.DRC_STAT_QUEUE 1 0 1).sf F.DRC_STAT_QUEUE 1 0 0) hregs 1).trans
      (by decide +kernel))
    owner := by rw [harb]
    chosen := by rw [harb]
    beats := by rw [harb]; exact (by decide : 0 + 1 < 3)
    reqs := by rw [harb] }

theorem reg_of_read {e : Dev} (hregs : e.regs = regsRead) : e.reg .DRC_STAT 1 = 0x7FC0FFFF := by
  rw [Dev.reg, hregs]
  decide +kernel

theorem dev_of_dramHatchWrite {a v : Word} {u : BitVec 144} {s t : State}
    (hx : exec (.dramHatchWrite a v u) s = .next t) : t.dev = s.dev.dramHatchWrite a.toNat v u := by
  cases hx
  rfl

/-- A half written there through the window of channel 1 is lost. -/
theorem queue_strayCarry {k : Nat} (hk : k = carryWaits) :
    (((State.strayCarry k).dev.dramHatchWrite 0x58000000 0 0).dram 1).queue = [] := by
  obtain ⟨hturn, hmirror, hstate, hserves, hread⟩ := State.turn_strayCarry k
  obtain ⟨-, -, -, -, -, hfenced, -⟩ := hturn
  have hlead : (State.strayCarry k).dev.dramLead 1 = 1 := by rw [Dev.dramLead, hmirror]; rfl
  have hmay : (State.strayCarry k).dev.mayMove 9 hatchId = true := Dev.mayMove_of_owner rfl
  have hstays := Dev.turn_of_mayMove hmay
  have hoff : (State.strayCarry k).dev.dramHatchOff 0x58000000 1 = none := by
    simp [Dev.dramHatchOff, hlead, hserves, hfenced, hstays, hmay]
  have hawake : (State.strayCarry k).dev.dramAwake 1 = (State.strayCarry k).dev := by
    simp [Dev.dramAwake, Dev.dramGroup, Dev.each, hstate]
  obtain ⟨e, hfetch, harbs, hqueue, hregs⟩ := (State.strayCarry k).dev.dramFetch_alone
    (b := dramWord 0x58000000 / 2) hatchId hstate hread rfl
  have hgoes := strayTurn_of_read harbs hregs
  have hlost := Dev.dramHatchWriteOp_lost (a := 0x58000000) (v := 0) (by decide) hlead hoff hstays hawake hfetch
    hgoes.turn_beat (hgoes.dramState_beat hk (reg_of_read hregs))
  have hin : (0x58000000 % 4 = 0 && (dramWindow 0x58000000).isSome) = true := by decide
  rw [Dev.dramHatchWrite, if_pos hin, Dev.dram_hatDone, hlost, hqueue]

/-- Refutes O32: in `State.strayCarry carryWaits` a half written through the window of channel 1 is never queued: the
clause does not ask that the IDs at the arbiter are those of requesters. -/
theorem not_hatchWindows : ¬ Obligations.HatchWindows := by
  unfold Obligations.HatchWindows
  rintro ⟨⟨hwindow, -⟩, -⟩
  obtain ⟨k, hk⟩ : ∃ k, k = carryWaits := ⟨_, rfl⟩
  obtain ⟨hturn, hmirror, hstate, -, -⟩ := State.turn_strayCarry k
  obtain ⟨-, t, hx, -, hqueue⟩ := hwindow 0x58000000 0 0 1 {} (State.strayCarry k) (by decide) (by decide) hmirror
    hstate hturn rfl
  rw [dev_of_dramHatchWrite hx] at hqueue
  have hcount := congrArg List.length (hqueue.symm.trans (congrArg (List.map _) (queue_strayCarry hk)))
  exact absurd hcount (by decide +kernel)

end Sys2Proof.Machine
end
